-- ==== Sys2Proof/Word.lean ====
section
/-! DEFINITION. The words the commands carry. -/

namespace Sys2Proof

/-- A byte. -/
abbrev Byte := BitVec 8
/-- One register word (R532). -/
abbrev Word := BitVec 32
/-- A beat count or a general register of a control engine. -/
abbrev Word64 := BitVec 64
/-- A 32-byte engine or IBU command (R72, R184). -/
abbrev Cmd32 := BitVec 256
/-- A 64-byte descriptor, ring entry or message (R79, Table 10.3). -/
abbrev Entry64 := BitVec 512

end Sys2Proof
end

