-- ==== Sys2Proof/Syntax.lean ====
section
/-! DEFINITION. The commands of the block and the small types of their operands. -/

namespace Sys2Proof

/-- A tile CT0 to CT7. -/
abbrev TileId := Fin 8
/-- A logical core of the module: 64 t + c. -/
abbrev CoreId := Fin 512
/-- A stream S0 to S3 of a core. -/
abbrev StreamId := Fin 4
/-- A stack HS0 to HS15. -/
abbrev StackId := Fin 16
/-- A partition PT0 to PT15. -/
abbrev PartId := Fin 16
/-- An event slot SLOT0 to SLOT95. -/
abbrev SlotId := Fin 96
/-- An Edpen port of the module: 8 t + p. -/
abbrev PortId := Fin 64
/-- A rail RAIL0 to RAIL51. -/
abbrev RailId := Fin 52
/-- A master ID (Table 17.3). -/
abbrev MasterId := Fin 64
/-- A command ring CR0 to CR63. -/
abbrev RingId := Fin 64
/-- A two-wire port TW0 to TW5. -/
abbrev TwId := Fin 6

/-- A general register g0 to g31 of a stream. -/
abbrev GReg := Fin 32
/-- A matrix engine ME0 to ME3, a vector engine VE0 or VE1. -/
abbrev MeId := Fin 4
abbrev VeId := Fin 2

/-- The operations of the ALU class (Table 3.3: add, subtract, multiply, logic, shift, compare, move). -/
inductive AluOp where
  | add | sub | mul | and | or | xor | shl | shr | sar | eq | ne | lt | ltu | mov
deriving DecidableEq, Repr

/-- What a port saw while a packet arrived: codewords corrected and not, corrected symbols of a lane, per-hop resends it made itself;
and the packet's route as the switches recorded it, in the form of Table 8.4 (R246). (DESIGN CHOICE, assumption 8; DESIGN CHOICE, assumption 136) -/
structure Rx where
  port : Fin 8
  corrected : BitVec 16
  uncorrected : BitVec 8
  lane : Fin 4
  symbols : BitVec 16
  resends : BitVec 12
  route : BitVec 48
deriving DecidableEq, Repr

/-- The header fields of an arriving packet that its row does not fix (Table 8.5); `cls`: the class of a GET_REQ or COLL, other rows name theirs.
(DESIGN CHOICE, assumption 8) -/
structure Head where
  src : BitVec 18
  job : BitVec 16
  seq : BitVec 16
  cls : Fin 8
deriving DecidableEq, Repr

/-- A pair's outcome message (R291): the step whose boundary it is for, and whether it committed. -/
structure StepOutcome where
  step : Word
  committed : Bool
deriving DecidableEq, Repr

/-- A failing bit that a memory test finds (R518): the memory, 0 to 6 (7: no memory, the datapath of an in-bank unit); the physical core of a core
store in a tile's test, or the unit of a slate, accumulator or datapath in a stack's; the address, the bit. -/
structure Found where
  memory : Fin 8
  sub : Fin 1024
  address : BitVec 32
  bit : BitVec 16
deriving DecidableEq, Repr

/-- A block that runs a start-up test with the tiles' (Table 16.2). -/
inductive StartBlock where
  | core (t : Fin 8) (p : Fin 68)
  | tile (t : Fin 8)
  | memory (t : Fin 8)
  | unit (k : Fin 16) (u : Fin 1024)
  | port (i : Fin 64)
  | link (t : Fin 8) (d : Fin 3)
  | converter (c : Fin 33)
  | meter (n : Fin 52)
deriving DecidableEq, Repr

/-- What a conversion gives: its value, signed, in 0.125 °C, and whether it took longer than 20 µs (R425, R429). (DESIGN CHOICE, assumption 8) -/
structure Reading where
  temp : BitVec 16
  late : Bool
deriving DecidableEq, Repr

/-- The commands and events of the block: one constructor per row of spec/opcode_table.json. A command whose condition of occurrence
does not hold in a state is no event there (DESIGN CHOICE, assumption 3). (DESIGN CHOICE, assumption 8) -/
inductive Instr where
  /-- `COLD_START` (R335): Standby power good, or the release of COLD_RST_N, starts the cold-start sequence from Safety Net start to RUNNING. -/
  | coldStart (straps : BitVec 5) (passed : BitVec 8) (failed : BitVec 8) (sites : List (Fin 100)) (link : BitVec 7)
  /-- `COLD_RESET` (R564): COLD_RST_N held low for at least 10 µs drops every enable, RAIL_EN51 included, and restores every cold-reset field. -/
  | coldReset
  /-- `VSTBY_FAIL` (R563): VSTBY falling below 2.9 V causes emergency lowering, completes any keep-store word write and then drops RAIL_EN51. -/
  | vstbyFail
  /-- `WARM_START` (R339): A start of the management cores while the power state is ON reruns ROM, loader and main firmware without touching rails, tiles or partitions. -/
  | warmStart
  /-- `WARM_RESET` (R339): A warm reset restarts only the management die, while the tiles keep running. -/
  | warmReset
  /-- `MEMORY_DOMAIN_FAULT` (R17): A fault in a tile's memory domain takes the tile and both its stacks out of service as LOST, and loses the rings if the tile is CT0. -/
  | memoryDomainFault (t : TileId)
  /-- `ACQUIRE_MARK_TIMEOUT` (R48): With source FABRIC and no mark within 2,097,152 ns of reference lock, the count starts at 0 and the block enters LOCAL. -/
  | acquireMarkTimeout
  /-- `MARK_ARRIVAL` (R51): A BEAT_MARK edge is stamped and compared with the count, and a correction within 8 ns is slewed out. -/
  | markArrival (frac : Fin 4) (ref : Bool)
  /-- `BEAT_REF_LOST` (R49): 100 ns without a BEAT_REF edge counts as loss of the reference, and the block moves to HOLDOVER or FREE_RUN. -/
  | beatRefLost
  /-- `BEAT_MARK_LOST` (R49): No mark within 1,000 ns after a multiple of 2^20 counts as loss of BEAT_MARK. -/
  | beatMarkLost
  /-- `FABRIC_SOURCE_LOST` (R49): Four mark periods without a valid alignment exchange count as loss of the fabric source. -/
  | fabricSourceLost
  /-- `REF_RELOCK` (R48): BEAT_REF present for 10 consecutive marks in HOLDOVER relocks the block, slewed, and returns it to ALIGNED. -/
  | refRelock
  /-- `BEAT_UNALIGNED` (R52): A FREE_RUN error bound beyond 20 ns parks every partition that spans more than this module at its next step boundary. -/
  | beatUnaligned
  /-- `SET_CMD` (R46): A write of BEAT.SET_CMD go accepts or refuses an epoch value for a root or standalone module. -/
  | setCmd (m : MasterId)
  /-- `EPOCH_SET` (R46): An accepted SET_CMD value is loaded at the next mark, or when the count reaches a multiple of 2^20, and armed slots move by the same amount. -/
  | epochSet
  /-- `BEAT_ALIGN` (R46): An arriving beat-alignment message measures path delay and offset, makes the epoch set in LOCAL, or steers the count by slewing. -/
  | beatAlign (src : BitVec 18) (t1 : BitVec 66) (t2 : BitVec 66) (t3 : BitVec 66) (epochValid : Bool) (bound : BitVec 8) (root : BitVec 18)
  /-- `SLOT_ARM` (R54): A write of CTL.arm = 1 arms an event slot at its owning block, or refuses the arm with OWNER, BUSY, FORMAT or LATE. -/
  | slotArm (m : MasterId) (n : SlotId) (ctl : Word)
  /-- `SLOT_DISARM` (R56): A write of CTL.arm = 0 cancels the firing if it reaches the block before the target, and otherwise lets the firing stand. -/
  | slotDisarm (m : MasterId) (n : SlotId) (ctl : Word)
  /-- `SLOT_FIELD_WRITE` (R55): A write to a field of an armed slot is ignored and refused with reason BUSY. -/
  | slotFieldWrite (m : MasterId) (n : SlotId) (f : Fin 5) (v : Word)
  /-- `STEP_BOUNDARY` (R65): A STEP_BOUNDARY firing closes the running step as committed, stretched or overrun, and then starts the next step. -/
  | stepBoundary (n : SlotId)
  /-- `PART_STOP` (R281): A PART_STOP slot firing abandons or parks the running step of the partition. -/
  | partStop (n : SlotId)
  /-- `PART_START` (R280): A PART_START slot firing moves a STOPPED or PARKED partition to RUNNING, or posts PART_START_REFUSED while a cause is set. -/
  | partStart (n : SlotId)
  /-- `FW_ACTIVATE` (R363): An FW_ACTIVATE slot firing activates the prepared firmware if the module is READY and the parameters match, and otherwise defers. -/
  | fwActivate (n : SlotId)
  /-- `PS_CHANGE` (R400): A PS_CHANGE slot firing sets the tile's operating-point ceiling. -/
  | psChange (n : SlotId)
  /-- `CAP_CHANGE` (R407): A CAP_CHANGE slot firing writes PARAM0 into CAP_HOST at its beat. -/
  | capChange (n : SlotId)
  /-- `POWER_SHIFT` (R407): A POWER_SHIFT slot firing applies a stored budget set to the tiles at its beat. -/
  | powerShift (n : SlotId)
  /-- `COLL_LAUNCH` (R257): A COLL_LAUNCH slot firing starts a collective from its context in the collective core. -/
  | collLaunch (n : SlotId)
  /-- `SENSOR_DEMAND` (R427): A SENSOR_DEMAND slot firing demands conversions of the named converter groups for the thermal loop. -/
  | sensorDemand (n : SlotId)
  /-- `MC_EVENT` (R369): An MC_EVENT slot firing wakes the named firmware component with a tag. -/
  | mcEvent (n : SlotId) (day : BitVec 32) (delay : List (BitVec 16)) (rpm : List (BitVec 16))
  /-- `HOST_EVENT` (R60): A HOST_EVENT slot firing posts BEAT_ALARM to the event ring with the PARAM0 tag. -/
  | hostEvent (n : SlotId)
  /-- `ALU` (R72): An integer add, subtract, multiply, logic, shift, compare or move instruction. -/
  | alu (c : CoreId) (n : StreamId) (op : AluOp) (d : GReg) (a : GReg) (b : GReg) (imm : Option (BitVec 16))
  /-- `LD` (R72): A control-engine load of 1 to 8 bytes from the core store. -/
  | ld (c : CoreId) (n : StreamId) (d : GReg) (a : GReg) (off : BitVec 16) (size : Fin 4) (upset : Fin 3)
  /-- `ST` (R72): A control-engine store of 1 to 8 bytes to the core store. -/
  | st (c : CoreId) (n : StreamId) (d : GReg) (a : GReg) (off : BitVec 16) (size : Fin 4)
  /-- `BR` (R72): An unconditional branch. -/
  | br (c : CoreId) (n : StreamId) (off : BitVec 16)
  /-- `BRC` (R72): A conditional branch. -/
  | brc (c : CoreId) (n : StreamId) (a : GReg) (off : BitVec 16)
  /-- `CALL` (R72): A call instruction. -/
  | call (c : CoreId) (n : StreamId) (d : GReg) (off : BitVec 16)
  /-- `RET` (R72): A return instruction. -/
  | ret (c : CoreId) (n : StreamId) (a : GReg)
  /-- `ISSUE` (R72): Copies a 32-byte command into an engine queue of the stream, stalling while the queue is full. -/
  | issue (c : CoreId) (n : StreamId) (a : GReg) (engine : Fin 8)
  /-- `DPOST` (R72): Copies a 64-byte descriptor to the access engine, stalling at 64 outstanding descriptors. -/
  | dpost (c : CoreId) (n : StreamId) (a : GReg)
  /-- `SIGNAL` (R72): Adds n to a buffer flag, raising FLAG_FAULT above 255. -/
  | signal (c : CoreId) (n : StreamId) (flag : Fin 256) (k : Fin 256)
  /-- `WAITF` (R72): Waits until a flag reaches n, then subtracts n if consume is set. -/
  | waitf (c : CoreId) (n : StreamId) (flag : Fin 256) (k : Fin 256) (consume : Bool)
  /-- `WAITF_SATISFIED` (R77): A waiting WAITF finds its flag sufficient, takes its count and lets the stream issue again. -/
  | waitfSatisfied (c : CoreId) (n : StreamId)
  /-- `FENCE` (R99): Stops the stream's issue until earlier work meets the scope's condition. -/
  | fence (c : CoreId) (n : StreamId) (scope : Fin 4)
  /-- `FENCE_COMPLETE` (R99): A fence's condition is met and the stream resumes issuing. -/
  | fenceComplete (c : CoreId) (n : StreamId)
  /-- `BEAT` (R72): Loads the tile's copy of BEAT.NOW into a register. -/
  | beatRead (c : CoreId) (n : StreamId) (d : GReg)
  /-- `WAITBEAT` (R72): Waits until the tile's count reaches the operand. -/
  | waitbeat (c : CoreId) (n : StreamId) (a : GReg)
  /-- `WAITBEAT_EXPIRE` (R72): The tile's count reaches a waiting WAITBEAT operand and the stream resumes. -/
  | waitbeatExpire (c : CoreId) (n : StreamId)
  /-- `STEPNUM` (R283): Loads the work number of the running step into a register. -/
  | stepnum (c : CoreId) (n : StreamId) (d : GReg)
  /-- `JENQ` (R216): Enqueues a piece of a packet to a Juggler queue, stalling or returning FULL when no cell is free. -/
  | jenq (c : CoreId) (n : StreamId) (ga : GReg) (gq : GReg) (gl : GReg) (flags : BitVec 11)
  /-- `JENQ_RESUME` (R217): A stalled JENQ gets its cells and completes. -/
  | jenqResume (c : CoreId) (n : StreamId)
  /-- `JDEQ` (R220): Claims or continues a packet and delivers its bytes into the core store, waiting or returning EMPTY when nothing is available. -/
  | jdeq (c : CoreId) (n : StreamId) (ga : GReg) (gq : GReg) (gr : GReg) (flags : BitVec 11) (upset : Fin 4)
  /-- `JDEQ_RESUME` (R222): A waiting JDEQ is served as bytes become available, in the order of waiting. -/
  | jdeqResume (c : CoreId) (n : StreamId) (upset : Fin 4)
  /-- `STEP_END` (R74): Ends the stream's work for the step once earlier work and a module-scope fence have completed. -/
  | stepEnd (c : CoreId) (n : StreamId)
  /-- `RESERVED_OPCODE` (R72): A reserved major opcode ends the step in error with DESC_FAULT. -/
  | reservedOpcode (c : CoreId) (n : StreamId) (major : Fin 64)
  /-- `DESC_START` (R76): A posted descriptor starts when its wait flag suffices and its order rules allow, taking its count atomically. -/
  | descStart (c : CoreId) (n : StreamId)
  /-- `AFFINE` (R82): An AFFINE descriptor moves runs over up to five strided dimensions. -/
  | affine (c : CoreId) (n : StreamId) (i : Fin 64)
  /-- `GATHER` (R83): A GATHER descriptor reads indexed rows into the core store. -/
  | gather (c : CoreId) (n : StreamId) (i : Fin 64)
  /-- `SCATTER` (R83): A SCATTER descriptor writes rows from the core store to indexed addresses. -/
  | scatter (c : CoreId) (n : StreamId) (i : Fin 64)
  /-- `CSR_WALK` (R84): A CSR_WALK descriptor emits one record per outgoing edge of each frontier vertex. -/
  | csrWalk (c : CoreId) (n : StreamId) (i : Fin 64)
  /-- `CSC_WALK` (R84): A CSC_WALK descriptor emits one record per incoming edge of each frontier vertex. -/
  | cscWalk (c : CoreId) (n : StreamId) (i : Fin 64)
  /-- `HASH_PROBE` (R86): A HASH_PROBE descriptor looks up keys in an open-addressed bucket table. -/
  | hashProbe (c : CoreId) (n : StreamId) (i : Fin 64)
  /-- `IBU_LIST` (R87): An IBU_LIST descriptor sends a command list to a stack's in-bank dispatcher. -/
  | ibuList (c : CoreId) (n : StreamId) (i : Fin 64)
  /-- `ATOMIC` (R88): An ATOMIC descriptor performs a list of atomic operations on words at a target. -/
  | atomic (c : CoreId) (n : StreamId) (i : Fin 64)
  /-- `DESC_COMPLETE` (R81): A descriptor completes when its last byte is written or accepted, and adds to its signal flag. -/
  | descComplete (c : CoreId) (n : StreamId) (i : Fin 64)
  /-- `MMA` (R93): Accumulates a 16 × 16 product in the chosen semiring into an accumulator tile. -/
  | mma (c : CoreId) (e : MeId) (residue : Fin 3)
  /-- `MMA_INIT` (R124): Sets the tile to the ⊕ identity and then performs the MMA. -/
  | mmaInit (c : CoreId) (e : MeId) (residue : Fin 3)
  /-- `LOAD_ACC` (R124): Loads accumulator elements from the core store, converting them to the element form. -/
  | loadAcc (c : CoreId) (e : MeId)
  /-- `STORE_ACC` (R124): Writes accumulator elements to the core store, converted to out_fmt. -/
  | storeAcc (c : CoreId) (e : MeId)
  /-- `ZERO_ACC` (R124): Sets every element of the tile or tile pair to the ⊕ identity. -/
  | zeroAcc (c : CoreId) (e : MeId)
  /-- `MMA_STORE` (R95): Performs MMA_INIT and then STORE_ACC, in two occupancy parts. -/
  | mmaStore (c : CoreId) (e : MeId) (residue : Fin 3)
  /-- `MMA_STORE_STORE_PART` (R95): The store part of an MMA_STORE starts once its MMA result is ready, and the command then completes. -/
  | mmaStoreStorePart (c : CoreId) (e : MeId)
  /-- `ENGINE_CMD_COMPLETE` (R95): An engine command's results are in place, and it adds to its signal flags. -/
  | engineCmdComplete (c : CoreId) (e : Fin 6) (residue : Fin 3)
  /-- `CORE_FAULT` (R100): A failure of a control or access engine stops the core's streams until substitution. -/
  | coreFault (c : CoreId) (ae : Bool)
  /-- `SPARE_COPY_COMPLETE` (R101): The copy of a degraded core's store to a spare completes, enabling substitution at the next boundary. -/
  | spareCopyComplete (t : TileId)
  /-- `VE_ADD` (R131): Elementwise add. -/
  | veAdd (c : CoreId) (e : VeId) (residue : Fin 3)
  /-- `VE_SUB` (R131): Elementwise subtract. -/
  | veSub (c : CoreId) (e : VeId) (residue : Fin 3)
  /-- `VE_MUL` (R131): Elementwise multiply. -/
  | veMul (c : CoreId) (e : VeId) (residue : Fin 3)
  /-- `VE_FMA` (R131): Elementwise fused multiply-add into dst. -/
  | veFma (c : CoreId) (e : VeId) (residue : Fin 3)
  /-- `VE_MIN` (R133): Elementwise minimum. -/
  | veMin (c : CoreId) (e : VeId) (residue : Fin 3)
  /-- `VE_MAX` (R133): Elementwise maximum. -/
  | veMax (c : CoreId) (e : VeId) (residue : Fin 3)
  /-- `VE_ABS` (R96): Elementwise absolute value. -/
  | veAbs (c : CoreId) (e : VeId) (residue : Fin 3)
  /-- `VE_NEG` (R96): Elementwise negation. -/
  | veNeg (c : CoreId) (e : VeId) (residue : Fin 3)
  /-- `VE_CMP` (R133): Elementwise compare producing a mask. -/
  | veCmp (c : CoreId) (e : VeId) (residue : Fin 3)
  /-- `VE_AND` (R96): Elementwise bitwise and. -/
  | veAnd (c : CoreId) (e : VeId) (residue : Fin 3)
  /-- `VE_OR` (R96): Elementwise bitwise or. -/
  | veOr (c : CoreId) (e : VeId) (residue : Fin 3)
  /-- `VE_XOR` (R96): Elementwise bitwise exclusive or. -/
  | veXor (c : CoreId) (e : VeId) (residue : Fin 3)
  /-- `VE_SHL` (R131): Elementwise shift left. -/
  | veShl (c : CoreId) (e : VeId) (residue : Fin 3)
  /-- `VE_SHR` (R131): Elementwise shift right, arithmetic on signed formats. -/
  | veShr (c : CoreId) (e : VeId) (residue : Fin 3)
  /-- `VE_CVT` (R131): Elementwise format conversion, including block-scaled output. -/
  | veCvt (c : CoreId) (e : VeId) (residue : Fin 3)
  /-- `VE_SEL` (R96): Elementwise select by mask. -/
  | veSel (c : CoreId) (e : VeId) (residue : Fin 3)
  /-- `VE_EXP` (R132): Exponential in FP32. -/
  | veExp (c : CoreId) (e : VeId) (residue : Fin 3)
  /-- `VE_LOG` (R132): Logarithm in FP32. -/
  | veLog (c : CoreId) (e : VeId) (residue : Fin 3)
  /-- `VE_RECIP` (R132): Reciprocal in FP32. -/
  | veRecip (c : CoreId) (e : VeId) (residue : Fin 3)
  /-- `VE_RSQRT` (R132): Reciprocal square root in FP32. -/
  | veRsqrt (c : CoreId) (e : VeId) (residue : Fin 3)
  /-- `VE_TANH` (R132): Hyperbolic tangent in FP32. -/
  | veTanh (c : CoreId) (e : VeId) (residue : Fin 3)
  /-- `VE_SIGMOID` (R132): Sigmoid in FP32. -/
  | veSigmoid (c : CoreId) (e : VeId) (residue : Fin 3)
  /-- `VE_ROWSUM` (R140): Sums rows of width aux into one row, exactly if requested. -/
  | veRowsum (c : CoreId) (e : VeId) (residue : Fin 3)
  /-- `VE_ROWMIN` (R96): Minimum over rows into one row. -/
  | veRowmin (c : CoreId) (e : VeId) (residue : Fin 3)
  /-- `VE_ROWMAX` (R96): Maximum over rows into one row. -/
  | veRowmax (c : CoreId) (e : VeId) (residue : Fin 3)
  /-- `VE_SUM` (R140): Sums all elements to one value, exactly if requested. -/
  | veSum (c : CoreId) (e : VeId) (residue : Fin 3)
  /-- `VE_RED_MIN` (R96): Reduces all elements to their minimum. -/
  | veRedMin (c : CoreId) (e : VeId) (residue : Fin 3)
  /-- `VE_RED_MAX` (R96): Reduces all elements to their maximum. -/
  | veRedMax (c : CoreId) (e : VeId) (residue : Fin 3)
  /-- `VE_ARGMIN` (R133): Finds the position of the minimum under the total order. -/
  | veArgmin (c : CoreId) (e : VeId) (residue : Fin 3)
  /-- `VE_ARGMAX` (R133): Finds the position of the maximum under the total order. -/
  | veArgmax (c : CoreId) (e : VeId) (residue : Fin 3)
  /-- `VE_SCAN_ADD` (R140): Prefix sum, exactly if requested. -/
  | veScanAdd (c : CoreId) (e : VeId) (residue : Fin 3)
  /-- `VE_SCAN_MIN` (R96): Prefix minimum. -/
  | veScanMin (c : CoreId) (e : VeId) (residue : Fin 3)
  /-- `VE_SCAN_MAX` (R96): Prefix maximum. -/
  | veScanMax (c : CoreId) (e : VeId) (residue : Fin 3)
  /-- `VE_SORT` (R97): Stable ascending sort of 2^p keys. -/
  | veSort (c : CoreId) (e : VeId) (residue : Fin 3)
  /-- `VE_SORT_KV` (R97): Stable ascending sort of keys with 32-bit payloads. -/
  | veSortKv (c : CoreId) (e : VeId) (residue : Fin 3)
  /-- `VE_TOPK` (R97): Selects the top k keys. -/
  | veTopk (c : CoreId) (e : VeId) (residue : Fin 3)
  /-- `VE_TOPK_KV` (R97): Selects the top k keys with their payloads. -/
  | veTopkKv (c : CoreId) (e : VeId) (residue : Fin 3)
  /-- `VE_COMPACT` (R96): Compacts the elements whose compare holds and writes their count. -/
  | veCompact (c : CoreId) (e : VeId) (residue : Fin 3)
  /-- `VE_COMPACT_IDX` (R96): Writes the positions of the elements whose compare holds, with their count. -/
  | veCompactIdx (c : CoreId) (e : VeId) (residue : Fin 3)
  /-- `VE_PERMUTE` (R96): Gathers elements by an index list. -/
  | vePermute (c : CoreId) (e : VeId) (residue : Fin 3)
  /-- `VE_FILL` (R96): Fills elements with an immediate value. -/
  | veFill (c : CoreId) (e : VeId) (residue : Fin 3)
  /-- `CORE_RETIRE` (R103): SPARE.RETIRE_CMD retires a logical core in advance through spare substitution, with no step error. -/
  | coreRetire (m : MasterId) (t : TileId) (logical : Fin 64)
  /-- `CORE_TEST` (R103): SPARE.TEST_CMD starts an offline self-test of a spare or retired physical core, or returns BUSY. -/
  | coreTest (m : MasterId) (t : TileId) (phys : Fin 128)
  /-- `STACK_ACCESS` (R147): A request reaches a stack controller, is decoded with the symbol code, and is served or fails with HBM_UE. -/
  | stackAccess (k : StackId) (part : Option PartId) (write : Bool) (off : BitVec 37) (n : Fin 33) (data : BitVec 256) (crc : Fin 5) (flip : BitVec 288)
  /-- `PATROL_READ` (R159): Patrol scrub reads a granule in an idle bank cycle and writes back any correction. -/
  | patrolRead (k : StackId) (flip : BitVec 288)
  /-- `PATROL_PASS_END` (R159): A patrol pass completes, ending the count window and flagging patrol_late if it overran. -/
  | patrolPassEnd (k : StackId)
  /-- `COUNT_WINDOW_END` (R159): A count window ends patrol_hours after it began, and the next begins. -/
  | countWindowEnd (k : StackId)
  /-- `BAND_UP` (R161): A raised stack band takes effect at the next refresh interval of the old band. -/
  | bandUp (k : StackId)
  /-- `BAND_DWELL_EXPIRE` (R161): After a 100 ms dwell with readings at least 3 °C below the band, the stack moves down one band. -/
  | bandDwellExpire (k : StackId)
  /-- `BASE_DIE_FAULT` (R163): A base-die internal fault fences the stack when auto_fence is set. -/
  | baseDieFault (k : StackId)
  /-- `FENCE_DRAIN_END` (R164): At F + 2,000 the accepted requests have finished, and the affected partitions are marked to end their step with STACK_FENCED. -/
  | fenceDrainEnd (k : StackId)
  /-- `STACK_FENCED` (R164): By F + 10,000 the state reads FENCED and STACK_FENCED is posted with cause and partitions. -/
  | stackFenced (k : StackId)
  /-- `HS_FENCE` (R166): The HS.CMD FENCE command fences an in-service stack. -/
  | hsFence (m : MasterId) (k : StackId)
  /-- `HS_UNFENCE` (R167): The HS.CMD UNFENCE command returns a fenced stack to service after a complete PASS or an untouched host fence. -/
  | hsUnfence (m : MasterId) (k : StackId)
  /-- `HS_REPAIR` (R171): The HS.CMD REPAIR command burns every remap entry of a fenced stack as hard repairs. -/
  | hsRepair (m : MasterId) (k : StackId)
  /-- `REPAIR_DONE` (R171): A REPAIR ends done or failed, and the stack returns to FENCED. -/
  | repairDone (k : StackId) (unburnt : BitVec 256)
  /-- `HS_TEST` (R166): The HS.CMD TEST command starts a destructive self-test of a fenced stack. -/
  | hsTest (m : MasterId) (k : StackId)
  /-- `HS_RETIRE` (R166): The HS.CMD RETIRE command turns a fenced stack's rails off and records its retirement. -/
  | hsRetire (m : MasterId) (k : StackId)
  /-- `STACK_TRAINING_COMPLETE` (R166): Stack training and its start-up test end, putting the stack IN_SERVICE or FENCED with cause 5. -/
  | stackTrainingComplete (k : StackId) (trained : Bool) (pass : Bool) (lanes : BitVec 64)
  /-- `HS_CTRL_WRITE` (R151): A write of HS.CTRL updates region modes bit by bit, refusing changes to kept-back bits. -/
  | hsCtrlWrite (m : MasterId) (k : StackId) (v : Word)
  /-- `ROW_REMAP_DONE` (R169): The row copy to its spare completes, the row address points at the spare, and ROW_REMAPPED is raised. -/
  | rowRemapDone (k : StackId)
  /-- `IBU_LIST_ARRIVAL` (R186): An IBU list reaches the dispatcher, which reads its entries into unit queues, or it waits beyond 64 lists in flight. -/
  | ibuListArrival (k : StackId) (l : Fin 64)
  /-- `PAYLOAD` (R185): A PAYLOAD header and its data entries are written to the slates of a range of units. -/
  | payload (k : StackId) (l : Fin 64) (idx : BitVec 16)
  /-- `ROWDOT` (R190): A unit computes n dot products of bank rows against a slate vector. -/
  | rowdot (k : StackId) (l : Fin 64) (u : Fin 1024)
  /-- `GATHERSUM` (R191): A unit adds indexed rows elementwise into one sum row. -/
  | gathersum (k : StackId) (l : Fin 64) (u : Fin 1024)
  /-- `AXPY` (R192): A unit computes y ← a × x + y elementwise. -/
  | axpy (k : StackId) (l : Fin 64) (u : Fin 1024)
  /-- `MINRELAX` (R193): A unit relaxes edge records against a distance window in (min,+), with an optional change list. -/
  | minrelax (k : StackId) (l : Fin 64) (u : Fin 1024)
  /-- `HIST` (R194): A unit counts elements into histogram bins. -/
  | hist (k : StackId) (l : Fin 64) (u : Fin 1024)
  /-- `SELECT` (R195): A unit writes the match count and the positions of matching elements. -/
  | selectIdx (k : StackId) (l : Fin 64) (u : Fin 1024)
  /-- `IBU_FILL` (R196): A unit fills whole granules with an 8-byte pattern. -/
  | ibuFill (k : StackId) (l : Fin 64) (u : Fin 1024)
  /-- `IBU_COPY` (R196): A unit copies granules in ascending order. -/
  | ibuCopy (k : StackId) (l : Fin 64) (u : Fin 1024)
  /-- `SCRUB` (R196): A unit reads a range, writes back corrections and counts uncorrectable granules. -/
  | scrub (k : StackId) (l : Fin 64) (u : Fin 1024)
  /-- `IBU_TOKEN` (R200): When every entry of a list has completed or been skipped, the dispatcher writes the completion token and the descriptor completes. -/
  | ibuToken (k : StackId) (l : Fin 64)
  /-- `IBU_RESIDUE_FAIL` (R205): A unit's failing residue repeat puts it FAILED, and the fallback executor continues its command. -/
  | ibuResidueFail (k : StackId) (u : Fin 1024) (repeatFails : Bool)
  /-- `IBU_SLATE_UE` (R205): An uncorrectable slate or accumulator word puts the unit FAILED and fails an entry with IBU_FAULT. -/
  | ibuSlateUe (k : StackId) (u : Fin 1024) (corrected : Bool)
  /-- `IBU_DISABLE` (R207): The IBU.CMD DISABLE command hands a unit to the fallback executor, or is refused. -/
  | ibuDisable (m : MasterId) (k : StackId) (u : Fin 1024)
  /-- `IBU_ENABLE` (R207): The IBU.CMD ENABLE command returns a disabled unit to service, or is refused. -/
  | ibuEnable (m : MasterId) (k : StackId) (u : Fin 1024)
  /-- `IBU_TEST` (R207): The IBU.CMD TEST command starts an offline test of a failed or disabled unit, or is refused. -/
  | ibuTest (m : MasterId) (k : StackId) (u : Fin 1024)
  /-- `QCMD_CONFIG` (R214): The QCMD CONFIG command writes a queue descriptor, or refuses it with BUSY, FIELD or OWNER. -/
  | qcmdConfig (m : MasterId) (t : TileId)
  /-- `QCMD_READ` (R213): The QCMD READ command copies the selected queue descriptor into QDESC. -/
  | qcmdRead (m : MasterId) (t : TileId)
  /-- `QCMD_FLUSH` (R215): The QCMD FLUSH command frees every cell of a queue and ends its claims, or is refused with BUSY. -/
  | qcmdFlush (m : MasterId) (t : TileId)
  /-- `QUEUE_STRANDED` (R225): The stranded-tail timer of a non-empty queue expires, notifying the consumer and ending waiting JDEQs with STRANDED. -/
  | queueStranded (t : TileId) (q : Fin 4096)
  /-- `SPILL_RUN_DONE` (R229): A spill run of up to 16 cells lands in HBM, and the next run starts until the high watermark is reached. -/
  | spillRunDone (t : TileId)
  /-- `REFILL_DONE` (R230): A refilled segment is back in cells, or an uncorrectable codeword sets the queue to ERROR. -/
  | refillDone (t : TileId)
  /-- `MIDWAY_PACKET` (R234): A Midway packet arrives at a router and is forwarded or delivered in its class under credit. -/
  | midwayPacket (src : TileId) (dst : TileId) (cls : Fin 3) (d : Fin 3) (resent : Fin 17)
  /-- `MIDWAY_LINK_DOWN` (R235): A link that fails 16 resends in a row, or loses lock, goes out of service, and unacknowledged flits are rerouted. -/
  | midwayLinkDown (t : TileId) (d : Fin 3)
  /-- `MIDWAY_RETRAIN` (R235): A failed link is retrained at 1 s intervals, up to three times, raising MIDWAY_LINK_UP on success. -/
  | midwayRetrain (t : TileId) (d : Fin 3) (ok : Bool)
  /-- `PUT` (R250): An arriving PUT is checked and written, and acknowledged once visible in the module. -/
  | put (t : TileId) (rx : Rx) (h : Head) (tc : Fin 8) (addr : BitVec 46) (data : List Byte)
  /-- `GET_REQ` (R247): An arriving GET_REQ is checked and answered with a GET_RSP of the requested bytes. -/
  | getReq (t : TileId) (rx : Rx) (h : Head) (addr : BitVec 46) (length : Fin 4097) (slot : BitVec 16)
  /-- `GET_RSP` (R247): An arriving GET_RSP writes the read data and serves as the acknowledgement. -/
  | getRsp (t : TileId) (rx : Rx) (src : BitVec 18) (slot : BitVec 16) (data : List Byte)
  /-- `ATOMIC_REQ` (R250): An arriving ATOMIC_REQ is performed once, in sequence order, and answered with an ATOMIC_RSP. -/
  | atomicReq (t : TileId) (rx : Rx) (h : Head) (tc : Fin 8) (addr : BitVec 46) (op : Fin 8) (wide : Bool) (data : List Byte)
  /-- `ATOMIC_RSP` (R247): An arriving ATOMIC_RSP returns the old value and acknowledges the request. -/
  | atomicRsp (t : TileId) (rx : Rx) (src : BitVec 18) (seq : BitVec 16) (old : Word64)
  /-- `ENQ` (R255): An arriving ENQ segment is appended to the named queue's packet in sequence order and acknowledged once in cells. -/
  | enq (t : TileId) (rx : Rx) (h : Head) (tc : Fin 8) (queue : Fin 4096) (first : Bool) (last : Bool) (data : List Byte)
  /-- `ACK` (R250): An arriving ACK releases the acknowledged packet at its source. -/
  | ack (t : TileId) (rx : Rx) (src : BitVec 18) (cls : Fin 8) (seq : BitVec 16)
  /-- `NACK` (R251): An arriving NACK ends the sending partition's step in error with EDPEN_REFUSED. -/
  | nack (t : TileId) (rx : Rx) (src : BitVec 18) (cls : Fin 8) (seq : BitVec 16) (reason : Fin 16)
  /-- `COLL` (R257): An arriving COLL packet is matched to its launch and round and combined through the vector engines. -/
  | coll (t : TileId) (rx : Rx) (h : Head) (rank : BitVec 18) (round : BitVec 19) (inst : Fin 512) (tag : BitVec 16) (data : List Byte)
  /-- `PACE` (R265): An arriving PACE message is placed in the collector queue named by PACE_DEST. -/
  | pace (t : TileId) (rx : Rx) (src : BitVec 18) (queue : Fin 4096) (data : BitVec 256)
  /-- `CURTAIN_VOTE` (R362): An arriving CURTAIN_VOTE message records a member's readiness at the coordinator, or delivers the verdict. -/
  | curtainVote (t : TileId) (rx : Rx) (aux : BitVec 16) (data : BitVec 128)
  /-- `PARTNER_PARKED` (R266): An arriving PARTNER_PARKED ends matching collectives with PARKED and is forwarded along the tree. -/
  | partnerParked (t : TileId) (rx : Rx) (src : BitVec 18) (who : BitVec 18)
  /-- `FLEET_ACCESS` (R369): An arriving FLEET_ACCESS request performs a register access or staging transfer as master FLEET and answers. -/
  | fleetAccess (t : TileId) (rx : Rx) (src : BitVec 18) (aux : BitVec 16) (request : BitVec 128) (data : List Byte)
  /-- `E2E_TIMEOUT` (R250): No acknowledgement within E2E_TIMEOUT resends the packet on the next UP port, ending the step with LINK_TIMEOUT after three resends. -/
  | e2eTimeout (i : BitVec 16)
  /-- `LINK_TIMEOUT` (R237): A Midway request with no response by E2E_TIMEOUT ends the partition's step in error with LINK_TIMEOUT. -/
  | linkTimeout (i : BitVec 16)
  /-- `SEND_QUEUE_SERVE` (R255): The port takes the next packet of a send queue and cuts it into ENQ segments. -/
  | sendQueueServe (t : TileId) (q : Fin 4)
  /-- `LANE_FAIL` (R267): A lane that loses lock or exceeds its error thresholds fails, and the port retrains on three lanes. -/
  | laneFail (i : PortId) (lane : Fin 4)
  /-- `PORT_DOWN` (R268): A second lane failure or 10 µs of partner silence takes the port DOWN and moves its traffic. -/
  | portDown (i : PortId)
  /-- `PORT_TRAIN_START` (R269): An enabled DOWN port starts training 1 s after its last attempt. -/
  | portTrainStart (i : PortId)
  /-- `PORT_TRAIN_END` (R269): Training ends after up to 200 ms in UP4, UP3 or DOWN by the lanes up. -/
  | portTrainEnd (i : PortId) (lanes : BitVec 4) (margins : Word)
  /-- `PORT_FENCE` (R269): The EDPEN.CMD FENCE command fences a port and moves its traffic. -/
  | portFence (m : MasterId) (i : PortId)
  /-- `PORT_UNFENCE` (R269): The EDPEN.CMD UNFENCE command trains a fenced port after a complete PASS or no test, or is refused. -/
  | portUnfence (m : MasterId) (i : PortId)
  /-- `PORT_RETRAIN` (R269): The EDPEN.CMD RETRAIN command retrains a DOWN port, or is refused on an UP port. -/
  | portRetrain (m : MasterId) (i : PortId)
  /-- `PORT_TEST` (R269): The EDPEN.CMD TEST command starts loop-back, eye and FEC checks on a fenced port. -/
  | portTest (m : MasterId) (i : PortId)
  /-- `MODULE_ID_WRITE` (R245): A write of MIDWAY.MODULE_ID sets the module number unless a partition using the tile runs, and rechecks agreement. -/
  | moduleIdWrite (m : MasterId) (t : TileId) (v : Word)
  /-- `ROUTE_HI_WRITE` (R244): A write of ROUTE_HI commits the whole route entry atomically. -/
  | routeHiWrite (m : MasterId) (t : TileId) (v : Word)
  /-- `ROUTE_LOAD_CMD` (R244): The ROUTE_LOAD_CMD command starts loading a run of route entries from HBM. -/
  | routeLoadCmd (m : MasterId) (t : TileId) (v : Word)
  /-- `ROUTE_LOAD_DONE` (R244): The route table load completes and ROUTE_LOAD_DONE is raised. -/
  | routeLoadDone (t : TileId)
  /-- `COLL_ROUND` (R261): A timetabled collective round sends no earlier than launch + r × round_beats. -/
  | collRound (t : TileId)
  /-- `COLL_DEADLINE` (R261): A participant not complete by launch + deadline_beats writes TIMEOUT and ends its step with COLL_TIMEOUT. -/
  | collDeadline (i : BitVec 6)
  /-- `COLL_DONE` (R261): A participant writes its result record with B_c and signals done_flag. -/
  | collDone (i : BitVec 6)
  /-- `PART_CONFIG` (R279): The PART_CMD CONFIG command assigns halves to a partition, or is refused. -/
  | partConfig (m : MasterId) (p : PartId)
  /-- `PART_RELEASE` (R280): The PART_CMD RELEASE command resets a partition, flushes its queues, disarms its slots and frees its halves. -/
  | partRelease (m : MasterId) (p : PartId)
  /-- `PART_RESET` (R280): The PART_CMD RESET command performs a partition reset P and leaves it STOPPED. -/
  | partReset (m : MasterId) (p : PartId)
  /-- `PART_PARK` (R280): The PART_CMD PARK command sets cause COMMAND, so the partition parks at its next boundary. -/
  | partPark (m : MasterId) (p : PartId)
  /-- `PART_CLEAR` (R280): The PART_CMD CLEAR command clears causes 3, 5, 6, 7 and 8. -/
  | partClear (m : MasterId) (p : PartId)
  /-- `PAIR_KEEPALIVE` (R291): Each side of a pair sends a keepalive every 250 beats. -/
  | pairKeepalive (p : PartId) (arrived : Bool)
  /-- `PAIR_OUTCOME` (R291): An arriving outcome message is resolved against the own outcome, continuing, breaking or taking over the pair. -/
  | pairOutcome (p : PartId) (outcome : StepOutcome)
  /-- `PAIR_TIMEOUT` (R291): A partner silent for timeout_beats makes PAIR_LOST, and the survivor acts as primary. -/
  | pairTimeout (p : PartId)
  /-- `TILE_FENCE` (R299): The TILE.CMD FENCE command stops the tile's compute domain when no RUNNING partition holds a half, or is refused BUSY. -/
  | tileFence (m : MasterId) (t : TileId)
  /-- `TILE_UNFENCE` (R299): The TILE.CMD UNFENCE command restarts a fenced tile after RESET and a complete PASS, or is refused. -/
  | tileUnfence (m : MasterId) (t : TileId)
  /-- `TILE_RESET` (R299): The TILE.CMD RESET command turns the tile's compute rails off for 2 ms, flushes its queues and loads the active microcode. -/
  | tileReset (m : MasterId) (t : TileId)
  /-- `TILE_RESET_DONE` (R391): The tile's compute rails are raised again after a reset, the SRAM is initialised and the domain returns with cold-reset values. -/
  | tileResetDone (t : TileId)
  /-- `TILE_TEST` (R299): The TILE.CMD TEST command starts an offline test of a fenced tile. -/
  | tileTest (m : MasterId) (t : TileId)
  /-- `TILE_LOST` (R297): A compute-domain self-check failure or 1 ms of management-link silence fences the tile and ends its partitions' steps with TILE_LOST. -/
  | tileLost (t : TileId)
  /-- `DOORBELL` (R312): A write of CMD_TAIL makes HOSTIF read new command entries, or faults the ring on an out-of-range tail. -/
  | doorbell (m : MasterId) (n : RingId) (tail : BitVec 16)
  /-- `HOST_CMD_READ` (R315): HOSTIF reads one command entry in round-robin order and checks it, refusing it under R319. -/
  | hostCmdRead (flip1 : BitVec 288) (flip2 : BitVec 288)
  /-- `PROGRAM` (R317): A PROGRAM command is placed as one packet on the partition's host-command queue, with its applied step a. -/
  | programCmd (n : RingId)
  /-- `PROGRAM_PLACE` (R317): A PROGRAM held in its ring by a full host-command queue is placed once a cell is free. -/
  | programPlace (n : RingId)
  /-- `LOAD` (R318): A LOAD command copies bytes from the staging area to HBM the partition owns. -/
  | loadCmd (n : RingId)
  /-- `READBACK` (R318): A READBACK command copies bytes from HBM the partition owns to the staging area. -/
  | readbackCmd (n : RingId)
  /-- `MARK` (R316): A MARK command reports whether its applied step committed. -/
  | markCmd (n : RingId)
  /-- `COPY_DONE` (R318): A LOAD or READBACK copy ends and its completion is written. -/
  | copyDone (n : RingId)
  /-- `COMPLETION_WRITE` (R38): HOSTIF writes a completion entry after the command's step has ended, and signals MSI-X. -/
  | completionWrite (n : RingId)
  /-- `BAR0_ACCESS_BAD` (R308): A BAR0 access of wrong size or alignment completes as Unsupported Request and writes nothing. -/
  | bar0AccessBad (offset : BitVec 26) (size : Fin 4097)
  /-- `BAR2_READ` (R321): A BAR2 read returns ring-region bytes, or completes as Completer Abort on an uncorrectable granule. -/
  | bar2Read (offset : BitVec 30) (size : Fin 4097)
  /-- `BAR2_WRITE` (R309): A BAR2 write is stored in the ring region, atomically per whole granule. -/
  | bar2Write (offset : BitVec 30) (data : List Byte)
  /-- `MSIX_COALESCE` (R332): At the end of a coalescing interval, the vector is sent if unconsumed entries remain. -/
  | msixCoalesce (n : Fin 65)
  /-- `RING_ENABLE` (R310): A write of RCTRL.enable starts serving a ring, or sets fault 2 for an invalid base or size. -/
  | ringEnable (m : MasterId) (n : RingId) (v : Word)
  /-- `RING_RESET` (R327): RCTRL.reset on a disabled ring with no outstanding commands sets its indices to 0 and its phase to 1. -/
  | ringReset (m : MasterId) (n : RingId) (v : Word)
  /-- `DRIVER_ATTACH` (R324): DRIVER_ATTACH go records the driver version and moves the driver to ATTACHED, clearing cause HOST. -/
  | driverAttach (m : MasterId) (version : BitVec 16)
  /-- `DRIVER_DETACH` (R324): DRIVER_ATTACH detach while ATTACHED takes the loss actions. -/
  | driverDetach (m : MasterId)
  /-- `HEARTBEAT` (R324): A write of MOD.HEARTBEAT restarts the 1 s heartbeat timer while ATTACHED. -/
  | heartbeat (m : MasterId)
  /-- `HEARTBEAT_LOST` (R326): 1 s without a heartbeat disables the rings, parks partitions if park_on_loss is set, and starts the reclaim timer. -/
  | heartbeatLost
  /-- `ENDPOINT_RESET` (R324): An FLR, hot reset or PERST_N resets the endpoint and counts as driver loss while ATTACHED. -/
  | endpointReset
  /-- `RECLAIM` (R328): 600 s after loss, partitions still carrying cause HOST are released and PART_RECLAIMED is posted. -/
  | reclaim
  /-- `PUSH_MAIN` (R350): PUSH_CMD type MAIN verifies and starts a pushed main firmware in WAIT_MAIN. -/
  | pushMain (m : MasterId)
  /-- `PUSH_MICROCODE` (R350): PUSH_CMD type MICROCODE verifies and loads pushed microcode in WAIT_MICROCODE. -/
  | pushMicrocode (m : MasterId)
  /-- `PUSH_FLASH` (R350): PUSH_CMD type FLASH takes the boot slot's image of the stage's type. -/
  | pushFlash (m : MasterId)
  /-- `PUSH_TIMEOUT` (R350): 60 s in WAIT_MAIN or WAIT_MICROCODE uses the boot slot's image and raises BOOT_FALLBACK. -/
  | pushTimeout
  /-- `REC_CMD` (R338): In ROM_RECOVERY, REC_CMD verifies a loader image from the buffer and programs it into a slot. -/
  | recCmd (m : MasterId) (k : Fin 2)
  /-- `CFG_WRITE` (R345): CFG_CMD WRITE checks a blob and writes it into the area not in use with the next generation. -/
  | cfgWrite (m : MasterId) (src : Fin 2)
  /-- `CFG_READ` (R345): CFG_CMD READ copies the area in use to staging or the buffer. -/
  | cfgRead (m : MasterId) (dst : Fin 2)
  /-- `BEGIN` (R352): UPD_CMD BEGIN erases a non-boot slot for writing, with no slot in TRIAL. -/
  | updBegin (m : MasterId) (k : Fin 2)
  /-- `UPD_WRITE` (R352): UPD_CMD WRITE programs data into a WRITING slot. -/
  | updWrite (m : MasterId) (k : Fin 2) (type : Fin 4) (src : Fin 2)
  /-- `UPD_COPY` (R352): UPD_CMD COPY copies an image of the same type from the boot slot into a WRITING slot. -/
  | updCopy (m : MasterId) (k : Fin 2) (type : Fin 4)
  /-- `COMMIT` (R353): UPD_CMD COMMIT checks the slot's images under fleet_mode and makes it STAGED or INVALID. -/
  | updCommit (m : MasterId) (k : Fin 2)
  /-- `ABORT` (R352): UPD_CMD ABORT makes a WRITING slot INVALID. -/
  | updAbort (m : MasterId) (k : Fin 2)
  /-- `PREPARE` (R360): UPD_CMD PREPARE loads, verifies and migrates the staged slot beside the running images. -/
  | prepare (m : MasterId) (k : Fin 2)
  /-- `PREPARE_DONE` (R360): Preparation completes or fails, leaving the module prepared or not. -/
  | prepareDone
  /-- `UNPREPARE` (R360): UPD_CMD UNPREPARE discards the prepared state. -/
  | unprepare (m : MasterId)
  /-- `CONFIRM` (R359): UPD_CMD CONFIRM raises the floors and makes the trial slot CONFIRMED. -/
  | confirm (m : MasterId)
  /-- `AUTO_CONFIRM` (R359): TRIAL_MIN reaching 1,440 with auto_confirm set confirms the running images. -/
  | autoConfirm
  /-- `BOOT_NEXT` (R354): UPD_CMD BOOT_NEXT sets the boot preference to a STAGED slot. -/
  | bootNext (m : MasterId) (k : Fin 2)
  /-- `VOTE_CLOSE` (R362): At target minus CC_CLOSE the coordinator sends its verdict to every member that voted. -/
  | voteClose (n : SlotId)
  /-- `HANDOVER_MASTER` (R365): After the point of no return, MC-B takes over as master on the new image within 10 ms and ACTIVATED is posted. -/
  | handoverMaster
  /-- `HANDOVER_MIRRORED` (R365): MC-A loads the new image and the pair is mirrored again within 5 s. -/
  | handoverMirrored
  /-- `COMPONENT_FAULT` (R368): A component's access outside its regions makes SUPERVISOR restart it, or hold it after three faults in 60 s. -/
  | componentFault (c : Fin 10)
  /-- `QUOTE_CMD` (R374): QUOTE_CMD makes ATTEST sign and write a quote record with the nonce, or is refused. -/
  | quoteCmd (m : MasterId) (dst : Fin 2)
  /-- `ACL_READ` (R377): ACL.CMD READ loads the selected page's access table into TABLE0 to TABLE3. -/
  | aclRead (m : MasterId)
  /-- `ACL_WRITE` (R377): ACL.CMD WRITE replaces the selected page's access table, or is refused with RULE or LOCKED. -/
  | aclWrite (m : MasterId)
  /-- `ACL_DEFAULT` (R377): ACL.CMD DEFAULT restores the page's start-up table. -/
  | aclDefault (m : MasterId)
  /-- `ACL_LOCK` (R378): Writing 1 to ACL.CTRL.lock refuses later WRITE and DEFAULT until cold reset. -/
  | aclLock (m : MasterId)
  /-- `RWP_WRITE` (R551): A write that changes an RWP field stores its register word in the keep store, or is refused on a worn block. -/
  | rwpWrite (m : MasterId) (r : Fin 3) (v : Word)
  /-- `PWR_UP` (R391): PWR.CMD UP raises rail groups 1 to 7 from STANDBY, or is refused while the rack hold is set. -/
  | pwrUp (m : MasterId)
  /-- `PWR_DOWN` (R391): PWR.CMD DOWN lowers the rails when no partition is RUNNING, or is refused BUSY. -/
  | pwrDown (m : MasterId)
  /-- `RACK_OFF` (R392): RACK_CMD off sets the rack hold, parks every running partition and lowers the rails when all are parked or the grace ends. -/
  | rackOff (m : MasterId) (grace : BitVec 16)
  /-- `RACK_GRACE_EXPIRE` (R392): At the end of the grace time, still-running partitions end with POWER_OFF and the rails are lowered. -/
  | rackGraceExpire
  /-- `RACK_RELEASE` (R391): RACK_CMD release clears the rack hold and moves HELD to STANDBY. -/
  | rackRelease (m : MasterId)
  /-- `RAIL_GROUP_GOOD` (R388): Once every rail of a group has been power-good for the group gap, the next group is enabled. -/
  | railGroupGood (fails : List (StartBlock × Bool))
  /-- `RAIL_WINDOW_MISSED` (R390): A rail missing its power-good window while raising raises SEQ_FAULT and lowers every enabled rail. -/
  | railWindowMissed (n : RailId)
  /-- `RAIL_GROUP_DOWN` (R389): A group below 10 % of target lets the next group down be disabled. -/
  | railGroupDown
  /-- `SEQ_DOWN_TIMEOUT` (R389): A group not below 10 % within the down timeout raises SEQ_FAULT, and the next group is disabled anyway. -/
  | seqDownTimeout
  /-- `RAIL_SAMPLE` (R395): Every 250 ns each rail is sampled, its window averages updated, the limiter applied and energy attributed. -/
  | railSample (n : RailId) (mA : BitVec 20) (mV : BitVec 12) (w : List (BitVec 32))
  /-- `LIMIT_WRITE` (R394): A write of a rail limit is stored, or ignored if it breaks the ordering of the limits. -/
  | limitWrite (m : MasterId) (n : RailId) (which : Fin 3) (v : BitVec 16)
  /-- `CAP_WRITE` (R406): A write of CAP_RACK or CAP_HOST is clamped and the effective cap recomputed within 1 µs, scaling budgets when it falls. -/
  | capWrite (m : MasterId) (rack : Bool) (v : BitVec 16)
  /-- `POWER_TICK` (R403): Each millisecond POWER moves operating points, recomputes budgets and applies the bandwidth-bound downclock. -/
  | powerTick (busy : List (Fin 101)) (slots : List (Fin 101))
  /-- `PS_CHANGE_DONE` (R399): A point change completes once the new voltage is power-good and the clock switches. -/
  | psChangeDone (t : TileId)
  /-- `SKIP_TICK` (R404): Each millisecond the tile limiter removes or restores one clock in 16 of clock skipping. -/
  | skipTick (t : TileId)
  /-- `CAP_UNREACHABLE` (R411): Ten consecutive milliseconds over the cap at every floor setting raise CAP_UNREACHABLE, cleared after 100 ms under the cap. -/
  | capUnreachable
  /-- `THROTTLE_END` (R413): 100 ms free of throttle reasons ends the episode and posts THROTTLE_END. -/
  | throttleEnd (t : TileId)
  /-- `CORE_GATE` (R405): A core with every stream idle gates its engine clocks within 20 ns, making the tile barrier-idle when all are gated. -/
  | coreGate (c : CoreId)
  /-- `SAFETY_NET_DEMAND` (R427): Safety Net's own 1 kHz timer demands all three converter groups. -/
  | safetyNetDemand
  /-- `DEMAND` (R425): THERM.CMD DEMAND asks for conversions of the named groups. -/
  | sensorDemandCmd (m : MasterId) (groups : Fin 8)
  /-- `DEMAND_COMPLETE` (R426): All named converters finish their sweeps, and the readings go to the cross-check, bands and thermal loop. -/
  | demandComplete (source : Fin 4) (readings : List Reading)
  /-- `REF_CHECK` (R428): An idle converter converts its reference, and two bad checks mark it failed. -/
  | refCheck (c : Fin 33) (bad : Bool)
  /-- `RESTORE` (R431): THERM.CMD RESTORE returns a failed sensor to pending. -/
  | sensorRestore (m : MasterId) (n : Fin 128)
  /-- `THERMAL_CAP_UPDATE` (R437): Every 100 ms THERMAL writes CAP_THERMAL from the inlet and flow terms. -/
  | thermalCapUpdate
  /-- `TRIP_COMPARATOR` (R440): A site crossing the trip threshold sets the trip latch and asserts THERMTRIP_N within 50 µs, starting SF-OT. -/
  | tripComparator (n : Fin 100)
  /-- `TRIP_CLEAR` (R441): THERM.CMD TRIP_CLEAR clears the trip latch after 10 s of released comparators, or is refused. -/
  | tripClear (m : MasterId)
  /-- `COOL_KICK` (R444): COOL.CMD KICK drives a channel at 1,000 mV and enters KICK. -/
  | coolKick (m : MasterId) (c : Fin 4)
  /-- `KICK_ANSWERED` (R444): A kicked channel above its limit for 100 ms enters RUNNING. -/
  | kickAnswered (c : Fin 4) (rpm : BitVec 16)
  /-- `KICK_TIMEOUT` (R444): 3 s without an answer stops the kick, entering RETRY_WAIT or FAULT_START on the third attempt. -/
  | kickTimeout (c : Fin 4)
  /-- `KICK_RETRY` (R444): 5 s after the previous kick began, the channel is kicked again. -/
  | kickRetry (c : Fin 4)
  /-- `CHANNEL_BELOW_LIMIT` (R446): A running channel below its limit for 1 s enters FAULT_RUN, drives its partner and updates CAP_SAFETY. -/
  | channelBelowLimit (c : Fin 4) (rpm : BitVec 16)
  /-- `COOL_CLEAR` (R447): COOL.CMD CLEAR ends a channel's fault when allowed, or is refused STATE. -/
  | coolClear (m : MasterId) (c : Fin 4)
  /-- `COOLING_PI` (R448): Every 100 ms COOLING sets pump drives by a PI loop and blower drives from the table. -/
  | coolingPi
  /-- `TABLE_MODE` (R450): 2 s without a COOLING setpoint puts cooling into TABLE mode. -/
  | tableMode
  /-- `COOLANT_POLL` (R505): Every 100 ms Safety Net reads inlet, outlet and flow on TW5, marking three failed polls untrusted. -/
  | coolantPoll (inlet : Option (BitVec 16)) (outlet : Option (BitVec 16)) (flow : Option (BitVec 16))
  /-- `COOLING_FAILURE` (R449): Both pumps below limit for 1 s, or excess coolant ΔT for 500 ms, raises COOLING_FAILURE and starts SF-CF. -/
  | coolingFailure
  /-- `LEAK_SAMPLE` (R451): Every 100 µs Safety Net classifies each leak input as dry, wet or open. -/
  | leakSample (i0 : Fin 3) (i1 : Fin 3) (i2 : Fin 3) (i3 : Fin 3)
  /-- `LEAK_DETECTED` (R451): 50 consecutive wet samples assert PWR_KILL_N, stop the pumps under pump_stop and raise LEAK. -/
  | leakDetected (n : Fin 4)
  /-- `LEAK_OPEN` (R452): An enabled input open for 100 ms raises LEAK_OPEN. -/
  | leakOpen (n : Fin 4)
  /-- `LEAK_CLEAR` (R453): LEAK.CMD CLEAR clears the leak latch and PWR_KILL_N after 60 s dry, or is refused. -/
  | leakClear (m : MasterId)
  /-- `SN_FAULT` (R460): A lockstep mismatch or oscillator disagreement restarts Safety Net, and a second one within 10 s cuts the module. -/
  | snFault (oscillator : Bool)
  /-- `SN_RESTART_DONE` (R460): Safety Net completes its restart within 1 ms and resumes leak sampling. -/
  | snRestartDone
  /-- `CF_CUT` (R467): COOLING_FAILURE still present after cf_cut_s lowers the rails, enters CUT and asserts SYS_SHDN_N. -/
  | cfCut
  /-- `CF_END` (R467): A running pump and a low ΔT held for 10 s end SF-CF and withdraw its actions. -/
  | cfEnd
  /-- `RAIL_ON` (R465): SAFE.CMD RAIL_ON releases a latched-off rail, or is refused. -/
  | railOn (m : MasterId) (n : Fin 64)
  /-- `CUT_RELEASE` (R466): SAFE.CMD CUT_RELEASE moves the module from CUT to STANDBY or HELD when its conditions hold. -/
  | cutRelease (m : MasterId)
  /-- `SAFE_KICK` (R469): A write of SAFE.KICK records a kick from the writing management core. -/
  | safeKick (m : MasterId)
  /-- `MC_LOST` (R469): 50 ms without a kick, or another loss cause, takes a management core as lost. -/
  | mcLost (b : Bool) (cause : Fin 4)
  /-- `MC_REJOIN` (R471): A restarted core rejoins as mirror within 5 s and MC_MIRRORED is raised. -/
  | mcRejoin (b : Bool)
  /-- `NONE_WARM_RESTART` (R474): At 1 s in NONE, and every 60 s after, Safety Net attempts a warm reset up to restart_max times. -/
  | noneWarmRestart
  /-- `SAFE_FLOOR` (R474): 30 s in NONE sets every tile clock to PS7 with reason SAFE_FLOOR. -/
  | safeFloor
  /-- `WDOG_TOGGLE` (R473): WDOG_OUT changes level every 50 ms while a master kicks. -/
  | wdogToggle
  /-- `TW_START` (R488): A queued transaction starts with START after 1 µs of bus free time, in priority order. -/
  | twStart (n : TwId) (lost : Bool)
  /-- `TW_STOP` (R488): A transaction ends with STOP and the port returns to IDLE. -/
  | twStop (n : TwId) (nack : Bool) (badPec : Bool) (data : List Byte)
  /-- `STRETCH_TIMEOUT` (R488): SCL held low for stretch_ms releases both lines, resets the port block and fails or discards the transaction. -/
  | stretchTimeout (n : TwId) (sdaLow : Bool)
  /-- `BUS_STUCK` (R489): SDA low for 35 µs with no SCL edge starts a hang cure of up to nine clocks. -/
  | busStuck (n : TwId)
  /-- `TW_FREED` (R489): SDA high after a cure clock ends the cure with a STOP. -/
  | twFreed (n : TwId) (clocks : Fin 10)
  /-- `TW_STUCK` (R488): Nine cure clocks with SDA still low fail the queued transactions. -/
  | twStuck (n : TwId)
  /-- `CURE_RETRY` (R488): A new hang cure starts 1 s after a failed one. -/
  | cureRetry (n : TwId)
  /-- `BARKER_REQUEST` (R493): A 2 to 20 µs SDA low pulse on an idle bus makes the controller read 0x0D and record the requesting addresses. -/
  | barkerRequest (n : TwId) (width : BitVec 10)
  /-- `XFER` (R508): XFER_CTRL go queues a host transfer on a controller port, or is refused. -/
  | xfer (m : MasterId) (n : TwId) (v : Word)
  /-- `TW4_ACCESS` (R496): An address match on TW4 serves a target read or write through the pointer space. -/
  | tw4Access (addr : BitVec 7) (wr : Option (List Byte)) (count : BitVec 16)
  /-- `TW4_COMMIT` (R498): At STOP or repeated START, fully written words are committed as register writes in order. -/
  | tw4Commit (stop : Bool)
  /-- `TW4_PROTOCOL_RESET` (R499): A misplaced START or STOP resets the target and discards the unfinished write whole. -/
  | tw4ProtocolReset
  /-- `TW4_SLEEP` (R500): 100 ms without a transaction in STANDBY or HELD stops the target's bus clock. -/
  | tw4Sleep
  /-- `TW4_WAKE` (R500): An own-address match while asleep holds SCL, wakes the die and releases SCL within 200 µs. -/
  | tw4Wake (addr : BitVec 7)
  /-- `ATTN_SET` (R501): A newly set enabled ATTN bit makes the TW4 target raise a Barker request after 10 µs of idle. -/
  | attnSet
  /-- `ATTN_REPEAT` (R501): An unanswered Barker request from TW4 is repeated every 100 ms. -/
  | attnRepeat
  /-- `STATUS_POLL` (R504): Every 10 ms a rail's STATUS_WORD is polled, raising PHASE_FAULT and writing CLEAR_FAULTS on set bits. -/
  | statusPoll (n : RailId) (answer : Option (BitVec 16))
  /-- `BIST_TEST` (R519): BIST.CMD TEST starts an offline test of an out-of-service link, converter or meter, or is refused. -/
  | bistTest (m : MasterId) (type : Fin 16) (inst : BitVec 16)
  /-- `BIST_CANCEL` (R512): BIST.CMD CANCEL cuts the named block's running slice. -/
  | bistCancel (m : MasterId) (type : Fin 16) (inst : BitVec 16)
  /-- `SLICE_END` (R510): A slice ends with its count and signature judged PASS, FAIL or INCOMPLETE, and the next slice starts. -/
  | sliceEnd (type : Fin 16) (inst : BitVec 16) (count : Word) (expect : Word) (sig : Bool) (bad : Bool) (found : List Found)
  /-- `SLICE_CUT` (R512): A running slice is cut short by budget, cancel, safety, power, reset, isolation or spare need. -/
  | sliceCut (type : Fin 16) (inst : BitVec 16) (count : Word) (expect : Word) (sig : Bool) (bad : Bool) (found : List Found)
  /-- `REINIT_DONE` (R515): The tested block is re-initialised and the test result is posted as TEST_DONE. -/
  | reinitDone (type : Fin 16) (inst : BitVec 16)
  /-- `METER_CHECK` (R519): Every 10 ms a rail-sense converter checks its reference, and two bad checks raise METER_FAULT. -/
  | meterCheck (n : RailId) (bad : Bool)
  /-- `SCAN_CMD` (R521): BIST.SCAN_CMD unlock zeroizes secrets and unlocks scan in STANDBY, HELD or CUT, or is refused. -/
  | scanCmd (m : MasterId)
  /-- `SCAN_UNLOCK_INSTR` (R521): The test port's SCAN_UNLOCK instruction zeroizes secrets and unlocks scan, or is refused. -/
  | scanUnlockInstr
  /-- `EXTEST` (R520): The EXTEST instruction is accepted only in STANDBY, HELD or CUT. -/
  | extest
  /-- `RECORD_SAMPLE` (R522): A quantity's sample is accumulated into its slot of the open bank. -/
  | recordSample (id : BitVec 16) (i : BitVec 16)
  /-- `PERIOD_END` (R523): At a period end the banks swap, or the record is extended if the closed bank is unwritten. -/
  | periodEnd (p : Fin 4)
  /-- `RECORD_WRITE` (R526): A closed bank is written as a record to the ring and the keep store. -/
  | recordWrite (p : Fin 4)
  /-- `EVT_STATUS_WRITE` (R536): A W1C write of EVT_STATUS clears bits and may resend MSI-X while pending remains. -/
  | evtStatusWrite (m : MasterId) (page : BitVec 14) (v : Word)
  /-- `EVT_ENABLE_WRITE` (R538): A write of EVT_ENABLE updates the page's pending state and may send MSI-X. -/
  | evtEnableWrite (m : MasterId) (page : BitVec 14) (v : Word)
  /-- `EVT_FORCE` (R535): A write of EVT_FORCE sets defined status bits as occurrences and posts their events. -/
  | evtForce (m : MasterId) (page : BitVec 14) (v : Word)
  /-- `LATCHING_LO_READ` (R542): A read of a LO word of a latching pair latches its HI word for the reading master. -/
  | latchingLoRead (m : MasterId) (page : BitVec 14) (word : BitVec 10)
  /-- `RC_READ` (R543): A read of an RC field returns and clears it. -/
  | rcRead (m : MasterId) (page : BitVec 14) (word : BitVec 10)
  /-- `REGISTER_WRITE` (R544): A write to a register with no row of its own passes the access table per field and stores the allowed fields. -/
  | registerWrite (m : MasterId) (page : BitVec 14) (word : BitVec 10) (v : Word)
  /-- `COMPARATOR_RELEASE` (R439): A trip comparator whose site falls below the threshold minus 5 °C releases its output, starting the 10 s of release that TRIP_CLEAR requires. -/
  | comparatorRelease (n : Fin 100)
  /-- `UPDATE_DONE` (R354): A flash or keep-store operation started by UPD_CMD, CFG_CMD or REC_CMD ends, sets its result and posts UPDATE_DONE or ATTN bit 7. -/
  | updateDone
  /-- `QUOTE_DONE` (R374): ATTEST finishes signing and writes the quote record, sets QUOTE_RESULT and raises QUOTE_DONE. -/
  | quoteDone
  /-- `ALIGNMENT_EXCHANGE` (R264): Once every mark period a follower starts its beat-alignment exchange with its parent, and a Curtain Call member sends its periodic vote. -/
  | alignmentExchange
  /-- `EMERGENCY_WINDOW_END` (R361): 10 s after the last emergency-class throttle reason clears, reason bit 2 of Curtain Call readiness clears and READY is reevaluated and voted. -/
  | emergencyWindowEnd
deriving DecidableEq, Repr

end Sys2Proof
end

