-- ==== Sys2Proof/WellFormed.lean ====
section
/-! DEFINITION. What the types of the operands do not say: a packet carries at most 4,096 bytes (R246), a BAR2 access stays in the ring region
(R307), a list of sites or blocks names each once. `exec` answers for ill-formed commands too. -/

namespace Sys2Proof

/-- No element occurs twice. -/
def nodupB {α : Type} [DecidableEq α] : List α → Bool
  | [] => true
  | x :: xs => !xs.contains x && nodupB xs

/-- A command that can occur. -/
def Instr.wf (i : Instr) : Bool :=
  match i with
  | .coldStart _ _ _ sites _ => nodupB sites
  | .coldReset => true
  | .vstbyFail => true
  | .warmStart => true
  | .warmReset => true
  | .memoryDomainFault _ => true
  | .acquireMarkTimeout => true
  | .markArrival _ _ => true
  | .beatRefLost => true
  | .beatMarkLost => true
  | .fabricSourceLost => true
  | .refRelock => true
  | .beatUnaligned => true
  | .setCmd _ => true
  | .epochSet => true
  | .beatAlign _ _ _ _ _ _ _ => true
  | .slotArm _ _ _ => true
  | .slotDisarm _ _ _ => true
  | .slotFieldWrite _ _ _ _ => true
  | .stepBoundary _ => true
  | .partStop _ => true
  | .partStart _ => true
  | .fwActivate _ => true
  | .psChange _ => true
  | .capChange _ => true
  | .powerShift _ => true
  | .collLaunch _ => true
  | .sensorDemand _ => true
  | .mcEvent _ _ delay rpm => decide (delay.length ≤ 8) && decide (rpm.length ≤ 4)
  | .hostEvent _ => true
  | .alu _ _ _ _ _ _ _ => true
  | .ld _ _ _ _ _ _ _ => true
  | .st _ _ _ _ _ _ => true
  | .br _ _ _ => true
  | .brc _ _ _ _ => true
  | .call _ _ _ _ => true
  | .ret _ _ _ => true
  | .issue _ _ _ _ => true
  | .dpost _ _ _ => true
  | .signal _ _ _ _ => true
  | .waitf _ _ _ _ _ => true
  | .waitfSatisfied _ _ => true
  | .fence _ _ _ => true
  | .fenceComplete _ _ => true
  | .beatRead _ _ _ => true
  | .waitbeat _ _ _ => true
  | .waitbeatExpire _ _ => true
  | .stepnum _ _ _ => true
  | .jenq _ _ _ _ _ _ => true
  | .jenqResume _ _ => true
  | .jdeq _ _ _ _ _ _ _ => true
  | .jdeqResume _ _ _ => true
  | .stepEnd _ _ => true
  | .reservedOpcode _ _ _ => true
  | .descStart _ _ => true
  | .affine _ _ _ => true
  | .gather _ _ _ => true
  | .scatter _ _ _ => true
  | .csrWalk _ _ _ => true
  | .cscWalk _ _ _ => true
  | .hashProbe _ _ _ => true
  | .ibuList _ _ _ => true
  | .atomic _ _ _ => true
  | .descComplete _ _ _ => true
  | .mma _ _ _ => true
  | .mmaInit _ _ _ => true
  | .loadAcc _ _ => true
  | .storeAcc _ _ => true
  | .zeroAcc _ _ => true
  | .mmaStore _ _ _ => true
  | .mmaStoreStorePart _ _ => true
  | .engineCmdComplete _ _ _ => true
  | .coreFault _ _ => true
  | .spareCopyComplete _ => true
  | .veAdd _ _ _ => true
  | .veSub _ _ _ => true
  | .veMul _ _ _ => true
  | .veFma _ _ _ => true
  | .veMin _ _ _ => true
  | .veMax _ _ _ => true
  | .veAbs _ _ _ => true
  | .veNeg _ _ _ => true
  | .veCmp _ _ _ => true
  | .veAnd _ _ _ => true
  | .veOr _ _ _ => true
  | .veXor _ _ _ => true
  | .veShl _ _ _ => true
  | .veShr _ _ _ => true
  | .veCvt _ _ _ => true
  | .veSel _ _ _ => true
  | .veExp _ _ _ => true
  | .veLog _ _ _ => true
  | .veRecip _ _ _ => true
  | .veRsqrt _ _ _ => true
  | .veTanh _ _ _ => true
  | .veSigmoid _ _ _ => true
  | .veRowsum _ _ _ => true
  | .veRowmin _ _ _ => true
  | .veRowmax _ _ _ => true
  | .veSum _ _ _ => true
  | .veRedMin _ _ _ => true
  | .veRedMax _ _ _ => true
  | .veArgmin _ _ _ => true
  | .veArgmax _ _ _ => true
  | .veScanAdd _ _ _ => true
  | .veScanMin _ _ _ => true
  | .veScanMax _ _ _ => true
  | .veSort _ _ _ => true
  | .veSortKv _ _ _ => true
  | .veTopk _ _ _ => true
  | .veTopkKv _ _ _ => true
  | .veCompact _ _ _ => true
  | .veCompactIdx _ _ _ => true
  | .vePermute _ _ _ => true
  | .veFill _ _ _ => true
  | .coreRetire _ _ _ => true
  | .coreTest _ _ _ => true
  | .stackAccess _ _ _ _ _ _ _ _ => true
  | .patrolRead _ _ => true
  | .patrolPassEnd _ => true
  | .countWindowEnd _ => true
  | .bandUp _ => true
  | .bandDwellExpire _ => true
  | .baseDieFault _ => true
  | .fenceDrainEnd _ => true
  | .stackFenced _ => true
  | .hsFence _ _ => true
  | .hsUnfence _ _ => true
  | .hsRepair _ _ => true
  | .repairDone _ _ => true
  | .hsTest _ _ => true
  | .hsRetire _ _ => true
  | .stackTrainingComplete _ _ _ _ => true
  | .hsCtrlWrite _ _ _ => true
  | .rowRemapDone _ => true
  | .ibuListArrival _ _ => true
  | .payload _ _ _ => true
  | .rowdot _ _ _ => true
  | .gathersum _ _ _ => true
  | .axpy _ _ _ => true
  | .minrelax _ _ _ => true
  | .hist _ _ _ => true
  | .selectIdx _ _ _ => true
  | .ibuFill _ _ _ => true
  | .ibuCopy _ _ _ => true
  | .scrub _ _ _ => true
  | .ibuToken _ _ => true
  | .ibuResidueFail _ _ _ => true
  | .ibuSlateUe _ _ _ => true
  | .ibuDisable _ _ _ => true
  | .ibuEnable _ _ _ => true
  | .ibuTest _ _ _ => true
  | .qcmdConfig _ _ => true
  | .qcmdRead _ _ => true
  | .qcmdFlush _ _ => true
  | .queueStranded _ _ => true
  | .spillRunDone _ => true
  | .refillDone _ => true
  | .midwayPacket _ _ _ _ _ => true
  | .midwayLinkDown _ _ => true
  | .midwayRetrain _ _ _ => true
  | .put _ _ _ _ _ data => decide (data.length ≤ 4096)
  | .getReq _ _ _ _ _ _ => true
  | .getRsp _ _ _ _ data => decide (data.length ≤ 4096)
  | .atomicReq _ _ _ _ _ _ _ data => decide (data.length ≤ 4096)
  | .atomicRsp _ _ _ _ _ => true
  | .enq _ _ _ _ _ _ _ data => decide (1 ≤ data.length) && decide (data.length ≤ 4096)
  | .ack _ _ _ _ _ => true
  | .nack _ _ _ _ _ _ => true
  | .coll _ _ _ _ _ _ _ data => decide (data.length ≤ 4096)
  | .pace _ _ _ _ _ => true
  | .curtainVote _ _ _ _ => true
  | .partnerParked _ _ _ _ => true
  | .fleetAccess _ _ _ _ _ data => decide (data.length ≤ 4096)
  | .e2eTimeout _ => true
  | .linkTimeout _ => true
  | .sendQueueServe _ _ => true
  | .laneFail _ _ => true
  | .portDown _ => true
  | .portTrainStart _ => true
  | .portTrainEnd _ _ _ => true
  | .portFence _ _ => true
  | .portUnfence _ _ => true
  | .portRetrain _ _ => true
  | .portTest _ _ => true
  | .moduleIdWrite _ _ _ => true
  | .routeHiWrite _ _ _ => true
  | .routeLoadCmd _ _ _ => true
  | .routeLoadDone _ => true
  | .collRound _ => true
  | .collDeadline _ => true
  | .collDone _ => true
  | .partConfig _ _ => true
  | .partRelease _ _ => true
  | .partReset _ _ => true
  | .partPark _ _ => true
  | .partClear _ _ => true
  | .pairKeepalive _ _ => true
  | .pairOutcome _ _ => true
  | .pairTimeout _ => true
  | .tileFence _ _ => true
  | .tileUnfence _ _ => true
  | .tileReset _ _ => true
  | .tileResetDone _ => true
  | .tileTest _ _ => true
  | .tileLost _ => true
  | .doorbell _ _ _ => true
  | .hostCmdRead _ _ => true
  | .programCmd _ => true
  | .programPlace _ => true
  | .loadCmd _ => true
  | .readbackCmd _ => true
  | .markCmd _ => true
  | .copyDone _ => true
  | .completionWrite _ => true
  | .bar0AccessBad _ _ => true
  | .bar2Read offset size => decide (1 ≤ size.val) && decide (offset.toNat + size.val ≤ 2 ^ 30)
  | .bar2Write offset data => decide (1 ≤ data.length) && decide (offset.toNat + data.length ≤ 2 ^ 30)
  | .msixCoalesce _ => true
  | .ringEnable _ _ _ => true
  | .ringReset _ _ _ => true
  | .driverAttach _ _ => true
  | .driverDetach _ => true
  | .heartbeat _ => true
  | .heartbeatLost => true
  | .endpointReset => true
  | .reclaim => true
  | .pushMain _ => true
  | .pushMicrocode _ => true
  | .pushFlash _ => true
  | .pushTimeout => true
  | .recCmd _ _ => true
  | .cfgWrite _ _ => true
  | .cfgRead _ _ => true
  | .updBegin _ _ => true
  | .updWrite _ _ _ _ => true
  | .updCopy _ _ _ => true
  | .updCommit _ _ => true
  | .updAbort _ _ => true
  | .prepare _ _ => true
  | .prepareDone => true
  | .unprepare _ => true
  | .confirm _ => true
  | .autoConfirm => true
  | .bootNext _ _ => true
  | .voteClose _ => true
  | .handoverMaster => true
  | .handoverMirrored => true
  | .componentFault _ => true
  | .quoteCmd _ _ => true
  | .aclRead _ => true
  | .aclWrite _ => true
  | .aclDefault _ => true
  | .aclLock _ => true
  | .rwpWrite _ _ _ => true
  | .pwrUp _ => true
  | .pwrDown _ => true
  | .rackOff _ _ => true
  | .rackGraceExpire => true
  | .rackRelease _ => true
  | .railGroupGood fails => nodupB (fails.map (·.1))
  | .railWindowMissed _ => true
  | .railGroupDown => true
  | .seqDownTimeout => true
  | .railSample _ _ _ _ => true
  | .limitWrite _ _ _ _ => true
  | .capWrite _ _ _ => true
  | .powerTick busy slots => nodupB busy && nodupB slots
  | .psChangeDone _ => true
  | .skipTick _ => true
  | .capUnreachable => true
  | .throttleEnd _ => true
  | .coreGate _ => true
  | .safetyNetDemand => true
  | .sensorDemandCmd _ _ => true
  | .demandComplete _ _ => true
  | .refCheck _ _ => true
  | .sensorRestore _ _ => true
  | .thermalCapUpdate => true
  | .tripComparator _ => true
  | .tripClear _ => true
  | .coolKick _ _ => true
  | .kickAnswered _ _ => true
  | .kickTimeout _ => true
  | .kickRetry _ => true
  | .channelBelowLimit _ _ => true
  | .coolClear _ _ => true
  | .coolingPi => true
  | .tableMode => true
  | .coolantPoll _ _ _ => true
  | .coolingFailure => true
  | .leakSample _ _ _ _ => true
  | .leakDetected _ => true
  | .leakOpen _ => true
  | .leakClear _ => true
  | .snFault _ => true
  | .snRestartDone => true
  | .cfCut => true
  | .cfEnd => true
  | .railOn _ _ => true
  | .cutRelease _ => true
  | .safeKick _ => true
  | .mcLost _ _ => true
  | .mcRejoin _ => true
  | .noneWarmRestart => true
  | .safeFloor => true
  | .wdogToggle => true
  | .twStart _ _ => true
  | .twStop _ _ _ _ => true
  | .stretchTimeout _ _ => true
  | .busStuck _ => true
  | .twFreed _ _ => true
  | .twStuck _ => true
  | .cureRetry _ => true
  | .barkerRequest _ _ => true
  | .xfer _ _ _ => true
  | .tw4Access _ _ _ => true
  | .tw4Commit _ => true
  | .tw4ProtocolReset => true
  | .tw4Sleep => true
  | .tw4Wake _ => true
  | .attnSet => true
  | .attnRepeat => true
  | .statusPoll _ _ => true
  | .bistTest _ _ _ => true
  | .bistCancel _ _ _ => true
  | .sliceEnd _ _ _ _ _ _ _ => true
  | .sliceCut _ _ _ _ _ _ _ => true
  | .reinitDone _ _ => true
  | .meterCheck _ _ => true
  | .scanCmd _ => true
  | .scanUnlockInstr => true
  | .extest => true
  | .recordSample _ _ => true
  | .periodEnd _ => true
  | .recordWrite _ => true
  | .evtStatusWrite _ _ _ => true
  | .evtEnableWrite _ _ _ => true
  | .evtForce _ _ _ => true
  | .latchingLoRead _ _ _ => true
  | .rcRead _ _ _ => true
  | .registerWrite _ _ _ _ => true
  | .comparatorRelease _ => true
  | .updateDone => true
  | .quoteDone => true
  | .alignmentExchange => true
  | .emergencyWindowEnd => true

end Sys2Proof
end

