-- ==== Sys2Proof/Config.lean ====
section
/-! DEFINITION. What an individual module fixes and what the spec leaves open. No constant here has a value a proof could see. -/

namespace Sys2Proof.Config

/-- The stream of free values: the value a result takes where the spec leaves it open. `State.free` counts its uses. (DESIGN CHOICE, assumption 2) -/
opaque freeValue : Nat → Nat
/-- What an undefined byte of a stack reads as, by the stack's epoch of undefinedness and the physical location. (DESIGN CHOICE, assumption 29) -/
opaque junkByte : Nat → Nat → BitVec 8
/-- The module serial number (fused; R333). (DESIGN CHOICE, assumption 6) -/
opaque serial : Nat
/-- Manufacture date, days since 2000-01-01 (fused; R484). (DESIGN CHOICE, assumption 6) -/
opaque mfgDate : Nat
/-- Words of the identity public key (made at manufacture; R371, R381). (DESIGN CHOICE, assumption 6) -/
opaque idPub : Nat → Nat
/-- Words of the root key hash (in ROM; R347, R381). (DESIGN CHOICE, assumption 6) -/
opaque rootHashWord : Nat → Nat
/-- Where a branch with a 16-bit offset goes from a program counter, and whether a conditional branch on a register value is taken: the spec
gives neither the unit of the offset nor the condition (R72). (PRESUMED, assumption 38) -/
opaque branchTarget : Nat → Nat → Nat
/-- PRESUMED assumption 38. -/
opaque branchTaken : Nat → Nat → Bool
/-- The six function operations on FP32 patterns: EXP, LOG, RECIP, RSQRT, TANH, SIGMOID, numbered from 0 (R132). (DESIGN CHOICE, assumption 140) -/
opaque fp32Fun : Nat → Nat → Nat
/-- A value that the spec leaves open and that is the same for the same operation and operands (R143): the operation's number, its operands.
(DESIGN CHOICE, assumption 2) -/
opaque openValue : Nat → List Nat → Nat
/-- The sum of FP32 patterns in the fixed order of the vector engines' lanes and rows (R96); the spec does not give the order. (DEDUCED, assumption 48) -/
opaque floatSum : List Nat → Nat

/-- SHAKE256 with 256 output bits, and XMSS-SHAKE256_20_256 verification of a message under a key: NIST standards that R346 and R347 name. (DESIGN CHOICE, assumption 139) -/
opaque shake256 : List (BitVec 8) → Nat
/-- DESIGN CHOICE assumption 139. -/
opaque xmssValid : List (BitVec 8) → List (BitVec 8) → List (BitVec 8) → Bool
/-- The signature of the module's identity key with a leaf (R372, R374). (DESIGN CHOICE, assumption 139) -/
opaque xmssSign : Nat → List (BitVec 8) → List (BitVec 8)
/-- What the flash parts hold when the module leaves the factory, by part and offset (R352). (DESIGN CHOICE, assumption 139) -/
opaque factoryFlash : Nat → Nat → BitVec 8
/-- The body that a migration from a settings version to another makes of a body (R356). (DESIGN CHOICE, assumption 139) -/
opaque migrated : Nat → Nat → List (BitVec 8) → List (BitVec 8)
/-- The 48 bytes of the ROM's measurement in a quote, and type, svn, release and source of the settings area's (Table 11.12). (DESIGN CHOICE, assumption 139) -/
opaque romMeasurement : Nat → BitVec 8
/-- DESIGN CHOICE assumption 139. -/
opaque settingsHead : Nat → BitVec 8

/-- The 32 bytes of a BEAT_ALIGN message of its fields: three stamps in 0.25 ns, whether the epoch is valid, the sender's error bound, the root
(R264, R572 give no layout). (DESIGN CHOICE, assumption 143) -/
opaque alignBytes : Nat → Nat → Nat → Bool → Nat → Nat → BitVec 256
/-- The 32 bytes of a PACE message of its fields: global tile, partition, step, arrival offset, slack, flags (R265 gives no layout). (DESIGN CHOICE, assumption 125) -/
opaque paceBytes : Nat → Nat → Nat → Nat → Nat → Nat → BitVec 256

end Sys2Proof.Config
end

