-- ==== Sys2Proof/Machine/Tables.lean ====
section
/-! DEFINITION. The register-page names, the shape of a register field, and the fixed tables of the spec that give reset values. -/

namespace Sys2Proof.Machine

/-- The kinds of register page (Table 17.1). -/
inductive Page where
  | MOD | BEAT | SCHED | HOSTQ | PWR | RAIL | ENERGY | THERM | COOL | LEAK | SAFE | FW | SEC | KEEP | ACL | TW | RECORD | BIST
  | AGE | TRACE | TILE | MIDWAY | JUG | EDPEN | CORE | SPARE | HS | ECC | IBU | BAND
deriving DecidableEq, Repr

/-- The number of a page in register space: page kind and its instance (Table 17.1). -/
def Page.number : Page → Nat → Nat
  | .MOD, _ => 0x0000 | .BEAT, _ => 0x0001 | .SCHED, _ => 0x0002
  | .HOSTQ, k => 0x0008 + k
  | .PWR, _ => 0x0010 | .RAIL, k => 0x0011 + k | .ENERGY, _ => 0x0018
  | .THERM, _ => 0x0020 | .COOL, _ => 0x0021 | .LEAK, _ => 0x0022 | .SAFE, _ => 0x0028
  | .FW, _ => 0x0030 | .SEC, _ => 0x0031 | .KEEP, _ => 0x0032 | .ACL, _ => 0x0033
  | .TW, n => 0x0038 + n
  | .RECORD, _ => 0x0040 | .BIST, _ => 0x0041 | .AGE, _ => 0x0042 | .TRACE, _ => 0x0043
  | .TILE, t => 0x0100 + 0x100 * t | .MIDWAY, t => 0x0101 + 0x100 * t | .JUG, t => 0x0102 + 0x100 * t
  | .EDPEN, i => 0x0104 + 0x100 * (i / 8) + i % 8
  | .CORE, i => 0x0110 + 0x100 * (i / 64) + i % 64
  | .SPARE, t => 0x0150 + 0x100 * t
  | .HS, s => 0x0900 + 0x10 * s | .ECC, s => 0x0901 + 0x10 * s | .IBU, s => 0x0902 + 0x10 * s | .BAND, s => 0x0903 + 0x10 * s

/-- How many instances a page has (Table 17.1; 710 pages in all). -/
def Page.count : Page → Nat
  | .HOSTQ => 8 | .RAIL => 7 | .TW => 6
  | .TILE | .MIDWAY | .JUG | .SPARE => 8
  | .EDPEN => 64 | .CORE => 512
  | .HS | .ECC | .IBU | .BAND => 16
  | _ => 1

/-- The domain of a page (R532, Table 17.1). -/
inductive Domain where | AO | MG | TM | TC
deriving DecidableEq, Repr

def Page.domain : Page → Nat → Domain
  | .BEAT, _ | .PWR, _ | .RAIL, _ | .THERM, _ | .COOL, _ | .LEAK, _ | .SAFE, _ => .AO
  | .TW, n => if n = 4 then .AO else .MG
  | .TILE, _ | .MIDWAY, _ | .SPARE, _ | .HS, _ | .ECC, _ | .IBU, _ | .BAND, _ => .TM
  | .JUG, _ | .EDPEN, _ | .CORE, _ => .TC
  | _, _ => .MG

/-- The block type of PAGE_ID: 0x8000 plus the page number of the block's first page in its region (R532). -/
def Page.blockType (p : Page) : Nat := 0x8000 + p.number 0

/-- How many EVT_STATUS bits a page defines, from bit 0 upward (the rule of each page; R535). -/
def Page.eventBits : Page → Nat
  | .MOD => 4 | .BEAT => 6 | .SCHED => 1 | .HOSTQ => 2 | .PWR => 8 | .RAIL => 8 | .ENERGY => 0 | .THERM => 5 | .COOL => 6
  | .LEAK => 2 | .SAFE => 9 | .FW => 12 | .SEC => 2 | .KEEP => 2 | .ACL => 1 | .TW => 6 | .RECORD => 2 | .BIST => 5
  | .AGE => 2 | .TRACE => 1 | .TILE => 4 | .MIDWAY => 6 | .JUG => 6 | .EDPEN => 5 | .CORE => 7 | .SPARE => 4
  | .HS => 4 | .ECC => 6 | .IBU => 3 | .BAND => 2

/-- Every page kind. -/
def Page.all : List Page :=
  [.MOD, .BEAT, .SCHED, .HOSTQ, .PWR, .RAIL, .ENERGY, .THERM, .COOL, .LEAK, .SAFE, .FW, .SEC, .KEEP, .ACL, .TW, .RECORD, .BIST,
   .AGE, .TRACE, .TILE, .MIDWAY, .JUG, .EDPEN, .CORE, .SPARE, .HS, .ECC, .IBU, .BAND]

/-- The access codes of the register tables (Table 0.4). -/
inductive Acc where | ro | rw | rwp | w1c | w1s | wo | rc
deriving DecidableEq, Repr

/-- The letters of the resets that restore a field (R11): cold, warm, tile, partition. -/
structure Resets where
  c : Bool
  w : Bool
  t : Bool
  p : Bool
deriving DecidableEq, Repr

def rNone : Resets := ⟨false, false, false, false⟩
def rC : Resets := ⟨true, false, false, false⟩
def rCW : Resets := ⟨true, true, false, false⟩
def rCT : Resets := ⟨true, false, true, false⟩
def rCP : Resets := ⟨true, false, false, true⟩
def rCTP : Resets := ⟨true, false, true, true⟩

/-- One register field: its page, offset, lowest bit and width, how often it is repeated and at what stride, its access code, the
resets that restore it, and the value they restore (by page instance and repetition). (DESIGN CHOICE, assumption 6) -/
structure Fld where
  pg : Page
  off : Nat
  lo : Nat
  w : Nat
  n : Nat
  st : Nat
  acc : Acc
  rs : Resets
  rst : Nat → Nat → Nat

/-- The one home of a field's value: page number, offset and lowest bit. -/
def Fld.key (f : Fld) (i j : Nat) : Nat := (f.pg.number i * 4096 + f.off + f.st * j) * 32 + f.lo

/-! Table 12.1 and R394: the rails. -/

/-- Default limit of a rail, 0.1 A (Table 12.1). (DESIGN CHOICE, assumption 6) -/
def railLim1ms (n : Nat) : Nat :=
  if n < 32 then [4500, 500, 250, 550].getD (n % 4) 0
  else if n < 48 then 800
  else [4200, 250, 1700, 550].getD (n - 48) 0
/-- 1.1 times the limit (R394). -/
def railLim20us (n : Nat) : Nat := railLim1ms n * 11 / 10
/-- 1.25 times the limit (R394). -/
def railLim2us (n : Nat) : Nat := railLim1ms n * 5 / 4
/-- Up group (Table 12.1). -/
def railGroup (n : Nat) : Nat :=
  if n < 32 then [6, 5, 4, 7].getD (n % 4) 0
  else if n < 48 then 2
  else [3, 1, 4, 0].getD (n - 48) 0
/-- Two-wire port (Table 12.1). -/
def railPort (n : Nat) : Nat := if n < 32 then n / 16 else if n < 48 then 2 else 3
/-- PMBus address and page: the rail table gives them and has no default; DESIGN CHOICE 0 (DESIGN CHOICE, assumption 9). -/
def railPmbusAddress (_ : Nat) : Nat := 0
/-- DESIGN CHOICE assumption 9. -/
def railPmbusPage (_ : Nat) : Nat := 0
/-- Target voltage, mV (Table 12.1); 0 for VCORE_t (Table 12.2). -/
def railNominalMv (n : Nat) : Nat :=
  if n < 32 then [0, 800, 750, 900].getD (n % 4) 0
  else if n < 48 then 1050
  else [400, 1800, 750, 800].getD (n - 48) 0

/-- Table 5.5: refresh multiplier of a band. -/
def bandRefreshMult (b : Nat) : Nat := [1, 2, 4, 4].getD b 4
/-- Table 5.5: added row timing of a band, ns. -/
def bandRowAddNs (b : Nat) : Nat := [0, 2, 4, 6].getD b 6

/-- R439: the trip threshold the straps select, °C. (DESIGN CHOICE, assumption 6) -/
def tripThreshold (sel : Nat) : Nat := [105, 110, 115, 120].getD sel 120

/-- R525: period lengths when section 0x0007 is absent; 0 disables a period. (DESIGN CHOICE, assumption 6) -/
def recordPeriodDefault (p : Nat) : Nat := [0, 60, 0, 86400].getD p 0

/-- Table 14.10: defaults of section 0x0008. (DESIGN CHOICE, assumption 6) -/
def safetyParamDefault (w : Nat) : Nat := [10, 5, 50000, 180].getD w 0

end Sys2Proof.Machine
end

