-- ==== Sys2Proof/Machine/Fields.lean ====
section
/-! DEFINITION. Every register field of the block, one `Fld` each, from the register tables of spec/ (the file, table and
rule stand at each page). A field wider than 32 bits is a LO/HI pair. `n` and `st` say how often a field is repeated in its page. -/

namespace Sys2Proof.Machine

/-! Table 9.10 of spec/09_jobs.md, rule R302: page MOD. -/

/-- Bit h: half h; applied by CONFIG (R302, Table 9.10). -/
def MOD.PART_CFG.halves : Fld := ⟨.MOD, 0x400, 0, 16, 16, 64, .rw, rC, fun _ _ => 0x0⟩
/-- Repeatable mode (R142) (R302, Table 9.10). -/
def MOD.PART_CFG.repeatable : Fld := ⟨.MOD, 0x400, 16, 1, 16, 64, .rw, rC, fun _ _ => 0x0⟩
/-- Pair mode (R302, Table 9.10). -/
def MOD.PART_CFG.pair_en : Fld := ⟨.MOD, 0x400, 17, 1, 16, 64, .rw, rC, fun _ _ => 0x0⟩
/-- Pair role (R302, Table 9.10). -/
def MOD.PART_CFG.standby : Fld := ⟨.MOD, 0x400, 18, 1, 16, 64, .rw, rC, fun _ _ => 0x0⟩
/-- R284 (R302, Table 9.10). -/
def MOD.PART_CFG.replay_max : Fld := ⟨.MOD, 0x400, 20, 4, 16, 64, .rw, rC, fun _ _ => 0x3⟩
/-- 1 CONFIG, 2 RELEASE, 3 RESET, 4 PARK, 5 CLEAR (R302, Table 9.10). -/
def MOD.PART_CMD.op : Fld := ⟨.MOD, 0x404, 0, 3, 16, 64, .wo, rNone, fun _ _ => 0x0⟩
/-- 0 idle, 2 done, 3 refused BUSY, 4 refused STATE, 5 refused FIELD (R302, Table 9.10). -/
def MOD.PART_RESULT.result : Fld := ⟨.MOD, 0x408, 0, 3, 16, 64, .ro, rC, fun _ _ => 0x0⟩
/-- 0 FREE, 1 STOPPED, 2 RUNNING, 3 PARKED (R302, Table 9.10). -/
def MOD.PART_STATE.state : Fld := ⟨.MOD, 0x40C, 0, 2, 16, 64, .ro, rC, fun _ _ => 0x0⟩
/-- Acting as pair primary (R302, Table 9.10). -/
def MOD.PART_STATE.primary : Fld := ⟨.MOD, 0x40C, 2, 1, 16, 64, .ro, rC, fun _ _ => 0x0⟩
/-- Pair in force (R302, Table 9.10). -/
def MOD.PART_STATE.paired : Fld := ⟨.MOD, 0x40C, 3, 1, 16, 64, .ro, rC, fun _ _ => 0x0⟩
/-- Table 9.2, bit n in [4 + n] (R302, Table 9.10). -/
def MOD.PART_STATE.causes : Fld := ⟨.MOD, 0x40C, 4, 9, 16, 64, .ro, rC, fun _ _ => 0x0⟩
/-- Consecutive steps ended in error (R302, Table 9.10). -/
def MOD.PART_STATE.errors_run : Fld := ⟨.MOD, 0x40C, 16, 8, 16, 64, .ro, rCP, fun _ _ => 0x0⟩
/-- Number of the running step (R302, Table 9.10). -/
def MOD.PART_STEP.step : Fld := ⟨.MOD, 0x410, 0, 32, 16, 64, .ro, rCP, fun _ _ => 0x0⟩
/-- Work number (R283) (R302, Table 9.10). -/
def MOD.PART_WORK.work : Fld := ⟨.MOD, 0x414, 0, 32, 16, 64, .ro, rCP, fun _ _ => 0x0⟩
/-- Committed steps, saturating (R302, Table 9.10). -/
def MOD.PART_COMMITS.count : Fld := ⟨.MOD, 0x418, 0, 32, 16, 64, .ro, rCP, fun _ _ => 0x0⟩
/-- Steps ended in error, saturating (R302, Table 9.10). -/
def MOD.PART_ERRORS.count : Fld := ⟨.MOD, 0x41C, 0, 32, 16, 64, .ro, rCP, fun _ _ => 0x0⟩
/-- First fault code of the last failed step (R302, Table 9.10). -/
def MOD.PART_LAST_FAULT.code : Fld := ⟨.MOD, 0x420, 0, 8, 16, 64, .ro, rCP, fun _ _ => 0x0⟩
/-- Its step number (R302, Table 9.10). -/
def MOD.PART_LAST_FAULT_STEP.step : Fld := ⟨.MOD, 0x424, 0, 32, 16, 64, .ro, rCP, fun _ _ => 0x0⟩
/-- Global tile of the partner's program master (R302, Table 9.10). -/
def MOD.PAIR_PEER.tile : Fld := ⟨.MOD, 0x428, 0, 18, 16, 64, .rw, rC, fun _ _ => 0x0⟩
/-- tile is set (R302, Table 9.10). -/
def MOD.PAIR_PEER.valid : Fld := ⟨.MOD, 0x428, 31, 1, 16, 64, .rw, rC, fun _ _ => 0x0⟩
/-- Silence before PAIR_LOST, 1,500–65,535 (R302, Table 9.10). -/
def MOD.PAIR_CFG.timeout_beats : Fld := ⟨.MOD, 0x42C, 0, 16, 16, 64, .rw, rC, fun _ _ => 0x7D0⟩
/-- Pair class, 4–7 (R302, Table 9.10). -/
def MOD.PAIR_CFG.tc : Fld := ⟨.MOD, 0x42C, 16, 3, 16, 64, .rw, rC, fun _ _ => 0x4⟩
/-- Flag of the program master (R293) (R302, Table 9.10). -/
def MOD.PAIR_CFG.notify_flag : Fld := ⟨.MOD, 0x42C, 24, 8, 16, 64, .rw, rC, fun _ _ => 0x0⟩
/-- Partner heard within timeout_beats (R302, Table 9.10). -/
def MOD.PAIR_STATUS.partner_present : Fld := ⟨.MOD, 0x430, 0, 1, 16, 64, .ro, rC, fun _ _ => 0x0⟩
/-- Sends dropped under R290, saturating (R302, Table 9.10). -/
def MOD.PAIR_STATUS.suppressed : Fld := ⟨.MOD, 0x430, 8, 24, 16, 64, .rc, rC, fun _ _ => 0x0⟩
/-! Table 10.12 of spec/10_host.md, rule R333: page MOD. -/

/-- R326 (R333, Table 10.12). -/
def MOD.CTRL.park_on_loss : Fld := ⟨.MOD, 0x010, 0, 1, 1, 0, .rw, rC, fun _ _ => 0x1⟩
/-- R328 (R333, Table 10.12). -/
def MOD.CTRL.reclaim_en : Fld := ⟨.MOD, 0x010, 1, 1, 1, 0, .rw, rC, fun _ _ => 0x1⟩
/-- 0 ABSENT, 1 ATTACHED, 2 LOST (R333, Table 10.12). -/
def MOD.STATUS.driver : Fld := ⟨.MOD, 0x014, 0, 2, 1, 0, .ro, rC, fun _ _ => 0x0⟩
/-- R322 (R333, Table 10.12). -/
def MOD.STATUS.rings_lost : Fld := ⟨.MOD, 0x014, 2, 1, 1, 0, .ro, rC, fun _ _ => 0x0⟩
/-- Table 0.1 (R333, Table 10.12). -/
def MOD.DEVICE_ID.stepping : Fld := ⟨.MOD, 0x040, 0, 8, 1, 0, .ro, rNone, fun _ _ => 0x10⟩
/-- Device ID (R333, Table 10.12). -/
def MOD.DEVICE_ID.device : Fld := ⟨.MOD, 0x040, 16, 16, 1, 0, .ro, rNone, fun _ _ => 0x5808⟩
/-- R323 (R333, Table 10.12). -/
def MOD.IFACE_VER.version : Fld := ⟨.MOD, 0x044, 0, 16, 1, 0, .ro, rCW, fun _ _ => 0x100⟩
/-- Driver's interface version (R333, Table 10.12). -/
def MOD.DRIVER_ATTACH.version : Fld := ⟨.MOD, 0x048, 0, 16, 1, 0, .wo, rNone, fun _ _ => 0x0⟩
/-- Orderly unload, under Table 10.8 (R333, Table 10.12). -/
def MOD.DRIVER_ATTACH.detach : Fld := ⟨.MOD, 0x048, 30, 1, 1, 0, .wo, rNone, fun _ _ => 0x0⟩
/-- Attach (R333, Table 10.12). -/
def MOD.DRIVER_ATTACH.go : Fld := ⟨.MOD, 0x048, 31, 1, 1, 0, .wo, rNone, fun _ _ => 0x0⟩
/-- Version recorded at attach (R333, Table 10.12). -/
def MOD.DRIVER_VER.version : Fld := ⟨.MOD, 0x04C, 0, 16, 1, 0, .ro, rC, fun _ _ => 0x0⟩
/-- Heartbeat (R333, Table 10.12). -/
def MOD.HEARTBEAT.any : Fld := ⟨.MOD, 0x050, 0, 32, 1, 0, .wo, rNone, fun _ _ => 0x0⟩
/-- Time since the last heartbeat, saturating (R333, Table 10.12). -/
def MOD.HB_AGE.ms : Fld := ⟨.MOD, 0x054, 0, 16, 1, 0, .ro, rC, fun _ _ => 0x0⟩
/-- Seconds to reclaim; 0 outside LOST (R333, Table 10.12). -/
def MOD.RECLAIM_LEFT.s : Fld := ⟨.MOD, 0x058, 0, 10, 1, 0, .ro, rC, fun _ _ => 0x0⟩
/-- 0 none, 1 timeout, 2 detach, 3 endpoint reset (R333, Table 10.12). -/
def MOD.LOSS_CAUSE.cause : Fld := ⟨.MOD, 0x05C, 0, 2, 1, 0, .ro, rC, fun _ _ => 0x0⟩
/-- Module serial number (R333, Table 10.12). -/
def MOD.SERIAL.serial : Fld := ⟨.MOD, 0x060, 0, 64, 1, 0, .ro, rNone, fun _ _ => Config.serial⟩
/-- HBM data capacity, GiB: the sum of HS.CAPACITY over the stacks of tiles that are not LOST; a fenced stack still counts (R31) (R333, Table 10.12). -/
def MOD.HBM.gib : Fld := ⟨.MOD, 0x068, 0, 12, 1, 0, .ro, rNone, fun _ _ => 0x800⟩
/-- Bit s: HSs is IN_SERVICE (Table 5.7); 0 in every other stack state and for the stacks of a LOST tile (R333, Table 10.12). -/
def MOD.HBM.stacks : Fld := ⟨.MOD, 0x068, 16, 16, 1, 0, .ro, rC, fun _ _ => 0x0⟩
/-- Bit t: CTt in service (R333, Table 10.12). -/
def MOD.TILES.tiles : Fld := ⟨.MOD, 0x06C, 0, 8, 1, 0, .ro, rC, fun _ _ => 0xFF⟩
/-- 1 to 6: 2.5, 5.0, 8, 16, 32, 64 GT/s (R333, Table 10.12). -/
def MOD.LINK.rate : Fld := ⟨.MOD, 0x070, 0, 3, 1, 0, .ro, rC, fun _ _ => 0x0⟩
/-- Lanes: 1, 2 or 4 (R333, Table 10.12). -/
def MOD.LINK.width : Fld := ⟨.MOD, 0x070, 3, 3, 1, 0, .ro, rC, fun _ _ => 0x0⟩
/-- FLIT mode (R333, Table 10.12). -/
def MOD.LINK.flit : Fld := ⟨.MOD, 0x070, 6, 1, 1, 0, .ro, rC, fun _ _ => 0x0⟩
/-- Module address under R321 (R333, Table 10.12). -/
def MOD.RING_UE.addr : Fld := ⟨.MOD, 0x074, 0, 64, 1, 0, .ro, rC, fun _ _ => 0x0⟩

/-- Fields of page MOD, part 1. -/
def MOD.fields1 : List Fld := [ MOD.PART_CFG.halves, MOD.PART_CFG.repeatable, MOD.PART_CFG.pair_en, MOD.PART_CFG.standby, MOD.PART_CFG.replay_max, MOD.PART_CMD.op, MOD.PART_RESULT.result, MOD.PART_STATE.state, MOD.PART_STATE.primary, MOD.PART_STATE.paired, MOD.PART_STATE.causes, MOD.PART_STATE.errors_run, MOD.PART_STEP.step, MOD.PART_WORK.work, MOD.PART_COMMITS.count, MOD.PART_ERRORS.count, MOD.PART_LAST_FAULT.code, MOD.PART_LAST_FAULT_STEP.step, MOD.PAIR_PEER.tile, MOD.PAIR_PEER.valid, MOD.PAIR_CFG.timeout_beats, MOD.PAIR_CFG.tc, MOD.PAIR_CFG.notify_flag, MOD.PAIR_STATUS.partner_present]
/-- Fields of page MOD, part 2. -/
def MOD.fields2 : List Fld := [ MOD.PAIR_STATUS.suppressed, MOD.CTRL.park_on_loss, MOD.CTRL.reclaim_en, MOD.STATUS.driver, MOD.STATUS.rings_lost, MOD.DEVICE_ID.stepping, MOD.DEVICE_ID.device, MOD.IFACE_VER.version, MOD.DRIVER_ATTACH.version, MOD.DRIVER_ATTACH.detach, MOD.DRIVER_ATTACH.go, MOD.DRIVER_VER.version, MOD.HEARTBEAT.any, MOD.HB_AGE.ms, MOD.RECLAIM_LEFT.s, MOD.LOSS_CAUSE.cause, MOD.SERIAL.serial, MOD.HBM.gib, MOD.HBM.stacks, MOD.TILES.tiles, MOD.LINK.rate, MOD.LINK.width, MOD.LINK.flit, MOD.RING_UE.addr]
/-- Every field of page MOD beyond the common header. -/
def MOD.fields : List Fld := MOD.fields1 ++ MOD.fields2

/-! Table 2.4 of spec/02_beat.md, rule R67: page BEAT. -/

/-- Run the beat block (R67, Table 2.4). -/
def BEAT.CTRL.enable : Fld := ⟨.BEAT, 0x010, 0, 1, 1, 0, .rw, rC, fun _ _ => 0x1⟩
/-- 0 MARK, 1 FABRIC; takes effect at the next mark (R67, Table 2.4). -/
def BEAT.CTRL.source : Fld := ⟨.BEAT, 0x010, 1, 1, 1, 0, .rw, rC, fun _ _ => 0x0⟩
/-- 00 follower, 01 root, 10 standalone, 11 reserved (R67, Table 2.4). -/
def BEAT.CTRL.role : Fld := ⟨.BEAT, 0x010, 2, 2, 1, 0, .rw, rC, fun _ _ => 0x0⟩
/-- BEAT_DISAGREE threshold, ns (R67, Table 2.4). -/
def BEAT.CTRL.disagree_ns : Fld := ⟨.BEAT, 0x010, 8, 8, 1, 0, .rw, rC, fun _ _ => 0xA⟩
/-- 0 OFF, 1 ACQUIRE, 2 LOCAL, 3 ALIGNED, 4 HOLDOVER, 5 FREE_RUN (R67, Table 2.4). -/
def BEAT.STATUS.state : Fld := ⟨.BEAT, 0x014, 0, 3, 1, 0, .ro, rC, fun _ _ => 0x0⟩
/-- BEAT_REF edges present (R67, Table 2.4). -/
def BEAT.STATUS.ref_present : Fld := ⟨.BEAT, 0x014, 3, 1, 1, 0, .ro, rC, fun _ _ => 0x0⟩
/-- BEAT_MARK present and not slipped (R67, Table 2.4). -/
def BEAT.STATUS.mark_present : Fld := ⟨.BEAT, 0x014, 4, 1, 1, 0, .ro, rC, fun _ _ => 0x0⟩
/-- Valid alignment exchange within four mark periods (R67, Table 2.4). -/
def BEAT.STATUS.fabric_present : Fld := ⟨.BEAT, 0x014, 5, 1, 1, 0, .ro, rC, fun _ _ => 0x0⟩
/-- Epoch set (R67, Table 2.4). -/
def BEAT.STATUS.epoch_valid : Fld := ⟨.BEAT, 0x014, 6, 1, 1, 0, .ro, rC, fun _ _ => 0x0⟩
/-- Correction in progress (R67, Table 2.4). -/
def BEAT.STATUS.slewing : Fld := ⟨.BEAT, 0x014, 7, 1, 1, 0, .ro, rC, fun _ _ => 0x0⟩
/-- Alignment error bound to root, ns, saturating (R67, Table 2.4). -/
def BEAT.STATUS.err_bound_ns : Fld := ⟨.BEAT, 0x014, 8, 8, 1, 0, .ro, rC, fun _ _ => 0xFF⟩
/-- BEAT.NOW [31:0]; a read latches now_hi (R67, Table 2.4). -/
def BEAT.NOW.now : Fld := ⟨.BEAT, 0x040, 0, 64, 1, 0, .ro, rC, fun _ _ => 0x0⟩
/-- Last mark stamp minus expected beat, signed, 0.25 ns units (R67, Table 2.4). -/
def BEAT.MARK_OFFSET.offset : Fld := ⟨.BEAT, 0x048, 0, 16, 1, 0, .ro, rC, fun _ _ => 0x0⟩
/-- Parent count minus own count, signed, 0.25 ns units (R67, Table 2.4). -/
def BEAT.FABRIC_OFFSET.offset : Fld := ⟨.BEAT, 0x04C, 0, 16, 1, 0, .ro, rC, fun _ _ => 0x0⟩
/-- Measured one-way delay to parent, ns (R67, Table 2.4). -/
def BEAT.PATH_DELAY.delay_ns : Fld := ⟨.BEAT, 0x050, 0, 24, 1, 0, .ro, rC, fun _ _ => 0x0⟩
/-- Global tile number of the alignment root (R67, Table 2.4). -/
def BEAT.ROOT_ID.root_tile : Fld := ⟨.BEAT, 0x054, 0, 18, 1, 0, .ro, rC, fun _ _ => 0x0⟩
/-- root_tile is valid (R67, Table 2.4). -/
def BEAT.ROOT_ID.valid : Fld := ⟨.BEAT, 0x054, 31, 1, 1, 0, .ro, rC, fun _ _ => 0x0⟩
/-- Mark slips, saturating (R67, Table 2.4). -/
def BEAT.SLIPS.mark_slips : Fld := ⟨.BEAT, 0x058, 0, 16, 1, 0, .rc, rC, fun _ _ => 0x0⟩
/-- BEAT_REF losses, saturating (R67, Table 2.4). -/
def BEAT.SLIPS.ref_losses : Fld := ⟨.BEAT, 0x058, 16, 16, 1, 0, .rc, rC, fun _ _ => 0x0⟩
/-- µs since entering FREE_RUN; 0 in other states (R67, Table 2.4). -/
def BEAT.FREE_RUN_TIME.time_us : Fld := ⟨.BEAT, 0x05C, 0, 32, 1, 0, .ro, rC, fun _ _ => 0x0⟩
/-- Epoch value [31:0]; bits [19:0] must be 0 (R67, Table 2.4). -/
def BEAT.SET.set : Fld := ⟨.BEAT, 0x060, 0, 64, 1, 0, .rw, rC, fun _ _ => 0x0⟩
/-- Load SET_HI:SET_LO at the next mark under R46 (R67, Table 2.4). -/
def BEAT.SET_CMD.go : Fld := ⟨.BEAT, 0x068, 0, 1, 1, 0, .wo, rNone, fun _ _ => 0x0⟩

/-- Fields of page BEAT, part 1. -/
def BEAT.fields1 : List Fld := [BEAT.CTRL.enable, BEAT.CTRL.source, BEAT.CTRL.role, BEAT.CTRL.disagree_ns, BEAT.STATUS.state, BEAT.STATUS.ref_present, BEAT.STATUS.mark_present, BEAT.STATUS.fabric_present, BEAT.STATUS.epoch_valid, BEAT.STATUS.slewing, BEAT.STATUS.err_bound_ns, BEAT.NOW.now, BEAT.MARK_OFFSET.offset, BEAT.FABRIC_OFFSET.offset, BEAT.PATH_DELAY.delay_ns, BEAT.ROOT_ID.root_tile, BEAT.ROOT_ID.valid, BEAT.SLIPS.mark_slips, BEAT.SLIPS.ref_losses, BEAT.FREE_RUN_TIME.time_us, BEAT.SET.set, BEAT.SET_CMD.go]
/-- Every field of page BEAT beyond the common header. -/
def BEAT.fields : List Fld := BEAT.fields1

/-! Table 2.5 of spec/02_beat.md, rule R68: page SCHED. -/

/-- Bit n of ARMEDk: slot 32k + n is armed (R68, Table 2.5). -/
def SCHED.ARMED.armed : Fld := ⟨.SCHED, 0x040, 0, 32, 3, 4, .ro, rC, fun _ _ => 0x0⟩
/-- Bit n of FIREDk: slot 32k + n has fired since the bit was cleared (R68, Table 2.5). -/
def SCHED.FIRED.fired : Fld := ⟨.SCHED, 0x04C, 0, 32, 3, 4, .w1c, rC, fun _ _ => 0x0⟩
/-- Refused writes, saturating (R68, Table 2.5). -/
def SCHED.REJECTS.count : Fld := ⟨.SCHED, 0x058, 0, 16, 1, 0, .rc, rC, fun _ _ => 0x0⟩
/-- Slot of the last refusal; 0xFF for SET_CMD (R68, Table 2.5). -/
def SCHED.REJECTS.last_slot : Fld := ⟨.SCHED, 0x058, 16, 8, 1, 0, .rc, rC, fun _ _ => 0x0⟩
/-- Reason code as in RESULT.state; for SET_CMD, the reason of R46 (R68, Table 2.5). -/
def SCHED.REJECTS.last_reason : Fld := ⟨.SCHED, 0x058, 24, 3, 1, 0, .rc, rC, fun _ _ => 0x0⟩
/-- Largest firing delay observed, ns (R68, Table 2.5). -/
def SCHED.LATE_MAX.delay_ns : Fld := ⟨.SCHED, 0x05C, 0, 8, 1, 0, .rc, rC, fun _ _ => 0x0⟩
/-- Minimum arm lead, beats (1,000) (R68, Table 2.5). -/
def SCHED.MIN_LEAD.lead : Fld := ⟨.SCHED, 0x060, 0, 16, 1, 0, .ro, rNone, fun _ _ => 0x3E8⟩
/-! Table 2.6 of spec/02_beat.md, rule R69: page SCHED. -/

/-- Target beat [31:0] (R69, Table 2.6). -/
def SCHED.SLOT_TARGET.target : Fld := ⟨.SCHED, 0x400, 0, 64, 96, 32, .rw, rC, fun _ _ => 0x0⟩
/-- 0 one-shot; otherwise 1,000 to 4,294,967,295 beats (R69, Table 2.6). -/
def SCHED.SLOT_PERIOD.period : Fld := ⟨.SCHED, 0x408, 0, 32, 96, 32, .rw, rC, fun _ _ => 0x0⟩
/-- 1 arm, 0 disarm (R69, Table 2.6). -/
def SCHED.SLOT_CTL.arm : Fld := ⟨.SCHED, 0x40C, 0, 1, 96, 32, .rw, rC, fun _ _ => 0x0⟩
/-- 00 module, 01 tile, 10 partition, 11 reserved (R69, Table 2.6). -/
def SCHED.SLOT_CTL.owner_kind : Fld := ⟨.SCHED, 0x40C, 4, 2, 96, 32, .rw, rC, fun _ _ => 0x0⟩
/-- Tile 0–7 or partition 0–15; 0 for module (R69, Table 2.6). -/
def SCHED.SLOT_CTL.owner : Fld := ⟨.SCHED, 0x40C, 8, 8, 96, 32, .rw, rC, fun _ _ => 0x0⟩
/-- Action code of Table 2.3; 0x00 none (R69, Table 2.6). -/
def SCHED.SLOT_CTL.action : Fld := ⟨.SCHED, 0x40C, 16, 8, 96, 32, .rw, rC, fun _ _ => 0x0⟩
/-- Action parameter per Table 2.3 (R69, Table 2.6). -/
def SCHED.SLOT_PARAM0.param0 : Fld := ⟨.SCHED, 0x410, 0, 32, 96, 32, .rw, rC, fun _ _ => 0x0⟩
/-- Action parameter per Table 2.3; step number for STEP_BOUNDARY (R69, Table 2.6). -/
def SCHED.SLOT_PARAM1.param1 : Fld := ⟨.SCHED, 0x414, 0, 32, 96, 32, .rw, rC, fun _ _ => 0x0⟩
/-- 0 idle, 1 armed, 2 fired, 3 cancelled, 4 refused LATE, 5 refused OWNER, 6 refused BUSY, 7 refused FORMAT (R54) (R69, Table 2.6). -/
def SCHED.SLOT_RESULT.state : Fld := ⟨.SCHED, 0x418, 0, 3, 96, 32, .ro, rC, fun _ _ => 0x0⟩
/-- Firing delay of the last firing, 0–8 ns (R69, Table 2.6). -/
def SCHED.SLOT_RESULT.delay_ns : Fld := ⟨.SCHED, 0x418, 8, 8, 96, 32, .ro, rC, fun _ _ => 0x0⟩
/-- Firings, saturating (R69, Table 2.6). -/
def SCHED.SLOT_COUNT.count : Fld := ⟨.SCHED, 0x41C, 0, 32, 96, 32, .ro, rC, fun _ _ => 0x0⟩

/-- Fields of page SCHED, part 1. -/
def SCHED.fields1 : List Fld := [SCHED.ARMED.armed, SCHED.FIRED.fired, SCHED.REJECTS.count, SCHED.REJECTS.last_slot, SCHED.REJECTS.last_reason, SCHED.LATE_MAX.delay_ns, SCHED.MIN_LEAD.lead, SCHED.SLOT_TARGET.target, SCHED.SLOT_PERIOD.period, SCHED.SLOT_CTL.arm, SCHED.SLOT_CTL.owner_kind, SCHED.SLOT_CTL.owner, SCHED.SLOT_CTL.action, SCHED.SLOT_PARAM0.param0, SCHED.SLOT_PARAM1.param1, SCHED.SLOT_RESULT.state, SCHED.SLOT_RESULT.delay_ns, SCHED.SLOT_COUNT.count]
/-- Every field of page SCHED beyond the common header. -/
def SCHED.fields : List Fld := SCHED.fields1

/-! Table 10.13 of spec/10_host.md, rule R334: page HOSTQ. -/

/-- Read the command ring; cleared under R312 and R326 (R334, Table 10.13). -/
def HOSTQ.RCTRL.enable : Fld := ⟨.HOSTQ, 0x040, 0, 1, 8, 64, .rw, rC, fun _ _ => 0x0⟩
/-- R327 (R334, Table 10.13). -/
def HOSTQ.RCTRL.reset : Fld := ⟨.HOSTQ, 0x040, 1, 1, 8, 64, .wo, rNone, fun _ _ => 0x0⟩
/-- Owner partition (R311) (R334, Table 10.13). -/
def HOSTQ.RCTRL.owner : Fld := ⟨.HOSTQ, 0x040, 2, 4, 8, 64, .rw, rC, fun _ _ => 0x0⟩
/-- R332 (R334, Table 10.13). -/
def HOSTQ.RCTRL.irq_en : Fld := ⟨.HOSTQ, 0x040, 6, 1, 8, 64, .rw, rC, fun _ _ => 0x0⟩
/-- MSI-X vector (R334, Table 10.13). -/
def HOSTQ.RCTRL.vector : Fld := ⟨.HOSTQ, 0x040, 7, 6, 8, 64, .rw, rC, fun _ _ => 0x0⟩
/-- 0–4,095 µs (R334, Table 10.13). -/
def HOSTQ.RCTRL.coalesce_us : Fld := ⟨.HOSTQ, 0x040, 16, 12, 8, 64, .rw, rC, fun _ _ => 0x0⟩
/-- Ring being served (R334, Table 10.13). -/
def HOSTQ.RSTATUS.reading : Fld := ⟨.HOSTQ, 0x044, 0, 1, 8, 64, .ro, rC, fun _ _ => 0x0⟩
/-- 0 none, 1 tail out of range, 2 base or size invalid (R334, Table 10.13). -/
def HOSTQ.RSTATUS.fault : Fld := ⟨.HOSTQ, 0x044, 1, 2, 8, 64, .ro, rC, fun _ _ => 0x0⟩
/-- BAR2 offset of the command ring (R334, Table 10.13). -/
def HOSTQ.CMD_BASE.base : Fld := ⟨.HOSTQ, 0x048, 12, 18, 8, 64, .rw, rC, fun _ _ => 0x0⟩
/-- s, 4–16 (R334, Table 10.13). -/
def HOSTQ.CMD_SIZE.log2 : Fld := ⟨.HOSTQ, 0x04C, 0, 5, 8, 64, .rw, rC, fun _ _ => 0x4⟩
/-- Doorbell (R334, Table 10.13). -/
def HOSTQ.CMD_TAIL.tail : Fld := ⟨.HOSTQ, 0x050, 0, 16, 8, 64, .rw, rC, fun _ _ => 0x0⟩
/-- Next entry HOSTIF reads (R334, Table 10.13). -/
def HOSTQ.CMD_HEAD.head : Fld := ⟨.HOSTQ, 0x054, 0, 16, 8, 64, .ro, rC, fun _ _ => 0x0⟩
/-- BAR2 offset of the completion ring (R334, Table 10.13). -/
def HOSTQ.CMP_BASE.base : Fld := ⟨.HOSTQ, 0x058, 12, 18, 8, 64, .rw, rC, fun _ _ => 0x0⟩
/-- s, 4–16 (R334, Table 10.13). -/
def HOSTQ.CMP_SIZE.log2 : Fld := ⟨.HOSTQ, 0x05C, 0, 5, 8, 64, .rw, rC, fun _ _ => 0x4⟩
/-- Next entry HOSTIF writes (R334, Table 10.13). -/
def HOSTQ.CMP_TAIL.tail : Fld := ⟨.HOSTQ, 0x060, 0, 16, 8, 64, .ro, rC, fun _ _ => 0x0⟩
/-- Next entry the host consumes (R334, Table 10.13). -/
def HOSTQ.CMP_HEAD.head : Fld := ⟨.HOSTQ, 0x064, 0, 16, 8, 64, .rw, rC, fun _ _ => 0x0⟩
/-- Commands read and not yet completed (R334, Table 10.13). -/
def HOSTQ.OUTSTANDING.count : Fld := ⟨.HOSTQ, 0x068, 0, 17, 8, 64, .ro, rC, fun _ _ => 0x0⟩
/-- Completions written, saturating (R334, Table 10.13). -/
def HOSTQ.DONE.count : Fld := ⟨.HOSTQ, 0x06C, 0, 32, 8, 64, .ro, rC, fun _ _ => 0x0⟩
/-- Page 0x0008 only: event ring offset (R334, Table 10.13). -/
def HOSTQ.EVT_BASE.base : Fld := ⟨.HOSTQ, 0x300, 12, 18, 1, 0, .rw, rC, fun _ _ => 0x0⟩
/-- s, 4–16 (R334, Table 10.13). -/
def HOSTQ.EVT_SIZE.log2 : Fld := ⟨.HOSTQ, 0x304, 0, 5, 1, 0, .rw, rC, fun _ _ => 0x4⟩
/-- Next entry written (R334, Table 10.13). -/
def HOSTQ.EVT_TAIL.tail : Fld := ⟨.HOSTQ, 0x308, 0, 16, 1, 0, .ro, rC, fun _ _ => 0x0⟩
/-- Next entry the host consumes (R334, Table 10.13). -/
def HOSTQ.EVT_HEAD.head : Fld := ⟨.HOSTQ, 0x30C, 0, 16, 1, 0, .rw, rC, fun _ _ => 0x0⟩
/-- R330 (R334, Table 10.13). -/
def HOSTQ.EVT_CTRL.enable : Fld := ⟨.HOSTQ, 0x310, 0, 1, 1, 0, .rw, rC, fun _ _ => 0x0⟩
/-- MSI-X vector (R334, Table 10.13). -/
def HOSTQ.EVT_CTRL.vector : Fld := ⟨.HOSTQ, 0x310, 1, 6, 1, 0, .rw, rC, fun _ _ => 0x0⟩
/-- R332 (R334, Table 10.13). -/
def HOSTQ.EVT_CTRL.coalesce_us : Fld := ⟨.HOSTQ, 0x310, 16, 12, 1, 0, .rw, rC, fun _ _ => 0x0⟩
/-- R331 (R334, Table 10.13). -/
def HOSTQ.EVT_DROPPED.count : Fld := ⟨.HOSTQ, 0x314, 0, 32, 1, 0, .rc, rC, fun _ _ => 0x0⟩
/-- Log ring offset, 1 MiB units (R334, Table 10.13). -/
def HOSTQ.LOG_BASE.base : Fld := ⟨.HOSTQ, 0x320, 20, 10, 1, 0, .rw, rC, fun _ _ => 0x0⟩
/-- Byte offset of the next log write (R334, Table 10.13). -/
def HOSTQ.LOG_TAIL.offset : Fld := ⟨.HOSTQ, 0x324, 0, 20, 1, 0, .ro, rC, fun _ _ => 0x0⟩
/-- Log ring wraps, saturating (R334, Table 10.13). -/
def HOSTQ.LOG_WRAPS.count : Fld := ⟨.HOSTQ, 0x328, 0, 32, 1, 0, .ro, rC, fun _ _ => 0x0⟩
/-- Staging area offset (R334, Table 10.13). -/
def HOSTQ.STAGE_BASE.base : Fld := ⟨.HOSTQ, 0x330, 12, 18, 1, 0, .rw, rC, fun _ _ => 0x0⟩
/-- Staging size in 4 KiB units (R334, Table 10.13). -/
def HOSTQ.STAGE_SIZE.pages : Fld := ⟨.HOSTQ, 0x334, 0, 17, 1, 0, .rw, rC, fun _ _ => 0x0⟩

/-- Fields of page HOSTQ, part 1. -/
def HOSTQ.fields1 : List Fld := [HOSTQ.RCTRL.enable, HOSTQ.RCTRL.reset, HOSTQ.RCTRL.owner, HOSTQ.RCTRL.irq_en, HOSTQ.RCTRL.vector, HOSTQ.RCTRL.coalesce_us, HOSTQ.RSTATUS.reading, HOSTQ.RSTATUS.fault, HOSTQ.CMD_BASE.base, HOSTQ.CMD_SIZE.log2, HOSTQ.CMD_TAIL.tail, HOSTQ.CMD_HEAD.head, HOSTQ.CMP_BASE.base, HOSTQ.CMP_SIZE.log2, HOSTQ.CMP_TAIL.tail, HOSTQ.CMP_HEAD.head, HOSTQ.OUTSTANDING.count, HOSTQ.DONE.count, HOSTQ.EVT_BASE.base, HOSTQ.EVT_SIZE.log2, HOSTQ.EVT_TAIL.tail, HOSTQ.EVT_HEAD.head, HOSTQ.EVT_CTRL.enable, HOSTQ.EVT_CTRL.vector]
/-- Fields of page HOSTQ, part 2. -/
def HOSTQ.fields2 : List Fld := [HOSTQ.EVT_CTRL.coalesce_us, HOSTQ.EVT_DROPPED.count, HOSTQ.LOG_BASE.base, HOSTQ.LOG_TAIL.offset, HOSTQ.LOG_WRAPS.count, HOSTQ.STAGE_BASE.base, HOSTQ.STAGE_SIZE.pages]
/-- Every field of page HOSTQ beyond the common header. -/
def HOSTQ.fields : List Fld := HOSTQ.fields1 ++ HOSTQ.fields2

/-! Table 12.12 of spec/12_power.md, rule R422: page PWR. -/

/-- Tightrope (R414) (R422, Table 12.12). -/
def PWR.CTRL.tr_en : Fld := ⟨.PWR, 0x010, 0, 1, 1, 0, .rw, rC, fun _ _ => 0x1⟩
/-- Bandwidth-bound downclock (R402) (R422, Table 12.12). -/
def PWR.CTRL.bw_en : Fld := ⟨.PWR, 0x010, 1, 1, 1, 0, .rw, rC, fun _ _ => 0x1⟩
/-- 0 STANDBY, 1 SEQ_UP, 2 ON, 3 SEQ_DOWN, 4 HELD, 5 CUT (R422, Table 12.12). -/
def PWR.STATUS.state : Fld := ⟨.PWR, 0x014, 0, 3, 1, 0, .ro, rC, fun _ _ => 0x0⟩
/-- R411 (R422, Table 12.12). -/
def PWR.STATUS.cap_unreachable : Fld := ⟨.PWR, 0x014, 3, 1, 1, 0, .ro, rC, fun _ _ => 0x0⟩
/-- A tile has a reason other than BW_BOUND (R422, Table 12.12). -/
def PWR.STATUS.throttling : Fld := ⟨.PWR, 0x014, 4, 1, 1, 0, .ro, rC, fun _ _ => 0x0⟩
/-- A tile skips clocks (R422, Table 12.12). -/
def PWR.STATUS.skipping : Fld := ⟨.PWR, 0x014, 5, 1, 1, 0, .ro, rC, fun _ _ => 0x0⟩
/-- R406, R393 (R422, Table 12.12). -/
def PWR.CAP_RACK.limit_w : Fld := ⟨.PWR, 0x040, 0, 16, 1, 0, .rw, rC, fun _ _ => 0x12C0⟩
/-- R406, R407; default 4,800 (R422, Table 12.12). -/
def PWR.CAP_HOST.limit_w : Fld := ⟨.PWR, 0x044, 0, 16, 1, 0, .rw, rC, fun _ _ => 0x12C0⟩
/-- R406 (R422, Table 12.12). -/
def PWR.CAP_THERMAL.limit_w : Fld := ⟨.PWR, 0x048, 0, 16, 1, 0, .ro, rC, fun _ _ => 0x12C0⟩
/-- R406 (R422, Table 12.12). -/
def PWR.CAP_SAFETY.limit_w : Fld := ⟨.PWR, 0x04C, 0, 16, 1, 0, .ro, rC, fun _ _ => 0x12C0⟩
/-- Effective cap (R422, Table 12.12). -/
def PWR.CAP_MODULE.limit_w : Fld := ⟨.PWR, 0x050, 0, 16, 1, 0, .ro, rC, fun _ _ => 0x12C0⟩
/-- 0 rack, 1 host, 2 thermal, 3 safety; all caps are equal after reset, so safety is named (R406) (R422, Table 12.12). -/
def PWR.CAP_MODULE.source : Fld := ⟨.PWR, 0x050, 16, 2, 1, 0, .ro, rC, fun _ _ => 0x3⟩
/-- 1 ms average, all rails (R422, Table 12.12). -/
def PWR.MODULE_POWER.w : Fld := ⟨.PWR, 0x054, 0, 16, 1, 0, .ro, rC, fun _ _ => 0x0⟩
/-- P_nontile of R408 (R422, Table 12.12). -/
def PWR.MODULE_POWER.nontile_w : Fld := ⟨.PWR, 0x054, 16, 16, 1, 0, .ro, rC, fun _ _ => 0x0⟩
/-- R408; default 40 (R422, Table 12.12). -/
def PWR.GUARD.guard_w : Fld := ⟨.PWR, 0x058, 0, 16, 1, 0, .rw, rC, fun _ _ => 0x28⟩
/-- G in 1/16 units; default 0x80 (R422, Table 12.12). -/
def PWR.GAIN.gain : Fld := ⟨.PWR, 0x05C, 0, 8, 1, 0, .rw, rC, fun _ _ => 0x80⟩
/-- Issue floor in 1/16 units, 1–15; default 4 (R422, Table 12.12). -/
def PWR.GAIN.u_min : Fld := ⟨.PWR, 0x05C, 8, 4, 1, 0, .rw, rC, fun _ _ => 0x4⟩
/-- R392 (R422, Table 12.12). -/
def PWR.RACK.hold : Fld := ⟨.PWR, 0x060, 0, 1, 1, 0, .ro, rC, fun _ _ => 0x0⟩
/-- Grace time of the last order (R422, Table 12.12). -/
def PWR.RACK.grace_ms : Fld := ⟨.PWR, 0x060, 16, 16, 1, 0, .ro, rC, fun _ _ => 0x0⟩
/-- 1 off, 2 release (R422, Table 12.12). -/
def PWR.RACK_CMD.op : Fld := ⟨.PWR, 0x064, 0, 2, 1, 0, .wo, rNone, fun _ _ => 0x0⟩
/-- 0–60,000 (R422, Table 12.12). -/
def PWR.RACK_CMD.grace_ms : Fld := ⟨.PWR, 0x064, 16, 16, 1, 0, .wo, rNone, fun _ _ => 0x0⟩
/-- 1 UP, 2 DOWN (R422, Table 12.12). -/
def PWR.CMD.op : Fld := ⟨.PWR, 0x068, 0, 2, 1, 0, .wo, rNone, fun _ _ => 0x0⟩
/-- 0 idle, 1 running, 2 done, 3 refused BUSY, 4 refused STATE, 5 failed (R422, Table 12.12). -/
def PWR.CMD_RESULT.result : Fld := ⟨.PWR, 0x06C, 0, 3, 1, 0, .ro, rC, fun _ _ => 0x0⟩
/-- Locked point; default PS2 (R422, Table 12.12). -/
def PWR.LOCK.ps : Fld := ⟨.PWR, 0x070, 0, 3, 1, 0, .rw, rC, fun _ _ => 0x2⟩
/-- %; default 50 (R422, Table 12.12). -/
def PWR.BW_CFG.busy_low : Fld := ⟨.PWR, 0x074, 0, 8, 1, 0, .rw, rC, fun _ _ => 0x32⟩
/-- %; default 75 (R422, Table 12.12). -/
def PWR.BW_CFG.busy_high : Fld := ⟨.PWR, 0x074, 8, 8, 1, 0, .rw, rC, fun _ _ => 0x4B⟩
/-- %; default 90 (R422, Table 12.12). -/
def PWR.BW_CFG.slots : Fld := ⟨.PWR, 0x074, 16, 8, 1, 0, .rw, rC, fun _ _ => 0x5A⟩
/-- W per pass; default 40 (R422, Table 12.12). -/
def PWR.TR_CFG.shift_w : Fld := ⟨.PWR, 0x078, 0, 8, 1, 0, .rw, rC, fun _ _ => 0x28⟩
/-- 0.1 % units; default 20 (R422, Table 12.12). -/
def PWR.TR_CFG.thresh : Fld := ⟨.PWR, 0x078, 8, 8, 1, 0, .rw, rC, fun _ _ => 0x14⟩
/-- %; default 5 (R422, Table 12.12). -/
def PWR.TR_CFG.margin : Fld := ⟨.PWR, 0x078, 16, 8, 1, 0, .rw, rC, fun _ _ => 0x5⟩
/-- Default 450 (R422, Table 12.12). -/
def PWR.TR_MAX.tile_max_w : Fld := ⟨.PWR, 0x07C, 0, 16, 1, 0, .rw, rC, fun _ _ => 0x1C2⟩
/-- Budget of CTt (R422, Table 12.12). -/
def PWR.TILE_BUDGET.w : Fld := ⟨.PWR, 0x100, 0, 16, 8, 32, .ro, rC, fun _ _ => 0x0⟩
/-- 1 ms average (R422, Table 12.12). -/
def PWR.TILE_POWER.avg_w : Fld := ⟨.PWR, 0x104, 0, 16, 8, 32, .ro, rC, fun _ _ => 0x0⟩
/-- Active power, R403 (R422, Table 12.12). -/
def PWR.TILE_POWER.active_w : Fld := ⟨.PWR, 0x104, 16, 16, 8, 32, .ro, rC, fun _ _ => 0x0⟩
/-- Granted point (R422, Table 12.12). -/
def PWR.TILE_PS.ps : Fld := ⟨.PWR, 0x108, 0, 3, 8, 32, .ro, rC, fun _ _ => 0x7⟩
/-- R400 (R422, Table 12.12). -/
def PWR.TILE_PS.ceiling : Fld := ⟨.PWR, 0x108, 4, 3, 8, 32, .rw, rC, fun _ _ => 0x0⟩
/-- u in 1/16 units, minus 1 (R422, Table 12.12). -/
def PWR.TILE_PS.issue : Fld := ⟨.PWR, 0x108, 8, 4, 8, 32, .ro, rC, fun _ _ => 0xF⟩
/-- Skip duty in 1/16 units, minus 1 (R422, Table 12.12). -/
def PWR.TILE_PS.duty : Fld := ⟨.PWR, 0x108, 12, 4, 8, 32, .ro, rC, fun _ _ => 0xF⟩
/-- Table 12.7 (R422, Table 12.12). -/
def PWR.TILE_REASONS.reasons : Fld := ⟨.PWR, 0x10C, 0, 9, 8, 32, .ro, rC, fun _ _ => 0x0⟩
/-- Signed; received positive (R422, Table 12.12). -/
def PWR.TILE_TR.shift_w : Fld := ⟨.PWR, 0x110, 0, 16, 8, 32, .ro, rC, fun _ _ => 0x0⟩
/-- Last pass (R422, Table 12.12). -/
def PWR.TILE_TR.receiver : Fld := ⟨.PWR, 0x110, 16, 1, 8, 32, .ro, rC, fun _ _ => 0x0⟩
/-- Last pass (R422, Table 12.12). -/
def PWR.TILE_TR.donor : Fld := ⟨.PWR, 0x110, 17, 1, 8, 32, .ro, rC, fun _ _ => 0x0⟩
/-- Last pass (R422, Table 12.12). -/
def PWR.TILE_TR.at_limit : Fld := ⟨.PWR, 0x110, 18, 1, 8, 32, .ro, rC, fun _ _ => 0x0⟩
/-- Mean lateness of the last pass, 0.1 % units (R422, Table 12.12). -/
def PWR.TILE_LATE.late : Fld := ⟨.PWR, 0x114, 0, 16, 8, 32, .ro, rC, fun _ _ => 0x0⟩
/-- Stretched steps, saturating (R422, Table 12.12). -/
def PWR.TILE_STRETCH.stretched : Fld := ⟨.PWR, 0x118, 0, 16, 8, 32, .rc, rC, fun _ _ => 0x0⟩
/-- STEP_OVERRUN steps, saturating (R422, Table 12.12). -/
def PWR.TILE_STRETCH.overrun : Fld := ⟨.PWR, 0x118, 16, 16, 8, 32, .rc, rC, fun _ _ => 0x0⟩
/-- Tile for THR_TIME (R422, Table 12.12). -/
def PWR.THR_SEL.tile : Fld := ⟨.PWR, 0x200, 0, 3, 1, 0, .rw, rC, fun _ _ => 0x0⟩
/-- Reason bit of Table 12.7 (R422, Table 12.12). -/
def PWR.THR_SEL.reason : Fld := ⟨.PWR, 0x200, 8, 4, 1, 0, .rw, rC, fun _ _ => 0x0⟩
/-- Accumulated µs; a LO read latches HI (R422, Table 12.12). -/
def PWR.THR_TIME.us : Fld := ⟨.PWR, 0x204, 0, 64, 1, 0, .ro, rC, fun _ _ => 0x0⟩
/-- THROTTLE_START episodes of the selected tile, saturating (R422, Table 12.12). -/
def PWR.THR_EPISODES.count : Fld := ⟨.PWR, 0x20C, 0, 32, 1, 0, .ro, rC, fun _ _ => 0x0⟩
/-- Set k = 0–3: budgets of CT(2j) and CT(2j + 1), j = 0–3 (R422, Table 12.12). -/
def PWR.SET.w : Fld := ⟨.PWR, 0x300, 0, 16, 32, 2, .rw, rC, fun _ _ => 0x0⟩

/-- Fields of page PWR, part 1. -/
def PWR.fields1 : List Fld := [PWR.CTRL.tr_en, PWR.CTRL.bw_en, PWR.STATUS.state, PWR.STATUS.cap_unreachable, PWR.STATUS.throttling, PWR.STATUS.skipping, PWR.CAP_RACK.limit_w, PWR.CAP_HOST.limit_w, PWR.CAP_THERMAL.limit_w, PWR.CAP_SAFETY.limit_w, PWR.CAP_MODULE.limit_w, PWR.CAP_MODULE.source, PWR.MODULE_POWER.w, PWR.MODULE_POWER.nontile_w, PWR.GUARD.guard_w, PWR.GAIN.gain, PWR.GAIN.u_min, PWR.RACK.hold, PWR.RACK.grace_ms, PWR.RACK_CMD.op, PWR.RACK_CMD.grace_ms, PWR.CMD.op, PWR.CMD_RESULT.result, PWR.LOCK.ps]
/-- Fields of page PWR, part 2. -/
def PWR.fields2 : List Fld := [PWR.BW_CFG.busy_low, PWR.BW_CFG.busy_high, PWR.BW_CFG.slots, PWR.TR_CFG.shift_w, PWR.TR_CFG.thresh, PWR.TR_CFG.margin, PWR.TR_MAX.tile_max_w, PWR.TILE_BUDGET.w, PWR.TILE_POWER.avg_w, PWR.TILE_POWER.active_w, PWR.TILE_PS.ps, PWR.TILE_PS.ceiling, PWR.TILE_PS.issue, PWR.TILE_PS.duty, PWR.TILE_REASONS.reasons, PWR.TILE_TR.shift_w, PWR.TILE_TR.receiver, PWR.TILE_TR.donor, PWR.TILE_TR.at_limit, PWR.TILE_LATE.late, PWR.TILE_STRETCH.stretched, PWR.TILE_STRETCH.overrun, PWR.THR_SEL.tile, PWR.THR_SEL.reason]
/-- Fields of page PWR, part 3. -/
def PWR.fields3 : List Fld := [PWR.THR_TIME.us, PWR.THR_EPISODES.count, PWR.SET.w]
/-- Every field of page PWR beyond the common header. -/
def PWR.fields : List Fld := PWR.fields1 ++ PWR.fields2 ++ PWR.fields3

/-! Table 12.13 of spec/12_power.md, rule R423: page RAIL. -/

/-- 0.1 A; R394 (R423, Table 12.13). -/
def RAIL.LIM_1MS.a10 : Fld := ⟨.RAIL, 0x040, 0, 16, 8, 64, .rw, rC, fun i j => railLim1ms (8 * i + j)⟩
/-- 0.1 A (R423, Table 12.13). -/
def RAIL.LIM_20US.a10 : Fld := ⟨.RAIL, 0x044, 0, 16, 8, 64, .rw, rC, fun i j => railLim20us (8 * i + j)⟩
/-- 0.1 A (R423, Table 12.13). -/
def RAIL.LIM_2US.a10 : Fld := ⟨.RAIL, 0x048, 0, 16, 8, 64, .rw, rC, fun i j => railLim2us (8 * i + j)⟩
/-- 0 off, 1 ramping, 2 good, 3 window missed, 4 cut (R423, Table 12.13). -/
def RAIL.STATUS.state : Fld := ⟨.RAIL, 0x04C, 0, 3, 8, 64, .ro, rC, fun _ _ => 0x0⟩
/-- A window exceeded (R423, Table 12.13). -/
def RAIL.STATUS.limiting : Fld := ⟨.RAIL, 0x04C, 3, 1, 8, 64, .ro, rC, fun _ _ => 0x0⟩
/-- 1 ms average at the lands (R423, Table 12.13). -/
def RAIL.V.mv : Fld := ⟨.RAIL, 0x050, 0, 16, 8, 64, .ro, rC, fun _ _ => 0x0⟩
/-- 1 ms average, 0.1 A (R423, Table 12.13). -/
def RAIL.I.a10 : Fld := ⟨.RAIL, 0x054, 0, 16, 8, 64, .ro, rC, fun _ _ => 0x0⟩
/-- Highest 2 µs average since read (R423, Table 12.13). -/
def RAIL.I_PEAK.a10 : Fld := ⟨.RAIL, 0x058, 0, 16, 8, 64, .rc, rC, fun _ _ => 0x0⟩
/-- 2 µs and 20 µs exceedances, saturating (R423, Table 12.13). -/
def RAIL.LIMIT_EVENTS.fast : Fld := ⟨.RAIL, 0x05C, 0, 16, 8, 64, .rc, rC, fun _ _ => 0x0⟩
/-- 1 ms exceedances, saturating (R423, Table 12.13). -/
def RAIL.LIMIT_EVENTS.slow : Fld := ⟨.RAIL, 0x05C, 16, 16, 8, 64, .rc, rC, fun _ _ => 0x0⟩
/-- Rail energy; a LO read latches HI (R423, Table 12.13). -/
def RAIL.ENERGY.mj : Fld := ⟨.RAIL, 0x060, 0, 64, 8, 64, .ro, rC, fun _ _ => 0x0⟩
/-- PMBus address (R423, Table 12.13). -/
def RAIL.CFG.address : Fld := ⟨.RAIL, 0x068, 0, 7, 8, 64, .ro, rC, fun i j => railPmbusAddress (8 * i + j)⟩
/-- TW0–TW3 (R423, Table 12.13). -/
def RAIL.CFG.port : Fld := ⟨.RAIL, 0x068, 8, 2, 8, 64, .ro, rC, fun i j => railPort (8 * i + j)⟩
/-- PMBus page (R423, Table 12.13). -/
def RAIL.CFG.page : Fld := ⟨.RAIL, 0x068, 16, 8, 8, 64, .ro, rC, fun i j => railPmbusPage (8 * i + j)⟩
/-- Up group (R423, Table 12.13). -/
def RAIL.CFG.group : Fld := ⟨.RAIL, 0x068, 24, 3, 8, 64, .ro, rC, fun i j => railGroup (8 * i + j)⟩
/-- Target; VCORE_t shows the granted point's voltage (R423, Table 12.13). -/
def RAIL.NOMINAL.mv : Fld := ⟨.RAIL, 0x06C, 0, 16, 8, 64, .ro, rC, fun i j => railNominalMv (8 * i + j)⟩
/-- 0.1 A (R423, Table 12.13). -/
def RAIL.FULL_SCALE.a10 : Fld := ⟨.RAIL, 0x070, 0, 16, 8, 64, .ro, rNone, fun i j => 2 * railLim1ms (8 * i + j)⟩

/-- Fields of page RAIL, part 1. -/
def RAIL.fields1 : List Fld := [RAIL.LIM_1MS.a10, RAIL.LIM_20US.a10, RAIL.LIM_2US.a10, RAIL.STATUS.state, RAIL.STATUS.limiting, RAIL.V.mv, RAIL.I.a10, RAIL.I_PEAK.a10, RAIL.LIMIT_EVENTS.fast, RAIL.LIMIT_EVENTS.slow, RAIL.ENERGY.mj, RAIL.CFG.address, RAIL.CFG.port, RAIL.CFG.page, RAIL.CFG.group, RAIL.NOMINAL.mv, RAIL.FULL_SCALE.a10]
/-- Every field of page RAIL beyond the common header. -/
def RAIL.fields : List Fld := RAIL.fields1

/-! Table 12.14 of spec/12_power.md, rule R424: page ENERGY. -/

/-- Partition PTn, n = 0–15 (R424, Table 12.14). -/
def ENERGY.PART.mj : Fld := ⟨.ENERGY, 0x040, 0, 64, 16, 8, .ro, rC, fun _ _ => 0x0⟩
/-- Command ring n, n = 0–63 (R418) (R424, Table 12.14). -/
def ENERGY.RING.mj : Fld := ⟨.ENERGY, 0x100, 0, 64, 64, 8, .ro, rC, fun _ _ => 0x0⟩
/-- All 52 rails (R424, Table 12.14). -/
def ENERGY.MODULE.mj : Fld := ⟨.ENERGY, 0x300, 0, 64, 1, 0, .ro, rC, fun _ _ => 0x0⟩
/-- VMGT and free halves (R424, Table 12.14). -/
def ENERGY.UNATTRIB.mj : Fld := ⟨.ENERGY, 0x308, 0, 64, 1, 0, .ro, rC, fun _ _ => 0x0⟩
/-- VCORE_t, VSRAM_t, VMEM_t and VSER_t (R424, Table 12.14). -/
def ENERGY.TILE.mj : Fld := ⟨.ENERGY, 0x310, 0, 64, 8, 8, .ro, rC, fun _ _ => 0x0⟩
/-- VHBM_s and HSs's share of VHBMQ and VPP (R424, Table 12.14). -/
def ENERGY.STACK.mj : Fld := ⟨.ENERGY, 0x350, 0, 64, 16, 8, .ro, rC, fun _ _ => 0x0⟩

/-- Fields of page ENERGY, part 1. -/
def ENERGY.fields1 : List Fld := [ENERGY.PART.mj, ENERGY.RING.mj, ENERGY.MODULE.mj, ENERGY.UNATTRIB.mj, ENERGY.TILE.mj, ENERGY.STACK.mj]
/-- Every field of page ENERGY beyond the common header. -/
def ENERGY.fields : List Fld := ENERGY.fields1

/-! Table 13.11 of spec/13_thermal.md, rule R455: page THERM. -/

/-- Apply R435; 0 sets u_T = 1 (R455, Table 13.11). -/
def THERM.CTRL.loop_en : Fld := ⟨.THERM, 0x010, 0, 1, 1, 0, .rw, rC, fun _ _ => 0x1⟩
/-- R430 (R455, Table 13.11). -/
def THERM.CTRL.xcheck_en : Fld := ⟨.THERM, 0x010, 1, 1, 1, 0, .rw, rC, fun _ _ => 0x1⟩
/-- Bit t: CTt untrusted (R432) (R455, Table 13.11). -/
def THERM.STATUS.tile_untrusted : Fld := ⟨.THERM, 0x014, 0, 8, 1, 0, .ro, rC, fun _ _ => 0xFF⟩
/-- All coolant quantities trusted (R455, Table 13.11). -/
def THERM.STATUS.coolant_ok : Fld := ⟨.THERM, 0x014, 8, 1, 1, 0, .ro, rC, fun _ _ => 0x0⟩
/-- Trip latch set (R455, Table 13.11). -/
def THERM.STATUS.tripped : Fld := ⟨.THERM, 0x014, 9, 1, 1, 0, .ro, rC, fun _ _ => 0x0⟩
/-- R433 (R455, Table 13.11). -/
def THERM.STATUS.fallback : Fld := ⟨.THERM, 0x014, 10, 1, 1, 0, .ro, rC, fun _ _ => 0x1⟩
/-- °C; default 100; R436 (R455, Table 13.11). -/
def THERM.LIMITS.tile_c : Fld := ⟨.THERM, 0x040, 0, 8, 1, 0, .rw, rC, fun _ _ => 0x64⟩
/-- °C; default 95 (R455, Table 13.11). -/
def THERM.LIMITS.stack_c : Fld := ⟨.THERM, 0x040, 8, 8, 1, 0, .rw, rC, fun _ _ => 0x5F⟩
/-- 1/256 per °C; default 16 (R455, Table 13.11). -/
def THERM.GAIN.k : Fld := ⟨.THERM, 0x044, 0, 8, 1, 0, .rw, rC, fun _ _ => 0x10⟩
/-- °C; default 8 (R455, Table 13.11). -/
def THERM.XCHECK.disagree_c : Fld := ⟨.THERM, 0x048, 0, 8, 1, 0, .rw, rC, fun _ _ => 0x8⟩
/-- Readings; default 10 (R455, Table 13.11). -/
def THERM.XCHECK.count : Fld := ⟨.THERM, 0x048, 8, 8, 1, 0, .rw, rC, fun _ _ => 0xA⟩
/-- TRIP_SEL[1:0] (R455, Table 13.11). -/
def THERM.TRIP.sel : Fld := ⟨.THERM, 0x04C, 0, 2, 1, 0, .ro, rC, fun _ _ => 0x3⟩
/-- 105, 110, 115 or 120 (R455, Table 13.11). -/
def THERM.TRIP.threshold_c : Fld := ⟨.THERM, 0x04C, 8, 8, 1, 0, .ro, rC, fun _ _ => tripThreshold 3⟩
/-- R440 (R455, Table 13.11). -/
def THERM.TRIP.latched : Fld := ⟨.THERM, 0x04C, 16, 1, 1, 0, .ro, rC, fun _ _ => 0x0⟩
/-- All comparators released (R455, Table 13.11). -/
def THERM.TRIP.released : Fld := ⟨.THERM, 0x04C, 17, 1, 1, 0, .ro, rC, fun _ _ => 0x1⟩
/-- First site to trip (R455, Table 13.11). -/
def THERM.TRIP.site : Fld := ⟨.THERM, 0x04C, 24, 7, 1, 0, .ro, rC, fun _ _ => 0x0⟩
/-- 1 DEMAND, 2 RESTORE, 3 TRIP_CLEAR (R455, Table 13.11). -/
def THERM.CMD.op : Fld := ⟨.THERM, 0x050, 0, 2, 1, 0, .wo, rNone, fun _ _ => 0x0⟩
/-- For RESTORE (R455, Table 13.11). -/
def THERM.CMD.sensor : Fld := ⟨.THERM, 0x050, 4, 7, 1, 0, .wo, rNone, fun _ _ => 0x0⟩
/-- For DEMAND, as Table 13.1 (R455, Table 13.11). -/
def THERM.CMD.groups : Fld := ⟨.THERM, 0x050, 12, 3, 1, 0, .wo, rNone, fun _ _ => 0x0⟩
/-- Command result (R455, Table 13.11). -/
def THERM.CMD_RESULT.result : Fld := ⟨.THERM, 0x054, 0, 3, 1, 0, .ro, rC, fun _ _ => 0x0⟩
/-- Sensor shown in SENSOR_READ (R455, Table 13.11). -/
def THERM.SENSOR_SEL.index : Fld := ⟨.THERM, 0x058, 0, 7, 1, 0, .rw, rC, fun _ _ => 0x0⟩
/-- Reading in use, signed, 0.125 °C (R455, Table 13.11). -/
def THERM.SENSOR_READ.temp : Fld := ⟨.THERM, 0x05C, 0, 16, 1, 0, .ro, rC, fun _ _ => 0x0⟩
/-- 0 trusted, 1 pending, 2 failed (R455, Table 13.11). -/
def THERM.SENSOR_READ.state : Fld := ⟨.THERM, 0x05C, 16, 2, 1, 0, .ro, rC, fun _ _ => 0x1⟩
/-- Last demand: 0 Safety Net, 1 loop, 2 self-test, 3 host (R455, Table 13.11). -/
def THERM.SENSOR_READ.source : Fld := ⟨.THERM, 0x05C, 18, 2, 1, 0, .ro, rC, fun _ _ => 0x0⟩
/-- Signed, 0.125 °C (R455, Table 13.11). -/
def THERM.COOLANT_T.inlet : Fld := ⟨.THERM, 0x060, 0, 16, 1, 0, .ro, rC, fun _ _ => 0x0⟩
/-- Signed, 0.125 °C (R455, Table 13.11). -/
def THERM.COOLANT_T.outlet : Fld := ⟨.THERM, 0x060, 16, 16, 1, 0, .ro, rC, fun _ _ => 0x0⟩
/-- 0.01 L/min (R455, Table 13.11). -/
def THERM.FLOW.flow : Fld := ⟨.THERM, 0x064, 0, 16, 1, 0, .ro, rC, fun _ _ => 0x0⟩
/-- W, Table 13.3 (R455, Table 13.11). -/
def THERM.CAP_TERMS.c_in : Fld := ⟨.THERM, 0x068, 0, 16, 1, 0, .ro, rC, fun _ _ => 0x12C0⟩
/-- W (R455, Table 13.11). -/
def THERM.CAP_TERMS.c_flow : Fld := ⟨.THERM, 0x068, 16, 16, 1, 0, .ro, rC, fun _ _ => 0x12C0⟩
/-- T_t of R435, 0.125 °C (R455, Table 13.11). -/
def THERM.TILE.hottest : Fld := ⟨.THERM, 0x080, 0, 16, 8, 4, .ro, rC, fun _ _ => 0x0⟩
/-- u_T in 1/16, minus 1 (R455, Table 13.11). -/
def THERM.TILE.u_t : Fld := ⟨.THERM, 0x080, 16, 4, 8, 4, .ro, rC, fun _ _ => 0xF⟩
/-- Bit n of FAILEDk: sensor 32k + n failed (R455, Table 13.11). -/
def THERM.FAILED.failed : Fld := ⟨.THERM, 0x0C0, 0, 32, 4, 4, .ro, rC, fun _ _ => 0x0⟩
/-- Converter reference failures, saturating (R455, Table 13.11). -/
def THERM.REF_FAILS.count : Fld := ⟨.THERM, 0x0D0, 0, 16, 1, 0, .rc, rC, fun _ _ => 0x0⟩
/-- Demands served, saturating (R455, Table 13.11). -/
def THERM.DEMANDS.count : Fld := ⟨.THERM, 0x0D4, 0, 32, 1, 0, .rc, rC, fun _ _ => 0x0⟩

/-- Fields of page THERM, part 1. -/
def THERM.fields1 : List Fld := [THERM.CTRL.loop_en, THERM.CTRL.xcheck_en, THERM.STATUS.tile_untrusted, THERM.STATUS.coolant_ok, THERM.STATUS.tripped, THERM.STATUS.fallback, THERM.LIMITS.tile_c, THERM.LIMITS.stack_c, THERM.GAIN.k, THERM.XCHECK.disagree_c, THERM.XCHECK.count, THERM.TRIP.sel, THERM.TRIP.threshold_c, THERM.TRIP.latched, THERM.TRIP.released, THERM.TRIP.site, THERM.CMD.op, THERM.CMD.sensor, THERM.CMD.groups, THERM.CMD_RESULT.result, THERM.SENSOR_SEL.index, THERM.SENSOR_READ.temp, THERM.SENSOR_READ.state, THERM.SENSOR_READ.source]
/-- Fields of page THERM, part 2. -/
def THERM.fields2 : List Fld := [THERM.COOLANT_T.inlet, THERM.COOLANT_T.outlet, THERM.FLOW.flow, THERM.CAP_TERMS.c_in, THERM.CAP_TERMS.c_flow, THERM.TILE.hottest, THERM.TILE.u_t, THERM.FAILED.failed, THERM.REF_FAILS.count, THERM.DEMANDS.count]
/-- Every field of page THERM beyond the common header. -/
def THERM.fields : List Fld := THERM.fields1 ++ THERM.fields2

/-! Table 13.12 of spec/13_thermal.md, rule R456: page COOL. -/

/-- R442 (R456, Table 13.12). -/
def COOL.CTRL.table_floor : Fld := ⟨.COOL, 0x010, 0, 1, 1, 0, .rw, rC, fun _ _ => 0x1⟩
/-- 0 OFF, 1 TABLE, 2 FIRMWARE (R456, Table 13.12). -/
def COOL.STATUS.mode : Fld := ⟨.COOL, 0x014, 0, 2, 1, 0, .ro, rC, fun _ _ => 0x0⟩
/-- Bit n: COOLn in fault (R456, Table 13.12). -/
def COOL.STATUS.fault : Fld := ⟨.COOL, 0x014, 2, 4, 1, 0, .ro, rC, fun _ _ => 0x0⟩
/-- °C; default 80 (R456, Table 13.12). -/
def COOL.TARGET.t_c : Fld := ⟨.COOL, 0x040, 0, 8, 1, 0, .rw, rC, fun _ _ => 0x50⟩
/-- mV per °C; default 20 (R456, Table 13.12). -/
def COOL.PI.kp : Fld := ⟨.COOL, 0x044, 0, 16, 1, 0, .rw, rC, fun _ _ => 0x14⟩
/-- mV per °C·s; default 2 (R456, Table 13.12). -/
def COOL.PI.ki : Fld := ⟨.COOL, 0x044, 16, 16, 1, 0, .rw, rC, fun _ _ => 0x2⟩
/-- °C; default 12 (R456, Table 13.12). -/
def COOL.CF.dt_c : Fld := ⟨.COOL, 0x048, 0, 8, 1, 0, .rw, rC, fun _ _ => 0xC⟩
/-- Pulses per revolution, 1–8; default 2 (R456, Table 13.12). -/
def COOL.CFG.ppr : Fld := ⟨.COOL, 0x050, 0, 4, 4, 16, .rw, rC, fun _ _ => 0x2⟩
/-- Default 350 for pumps, 200 for blowers (R456, Table 13.12). -/
def COOL.CFG.min_mv : Fld := ⟨.COOL, 0x050, 4, 12, 4, 16, .rw, rC, fun _ j => if j < 2 then 350 else 200⟩
/-- Default 1,200 for pumps, 800 for blowers (R456, Table 13.12). -/
def COOL.CFG.limit_rpm : Fld := ⟨.COOL, 0x050, 16, 16, 4, 16, .rw, rC, fun _ j => if j < 2 then 1200 else 800⟩
/-- COOLING setpoint (R456, Table 13.12). -/
def COOL.SET.mv : Fld := ⟨.COOL, 0x054, 0, 10, 4, 16, .rw, rC, fun _ _ => 0x0⟩
/-- Value driven, R442 (R456, Table 13.12). -/
def COOL.DRIVE.mv : Fld := ⟨.COOL, 0x058, 0, 10, 4, 16, .ro, rC, fun _ _ => 0x0⟩
/-- 0 OFF, 1 KICK, 2 RETRY_WAIT, 3 RUNNING, 4 FAULT_START, 5 FAULT_RUN (R456, Table 13.12). -/
def COOL.DRIVE.state : Fld := ⟨.COOL, 0x058, 16, 3, 4, 16, .ro, rC, fun _ _ => 0x0⟩
/-- Kick attempt, 1–3 (R456, Table 13.12). -/
def COOL.DRIVE.attempt : Fld := ⟨.COOL, 0x058, 20, 2, 4, 16, .ro, rC, fun _ _ => 0x0⟩
/-- R443 (R456, Table 13.12). -/
def COOL.TACH.rpm : Fld := ⟨.COOL, 0x05C, 0, 16, 4, 16, .ro, rC, fun _ _ => 0x0⟩
/-- Below limit (R456, Table 13.12). -/
def COOL.TACH.below : Fld := ⟨.COOL, 0x05C, 16, 1, 4, 16, .ro, rC, fun _ _ => 0x1⟩
/-- COOL0–COOL3 (R456, Table 13.12). -/
def COOL.CMD.channel : Fld := ⟨.COOL, 0x090, 0, 2, 1, 0, .wo, rNone, fun _ _ => 0x0⟩
/-- 1 KICK, 2 CLEAR (R456, Table 13.12). -/
def COOL.CMD.op : Fld := ⟨.COOL, 0x090, 2, 2, 1, 0, .wo, rNone, fun _ _ => 0x0⟩
/-- Codes of R455 (R456, Table 13.12). -/
def COOL.CMD_RESULT.result : Fld := ⟨.COOL, 0x094, 0, 3, 1, 0, .ro, rC, fun _ _ => 0x0⟩

/-- Fields of page COOL, part 1. -/
def COOL.fields1 : List Fld := [COOL.CTRL.table_floor, COOL.STATUS.mode, COOL.STATUS.fault, COOL.TARGET.t_c, COOL.PI.kp, COOL.PI.ki, COOL.CF.dt_c, COOL.CFG.ppr, COOL.CFG.min_mv, COOL.CFG.limit_rpm, COOL.SET.mv, COOL.DRIVE.mv, COOL.DRIVE.state, COOL.DRIVE.attempt, COOL.TACH.rpm, COOL.TACH.below, COOL.CMD.channel, COOL.CMD.op, COOL.CMD_RESULT.result]
/-- Every field of page COOL beyond the common header. -/
def COOL.fields : List Fld := COOL.fields1

/-! Table 13.13 of spec/13_thermal.md, rule R457: page LEAK. -/

/-- Bit n: LEAKn enabled; R452 (R457, Table 13.13). -/
def LEAK.CTRL.en : Fld := ⟨.LEAK, 0x010, 0, 4, 1, 0, .rwp, rNone, fun _ _ => 0xF⟩
/-- R451 (R457, Table 13.13). -/
def LEAK.CTRL.pump_stop : Fld := ⟨.LEAK, 0x010, 4, 1, 1, 0, .rwp, rNone, fun _ _ => 0x1⟩
/-- 2 bits per input, LEAK0 lowest: 0 dry, 1 wet, 2 open (R457, Table 13.13). -/
def LEAK.STATUS.input : Fld := ⟨.LEAK, 0x014, 0, 8, 1, 0, .ro, rC, fun _ _ => 0x0⟩
/-- Leak latch (R457, Table 13.13). -/
def LEAK.STATUS.latched : Fld := ⟨.LEAK, 0x014, 8, 1, 1, 0, .ro, rC, fun _ _ => 0x0⟩
/-- PWR_KILL_N asserted (R457, Table 13.13). -/
def LEAK.STATUS.kill : Fld := ⟨.LEAK, 0x014, 9, 1, 1, 0, .ro, rC, fun _ _ => 0x0⟩
/-- Bit n: LEAKn caused the leak (R457, Table 13.13). -/
def LEAK.STATUS.wet_seen : Fld := ⟨.LEAK, 0x014, 10, 4, 1, 0, .ro, rC, fun _ _ => 0x0⟩
/-- BEAT.NOW of the first wet sample (R457, Table 13.13). -/
def LEAK.ONSET.beat : Fld := ⟨.LEAK, 0x040, 0, 64, 1, 0, .ro, rC, fun _ _ => 0x0⟩
/-- First wet sample to PWR_KILL_N (R457, Table 13.13). -/
def LEAK.DELAY.us : Fld := ⟨.LEAK, 0x048, 0, 16, 1, 0, .ro, rC, fun _ _ => 0x0⟩
/-- R453 (R457, Table 13.13). -/
def LEAK.CMD.clear : Fld := ⟨.LEAK, 0x04C, 0, 1, 1, 0, .wo, rNone, fun _ _ => 0x0⟩
/-- Start (R457, Table 13.13). -/
def LEAK.CMD.go : Fld := ⟨.LEAK, 0x04C, 31, 1, 1, 0, .wo, rNone, fun _ _ => 0x0⟩
/-- Codes of R455 (R457, Table 13.13). -/
def LEAK.CMD_RESULT.result : Fld := ⟨.LEAK, 0x050, 0, 3, 1, 0, .ro, rC, fun _ _ => 0x0⟩
/-- LEAK_OPEN events, saturating (R457, Table 13.13). -/
def LEAK.OPEN_COUNT.count : Fld := ⟨.LEAK, 0x054, 0, 16, 1, 0, .rc, rC, fun _ _ => 0x0⟩

/-- Fields of page LEAK, part 1. -/
def LEAK.fields1 : List Fld := [LEAK.CTRL.en, LEAK.CTRL.pump_stop, LEAK.STATUS.input, LEAK.STATUS.latched, LEAK.STATUS.kill, LEAK.STATUS.wet_seen, LEAK.ONSET.beat, LEAK.DELAY.us, LEAK.CMD.clear, LEAK.CMD.go, LEAK.CMD_RESULT.result, LEAK.OPEN_COUNT.count]
/-- Every field of page LEAK beyond the common header. -/
def LEAK.fields : List Fld := LEAK.fields1

/-! Table 14.11 of spec/14_safety.md, rule R483: page SAFE. -/

/-- Warm restart attempts in NONE (R474) (R483, Table 14.11). -/
def SAFE.CTRL.restart_en : Fld := ⟨.SAFE, 0x010, 0, 1, 1, 0, .rw, rC, fun _ _ => 0x1⟩
/-- Bit n: function n of Table 14.1 active (R483, Table 14.11). -/
def SAFE.STATUS.active : Fld := ⟨.SAFE, 0x014, 0, 7, 1, 0, .ro, rC, fun _ _ => 0x0⟩
/-- 0 PAIR, 1 SINGLE, 2 NONE (R483, Table 14.11). -/
def SAFE.STATUS.supervision : Fld := ⟨.SAFE, 0x014, 8, 2, 1, 0, .ro, rC, fun _ _ => 0x1⟩
/-- SAFE_FLOOR in force (R483, Table 14.11). -/
def SAFE.STATUS.safe_floor : Fld := ⟨.SAFE, 0x014, 10, 1, 1, 0, .ro, rC, fun _ _ => 0x0⟩
/-- R461 passed (R483, Table 14.11). -/
def SAFE.STATUS.selftest_ok : Fld := ⟨.SAFE, 0x014, 11, 1, 1, 0, .ro, rC, fun _ _ => 0x0⟩
/-- Power state CUT (R483, Table 14.11). -/
def SAFE.STATUS.cut : Fld := ⟨.SAFE, 0x014, 12, 1, 1, 0, .ro, rC, fun _ _ => 0x0⟩
/-- 0 none, 1 MC-A, 2 MC-B (R483, Table 14.11). -/
def SAFE.STATUS.master : Fld := ⟨.SAFE, 0x014, 13, 2, 1, 0, .ro, rC, fun _ _ => 0x1⟩
/-- Functions latched and not yet cleared (R483, Table 14.11). -/
def SAFE.LATCHED.latched : Fld := ⟨.SAFE, 0x040, 0, 7, 1, 0, .ro, rC, fun _ _ => 0x0⟩
/-- First function to act since the last clear (R483, Table 14.11). -/
def SAFE.FIRST.function : Fld := ⟨.SAFE, 0x044, 0, 3, 1, 0, .ro, rC, fun _ _ => 0x0⟩
/-- function is valid (R483, Table 14.11). -/
def SAFE.FIRST.valid : Fld := ⟨.SAFE, 0x044, 31, 1, 1, 0, .ro, rC, fun _ _ => 0x0⟩
/-- BEAT.NOW of that onset (R483, Table 14.11). -/
def SAFE.FIRST_BEAT.beat : Fld := ⟨.SAFE, 0x048, 0, 64, 1, 0, .ro, rC, fun _ _ => 0x0⟩
/-- Onset to detection, last activation (R483, Table 14.11). -/
def SAFE.DETECT_NS.ns : Fld := ⟨.SAFE, 0x050, 0, 32, 1, 0, .ro, rC, fun _ _ => 0x0⟩
/-- Onset to completed reaction, last activation (R483, Table 14.11). -/
def SAFE.REACT_NS.ns : Fld := ⟨.SAFE, 0x054, 0, 32, 1, 0, .ro, rC, fun _ _ => 0x0⟩
/-- Kick; the writing master names the core (R483, Table 14.11). -/
def SAFE.KICK.any : Fld := ⟨.SAFE, 0x058, 0, 32, 1, 0, .wo, rNone, fun _ _ => 0x0⟩
/-- Time since MC-A's last kick, saturating (R483, Table 14.11). -/
def SAFE.KICK_AGE.a_ms : Fld := ⟨.SAFE, 0x05C, 0, 16, 1, 0, .ro, rC, fun _ _ => 0x0⟩
/-- Time since MC-B's last kick, saturating (R483, Table 14.11). -/
def SAFE.KICK_AGE.b_ms : Fld := ⟨.SAFE, 0x05C, 16, 16, 1, 0, .ro, rC, fun _ _ => 0x0⟩
/-- Takeovers over the module's life (R483, Table 14.11). -/
def SAFE.TAKEOVERS.count : Fld := ⟨.SAFE, 0x060, 0, 16, 1, 0, .ro, rNone, fun _ _ => 0⟩
/-- 1 watchdog, 2 memory UE, 3 SUPERVISOR, 4 fault entry, 5 RAIL51 (R483, Table 14.11). -/
def SAFE.TAKEOVERS.last_cause : Fld := ⟨.SAFE, 0x060, 16, 4, 1, 0, .ro, rC, fun _ _ => 0x0⟩
/-- 1 RAIL_ON, 2 CUT_RELEASE (R483, Table 14.11). -/
def SAFE.CMD.op : Fld := ⟨.SAFE, 0x064, 0, 2, 1, 0, .wo, rNone, fun _ _ => 0x0⟩
/-- Rail for RAIL_ON (R483, Table 14.11). -/
def SAFE.CMD.rail : Fld := ⟨.SAFE, 0x064, 8, 6, 1, 0, .wo, rNone, fun _ _ => 0x0⟩
/-- Codes of R455 (R483, Table 14.11). -/
def SAFE.CMD_RESULT.result : Fld := ⟨.SAFE, 0x068, 0, 3, 1, 0, .ro, rC, fun _ _ => 0x0⟩
/-- Bit n: rail n latched off (R483, Table 14.11). -/
def SAFE.RAIL_CUT0.rails : Fld := ⟨.SAFE, 0x06C, 0, 32, 1, 0, .ro, rC, fun _ _ => 0x0⟩
/-- Bit n: rail 32 + n latched off (R483, Table 14.11). -/
def SAFE.RAIL_CUT1.rails : Fld := ⟨.SAFE, 0x070, 0, 20, 1, 0, .ro, rC, fun _ _ => 0x0⟩
/-- Time in NONE; 0 in other states (R483, Table 14.11). -/
def SAFE.NONE_TIME.ms : Fld := ⟨.SAFE, 0x074, 0, 32, 1, 0, .ro, rC, fun _ _ => 0x0⟩
/-- Warm restarts made in this NONE period (R483, Table 14.11). -/
def SAFE.RESTARTS.attempts : Fld := ⟨.SAFE, 0x078, 0, 4, 1, 0, .ro, rC, fun _ _ => 0x0⟩
/-- SN_FAULT events, saturating (R483, Table 14.11). -/
def SAFE.SN_FAULTS.count : Fld := ⟨.SAFE, 0x07C, 0, 16, 1, 0, .rc, rC, fun _ _ => 0x0⟩
/-- Bit per path: 0 lockstep, 1 comparators, 2 trip latch and THERMTRIP_N, 3 leak classifiers, 4 PWR_KILL_N, 5 SYS_SHDN_N, 6 rail enables, 7 WDOG_OUT (R483, Table 14.11). -/
def SAFE.SELFTEST.pass : Fld := ⟨.SAFE, 0x080, 0, 8, 1, 0, .ro, rC, fun _ _ => 0x0⟩
/-- Same bits: FAIL (R483, Table 14.11). -/
def SAFE.SELFTEST.fail : Fld := ⟨.SAFE, 0x080, 8, 8, 1, 0, .ro, rC, fun _ _ => 0x0⟩
/-- Same bits: INCOMPLETE (R483, Table 14.11). -/
def SAFE.SELFTEST.incomplete : Fld := ⟨.SAFE, 0x080, 16, 8, 1, 0, .ro, rC, fun _ _ => 0x0⟩
/-- Comparator sites marked failed (R483, Table 14.11). -/
def SAFE.SELFTEST.sites_failed : Fld := ⟨.SAFE, 0x080, 24, 7, 1, 0, .ro, rC, fun _ _ => 0x0⟩
/-- Section 0x0008 as clamped (R483, Table 14.11). -/
def SAFE.PARAM.word : Fld := ⟨.SAFE, 0x084, 0, 32, 4, 4, .ro, rC, fun _ j => safetyParamDefault j⟩
/-- Level driven (R483, Table 14.11). -/
def SAFE.OUTPUTS.thermtrip_n : Fld := ⟨.SAFE, 0x094, 0, 1, 1, 0, .ro, rC, fun _ _ => 0x1⟩
/-- Level driven (R483, Table 14.11). -/
def SAFE.OUTPUTS.pwr_kill_n : Fld := ⟨.SAFE, 0x094, 1, 1, 1, 0, .ro, rC, fun _ _ => 0x1⟩
/-- Level driven (R483, Table 14.11). -/
def SAFE.OUTPUTS.sys_shdn_n : Fld := ⟨.SAFE, 0x094, 2, 1, 1, 0, .ro, rC, fun _ _ => 0x1⟩
/-- Level driven (R483, Table 14.11). -/
def SAFE.OUTPUTS.wdog_out : Fld := ⟨.SAFE, 0x094, 3, 1, 1, 0, .ro, rC, fun _ _ => 0x0⟩

/-- Fields of page SAFE, part 1. -/
def SAFE.fields1 : List Fld := [SAFE.CTRL.restart_en, SAFE.STATUS.active, SAFE.STATUS.supervision, SAFE.STATUS.safe_floor, SAFE.STATUS.selftest_ok, SAFE.STATUS.cut, SAFE.STATUS.master, SAFE.LATCHED.latched, SAFE.FIRST.function, SAFE.FIRST.valid, SAFE.FIRST_BEAT.beat, SAFE.DETECT_NS.ns, SAFE.REACT_NS.ns, SAFE.KICK.any, SAFE.KICK_AGE.a_ms, SAFE.KICK_AGE.b_ms, SAFE.TAKEOVERS.count, SAFE.TAKEOVERS.last_cause, SAFE.CMD.op, SAFE.CMD.rail, SAFE.CMD_RESULT.result, SAFE.RAIL_CUT0.rails, SAFE.RAIL_CUT1.rails, SAFE.NONE_TIME.ms]
/-- Fields of page SAFE, part 2. -/
def SAFE.fields2 : List Fld := [SAFE.RESTARTS.attempts, SAFE.SN_FAULTS.count, SAFE.SELFTEST.pass, SAFE.SELFTEST.fail, SAFE.SELFTEST.incomplete, SAFE.SELFTEST.sites_failed, SAFE.PARAM.word, SAFE.OUTPUTS.thermtrip_n, SAFE.OUTPUTS.pwr_kill_n, SAFE.OUTPUTS.sys_shdn_n, SAFE.OUTPUTS.wdog_out]
/-- Every field of page SAFE beyond the common header. -/
def SAFE.fields : List Fld := SAFE.fields1 ++ SAFE.fields2

/-! Table 11.15 of spec/11_boot_update.md, rule R380: page FW. -/

/-- R353 (R380, Table 11.15). -/
def FW.CTRL.fleet_mode : Fld := ⟨.FW, 0x010, 0, 1, 1, 0, .rwp, rNone, fun _ _ => 0x0⟩
/-- R359 (R380, Table 11.15). -/
def FW.CTRL.auto_confirm : Fld := ⟨.FW, 0x010, 1, 1, 1, 0, .rwp, rNone, fun _ _ => 0x1⟩
/-- R350 (R380, Table 11.15). -/
def FW.CTRL.push_wait : Fld := ⟨.FW, 0x010, 2, 1, 1, 0, .rw, rC, fun _ _ => 0x1⟩
/-- 0 ROM, 1 ROM_RECOVERY, 2 LOADER, 3 CONFIG_INVALID, 4 WAIT_MAIN, 5 WAIT_MICROCODE, 6 RUNNING (R380, Table 11.15). -/
def FW.STATUS.stage : Fld := ⟨.FW, 0x014, 0, 4, 1, 0, .ro, rC, fun _ _ => 0x0⟩
/-- 1 MC-A, 2 MC-B (R380, Table 11.15). -/
def FW.STATUS.master : Fld := ⟨.FW, 0x014, 4, 2, 1, 0, .ro, rCW, fun _ _ => 0x1⟩
/-- Pair mirrored (R380, Table 11.15). -/
def FW.STATUS.mirrored : Fld := ⟨.FW, 0x014, 6, 1, 1, 0, .ro, rCW, fun _ _ => 0x0⟩
/-- R355 (R380, Table 11.15). -/
def FW.STATUS.trial : Fld := ⟨.FW, 0x014, 7, 1, 1, 0, .ro, rNone, fun _ _ => 0⟩
/-- 0 A, 1 B (R380, Table 11.15). -/
def FW.STATUS.boot_slot : Fld := ⟨.FW, 0x014, 8, 1, 1, 0, .ro, rNone, fun _ _ => 0⟩
/-- Image taken from flash (R380, Table 11.15). -/
def FW.STATUS.main_flash : Fld := ⟨.FW, 0x014, 9, 1, 1, 0, .ro, rC, fun _ _ => 0x0⟩
/-- Image taken from flash (R380, Table 11.15). -/
def FW.STATUS.ucode_flash : Fld := ⟨.FW, 0x014, 10, 1, 1, 0, .ro, rC, fun _ _ => 0x0⟩
/-- R360 (R380, Table 11.15). -/
def FW.STATUS.prepared : Fld := ⟨.FW, 0x014, 11, 1, 1, 0, .ro, rCW, fun _ _ => 0x0⟩
/-- 0 EMPTY, 1 WRITING, 2 STAGED, 3 TRIAL, 4 CONFIRMED, 5 INVALID (R380, Table 11.15). -/
def FW.SLOTS.a_state : Fld := ⟨.FW, 0x040, 0, 3, 1, 0, .ro, rNone, fun _ _ => 0x4⟩
/-- 0 EMPTY, 1 WRITING, 2 STAGED, 3 TRIAL, 4 CONFIRMED, 5 INVALID (R380, Table 11.15). -/
def FW.SLOTS.b_state : Fld := ⟨.FW, 0x040, 4, 3, 1, 0, .ro, rNone, fun _ _ => 0x0⟩
/-- Checks 4 to 6 passed (R380, Table 11.15). -/
def FW.SLOTS.a_verified : Fld := ⟨.FW, 0x040, 8, 1, 1, 0, .ro, rNone, fun _ _ => 0x1⟩
/-- Checks 4 to 6 passed (R380, Table 11.15). -/
def FW.SLOTS.b_verified : Fld := ⟨.FW, 0x040, 9, 1, 1, 0, .ro, rNone, fun _ _ => 0⟩
/-- R349, R354 (R380, Table 11.15). -/
def FW.BOOT_PREF.slot : Fld := ⟨.FW, 0x044, 0, 1, 1, 0, .ro, rNone, fun _ _ => 0⟩
/-- R348 (R380, Table 11.15). -/
def FW.FLOOR.floor : Fld := ⟨.FW, 0x048, 0, 32, 3, 4, .ro, rNone, fun _ _ => 0⟩
/-- Running images (R380, Table 11.15). -/
def FW.SVN.svn : Fld := ⟨.FW, 0x054, 0, 32, 3, 4, .ro, rCW, fun _ _ => 0x0⟩
/-- Running images (R380, Table 11.15). -/
def FW.REL.release : Fld := ⟨.FW, 0x060, 0, 32, 2, 4, .ro, rCW, fun _ _ => 0x0⟩
/-- Settings version in use (R380, Table 11.15). -/
def FW.SETTINGS.version : Fld := ⟨.FW, 0x068, 0, 16, 1, 0, .ro, rCW, fun _ _ => 0x0⟩
/-- Area in use (R380, Table 11.15). -/
def FW.SETTINGS.area : Fld := ⟨.FW, 0x068, 16, 1, 1, 0, .ro, rCW, fun _ _ => 0x0⟩
/-- R355 (R380, Table 11.15). -/
def FW.TRIAL_MIN.minutes : Fld := ⟨.FW, 0x06C, 0, 11, 1, 0, .ro, rNone, fun _ _ => 0⟩
/-- Staging offset (R380, Table 11.15). -/
def FW.PUSH_OFFSET.offset : Fld := ⟨.FW, 0x070, 0, 32, 1, 0, .rw, rC, fun _ _ => 0x0⟩
/-- Image length (R380, Table 11.15). -/
def FW.PUSH_LEN.bytes : Fld := ⟨.FW, 0x074, 0, 25, 1, 0, .rw, rC, fun _ _ => 0x0⟩
/-- 1 MAIN, 2 MICROCODE, 3 FLASH (R380, Table 11.15). -/
def FW.PUSH_CMD.type : Fld := ⟨.FW, 0x078, 0, 2, 1, 0, .wo, rNone, fun _ _ => 0x0⟩
/-- Start (R380, Table 11.15). -/
def FW.PUSH_CMD.go : Fld := ⟨.FW, 0x078, 31, 1, 1, 0, .wo, rNone, fun _ _ => 0x0⟩
/-- Command result (R380, Table 11.15). -/
def FW.PUSH_RESULT.result : Fld := ⟨.FW, 0x07C, 0, 3, 1, 0, .ro, rC, fun _ _ => 0x0⟩
/-- Table 11.5 (R380, Table 11.15). -/
def FW.PUSH_RESULT.reason : Fld := ⟨.FW, 0x07C, 8, 4, 1, 0, .ro, rC, fun _ _ => 0x0⟩
/-- 1 BEGIN, 2 WRITE, 3 COPY, 4 COMMIT, 5 ABORT, 6 PREPARE, 7 UNPREPARE, 8 CONFIRM, 9 BOOT_NEXT (R380, Table 11.15). -/
def FW.UPD_CMD.op : Fld := ⟨.FW, 0x080, 0, 4, 1, 0, .wo, rNone, fun _ _ => 0x0⟩
/-- 1 LOADER, 2 MAIN, 3 MICROCODE (R380, Table 11.15). -/
def FW.UPD_CMD.type : Fld := ⟨.FW, 0x080, 4, 2, 1, 0, .wo, rNone, fun _ _ => 0x0⟩
/-- 0 staging, 1 buffer (R380, Table 11.15). -/
def FW.UPD_CMD.src : Fld := ⟨.FW, 0x080, 6, 1, 1, 0, .wo, rNone, fun _ _ => 0x0⟩
/-- 0 A, 1 B (R380, Table 11.15). -/
def FW.UPD_CMD.slot : Fld := ⟨.FW, 0x080, 7, 1, 1, 0, .wo, rNone, fun _ _ => 0x0⟩
/-- Start (R380, Table 11.15). -/
def FW.UPD_CMD.go : Fld := ⟨.FW, 0x080, 31, 1, 1, 0, .wo, rNone, fun _ _ => 0x0⟩
/-- Source offset (R380, Table 11.15). -/
def FW.UPD_SRC.offset : Fld := ⟨.FW, 0x084, 0, 32, 1, 0, .rw, rC, fun _ _ => 0x0⟩
/-- Offset within the type's region (R380, Table 11.15). -/
def FW.UPD_DST.offset : Fld := ⟨.FW, 0x088, 0, 25, 1, 0, .rw, rC, fun _ _ => 0x0⟩
/-- Length (R380, Table 11.15). -/
def FW.UPD_LEN.bytes : Fld := ⟨.FW, 0x08C, 0, 25, 1, 0, .rw, rC, fun _ _ => 0x0⟩
/-- Command result (R380, Table 11.15). -/
def FW.UPD_RESULT.result : Fld := ⟨.FW, 0x090, 0, 3, 1, 0, .ro, rC, fun _ _ => 0x0⟩
/-- Table 11.5 (R380, Table 11.15). -/
def FW.UPD_RESULT.reason : Fld := ⟨.FW, 0x090, 8, 4, 1, 0, .ro, rC, fun _ _ => 0x0⟩
/-- Group (R380, Table 11.15). -/
def FW.CC_GROUP.group : Fld := ⟨.FW, 0x094, 0, 16, 1, 0, .rw, rC, fun _ _ => 0x0⟩
/-- R361 (R380, Table 11.15). -/
def FW.CC_GROUP.require_all : Fld := ⟨.FW, 0x094, 16, 1, 1, 0, .rw, rC, fun _ _ => 0x0⟩
/-- Coordinator global tile (R380, Table 11.15). -/
def FW.CC_COORD.tile : Fld := ⟨.FW, 0x098, 0, 18, 1, 0, .rw, rC, fun _ _ => 0x0⟩
/-- tile is set (R380, Table 11.15). -/
def FW.CC_COORD.valid : Fld := ⟨.FW, 0x098, 31, 1, 1, 0, .rw, rC, fun _ _ => 0x0⟩
/-- Members, 1–32,768 (R380, Table 11.15). -/
def FW.CC_MEMBERS.count : Fld := ⟨.FW, 0x09C, 0, 16, 1, 0, .rw, rC, fun _ _ => 0x1⟩
/-- Vote close before target (R380, Table 11.15). -/
def FW.CC_CLOSE.beats : Fld := ⟨.FW, 0x0A0, 0, 32, 1, 0, .rw, rC, fun _ _ => 0x989680⟩
/-- R361 (R380, Table 11.15). -/
def FW.CC_STATUS.ready : Fld := ⟨.FW, 0x0A4, 0, 1, 1, 0, .ro, rCW, fun _ _ => 0x0⟩
/-- Bit n + 1: reason n of Table 11.8 (R380, Table 11.15). -/
def FW.CC_STATUS.reasons : Fld := ⟨.FW, 0x0A4, 1, 9, 1, 0, .ro, rCW, fun _ _ => 0x1⟩
/-- 0 none, 1 ALL_READY, 2 NOT_ALL (R380, Table 11.15). -/
def FW.CC_STATUS.verdict : Fld := ⟨.FW, 0x0A4, 16, 2, 1, 0, .ro, rCW, fun _ _ => 0x0⟩
/-- 0 none, 1 ACTIVATED, 2 DEFERRED (R380, Table 11.15). -/
def FW.CC_STATUS.outcome : Fld := ⟨.FW, 0x0A4, 20, 2, 1, 0, .ro, rCW, fun _ _ => 0x0⟩
/-- Coordinator: modules voting READY (R380, Table 11.15). -/
def FW.CC_VOTES.ready : Fld := ⟨.FW, 0x0A8, 0, 16, 1, 0, .ro, rCW, fun _ _ => 0x0⟩
/-- Coordinator: modules heard (R380, Table 11.15). -/
def FW.CC_VOTES.heard : Fld := ⟨.FW, 0x0A8, 16, 16, 1, 0, .ro, rCW, fun _ _ => 0x0⟩
/-- 1 WRITE, 2 READ (area in use) (R380, Table 11.15). -/
def FW.CFG_CMD.op : Fld := ⟨.FW, 0x0AC, 0, 2, 1, 0, .wo, rNone, fun _ _ => 0x0⟩
/-- 0 staging, 1 buffer (R380, Table 11.15). -/
def FW.CFG_CMD.src : Fld := ⟨.FW, 0x0AC, 2, 1, 1, 0, .wo, rNone, fun _ _ => 0x0⟩
/-- Start (R380, Table 11.15). -/
def FW.CFG_CMD.go : Fld := ⟨.FW, 0x0AC, 31, 1, 1, 0, .wo, rNone, fun _ _ => 0x0⟩
/-- Source or destination offset (R380, Table 11.15). -/
def FW.CFG_OFFSET.offset : Fld := ⟨.FW, 0x0B0, 0, 32, 1, 0, .rw, rC, fun _ _ => 0x0⟩
/-- Command result (R380, Table 11.15). -/
def FW.CFG_RESULT.result : Fld := ⟨.FW, 0x0B4, 0, 3, 1, 0, .ro, rC, fun _ _ => 0x0⟩
/-- R345 (R380, Table 11.15). -/
def FW.CFG_RESULT.reason : Fld := ⟨.FW, 0x0B4, 8, 4, 1, 0, .ro, rC, fun _ _ => 0x0⟩
/-- Bit c: component c running (R380, Table 11.15). -/
def FW.COMPONENTS.running : Fld := ⟨.FW, 0x0B8, 0, 10, 1, 0, .ro, rCW, fun _ _ => 0x0⟩
/-- Bit c: component c held (R380, Table 11.15). -/
def FW.COMPONENTS.held : Fld := ⟨.FW, 0x0B8, 16, 10, 1, 0, .ro, rCW, fun _ _ => 0x0⟩
/-- Last component restarted (R380, Table 11.15). -/
def FW.COMP_RESTARTS.last : Fld := ⟨.FW, 0x0BC, 0, 4, 1, 0, .rc, rCW, fun _ _ => 0x0⟩
/-- Restarts, saturating (R380, Table 11.15). -/
def FW.COMP_RESTARTS.count : Fld := ⟨.FW, 0x0BC, 16, 16, 1, 0, .rc, rCW, fun _ _ => 0x0⟩
/-- 2 KiB block of the 1 MiB buffer shown at 0x800 (R380, Table 11.15). -/
def FW.BUF_SEL.block : Fld := ⟨.FW, 0x0C0, 0, 9, 1, 0, .rw, rC, fun _ _ => 0x0⟩
/-- R338 (R380, Table 11.15). -/
def FW.REC_CMD.slot : Fld := ⟨.FW, 0x0C4, 0, 1, 1, 0, .wo, rNone, fun _ _ => 0x0⟩
/-- Start (R380, Table 11.15). -/
def FW.REC_CMD.go : Fld := ⟨.FW, 0x0C4, 31, 1, 1, 0, .wo, rNone, fun _ _ => 0x0⟩
/-- Recovery image length (R380, Table 11.15). -/
def FW.REC_LEN.bytes : Fld := ⟨.FW, 0x0C8, 0, 21, 1, 0, .rw, rC, fun _ _ => 0x0⟩
/-- Buffer window (R380, Table 11.15). -/
def FW.BUF.data : Fld := ⟨.FW, 0x800, 0, 32, 512, 4, .rw, rC, fun _ _ => 0x0⟩

/-- Fields of page FW, part 1. -/
def FW.fields1 : List Fld := [FW.CTRL.fleet_mode, FW.CTRL.auto_confirm, FW.CTRL.push_wait, FW.STATUS.stage, FW.STATUS.master, FW.STATUS.mirrored, FW.STATUS.trial, FW.STATUS.boot_slot, FW.STATUS.main_flash, FW.STATUS.ucode_flash, FW.STATUS.prepared, FW.SLOTS.a_state, FW.SLOTS.b_state, FW.SLOTS.a_verified, FW.SLOTS.b_verified, FW.BOOT_PREF.slot, FW.FLOOR.floor, FW.SVN.svn, FW.REL.release, FW.SETTINGS.version, FW.SETTINGS.area, FW.TRIAL_MIN.minutes, FW.PUSH_OFFSET.offset, FW.PUSH_LEN.bytes]
/-- Fields of page FW, part 2. -/
def FW.fields2 : List Fld := [FW.PUSH_CMD.type, FW.PUSH_CMD.go, FW.PUSH_RESULT.result, FW.PUSH_RESULT.reason, FW.UPD_CMD.op, FW.UPD_CMD.type, FW.UPD_CMD.src, FW.UPD_CMD.slot, FW.UPD_CMD.go, FW.UPD_SRC.offset, FW.UPD_DST.offset, FW.UPD_LEN.bytes, FW.UPD_RESULT.result, FW.UPD_RESULT.reason, FW.CC_GROUP.group, FW.CC_GROUP.require_all, FW.CC_COORD.tile, FW.CC_COORD.valid, FW.CC_MEMBERS.count, FW.CC_CLOSE.beats, FW.CC_STATUS.ready, FW.CC_STATUS.reasons, FW.CC_STATUS.verdict, FW.CC_STATUS.outcome]
/-- Fields of page FW, part 3. -/
def FW.fields3 : List Fld := [FW.CC_VOTES.ready, FW.CC_VOTES.heard, FW.CFG_CMD.op, FW.CFG_CMD.src, FW.CFG_CMD.go, FW.CFG_OFFSET.offset, FW.CFG_RESULT.result, FW.CFG_RESULT.reason, FW.COMPONENTS.running, FW.COMPONENTS.held, FW.COMP_RESTARTS.last, FW.COMP_RESTARTS.count, FW.BUF_SEL.block, FW.REC_CMD.slot, FW.REC_CMD.go, FW.REC_LEN.bytes, FW.BUF.data]
/-- Every field of page FW beyond the common header. -/
def FW.fields : List Fld := FW.fields1 ++ FW.fields2 ++ FW.fields3

/-! Table 11.16 of spec/11_boot_update.md, rule R381: page SEC. -/

/-- R374 (R381, Table 11.16). -/
def SEC.CTRL.quote_gap_s : Fld := ⟨.SEC, 0x010, 0, 16, 1, 0, .rwp, rNone, fun _ _ => 0x258⟩
/-- Identity key present (R381, Table 11.16). -/
def SEC.STATUS.identity : Fld := ⟨.SEC, 0x014, 0, 1, 1, 0, .ro, rNone, fun _ _ => 0x1⟩
/-- Security engine busy (R381, Table 11.16). -/
def SEC.STATUS.busy : Fld := ⟨.SEC, 0x014, 1, 1, 1, 0, .ro, rC, fun _ _ => 0x0⟩
/-- Volatile key store cleared (R381, Table 11.16). -/
def SEC.STATUS.zeroized : Fld := ⟨.SEC, 0x014, 2, 1, 1, 0, .ro, rC, fun _ _ => 0x0⟩
/-- Identity public key, 68 bytes (R381, Table 11.16). -/
def SEC.ID_PUB.key : Fld := ⟨.SEC, 0x040, 0, 32, 17, 4, .ro, rNone, fun _ j => Config.idPub j⟩
/-- Next leaf (R381, Table 11.16). -/
def SEC.LEAF_NEXT.leaf : Fld := ⟨.SEC, 0x084, 0, 21, 1, 0, .ro, rNone, fun _ _ => 0⟩
/-- R373 (R381, Table 11.16). -/
def SEC.LEAF_RESERVED.leaf : Fld := ⟨.SEC, 0x088, 0, 21, 1, 0, .ro, rNone, fun _ _ => 0⟩
/-- Leaves left (R381, Table 11.16). -/
def SEC.LEAVES_LEFT.count : Fld := ⟨.SEC, 0x08C, 0, 21, 1, 0, .ro, rNone, fun _ _ => 0x100000⟩
/-- Quote nonce (R381, Table 11.16). -/
def SEC.NONCE.nonce : Fld := ⟨.SEC, 0x090, 0, 32, 8, 4, .rw, rC, fun _ _ => 0x0⟩
/-- Record destination (R381, Table 11.16). -/
def SEC.QUOTE_DST.offset : Fld := ⟨.SEC, 0x0B0, 0, 32, 1, 0, .rw, rC, fun _ _ => 0x0⟩
/-- 0 staging, 1 buffer (R381, Table 11.16). -/
def SEC.QUOTE_CMD.dst : Fld := ⟨.SEC, 0x0B4, 0, 1, 1, 0, .wo, rNone, fun _ _ => 0x0⟩
/-- Start (R381, Table 11.16). -/
def SEC.QUOTE_CMD.go : Fld := ⟨.SEC, 0x0B4, 31, 1, 1, 0, .wo, rNone, fun _ _ => 0x0⟩
/-- Command result (R381, Table 11.16). -/
def SEC.QUOTE_RESULT.result : Fld := ⟨.SEC, 0x0B8, 0, 3, 1, 0, .ro, rC, fun _ _ => 0x0⟩
/-- Each read returns a fresh random word (R381, Table 11.16). -/
def SEC.TRNG.random : Fld := ⟨.SEC, 0x0BC, 0, 32, 1, 0, .ro, rNone, fun _ _ => 0⟩
/-- Root key hash of check 4 (R381, Table 11.16). -/
def SEC.ROOT_HASH.hash : Fld := ⟨.SEC, 0x0C0, 0, 32, 8, 4, .ro, rNone, fun _ j => Config.rootHashWord j⟩

/-- Fields of page SEC, part 1. -/
def SEC.fields1 : List Fld := [SEC.CTRL.quote_gap_s, SEC.STATUS.identity, SEC.STATUS.busy, SEC.STATUS.zeroized, SEC.ID_PUB.key, SEC.LEAF_NEXT.leaf, SEC.LEAF_RESERVED.leaf, SEC.LEAVES_LEFT.count, SEC.NONCE.nonce, SEC.QUOTE_DST.offset, SEC.QUOTE_CMD.dst, SEC.QUOTE_CMD.go, SEC.QUOTE_RESULT.result, SEC.TRNG.random, SEC.ROOT_HASH.hash]
/-- Every field of page SEC beyond the common header. -/
def SEC.fields : List Fld := SEC.fields1

/-! Table 11.17 of spec/11_boot_update.md, rule R382: page KEEP. -/

/-- Keep store readable (R382, Table 11.17). -/
def KEEP.STATUS.ready : Fld := ⟨.KEEP, 0x014, 0, 1, 1, 0, .ro, rC, fun _ _ => 0x0⟩
/-- A counter at or above ALARM (R382, Table 11.17). -/
def KEEP.STATUS.wear_alarm : Fld := ⟨.KEEP, 0x014, 1, 1, 1, 0, .ro, rC, fun _ _ => 0x0⟩
/-- A block worn (R382, Table 11.17). -/
def KEEP.STATUS.worn : Fld := ⟨.KEEP, 0x014, 2, 1, 1, 0, .ro, rC, fun _ _ => 0x0⟩
/-- KEEP_WEAR level (900,000) (R382, Table 11.17). -/
def KEEP.ALARM.count : Fld := ⟨.KEEP, 0x040, 0, 20, 1, 0, .rw, rC, fun _ _ => 0xDBBA0⟩
/-- Highest counter (R382, Table 11.17). -/
def KEEP.MAX_WEAR.count : Fld := ⟨.KEEP, 0x044, 0, 20, 1, 0, .ro, rNone, fun _ _ => 0⟩
/-- Its block (R382, Table 11.17). -/
def KEEP.MAX_WEAR.block : Fld := ⟨.KEEP, 0x044, 20, 10, 1, 0, .ro, rNone, fun _ _ => 0⟩
/-- Block shown in WEAR_READ (R382, Table 11.17). -/
def KEEP.WEAR_SEL.block : Fld := ⟨.KEEP, 0x048, 0, 10, 1, 0, .rw, rC, fun _ _ => 0x0⟩
/-- Counter (R382, Table 11.17). -/
def KEEP.WEAR_READ.count : Fld := ⟨.KEEP, 0x04C, 0, 20, 1, 0, .ro, rNone, fun _ _ => 0⟩
/-- Dirty bit (R382, Table 11.17). -/
def KEEP.WEAR_READ.dirty : Fld := ⟨.KEEP, 0x04C, 20, 1, 1, 0, .ro, rNone, fun _ _ => 0⟩
/-- Worn (R382, Table 11.17). -/
def KEEP.WEAR_READ.worn : Fld := ⟨.KEEP, 0x04C, 21, 1, 1, 0, .ro, rNone, fun _ _ => 0⟩
/-- Worn blocks (R382, Table 11.17). -/
def KEEP.WORN.blocks : Fld := ⟨.KEEP, 0x050, 0, 11, 1, 0, .ro, rNone, fun _ _ => 0⟩
/-- Writes refused under R376 (R382, Table 11.17). -/
def KEEP.REFUSED.count : Fld := ⟨.KEEP, 0x054, 0, 32, 1, 0, .rc, rC, fun _ _ => 0x0⟩
/-- Settings version (R382, Table 11.17). -/
def KEEP.AREA.version : Fld := ⟨.KEEP, 0x058, 0, 16, 2, 8, .ro, rNone, fun _ _ => 0⟩
/-- R343 (R382, Table 11.17). -/
def KEEP.AREA.valid : Fld := ⟨.KEEP, 0x058, 16, 1, 2, 8, .ro, rNone, fun _ _ => 0⟩
/-- Generation (R382, Table 11.17). -/
def KEEP.AREA_GEN.generation : Fld := ⟨.KEEP, 0x05C, 0, 32, 2, 8, .ro, rNone, fun _ _ => 0⟩

/-- Fields of page KEEP, part 1. -/
def KEEP.fields1 : List Fld := [KEEP.STATUS.ready, KEEP.STATUS.wear_alarm, KEEP.STATUS.worn, KEEP.ALARM.count, KEEP.MAX_WEAR.count, KEEP.MAX_WEAR.block, KEEP.WEAR_SEL.block, KEEP.WEAR_READ.count, KEEP.WEAR_READ.dirty, KEEP.WEAR_READ.worn, KEEP.WORN.blocks, KEEP.REFUSED.count, KEEP.AREA.version, KEEP.AREA.valid, KEEP.AREA_GEN.generation]
/-- Every field of page KEEP beyond the common header. -/
def KEEP.fields : List Fld := KEEP.fields1

/-! Table 11.18 of spec/11_boot_update.md, rule R383: page ACL. -/

/-- R378 (R383, Table 11.18). -/
def ACL.CTRL.lock : Fld := ⟨.ACL, 0x010, 0, 1, 1, 0, .w1s, rC, fun _ _ => 0x0⟩
/-- Page whose table is read or written (R383, Table 11.18). -/
def ACL.PAGE_SEL.page : Fld := ⟨.ACL, 0x040, 0, 16, 1, 0, .rw, rC, fun _ _ => 0x0⟩
/-- 16 entries of 2 bits each, under R377 (R383, Table 11.18). -/
def ACL.TABLE.entries : Fld := ⟨.ACL, 0x044, 0, 32, 4, 4, .rw, rC, fun _ _ => 0x0⟩
/-- 1 READ, 2 WRITE, 3 DEFAULT (R383, Table 11.18). -/
def ACL.CMD.op : Fld := ⟨.ACL, 0x054, 0, 2, 1, 0, .wo, rNone, fun _ _ => 0x0⟩
/-- 0 idle, 2 done, 3 refused LOCKED, 4 refused RULE, 5 refused PAGE (no such page) (R383, Table 11.18). -/
def ACL.RESULT.result : Fld := ⟨.ACL, 0x058, 0, 3, 1, 0, .ro, rC, fun _ _ => 0x0⟩
/-- Register accesses refused by any table, saturating (R383, Table 11.18). -/
def ACL.DENIED.count : Fld := ⟨.ACL, 0x05C, 0, 16, 1, 0, .rc, rC, fun _ _ => 0x0⟩
/-- Master of the last refusal (R383, Table 11.18). -/
def ACL.DENIED.master : Fld := ⟨.ACL, 0x05C, 16, 6, 1, 0, .rc, rC, fun _ _ => 0x0⟩
/-- Page of the last refusal (R383, Table 11.18). -/
def ACL.DENIED_PAGE.page : Fld := ⟨.ACL, 0x060, 0, 16, 1, 0, .rc, rC, fun _ _ => 0x0⟩

/-- Fields of page ACL, part 1. -/
def ACL.fields1 : List Fld := [ACL.CTRL.lock, ACL.PAGE_SEL.page, ACL.TABLE.entries, ACL.CMD.op, ACL.RESULT.result, ACL.DENIED.count, ACL.DENIED.master, ACL.DENIED_PAGE.page]
/-- Every field of page ACL beyond the common header. -/
def ACL.fields : List Fld := ACL.fields1

/-! Table 15.9 of spec/15_twowire.md, rule R508: page TW. -/

/-- Port in use (R508, Table 15.9). -/
def TW.CTRL.enable : Fld := ⟨.TW, 0x010, 0, 1, 1, 0, .rw, rC, fun _ _ => 0x1⟩
/-- 0 100 kHz, 1 400 kHz, 2 1 MHz; takes effect at IDLE (R508, Table 15.9). -/
def TW.CTRL.speed : Fld := ⟨.TW, 0x010, 1, 2, 1, 0, .rw, rC, fun i _ => if i < 4 then 2 else if i = 5 then 1 else 0⟩
/-- 1–100 ms (R488) (R508, Table 15.9). -/
def TW.CTRL.stretch_ms : Fld := ⟨.TW, 0x010, 3, 7, 1, 0, .rw, rC, fun _ _ => 0x19⟩
/-- R502 (R508, Table 15.9). -/
def TW.CTRL.pec_en : Fld := ⟨.TW, 0x010, 10, 1, 1, 0, .rw, rC, fun i _ => if i = 4 then 0 else 1⟩
/-- R493 (R508, Table 15.9). -/
def TW.CTRL.barker_en : Fld := ⟨.TW, 0x010, 11, 1, 1, 0, .rw, rC, fun i _ => if i = 4 then 0 else 1⟩
/-- TW4 only; R500 (R508, Table 15.9). -/
def TW.CTRL.sleep_en : Fld := ⟨.TW, 0x010, 12, 1, 1, 0, .rw, rC, fun i _ => if i = 4 then 1 else 0⟩
/-- 0 OFF, 1 IDLE, 2 BUSY, 3 STUCK, 4 SLEEP (R508, Table 15.9). -/
def TW.STATUS.state : Fld := ⟨.TW, 0x014, 0, 3, 1, 0, .ro, rC, fun _ _ => 0x0⟩
/-- Level sampled on SCL (R508, Table 15.9). -/
def TW.STATUS.scl : Fld := ⟨.TW, 0x014, 3, 1, 1, 0, .ro, rNone, fun _ _ => 0x1⟩
/-- Level sampled on SDA (R508, Table 15.9). -/
def TW.STATUS.sda : Fld := ⟨.TW, 0x014, 4, 1, 1, 0, .ro, rNone, fun _ _ => 0x1⟩
/-- Misplaced conditions, overlong pulses, stray pointers; saturating (R508, Table 15.9). -/
def TW.PROTO_ERR.count : Fld := ⟨.TW, 0x040, 0, 16, 1, 0, .rc, rC, fun _ _ => 0x0⟩
/-- R490, R491; saturating (R508, Table 15.9). -/
def TW.ARB_LOST.count : Fld := ⟨.TW, 0x044, 0, 16, 1, 0, .rc, rC, fun _ _ => 0x0⟩
/-- NACKs received; saturating (R508, Table 15.9). -/
def TW.NACKS.count : Fld := ⟨.TW, 0x048, 0, 16, 1, 0, .rc, rC, fun _ _ => 0x0⟩
/-- Stretch timeouts; saturating (R508, Table 15.9). -/
def TW.STRETCH_TO.count : Fld := ⟨.TW, 0x04C, 0, 16, 1, 0, .rc, rC, fun _ _ => 0x0⟩
/-- Successful cures; saturating (R508, Table 15.9). -/
def TW.HANG_CURES.cures : Fld := ⟨.TW, 0x050, 0, 16, 1, 0, .rc, rC, fun _ _ => 0x0⟩
/-- Cures ended after nine clocks; saturating (R508, Table 15.9). -/
def TW.HANG_CURES.failed : Fld := ⟨.TW, 0x050, 16, 16, 1, 0, .rc, rC, fun _ _ => 0x0⟩
/-- PEC mismatches; saturating (R508, Table 15.9). -/
def TW.PEC_ERR.count : Fld := ⟨.TW, 0x054, 0, 16, 1, 0, .rc, rC, fun _ _ => 0x0⟩
/-- Requests seen; saturating (R508, Table 15.9). -/
def TW.BARKER.count : Fld := ⟨.TW, 0x058, 0, 16, 1, 0, .rc, rC, fun _ _ => 0x0⟩
/-- Last address answered (R508, Table 15.9). -/
def TW.BARKER.last_addr : Fld := ⟨.TW, 0x058, 16, 7, 1, 0, .ro, rC, fun _ _ => 0x0⟩
/-- Requests with no answer; saturating (R508, Table 15.9). -/
def TW.BARKER.spurious : Fld := ⟨.TW, 0x058, 24, 8, 1, 0, .rc, rC, fun _ _ => 0x0⟩
/-- Transactions completed; saturating (R508, Table 15.9). -/
def TW.XFERS.count : Fld := ⟨.TW, 0x05C, 0, 32, 1, 0, .ro, rC, fun _ _ => 0x0⟩
/-- Target address (R508, Table 15.9). -/
def TW.XFER_CTRL.addr : Fld := ⟨.TW, 0x060, 0, 7, 1, 0, .wo, rNone, fun _ _ => 0x0⟩
/-- Bytes written from XFER_DATA, 0–31 (R508, Table 15.9). -/
def TW.XFER_CTRL.wr_len : Fld := ⟨.TW, 0x060, 8, 5, 1, 0, .wo, rNone, fun _ _ => 0x0⟩
/-- Bytes read into XFER_DATA after a repeated START, 0–31 (R508, Table 15.9). -/
def TW.XFER_CTRL.rd_len : Fld := ⟨.TW, 0x060, 16, 5, 1, 0, .wo, rNone, fun _ _ => 0x0⟩
/-- Append and check PEC (R508, Table 15.9). -/
def TW.XFER_CTRL.pec : Fld := ⟨.TW, 0x060, 29, 1, 1, 0, .wo, rNone, fun _ _ => 0x0⟩
/-- Queue at the priority of R494 (R508, Table 15.9). -/
def TW.XFER_CTRL.go : Fld := ⟨.TW, 0x060, 31, 1, 1, 0, .wo, rNone, fun _ _ => 0x0⟩
/-- 0 idle, 1 running, 2 done, 3 refused BUSY, 4 refused STATE, 5 failed (R508, Table 15.9). -/
def TW.XFER_RESULT.result : Fld := ⟨.TW, 0x064, 0, 3, 1, 0, .ro, rC, fun _ _ => 0x0⟩
/-- 1 NACK, 2 ARB, 3 stretch timeout, 4 PEC, 5 stuck (R508, Table 15.9). -/
def TW.XFER_RESULT.reason : Fld := ⟨.TW, 0x064, 4, 3, 1, 0, .ro, rC, fun _ _ => 0x0⟩
/-- 32 bytes, byte 0 in [7:0] of XFER_DATA0 (R508, Table 15.9). -/
def TW.XFER_DATA.data : Fld := ⟨.TW, 0x080, 0, 32, 8, 4, .rw, rC, fun _ _ => 0x0⟩
/-- TW4 only: 0x40 + TW4_ADDR[2:0] (R508, Table 15.9). -/
def TW.TGT.address : Fld := ⟨.TW, 0x0A0, 0, 7, 1, 0, .ro, rC, fun i _ => if i = 4 then 0x47 else 0⟩
/-- TW4 only: Table 15.4 (R508, Table 15.9). -/
def TW.ATTN.causes : Fld := ⟨.TW, 0x0A4, 0, 8, 1, 0, .w1c, rC, fun _ _ => 0x0⟩
/-- TW4 only: R501 (R508, Table 15.9). -/
def TW.ATTN_EN.enable : Fld := ⟨.TW, 0x0A8, 0, 8, 1, 0, .rw, rC, fun _ _ => 0xFF⟩
/-- TW4 only: window page (R496) (R508, Table 15.9). -/
def TW.WIN.page : Fld := ⟨.TW, 0x0AC, 0, 16, 1, 0, .rw, rC, fun _ _ => 0x0⟩
/-- TW4 only: R497 (R508, Table 15.9). -/
def TW.TGT_STATUS.denied : Fld := ⟨.TW, 0x0B0, 0, 1, 1, 0, .rc, rC, fun _ _ => 0x0⟩
/-- TW4 only: R497 (R508, Table 15.9). -/
def TW.TGT_STATUS.unavailable : Fld := ⟨.TW, 0x0B0, 1, 1, 1, 0, .rc, rC, fun _ _ => 0x0⟩
/-- TW4 only: R498 (R508, Table 15.9). -/
def TW.TGT_STATUS.partial : Fld := ⟨.TW, 0x0B0, 2, 1, 1, 0, .rc, rC, fun _ _ => 0x0⟩
/-- TW4 only: current pointer (R508, Table 15.9). -/
def TW.TGT_STATUS.pointer : Fld := ⟨.TW, 0x0B0, 16, 16, 1, 0, .ro, rC, fun _ _ => 0x0⟩

/-- Fields of page TW, part 1. -/
def TW.fields1 : List Fld := [TW.CTRL.enable, TW.CTRL.speed, TW.CTRL.stretch_ms, TW.CTRL.pec_en, TW.CTRL.barker_en, TW.CTRL.sleep_en, TW.STATUS.state, TW.STATUS.scl, TW.STATUS.sda, TW.PROTO_ERR.count, TW.ARB_LOST.count, TW.NACKS.count, TW.STRETCH_TO.count, TW.HANG_CURES.cures, TW.HANG_CURES.failed, TW.PEC_ERR.count, TW.BARKER.count, TW.BARKER.last_addr, TW.BARKER.spurious, TW.XFERS.count, TW.XFER_CTRL.addr, TW.XFER_CTRL.wr_len, TW.XFER_CTRL.rd_len, TW.XFER_CTRL.pec]
/-- Fields of page TW, part 2. -/
def TW.fields2 : List Fld := [TW.XFER_CTRL.go, TW.XFER_RESULT.result, TW.XFER_RESULT.reason, TW.XFER_DATA.data, TW.TGT.address, TW.ATTN.causes, TW.ATTN_EN.enable, TW.WIN.page, TW.TGT_STATUS.denied, TW.TGT_STATUS.unavailable, TW.TGT_STATUS.partial, TW.TGT_STATUS.pointer]
/-- Every field of page TW beyond the common header. -/
def TW.fields : List Fld := TW.fields1 ++ TW.fields2

/-! Table 16.8 of spec/16_selftest_recorder.md, rule R531: page RECORD. -/

/-- Recorder running (R531, Table 16.8). -/
def RECORD.CTRL.en : Fld := ⟨.RECORD, 0x010, 0, 1, 1, 0, .rw, rC, fun _ _ => 0x1⟩
/-- R527 (R531, Table 16.8). -/
def RECORD.CTRL.compat_tc4 : Fld := ⟨.RECORD, 0x010, 1, 1, 1, 0, .rw, rC, fun _ _ => 0x0⟩
/-- R528 (R531, Table 16.8). -/
def RECORD.CTRL.ring_en : Fld := ⟨.RECORD, 0x010, 2, 1, 1, 0, .rw, rC, fun _ _ => 0x0⟩
/-- R528 (R531, Table 16.8). -/
def RECORD.CTRL.keep_en : Fld := ⟨.RECORD, 0x010, 3, 1, 1, 0, .rw, rC, fun _ _ => 0x1⟩
/-- Period kept in the keep store (R531, Table 16.8). -/
def RECORD.CTRL.keep_period : Fld := ⟨.RECORD, 0x010, 4, 2, 1, 0, .rw, rC, fun _ _ => 0x3⟩
/-- Bit p: closed bank of Pp unwritten (R531, Table 16.8). -/
def RECORD.STATUS.pending : Fld := ⟨.RECORD, 0x014, 0, 4, 1, 0, .ro, rC, fun _ _ => 0x0⟩
/-- R525 (R531, Table 16.8). -/
def RECORD.STATUS.overfull : Fld := ⟨.RECORD, 0x014, 4, 1, 1, 0, .ro, rC, fun _ _ => 0x0⟩
/-- Ring region offset (R531, Table 16.8). -/
def RECORD.RING_BASE.base : Fld := ⟨.RECORD, 0x040, 12, 18, 1, 0, .rw, rC, fun _ _ => 0x0⟩
/-- 4 KiB units, 16–4,096 (R531, Table 16.8). -/
def RECORD.RING_SIZE.pages : Fld := ⟨.RECORD, 0x044, 0, 13, 1, 0, .rw, rC, fun _ _ => 0x10⟩
/-- Next write (R531, Table 16.8). -/
def RECORD.RING_TAIL.offset : Fld := ⟨.RECORD, 0x048, 0, 24, 1, 0, .ro, rC, fun _ _ => 0x0⟩
/-- Saturating (R531, Table 16.8). -/
def RECORD.RING_WRAPS.count : Fld := ⟨.RECORD, 0x04C, 0, 32, 1, 0, .ro, rC, fun _ _ => 0x0⟩
/-- Next record's seq (R531, Table 16.8). -/
def RECORD.SEQ.seq : Fld := ⟨.RECORD, 0x050, 0, 32, 1, 0, .ro, rC, fun _ _ => 0x0⟩
/-- Length of Pp; 0 disabled (R531, Table 16.8). -/
def RECORD.PERIOD.s : Fld := ⟨.RECORD, 0x054, 0, 17, 4, 4, .ro, rC, fun _ j => recordPeriodDefault j⟩
/-- Last record of Pp (R531, Table 16.8). -/
def RECORD.LAST.seq : Fld := ⟨.RECORD, 0x064, 0, 32, 4, 4, .ro, rC, fun _ _ => 0x0⟩
/-- R524, saturating (R531, Table 16.8). -/
def RECORD.EXTENDED.count : Fld := ⟨.RECORD, 0x074, 0, 16, 1, 0, .rc, rC, fun _ _ => 0x0⟩
/-- Saturated slots written, saturating (R531, Table 16.8). -/
def RECORD.SATURATED.count : Fld := ⟨.RECORD, 0x078, 0, 16, 1, 0, .rc, rC, fun _ _ => 0x0⟩
/-- Period shown in QOPEN (R531, Table 16.8). -/
def RECORD.QSEL.period : Fld := ⟨.RECORD, 0x07C, 0, 2, 1, 0, .rw, rC, fun _ _ => 0x0⟩
/-- Slot shown (R531, Table 16.8). -/
def RECORD.QSEL.slot : Fld := ⟨.RECORD, 0x07C, 8, 6, 1, 0, .rw, rC, fun _ _ => 0x0⟩
/-- The selected open-bank slot, as +0x20 to +0x5F of Table 16.5 (R531, Table 16.8). -/
def RECORD.QOPEN.word : Fld := ⟨.RECORD, 0x080, 0, 32, 16, 4, .ro, rC, fun _ _ => 0x0⟩
/-- Word of the keep ring (R531, Table 16.8). -/
def RECORD.KEEP_SEL.word : Fld := ⟨.RECORD, 0x0C0, 2, 12, 1, 0, .rw, rC, fun _ _ => 0x0⟩
/-- That word (R531, Table 16.8). -/
def RECORD.KEEP_DATA.data : Fld := ⟨.RECORD, 0x0C4, 0, 32, 1, 0, .ro, rNone, fun _ _ => 0⟩
/-- Next keep-ring write (R531, Table 16.8). -/
def RECORD.KEEP_HEAD.offset : Fld := ⟨.RECORD, 0x0C8, 0, 14, 1, 0, .ro, rNone, fun _ _ => 0⟩

/-- Fields of page RECORD, part 1. -/
def RECORD.fields1 : List Fld := [RECORD.CTRL.en, RECORD.CTRL.compat_tc4, RECORD.CTRL.ring_en, RECORD.CTRL.keep_en, RECORD.CTRL.keep_period, RECORD.STATUS.pending, RECORD.STATUS.overfull, RECORD.RING_BASE.base, RECORD.RING_SIZE.pages, RECORD.RING_TAIL.offset, RECORD.RING_WRAPS.count, RECORD.SEQ.seq, RECORD.PERIOD.s, RECORD.LAST.seq, RECORD.EXTENDED.count, RECORD.SATURATED.count, RECORD.QSEL.period, RECORD.QSEL.slot, RECORD.QOPEN.word, RECORD.KEEP_SEL.word, RECORD.KEEP_DATA.data, RECORD.KEEP_HEAD.offset]
/-- Every field of page RECORD beyond the common header. -/
def RECORD.fields : List Fld := RECORD.fields1

/-! Table 16.7 of spec/16_selftest_recorder.md, rule R530: page BIST. -/

/-- R513 (R530, Table 16.7). -/
def BIST.CTRL.slice_ms : Fld := ⟨.BIST, 0x010, 0, 6, 1, 0, .rw, rC, fun _ _ => 0x32⟩
/-- Offline tests running, 0–8 (R530, Table 16.7). -/
def BIST.STATUS.running : Fld := ⟨.BIST, 0x014, 0, 4, 1, 0, .ro, rC, fun _ _ => 0x0⟩
/-- 6 Midway link, 7 converter, 8 rail meter; any type for CANCEL (R530, Table 16.7). -/
def BIST.CMD.type : Fld := ⟨.BIST, 0x040, 0, 4, 1, 0, .wo, rNone, fun _ _ => 0x0⟩
/-- As R518 (R530, Table 16.7). -/
def BIST.CMD.inst : Fld := ⟨.BIST, 0x040, 8, 16, 1, 0, .wo, rNone, fun _ _ => 0x0⟩
/-- 1 TEST, 2 CANCEL (R530, Table 16.7). -/
def BIST.CMD.op : Fld := ⟨.BIST, 0x040, 24, 2, 1, 0, .wo, rNone, fun _ _ => 0x0⟩
/-- Start (R530, Table 16.7). -/
def BIST.CMD.go : Fld := ⟨.BIST, 0x040, 31, 1, 1, 0, .wo, rNone, fun _ _ => 0x0⟩
/-- 0 idle, 1 running, 2 done, 3 refused BUSY, 4 refused STATE (R530, Table 16.7). -/
def BIST.CMD_RESULT.result : Fld := ⟨.BIST, 0x044, 0, 3, 1, 0, .ro, rC, fun _ _ => 0x0⟩
/-- 0 none, 2 PASS, 3 FAIL, 4 INCOMPLETE (R530, Table 16.7). -/
def BIST.CMD_RESULT.test : Fld := ⟨.BIST, 0x044, 8, 3, 1, 0, .ro, rC, fun _ _ => 0x0⟩
/-- Test log entry, 0 newest of 16 (R530, Table 16.7). -/
def BIST.TLOG_SEL.entry : Fld := ⟨.BIST, 0x048, 0, 4, 1, 0, .rw, rC, fun _ _ => 0x0⟩
/-- Block type (R530, Table 16.7). -/
def BIST.TLOG0.type : Fld := ⟨.BIST, 0x04C, 0, 8, 1, 0, .ro, rC, fun _ _ => 0x0⟩
/-- Instance (R530, Table 16.7). -/
def BIST.TLOG0.inst : Fld := ⟨.BIST, 0x04C, 8, 16, 1, 0, .ro, rC, fun _ _ => 0x0⟩
/-- 2 PASS, 3 FAIL, 4 INCOMPLETE (R530, Table 16.7). -/
def BIST.TLOG0.result : Fld := ⟨.BIST, 0x04C, 24, 3, 1, 0, .ro, rC, fun _ _ => 0x0⟩
/-- R512; 0 none (R530, Table 16.7). -/
def BIST.TLOG0.cut : Fld := ⟨.BIST, 0x04C, 27, 3, 1, 0, .ro, rC, fun _ _ => 0x0⟩
/-- Slices passed (R530, Table 16.7). -/
def BIST.TLOG1.done : Fld := ⟨.BIST, 0x050, 0, 16, 1, 0, .ro, rC, fun _ _ => 0x0⟩
/-- Slices in the sequence (R530, Table 16.7). -/
def BIST.TLOG1.expected : Fld := ⟨.BIST, 0x050, 16, 16, 1, 0, .ro, rC, fun _ _ => 0x0⟩
/-- First slice not PASS; 0xFFFF none (R530, Table 16.7). -/
def BIST.TLOG2.slice : Fld := ⟨.BIST, 0x054, 0, 16, 1, 0, .ro, rC, fun _ _ => 0xFFFF⟩
/-- BEAT.NOW [31:0] at the end (R530, Table 16.7). -/
def BIST.TLOG3.beat : Fld := ⟨.BIST, 0x058, 0, 32, 1, 0, .ro, rC, fun _ _ => 0x0⟩
/-- Count of that slice (R530, Table 16.7). -/
def BIST.SLICE_COUNT.count : Fld := ⟨.BIST, 0x05C, 0, 32, 1, 0, .ro, rC, fun _ _ => 0x0⟩
/-- Its E (R530, Table 16.7). -/
def BIST.SLICE_EXPECT.e : Fld := ⟨.BIST, 0x060, 0, 32, 1, 0, .ro, rC, fun _ _ => 0x0⟩
/-- Signature equal to expected (R530, Table 16.7). -/
def BIST.SLICE_SIG.match : Fld := ⟨.BIST, 0x064, 0, 1, 1, 0, .ro, rC, fun _ _ => 0x0⟩
/-- Fail log entry, 0 newest (R530, Table 16.7). -/
def BIST.FLOG_SEL.entry : Fld := ⟨.BIST, 0x070, 0, 6, 1, 0, .rw, rC, fun _ _ => 0x0⟩
/-- R518 (R530, Table 16.7). -/
def BIST.FLOG.word : Fld := ⟨.BIST, 0x074, 0, 32, 4, 4, .ro, rC, fun _ _ => 0x0⟩
/-- Entries logged, saturating (R530, Table 16.7). -/
def BIST.FLOG_COUNT.count : Fld := ⟨.BIST, 0x084, 0, 16, 1, 0, .rc, rC, fun _ _ => 0x0⟩
/-- Bit t: CTt start-up result (R530, Table 16.7). -/
def BIST.START_TILES.pass : Fld := ⟨.BIST, 0x088, 0, 8, 1, 0, .ro, rC, fun _ _ => 0x0⟩
/-- Bit t: CTt start-up result (R530, Table 16.7). -/
def BIST.START_TILES.not_pass : Fld := ⟨.BIST, 0x088, 8, 8, 1, 0, .ro, rC, fun _ _ => 0x0⟩
/-- Bit s: HSs start-up result (R530, Table 16.7). -/
def BIST.START_STACKS.pass : Fld := ⟨.BIST, 0x08C, 0, 16, 1, 0, .ro, rC, fun _ _ => 0x0⟩
/-- Bit s: HSs start-up result (R530, Table 16.7). -/
def BIST.START_STACKS.not_pass : Fld := ⟨.BIST, 0x08C, 16, 16, 1, 0, .ro, rC, fun _ _ => 0x0⟩
/-- R521 (R530, Table 16.7). -/
def BIST.SCAN_CMD.unlock : Fld := ⟨.BIST, 0x090, 0, 1, 1, 0, .wo, rNone, fun _ _ => 0x0⟩
/-- Start (R530, Table 16.7). -/
def BIST.SCAN_CMD.go : Fld := ⟨.BIST, 0x090, 31, 1, 1, 0, .wo, rNone, fun _ _ => 0x0⟩
/-- R521 (R530, Table 16.7). -/
def BIST.SCAN.unlocked : Fld := ⟨.BIST, 0x094, 0, 1, 1, 0, .ro, rC, fun _ _ => 0x0⟩
/-- Bit n: meter of rail n failed (R530, Table 16.7). -/
def BIST.METER_FAILED0.rails : Fld := ⟨.BIST, 0x098, 0, 32, 1, 0, .ro, rC, fun _ _ => 0x0⟩
/-- Bit n: meter of rail 32 + n failed (R530, Table 16.7). -/
def BIST.METER_FAILED1.rails : Fld := ⟨.BIST, 0x09C, 0, 20, 1, 0, .ro, rC, fun _ _ => 0x0⟩

/-- Fields of page BIST, part 1. -/
def BIST.fields1 : List Fld := [BIST.CTRL.slice_ms, BIST.STATUS.running, BIST.CMD.type, BIST.CMD.inst, BIST.CMD.op, BIST.CMD.go, BIST.CMD_RESULT.result, BIST.CMD_RESULT.test, BIST.TLOG_SEL.entry, BIST.TLOG0.type, BIST.TLOG0.inst, BIST.TLOG0.result, BIST.TLOG0.cut, BIST.TLOG1.done, BIST.TLOG1.expected, BIST.TLOG2.slice, BIST.TLOG3.beat, BIST.SLICE_COUNT.count, BIST.SLICE_EXPECT.e, BIST.SLICE_SIG.match, BIST.FLOG_SEL.entry, BIST.FLOG.word, BIST.FLOG_COUNT.count, BIST.START_TILES.pass]
/-- Fields of page BIST, part 2. -/
def BIST.fields2 : List Fld := [BIST.START_TILES.not_pass, BIST.START_STACKS.pass, BIST.START_STACKS.not_pass, BIST.SCAN_CMD.unlock, BIST.SCAN_CMD.go, BIST.SCAN.unlocked, BIST.METER_FAILED0.rails, BIST.METER_FAILED1.rails]
/-- Every field of page BIST beyond the common header. -/
def BIST.fields : List Fld := BIST.fields1 ++ BIST.fields2

/-! Table 14.12 of spec/14_safety.md, rule R484: page AGE. -/

/-- Daily update (R479) (R484, Table 14.12). -/
def AGE.CTRL.en : Fld := ⟨.AGE, 0x010, 0, 1, 1, 0, .rw, rC, fun _ _ => 0x1⟩
/-- Daily tachometer probe (R484, Table 14.12). -/
def AGE.CTRL.probe_en : Fld := ⟨.AGE, 0x010, 1, 1, 1, 0, .rw, rC, fun _ _ => 0x1⟩
/-- Indicators in alarm (R484, Table 14.12). -/
def AGE.STATUS.alarms : Fld := ⟨.AGE, 0x014, 0, 7, 1, 0, .ro, rNone, fun _ _ => 0⟩
/-- Indicators at their limit (R484, Table 14.12). -/
def AGE.STATUS.limits : Fld := ⟨.AGE, 0x014, 8, 7, 1, 0, .ro, rNone, fun _ _ => 0⟩
/-- Indicator of Table 14.8, 0–110 (R484, Table 14.12). -/
def AGE.SEL.index : Fld := ⟨.AGE, 0x040, 0, 7, 1, 0, .rw, rC, fun _ _ => 0x0⟩
/-- Last daily value, in the unit of Table 14.8 (R484, Table 14.12). -/
def AGE.VALUE.value : Fld := ⟨.AGE, 0x044, 0, 32, 1, 0, .ro, rNone, fun _ _ => 0⟩
/-- Limit (R484, Table 14.12). -/
def AGE.LIMIT.limit : Fld := ⟨.AGE, 0x048, 0, 32, 1, 0, .ro, rNone, fun _ _ => 0⟩
/-- First value, or the 168 h baseline for drift (R484, Table 14.12). -/
def AGE.BASELINE.baseline : Fld := ⟨.AGE, 0x04C, 0, 32, 1, 0, .ro, rNone, fun _ _ => 0⟩
/-- eol_days; 0xFFFF none (R484, Table 14.12). -/
def AGE.EOL.days : Fld := ⟨.AGE, 0x050, 0, 16, 1, 0, .ro, rNone, fun _ _ => 0xFFFF⟩
/-- eol_90; 0xFFFF none (R484, Table 14.12). -/
def AGE.EOL.days_90 : Fld := ⟨.AGE, 0x050, 16, 16, 1, 0, .ro, rNone, fun _ _ => 0xFFFF⟩
/-- Daily samples in the fit, 0–90 (R484, Table 14.12). -/
def AGE.SAMPLES.count : Fld := ⟨.AGE, 0x054, 0, 7, 1, 0, .ro, rNone, fun _ _ => 0⟩
/-- R480 (R484, Table 14.12). -/
def AGE.FLAGS.alarm : Fld := ⟨.AGE, 0x058, 0, 1, 1, 0, .ro, rNone, fun _ _ => 0⟩
/-- R480 (R484, Table 14.12). -/
def AGE.FLAGS.at_limit : Fld := ⟨.AGE, 0x058, 1, 1, 1, 0, .ro, rNone, fun _ _ => 0⟩
/-- R480 (R484, Table 14.12). -/
def AGE.ALARM_DAYS.days : Fld := ⟨.AGE, 0x05C, 0, 16, 1, 0, .rw, rC, fun _ _ => 0xB4⟩
/-- Days since manufacture at the last update (R484, Table 14.12). -/
def AGE.DAY.day : Fld := ⟨.AGE, 0x060, 0, 32, 1, 0, .ro, rNone, fun _ _ => 0⟩
/-- Manufacture date, days since 2000-01-01 (R484, Table 14.12). -/
def AGE.MFG_DATE.date : Fld := ⟨.AGE, 0x064, 0, 32, 1, 0, .ro, rNone, fun _ _ => Config.mfgDate⟩
/-- Bit n of ALARMEDk: indicator 32k + n in alarm (R484, Table 14.12). -/
def AGE.ALARMED.alarmed : Fld := ⟨.AGE, 0x070, 0, 32, 4, 4, .ro, rNone, fun _ _ => 0⟩

/-- Fields of page AGE, part 1. -/
def AGE.fields1 : List Fld := [AGE.CTRL.en, AGE.CTRL.probe_en, AGE.STATUS.alarms, AGE.STATUS.limits, AGE.SEL.index, AGE.VALUE.value, AGE.LIMIT.limit, AGE.BASELINE.baseline, AGE.EOL.days, AGE.EOL.days_90, AGE.SAMPLES.count, AGE.FLAGS.alarm, AGE.FLAGS.at_limit, AGE.ALARM_DAYS.days, AGE.DAY.day, AGE.MFG_DATE.date, AGE.ALARMED.alarmed]
/-- Every field of page AGE beyond the common header. -/
def AGE.fields : List Fld := AGE.fields1

/-! Table 11.19 of spec/11_boot_update.md, rule R384: page TRACE. -/

/-- R370 (R384, Table 11.19). -/
def TRACE.CTRL.log_en : Fld := ⟨.TRACE, 0x010, 0, 1, 1, 0, .rw, rC, fun _ _ => 0x1⟩
/-- Least severe level written (R384, Table 11.19). -/
def TRACE.CTRL.level : Fld := ⟨.TRACE, 0x010, 1, 2, 1, 0, .rw, rC, fun _ _ => 0x2⟩
/-- Bit n of MASKk enables point 32k + n (R384, Table 11.19). -/
def TRACE.MASK.enable : Fld := ⟨.TRACE, 0x040, 0, 32, 8, 4, .rw, rC, fun _ _ => 0x0⟩
/-- Entries dropped, saturating (R384, Table 11.19). -/
def TRACE.DROPPED.count : Fld := ⟨.TRACE, 0x060, 0, 32, 1, 0, .rc, rCW, fun _ _ => 0x0⟩
/-- seq of the next entry (R384, Table 11.19). -/
def TRACE.SEQ.seq : Fld := ⟨.TRACE, 0x064, 0, 32, 1, 0, .ro, rCW, fun _ _ => 0x0⟩

/-- Fields of page TRACE, part 1. -/
def TRACE.fields1 : List Fld := [TRACE.CTRL.log_en, TRACE.CTRL.level, TRACE.MASK.enable, TRACE.DROPPED.count, TRACE.SEQ.seq]
/-- Every field of page TRACE beyond the common header. -/
def TRACE.fields : List Fld := TRACE.fields1

/-! Table 9.11 of spec/09_jobs.md, rule R303: page TILE. -/

/-- Apply R298 (R303, Table 9.11). -/
def TILE.CTRL.straggler_en : Fld := ⟨.TILE, 0x010, 0, 1, 1, 0, .rw, rC, fun _ _ => 0x1⟩
/-- 0 IN_SERVICE, 1 FENCED, 2 TESTING, 3 LOST (R303, Table 9.11). -/
def TILE.STATUS.state : Fld := ⟨.TILE, 0x014, 0, 2, 1, 0, .ro, rC, fun _ _ => 0x0⟩
/-- 0 none, 1 host, 2 lost under R297 (R303, Table 9.11). -/
def TILE.STATUS.cause : Fld := ⟨.TILE, 0x014, 2, 2, 1, 0, .ro, rC, fun _ _ => 0x0⟩
/-- Present logical cores, 0–64 (R303, Table 9.11). -/
def TILE.STATUS.cores : Fld := ⟨.TILE, 0x014, 4, 7, 1, 0, .ro, rNone, fun _ _ => 0⟩
/-- 1 FENCE, 2 UNFENCE, 3 RESET, 4 TEST (R303, Table 9.11). -/
def TILE.CMD.op : Fld := ⟨.TILE, 0x040, 0, 3, 1, 0, .wo, rNone, fun _ _ => 0x0⟩
/-- 0 idle, 1 running, 2 done, 3 refused BUSY, 4 refused STATE, 5 failed (R303, Table 9.11). -/
def TILE.CMD_RESULT.result : Fld := ⟨.TILE, 0x044, 0, 3, 1, 0, .ro, rC, fun _ _ => 0x0⟩
/-- Last TEST: 0 none, 2 PASS, 3 FAIL, 4 INCOMPLETE (R303, Table 9.11). -/
def TILE.CMD_RESULT.test : Fld := ⟨.TILE, 0x044, 8, 3, 1, 0, .ro, rC, fun _ _ => 0x0⟩
/-- Partition holding half 2t (R303, Table 9.11). -/
def TILE.HALVES.owner0 : Fld := ⟨.TILE, 0x048, 0, 4, 1, 0, .ro, rC, fun _ _ => 0x0⟩
/-- owner0 is valid (R303, Table 9.11). -/
def TILE.HALVES.valid0 : Fld := ⟨.TILE, 0x048, 7, 1, 1, 0, .ro, rC, fun _ _ => 0x0⟩
/-- Partition holding half 2t + 1 (R303, Table 9.11). -/
def TILE.HALVES.owner1 : Fld := ⟨.TILE, 0x048, 8, 4, 1, 0, .ro, rC, fun _ _ => 0x0⟩
/-- owner1 is valid (R303, Table 9.11). -/
def TILE.HALVES.valid1 : Fld := ⟨.TILE, 0x048, 15, 1, 1, 0, .ro, rC, fun _ _ => 0x0⟩
/-- Consecutive late steps, saturating (R303, Table 9.11). -/
def TILE.LATE.late_run : Fld := ⟨.TILE, 0x04C, 0, 8, 1, 0, .ro, rCT, fun _ _ => 0x0⟩
/-- Consecutive steps not late, saturating (R303, Table 9.11). -/
def TILE.LATE.clear_run : Fld := ⟨.TILE, 0x04C, 8, 8, 1, 0, .ro, rCT, fun _ _ => 0x0⟩
/-- R298 (R303, Table 9.11). -/
def TILE.LATE.straggler : Fld := ⟨.TILE, 0x04C, 16, 1, 1, 0, .ro, rCT, fun _ _ => 0x0⟩
/-- Last step's lateness beyond A_min, 0.1 % units of A_min, saturating (R303, Table 9.11). -/
def TILE.LATE_LAST.permille : Fld := ⟨.TILE, 0x050, 0, 16, 1, 0, .ro, rCT, fun _ _ => 0x0⟩
/-- Late steps, saturating (R303, Table 9.11). -/
def TILE.LATE_STEPS.count : Fld := ⟨.TILE, 0x054, 0, 32, 1, 0, .rc, rCT, fun _ _ => 0x0⟩

/-- Fields of page TILE, part 1. -/
def TILE.fields1 : List Fld := [TILE.CTRL.straggler_en, TILE.STATUS.state, TILE.STATUS.cause, TILE.STATUS.cores, TILE.CMD.op, TILE.CMD_RESULT.result, TILE.CMD_RESULT.test, TILE.HALVES.owner0, TILE.HALVES.valid0, TILE.HALVES.owner1, TILE.HALVES.valid1, TILE.LATE.late_run, TILE.LATE.clear_run, TILE.LATE.straggler, TILE.LATE_LAST.permille, TILE.LATE_STEPS.count]
/-- Every field of page TILE beyond the common header. -/
def TILE.fields : List Fld := TILE.fields1

/-! Table 8.14 of spec/08_edpen.md, rule R271: page MIDWAY. -/

/-- Allow partition Edpen traffic; management traffic passes regardless (R271, Table 8.14). -/
def MIDWAY.CTRL.edpen_en : Fld := ⟨.MIDWAY, 0x010, 0, 1, 1, 0, .rw, rC, fun _ _ => 0x0⟩
/-- Bit d: link Dd in service (R271, Table 8.14). -/
def MIDWAY.STATUS.link_up : Fld := ⟨.MIDWAY, 0x014, 0, 3, 1, 0, .ro, rC, fun _ _ => 0x0⟩
/-- Management link up (R271, Table 8.14). -/
def MIDWAY.STATUS.mgmt_up : Fld := ⟨.MIDWAY, 0x014, 3, 1, 1, 0, .ro, rC, fun _ _ => 0x0⟩
/-- MODULE_ID agrees under R245 (R271, Table 8.14). -/
def MIDWAY.STATUS.id_ok : Fld := ⟨.MIDWAY, 0x014, 4, 1, 1, 0, .ro, rC, fun _ _ => 0x0⟩
/-- Ports UP, 0–8 (R271, Table 8.14). -/
def MIDWAY.STATUS.ports_up : Fld := ⟨.MIDWAY, 0x014, 5, 4, 1, 0, .ro, rC, fun _ _ => 0x0⟩
/-- ROUTE_LOAD_CMD running (R271, Table 8.14). -/
def MIDWAY.STATUS.route_loading : Fld := ⟨.MIDWAY, 0x014, 9, 1, 1, 0, .ro, rC, fun _ _ => 0x0⟩
/-- Module number, 0–32,767 (R271, Table 8.14). -/
def MIDWAY.MODULE_ID.module : Fld := ⟨.MIDWAY, 0x040, 0, 15, 1, 0, .rw, rC, fun _ _ => 0x0⟩
/-- module is set (R271, Table 8.14). -/
def MIDWAY.MODULE_ID.valid : Fld := ⟨.MIDWAY, 0x040, 31, 1, 1, 0, .rw, rC, fun _ _ => 0x0⟩
/-- Global tile of the alignment parent (R271, Table 8.14). -/
def MIDWAY.BEAT_PARENT.tile : Fld := ⟨.MIDWAY, 0x044, 0, 18, 1, 0, .rw, rC, fun _ _ => 0x0⟩
/-- tile is set (R271, Table 8.14). -/
def MIDWAY.BEAT_PARENT.valid : Fld := ⟨.MIDWAY, 0x044, 31, 1, 1, 0, .rw, rC, fun _ _ => 0x0⟩
/-- Route entry for ROUTE_LO and ROUTE_HI (R271, Table 8.14). -/
def MIDWAY.ROUTE_SEL.entry : Fld := ⟨.MIDWAY, 0x048, 0, 15, 1, 0, .rw, rC, fun _ _ => 0x0⟩
/-- Entry bits [31:0] (R271, Table 8.14). -/
def MIDWAY.ROUTE_LO.bits_lo : Fld := ⟨.MIDWAY, 0x04C, 0, 32, 1, 0, .rw, rC, fun _ _ => 0x0⟩
/-- Entry bits [63:32]; a write commits the whole entry (R271, Table 8.14). -/
def MIDWAY.ROUTE_HI.bits_hi : Fld := ⟨.MIDWAY, 0x050, 0, 32, 1, 0, .rw, rC, fun _ _ => 0x0⟩
/-- Module address of a route table (R271, Table 8.14). -/
def MIDWAY.ROUTE_LOAD.addr : Fld := ⟨.MIDWAY, 0x054, 0, 64, 1, 0, .rw, rC, fun _ _ => 0x0⟩
/-- First entry (R271, Table 8.14). -/
def MIDWAY.ROUTE_LOAD_CMD.first : Fld := ⟨.MIDWAY, 0x05C, 0, 15, 1, 0, .wo, rNone, fun _ _ => 0x0⟩
/-- Entries, 1–32,768 (R271, Table 8.14). -/
def MIDWAY.ROUTE_LOAD_CMD.count : Fld := ⟨.MIDWAY, 0x05C, 15, 16, 1, 0, .wo, rNone, fun _ _ => 0x0⟩
/-- Start (R271, Table 8.14). -/
def MIDWAY.ROUTE_LOAD_CMD.go : Fld := ⟨.MIDWAY, 0x05C, 31, 1, 1, 0, .wo, rNone, fun _ _ => 0x0⟩
/-- Collector tile (R271, Table 8.14). -/
def MIDWAY.PACE_DEST.tile : Fld := ⟨.MIDWAY, 0x060, 0, 18, 1, 0, .rw, rC, fun _ _ => 0x0⟩
/-- Collector queue (R271, Table 8.14). -/
def MIDWAY.PACE_DEST.queue : Fld := ⟨.MIDWAY, 0x060, 18, 12, 1, 0, .rw, rC, fun _ _ => 0x0⟩
/-- Send PACE records (R271, Table 8.14). -/
def MIDWAY.PACE_DEST.en : Fld := ⟨.MIDWAY, 0x060, 31, 1, 1, 0, .rw, rC, fun _ _ => 0x0⟩
/-- Step number; arrival offset; slack; [0] stretched, [1] overrun, [5:2] partition (R271, Table 8.14). -/
def MIDWAY.PACE_LAST.word : Fld := ⟨.MIDWAY, 0x064, 0, 32, 4, 4, .ro, rC, fun _ _ => 0x0⟩
/-- Job tag of PTn (R271, Table 8.14). -/
def MIDWAY.JOB_TAG.tag : Fld := ⟨.MIDWAY, 0x080, 0, 16, 16, 4, .rw, rC, fun _ _ => 0x0⟩
/-- tag is set (R271, Table 8.14). -/
def MIDWAY.JOB_TAG.valid : Fld := ⟨.MIDWAY, 0x080, 16, 1, 16, 4, .rw, rC, fun _ _ => 0x0⟩
/-- End-to-end resend timeout, 2–1,000 µs (R271, Table 8.14). -/
def MIDWAY.E2E_TIMEOUT.us : Fld := ⟨.MIDWAY, 0x0C0, 0, 10, 1, 0, .rw, rC, fun _ _ => 0x14⟩
/-- Arrivals refused, saturating (R271, Table 8.14). -/
def MIDWAY.REFUSED.count : Fld := ⟨.MIDWAY, 0x0C4, 0, 16, 1, 0, .rc, rC, fun _ _ => 0x0⟩
/-- Reason of the last refusal (R271, Table 8.14). -/
def MIDWAY.REFUSED.last_reason : Fld := ⟨.MIDWAY, 0x0C4, 16, 4, 1, 0, .rc, rC, fun _ _ => 0x0⟩
/-- End-to-end resends, saturating (R271, Table 8.14). -/
def MIDWAY.RESENDS.count : Fld := ⟨.MIDWAY, 0x0C8, 0, 32, 1, 0, .rc, rC, fun _ _ => 0x0⟩
/-- Flits resent on Dd, saturating (R271, Table 8.14). -/
def MIDWAY.LINK_RETRY.flits : Fld := ⟨.MIDWAY, 0x0D0, 0, 32, 3, 8, .rc, rC, fun _ _ => 0x0⟩
/-- Times Dd left service (R271, Table 8.14). -/
def MIDWAY.LINK_DOWNS.count : Fld := ⟨.MIDWAY, 0x0D4, 0, 16, 3, 8, .ro, rC, fun _ _ => 0x0⟩
/-- Collectives running (R271, Table 8.14). -/
def MIDWAY.COLL_STATUS.active : Fld := ⟨.MIDWAY, 0x100, 0, 6, 1, 0, .ro, rC, fun _ _ => 0x0⟩
/-- Status of the last finished collective (R271, Table 8.14). -/
def MIDWAY.COLL_STATUS.last_status : Fld := ⟨.MIDWAY, 0x100, 8, 8, 1, 0, .ro, rC, fun _ _ => 0x0⟩

/-- Fields of page MIDWAY, part 1. -/
def MIDWAY.fields1 : List Fld := [MIDWAY.CTRL.edpen_en, MIDWAY.STATUS.link_up, MIDWAY.STATUS.mgmt_up, MIDWAY.STATUS.id_ok, MIDWAY.STATUS.ports_up, MIDWAY.STATUS.route_loading, MIDWAY.MODULE_ID.module, MIDWAY.MODULE_ID.valid, MIDWAY.BEAT_PARENT.tile, MIDWAY.BEAT_PARENT.valid, MIDWAY.ROUTE_SEL.entry, MIDWAY.ROUTE_LO.bits_lo, MIDWAY.ROUTE_HI.bits_hi, MIDWAY.ROUTE_LOAD.addr, MIDWAY.ROUTE_LOAD_CMD.first, MIDWAY.ROUTE_LOAD_CMD.count, MIDWAY.ROUTE_LOAD_CMD.go, MIDWAY.PACE_DEST.tile, MIDWAY.PACE_DEST.queue, MIDWAY.PACE_DEST.en, MIDWAY.PACE_LAST.word, MIDWAY.JOB_TAG.tag, MIDWAY.JOB_TAG.valid, MIDWAY.E2E_TIMEOUT.us]
/-- Fields of page MIDWAY, part 2. -/
def MIDWAY.fields2 : List Fld := [MIDWAY.REFUSED.count, MIDWAY.REFUSED.last_reason, MIDWAY.RESENDS.count, MIDWAY.LINK_RETRY.flits, MIDWAY.LINK_DOWNS.count, MIDWAY.COLL_STATUS.active, MIDWAY.COLL_STATUS.last_status]
/-- Every field of page MIDWAY beyond the common header. -/
def MIDWAY.fields : List Fld := MIDWAY.fields1 ++ MIDWAY.fields2

/-! Table 7.5 of spec/07_queues.md, rule R232: page JUG. -/

/-- Run the Juggler (R232, Table 7.5). -/
def JUG.CTRL.enable : Fld := ⟨.JUG, 0x010, 0, 1, 1, 0, .rw, rCT, fun _ _ => 0x1⟩
/-- Spill under R229 (R232, Table 7.5). -/
def JUG.CTRL.spill_en : Fld := ⟨.JUG, 0x010, 1, 1, 1, 0, .rw, rCT, fun _ _ => 0x0⟩
/-- Free general cells: 65,536 less the queue reserves and the refill reserve; 65,024 after reset, with the default refill reserve of 512 (R232, Table 7.5). -/
def JUG.STATUS.general_free : Fld := ⟨.JUG, 0x014, 0, 17, 1, 0, .ro, rCT, fun _ _ => 0xFE00⟩
/-- Spill in progress (R232, Table 7.5). -/
def JUG.STATUS.spilling : Fld := ⟨.JUG, 0x014, 17, 1, 1, 0, .ro, rCT, fun _ _ => 0x0⟩
/-- Refill in progress (R232, Table 7.5). -/
def JUG.STATUS.refilling : Fld := ⟨.JUG, 0x014, 18, 1, 1, 0, .ro, rCT, fun _ _ => 0x0⟩
/-- Producers stalled on an empty general pool (R232, Table 7.5). -/
def JUG.STATUS.dry : Fld := ⟨.JUG, 0x014, 19, 1, 1, 0, .ro, rCT, fun _ _ => 0x0⟩
/-- Queue for QCMD and QSTAT (R232, Table 7.5). -/
def JUG.QSEL.queue : Fld := ⟨.JUG, 0x040, 0, 12, 1, 0, .rw, rCT, fun _ _ => 0x0⟩
/-- Descriptor words of Table 7.1 (R232, Table 7.5). -/
def JUG.QDESC.word : Fld := ⟨.JUG, 0x044, 0, 32, 4, 4, .rw, rCT, fun _ _ => 0x0⟩
/-- 1 CONFIG, 2 READ (into QDESC), 3 FLUSH (R232, Table 7.5). -/
def JUG.QCMD.op : Fld := ⟨.JUG, 0x054, 0, 2, 1, 0, .wo, rNone, fun _ _ => 0x0⟩
/-- 0 idle, 2 done, 3 refused BUSY, 4 refused FIELD, 5 refused OWNER (R232, Table 7.5). -/
def JUG.QCMD_RESULT.result : Fld := ⟨.JUG, 0x058, 0, 3, 1, 0, .ro, rCT, fun _ _ => 0x0⟩
/-- On-chip cells of the selected queue (R232, Table 7.5). -/
def JUG.QSTAT0.onchip : Fld := ⟨.JUG, 0x05C, 0, 17, 1, 0, .ro, rCT, fun _ _ => 0x0⟩
/-- Spilled cells (R232, Table 7.5). -/
def JUG.QSTAT1.spilled : Fld := ⟨.JUG, 0x060, 0, 25, 1, 0, .ro, rCT, fun _ _ => 0x0⟩
/-- Packets held, saturating (R232, Table 7.5). -/
def JUG.QSTAT2.packets : Fld := ⟨.JUG, 0x064, 0, 24, 1, 0, .ro, rCT, fun _ _ => 0x0⟩
/-- An open packet exists (R232, Table 7.5). -/
def JUG.QSTAT2.isOpen : Fld := ⟨.JUG, 0x064, 24, 1, 1, 0, .ro, rCT, fun _ _ => 0x0⟩
/-- A claim exists (R232, Table 7.5). -/
def JUG.QSTAT2.claimed : Fld := ⟨.JUG, 0x064, 25, 1, 1, 0, .ro, rCT, fun _ _ => 0x0⟩
/-- 0 disabled, 1 enabled, 2 ERROR (R232, Table 7.5). -/
def JUG.QSTAT2.state : Fld := ⟨.JUG, 0x064, 26, 2, 1, 0, .ro, rCT, fun _ _ => 0x0⟩
/-- BEAT.NOW [31:0] of the last delivering JDEQ (R232, Table 7.5). -/
def JUG.QSTAT3.last_deq : Fld := ⟨.JUG, 0x068, 0, 32, 1, 0, .ro, rCT, fun _ _ => 0x0⟩
/-- Module address of the spill area, under R228 (R232, Table 7.5). -/
def JUG.SPILL_BASE.addr : Fld := ⟨.JUG, 0x070, 0, 64, 1, 0, .rw, rC, fun _ _ => 0x0⟩
/-- Size in MiB, 0–4,096 (R232, Table 7.5). -/
def JUG.SPILL_SIZE.mib : Fld := ⟨.JUG, 0x078, 0, 13, 1, 0, .rw, rC, fun _ _ => 0x0⟩
/-- Start spilling at or below this many free general cells (R232, Table 7.5). -/
def JUG.SPILL_WM.low : Fld := ⟨.JUG, 0x07C, 0, 16, 1, 0, .rw, rC, fun _ _ => 0x1000⟩
/-- Stop spilling at or above this many; must exceed low (R232, Table 7.5). -/
def JUG.SPILL_WM.high : Fld := ⟨.JUG, 0x07C, 16, 16, 1, 0, .rw, rC, fun _ _ => 0x2000⟩
/-- Head cells of each queue kept on-chip (R232, Table 7.5). -/
def JUG.SPILL_CFG.keep_head : Fld := ⟨.JUG, 0x080, 0, 8, 1, 0, .rw, rC, fun _ _ => 0x10⟩
/-- Refill reserve (R232, Table 7.5). -/
def JUG.SPILL_CFG.refill_cells : Fld := ⟨.JUG, 0x080, 8, 16, 1, 0, .rw, rC, fun _ _ => 0x200⟩
/-- 4 KiB segments in use (R232, Table 7.5). -/
def JUG.SPILL_USED.segments : Fld := ⟨.JUG, 0x084, 0, 21, 1, 0, .ro, rCT, fun _ _ => 0x0⟩
/-- Reserves plus refill reserve (R232, Table 7.5). -/
def JUG.RESERVED_SUM.cells : Fld := ⟨.JUG, 0x088, 0, 17, 1, 0, .ro, rCT, fun _ _ => 0x200⟩
/-- Producer stall clocks, saturating (R232, Table 7.5). -/
def JUG.STALLS.clocks : Fld := ⟨.JUG, 0x08C, 0, 32, 1, 0, .rc, rCT, fun _ _ => 0x0⟩
/-- Bytes discarded under R221 and R231, saturating (R232, Table 7.5). -/
def JUG.DISCARDS.bytes : Fld := ⟨.JUG, 0x090, 0, 32, 1, 0, .rc, rCT, fun _ _ => 0x0⟩
/-- Cells spilled, saturating (R232, Table 7.5). -/
def JUG.SPILLED.cells : Fld := ⟨.JUG, 0x094, 0, 64, 1, 0, .ro, rCT, fun _ _ => 0x0⟩
/-- Cells refilled, saturating (R232, Table 7.5). -/
def JUG.REFILLED.cells : Fld := ⟨.JUG, 0x09C, 0, 64, 1, 0, .ro, rCT, fun _ _ => 0x0⟩
/-- Bit n of STRANDEDk: queue 32k + n timed out under R225 (R232, Table 7.5). -/
def JUG.STRANDED.stranded : Fld := ⟨.JUG, 0x200, 0, 32, 128, 4, .w1c, rCT, fun _ _ => 0x0⟩

/-- Fields of page JUG, part 1. -/
def JUG.fields1 : List Fld := [JUG.CTRL.enable, JUG.CTRL.spill_en, JUG.STATUS.general_free, JUG.STATUS.spilling, JUG.STATUS.refilling, JUG.STATUS.dry, JUG.QSEL.queue, JUG.QDESC.word, JUG.QCMD.op, JUG.QCMD_RESULT.result, JUG.QSTAT0.onchip, JUG.QSTAT1.spilled, JUG.QSTAT2.packets, JUG.QSTAT2.isOpen, JUG.QSTAT2.claimed, JUG.QSTAT2.state, JUG.QSTAT3.last_deq, JUG.SPILL_BASE.addr, JUG.SPILL_SIZE.mib, JUG.SPILL_WM.low, JUG.SPILL_WM.high, JUG.SPILL_CFG.keep_head, JUG.SPILL_CFG.refill_cells, JUG.SPILL_USED.segments]
/-- Fields of page JUG, part 2. -/
def JUG.fields2 : List Fld := [JUG.RESERVED_SUM.cells, JUG.STALLS.clocks, JUG.DISCARDS.bytes, JUG.SPILLED.cells, JUG.REFILLED.cells, JUG.STRANDED.stranded]
/-- Every field of page JUG beyond the common header. -/
def JUG.fields : List Fld := JUG.fields1 ++ JUG.fields2

/-! Table 8.15 of spec/08_edpen.md, rule R272: page EDPEN. -/

/-- Port may train (R272, Table 8.15). -/
def EDPEN.CTRL.enable : Fld := ⟨.EDPEN, 0x010, 0, 1, 1, 0, .rw, rCT, fun _ _ => 0x1⟩
/-- Bit n: Ln may be used (R272, Table 8.15). -/
def EDPEN.CTRL.lane_en : Fld := ⟨.EDPEN, 0x010, 1, 4, 1, 0, .rw, rCT, fun _ _ => 0xF⟩
/-- Near-end loop-back; acts only in FENCED and TESTING (R272, Table 8.15). -/
def EDPEN.CTRL.loopback : Fld := ⟨.EDPEN, 0x010, 5, 1, 1, 0, .rw, rCT, fun _ _ => 0x0⟩
/-- 0 DOWN, 1 TRAINING, 2 UP4, 3 UP3, 4 FENCED, 5 TESTING (R272, Table 8.15). -/
def EDPEN.STATUS.state : Fld := ⟨.EDPEN, 0x014, 0, 3, 1, 0, .ro, rCT, fun _ _ => 0x0⟩
/-- Bit n: Ln active (R272, Table 8.15). -/
def EDPEN.STATUS.lanes_up : Fld := ⟨.EDPEN, 0x014, 3, 4, 1, 0, .ro, rCT, fun _ _ => 0x0⟩
/-- 1 FENCE, 2 UNFENCE, 3 RETRAIN, 4 TEST (R272, Table 8.15). -/
def EDPEN.CMD.op : Fld := ⟨.EDPEN, 0x040, 0, 3, 1, 0, .wo, rNone, fun _ _ => 0x0⟩
/-- 0 idle, 1 running, 2 done, 3 refused BUSY, 4 refused STATE, 5 failed (R272, Table 8.15). -/
def EDPEN.CMD_RESULT.result : Fld := ⟨.EDPEN, 0x044, 0, 3, 1, 0, .ro, rCT, fun _ _ => 0x0⟩
/-- Last TEST: 0 none, 2 PASS, 3 FAIL, 4 INCOMPLETE (R272, Table 8.15). -/
def EDPEN.CMD_RESULT.test : Fld := ⟨.EDPEN, 0x044, 8, 3, 1, 0, .ro, rCT, fun _ _ => 0x0⟩
/-- Credits of TC0 and TC1, under R241 (R272, Table 8.15). -/
def EDPEN.CREDIT0.tc0 : Fld := ⟨.EDPEN, 0x048, 0, 16, 1, 0, .rw, rC, fun _ _ => 0x40⟩
/-- Credits of TC0 and TC1, under R241 (R272, Table 8.15). -/
def EDPEN.CREDIT0.tc1 : Fld := ⟨.EDPEN, 0x048, 16, 16, 1, 0, .rw, rC, fun _ _ => 0x800⟩
/-- Credits of TC2 and TC3 (R272, Table 8.15). -/
def EDPEN.CREDIT1.tc2 : Fld := ⟨.EDPEN, 0x04C, 0, 16, 1, 0, .rw, rC, fun _ _ => 0x800⟩
/-- Credits of TC2 and TC3 (R272, Table 8.15). -/
def EDPEN.CREDIT1.tc3 : Fld := ⟨.EDPEN, 0x04C, 16, 16, 1, 0, .rw, rC, fun _ _ => 0x400⟩
/-- Credits of TC4 and TC5 (R272, Table 8.15). -/
def EDPEN.CREDIT2.tc4 : Fld := ⟨.EDPEN, 0x050, 0, 16, 1, 0, .rw, rC, fun _ _ => 0x400⟩
/-- Credits of TC4 and TC5 (R272, Table 8.15). -/
def EDPEN.CREDIT2.tc5 : Fld := ⟨.EDPEN, 0x050, 16, 16, 1, 0, .rw, rC, fun _ _ => 0x280⟩
/-- Credits of TC6 and TC7 (R272, Table 8.15). -/
def EDPEN.CREDIT3.tc6 : Fld := ⟨.EDPEN, 0x054, 0, 16, 1, 0, .rw, rC, fun _ _ => 0x280⟩
/-- Credits of TC6 and TC7 (R272, Table 8.15). -/
def EDPEN.CREDIT3.tc7 : Fld := ⟨.EDPEN, 0x054, 16, 16, 1, 0, .rw, rC, fun _ _ => 0x280⟩
/-- 4 bits per class, TC1 in [3:0] to TC7 in [27:24] (R272, Table 8.15). -/
def EDPEN.ARB.weights : Fld := ⟨.EDPEN, 0x058, 0, 28, 1, 0, .rw, rC, fun _ _ => 0x1111244⟩
/-- Corrected symbol errors per lane per ms that fail a lane (R272, Table 8.15). -/
def EDPEN.LANE_THRESH.symbols : Fld := ⟨.EDPEN, 0x05C, 0, 16, 1, 0, .rw, rC, fun _ _ => 0x6900⟩
/-- Corrected codewords, saturating (R272, Table 8.15). -/
def EDPEN.FEC_CORR.count : Fld := ⟨.EDPEN, 0x060, 0, 32, 1, 0, .rc, rCT, fun _ _ => 0x0⟩
/-- Uncorrectable codewords, saturating (R272, Table 8.15). -/
def EDPEN.FEC_UNCORR.count : Fld := ⟨.EDPEN, 0x064, 0, 32, 1, 0, .rc, rCT, fun _ _ => 0x0⟩
/-- Per-hop resends, saturating (R272, Table 8.15). -/
def EDPEN.RETRIES.count : Fld := ⟨.EDPEN, 0x068, 0, 32, 1, 0, .rc, rCT, fun _ _ => 0x0⟩
/-- Payload bytes sent, saturating (R272, Table 8.15). -/
def EDPEN.TX.bytes : Fld := ⟨.EDPEN, 0x06C, 0, 64, 1, 0, .ro, rCT, fun _ _ => 0x0⟩
/-- Payload bytes received, saturating (R272, Table 8.15). -/
def EDPEN.RX.bytes : Fld := ⟨.EDPEN, 0x074, 0, 64, 1, 0, .ro, rCT, fun _ _ => 0x0⟩
/-- 8 bits per lane, L0 lowest: eye margin, 1 mV per step (R272, Table 8.15). -/
def EDPEN.LANE_MARGIN.margin : Fld := ⟨.EDPEN, 0x07C, 0, 32, 1, 0, .ro, rCT, fun _ _ => 0x0⟩
/-- Corrected symbol errors of Ln, saturating (R272, Table 8.15). -/
def EDPEN.LANE_ERR.symbols : Fld := ⟨.EDPEN, 0x080, 0, 32, 4, 4, .rc, rCT, fun _ _ => 0x0⟩
/-- LANE_DOWN events (R272, Table 8.15). -/
def EDPEN.DOWNS.lanes : Fld := ⟨.EDPEN, 0x090, 0, 16, 1, 0, .ro, rC, fun _ _ => 0x0⟩
/-- PORT_DOWN events (R272, Table 8.15). -/
def EDPEN.DOWNS.ports : Fld := ⟨.EDPEN, 0x090, 16, 16, 1, 0, .ro, rC, fun _ _ => 0x0⟩

/-- Fields of page EDPEN, part 1. -/
def EDPEN.fields1 : List Fld := [EDPEN.CTRL.enable, EDPEN.CTRL.lane_en, EDPEN.CTRL.loopback, EDPEN.STATUS.state, EDPEN.STATUS.lanes_up, EDPEN.CMD.op, EDPEN.CMD_RESULT.result, EDPEN.CMD_RESULT.test, EDPEN.CREDIT0.tc0, EDPEN.CREDIT0.tc1, EDPEN.CREDIT1.tc2, EDPEN.CREDIT1.tc3, EDPEN.CREDIT2.tc4, EDPEN.CREDIT2.tc5, EDPEN.CREDIT3.tc6, EDPEN.CREDIT3.tc7, EDPEN.ARB.weights, EDPEN.LANE_THRESH.symbols, EDPEN.FEC_CORR.count, EDPEN.FEC_UNCORR.count, EDPEN.RETRIES.count, EDPEN.TX.bytes, EDPEN.RX.bytes, EDPEN.LANE_MARGIN.margin]
/-- Fields of page EDPEN, part 2. -/
def EDPEN.fields2 : List Fld := [EDPEN.LANE_ERR.symbols, EDPEN.DOWNS.lanes, EDPEN.DOWNS.ports]
/-- Every field of page EDPEN beyond the common header. -/
def EDPEN.fields : List Fld := EDPEN.fields1 ++ EDPEN.fields2

/-! Table 3.19 of spec/03_cores.md, rule R105: page CORE. -/

/-- Bit n enables Sn (R105, Table 3.19). -/
def CORE.CTRL.stream_en : Fld := ⟨.CORE, 0x010, 0, 4, 1, 0, .rw, rCTP, fun _ _ => 0x0⟩
/-- Stop issue, for debug (R105, Table 3.19). -/
def CORE.CTRL.halt : Fld := ⟨.CORE, 0x010, 4, 1, 1, 0, .rw, rCTP, fun _ _ => 0x0⟩
/-- 0 absent, 1 active, 2 degraded, 3 substitution pending (R105, Table 3.19). -/
def CORE.STATUS.state : Fld := ⟨.CORE, 0x014, 0, 2, 1, 0, .ro, rC, fun _ _ => 0x1⟩
/-- Bit n: Sn is at step end (R105, Table 3.19). -/
def CORE.STATUS.at_step_end : Fld := ⟨.CORE, 0x014, 2, 4, 1, 0, .ro, rCTP, fun _ _ => 0x0⟩
/-- Issue stopped (R105, Table 3.19). -/
def CORE.STATUS.halted : Fld := ⟨.CORE, 0x014, 6, 1, 1, 0, .ro, rCTP, fun _ _ => 0x0⟩
/-- A step-ending fault is pending (R105, Table 3.19). -/
def CORE.STATUS.faulted : Fld := ⟨.CORE, 0x014, 7, 1, 1, 0, .ro, rCTP, fun _ _ => 0x0⟩
/-- Step entry address of Sn (R105, Table 3.19). -/
def CORE.ENTRY.entry : Fld := ⟨.CORE, 0x040, 0, 22, 4, 4, .rw, rCTP, fun _ _ => 0x0⟩
/-- Program counter of Sn (R105, Table 3.19). -/
def CORE.PC.pc : Fld := ⟨.CORE, 0x050, 0, 22, 4, 4, .ro, rCTP, fun _ _ => 0x0⟩
/-- 4 bits per stream, S0 lowest: 0 idle, 1 ready, 2 flag wait, 3 queue full, 4 fence, 5 beat wait, 6 Juggler wait, 7 at step end, 8 stopped by fault (R105, Table 3.19). -/
def CORE.STREAM_STATE.sn_state : Fld := ⟨.CORE, 0x060, 0, 16, 1, 0, .ro, rCTP, fun _ _ => 0x0⟩
/-- 8 bits per stream: descriptors outstanding, 0–64 (R105, Table 3.19). -/
def CORE.AE_OUT.outstanding : Fld := ⟨.CORE, 0x064, 0, 32, 1, 0, .ro, rCTP, fun _ _ => 0x0⟩
/-- AE, ME0–ME3, VE0, VE1 busy (R105, Table 3.19). -/
def CORE.BUSY.busy : Fld := ⟨.CORE, 0x068, 0, 7, 1, 0, .ro, rCTP, fun _ _ => 0x0⟩
/-- Bit n: MEn failed (R105, Table 3.19). -/
def CORE.ENGINE_STATE.me_failed : Fld := ⟨.CORE, 0x06C, 0, 4, 1, 0, .ro, rCT, fun _ _ => 0x0⟩
/-- Bit n: VEn failed (R105, Table 3.19). -/
def CORE.ENGINE_STATE.ve_failed : Fld := ⟨.CORE, 0x06C, 4, 2, 1, 0, .ro, rCT, fun _ _ => 0x0⟩
/-- CORE_FAULT raised (R105, Table 3.19). -/
def CORE.ENGINE_STATE.ce_ae_failed : Fld := ⟨.CORE, 0x06C, 6, 1, 1, 0, .ro, rCT, fun _ _ => 0x0⟩
/-- First code of Table 3.15 this step (R105, Table 3.19). -/
def CORE.FAULT_INFO.code : Fld := ⟨.CORE, 0x070, 0, 8, 1, 0, .rc, rCTP, fun _ _ => 0x0⟩
/-- 0 CE, 1 AE, 2–5 ME0–ME3, 6–7 VE0–VE1 (R105, Table 3.19). -/
def CORE.FAULT_INFO.unit : Fld := ⟨.CORE, 0x070, 8, 4, 1, 0, .rc, rCTP, fun _ _ => 0x0⟩
/-- Stream (R105, Table 3.19). -/
def CORE.FAULT_INFO.stream : Fld := ⟨.CORE, 0x070, 12, 2, 1, 0, .rc, rCTP, fun _ _ => 0x0⟩
/-- Fields valid (R105, Table 3.19). -/
def CORE.FAULT_INFO.valid : Fld := ⟨.CORE, 0x070, 31, 1, 1, 0, .rc, rCTP, fun _ _ => 0x0⟩
/-- Core-store offset or global address of the fault (R105, Table 3.19). -/
def CORE.FAULT_ADDR.addr : Fld := ⟨.CORE, 0x074, 0, 64, 1, 0, .rc, rCTP, fun _ _ => 0x0⟩
/-- Corrected words, saturating (R105, Table 3.19). -/
def CORE.SRAM_ECC.corrected : Fld := ⟨.CORE, 0x07C, 0, 16, 1, 0, .rc, rCT, fun _ _ => 0x0⟩
/-- Uncorrectable words, saturating (R105, Table 3.19). -/
def CORE.SRAM_ECC.uncorrected : Fld := ⟨.CORE, 0x07C, 16, 16, 1, 0, .rc, rCT, fun _ _ => 0x0⟩
/-- Residue repeats that passed, saturating (R105, Table 3.19). -/
def CORE.RETRIES.passed : Fld := ⟨.CORE, 0x080, 0, 16, 1, 0, .rc, rCT, fun _ _ => 0x0⟩
/-- Stochastic-rounding seed per engine (R105, Table 3.19). -/
def CORE.SR_SEED.seed : Fld := ⟨.CORE, 0x090, 0, 32, 6, 4, .rw, rCTP, fun _ _ => 0x0⟩
/-- In LO/HI pairs: CE instructions, ME busy clocks, VE busy clocks, AE bytes read, AE bytes written, bank conflict clocks; all saturating (R105, Table 3.19). -/
def CORE.PERF.count : Fld := ⟨.CORE, 0x0C0, 0, 64, 6, 8, .ro, rCTP, fun _ _ => 0x0⟩
/-- Buffer flag n at byte 0x100 + n (R105, Table 3.19). -/
def CORE.FLAG.value : Fld := ⟨.CORE, 0x100, 0, 8, 256, 1, .ro, rCTP, fun _ _ => 0x0⟩

/-- Fields of page CORE, part 1. -/
def CORE.fields1 : List Fld := [CORE.CTRL.stream_en, CORE.CTRL.halt, CORE.STATUS.state, CORE.STATUS.at_step_end, CORE.STATUS.halted, CORE.STATUS.faulted, CORE.ENTRY.entry, CORE.PC.pc, CORE.STREAM_STATE.sn_state, CORE.AE_OUT.outstanding, CORE.BUSY.busy, CORE.ENGINE_STATE.me_failed, CORE.ENGINE_STATE.ve_failed, CORE.ENGINE_STATE.ce_ae_failed, CORE.FAULT_INFO.code, CORE.FAULT_INFO.unit, CORE.FAULT_INFO.stream, CORE.FAULT_INFO.valid, CORE.FAULT_ADDR.addr, CORE.SRAM_ECC.corrected, CORE.SRAM_ECC.uncorrected, CORE.RETRIES.passed, CORE.SR_SEED.seed, CORE.PERF.count]
/-- Fields of page CORE, part 2. -/
def CORE.fields2 : List Fld := [CORE.FLAG.value]
/-- Every field of page CORE beyond the common header. -/
def CORE.fields : List Fld := CORE.fields1 ++ CORE.fields2

/-! Table 3.20 of spec/03_cores.md, rule R106: page SPARE. -/

/-- Substitute under R101 (R106, Table 3.20). -/
def SPARE.CTRL.auto : Fld := ⟨.SPARE, 0x010, 0, 1, 1, 0, .rw, rC, fun _ _ => 0x1⟩
/-- Defer substitution, for test (R106, Table 3.20). -/
def SPARE.CTRL.hold : Fld := ⟨.SPARE, 0x010, 1, 1, 1, 0, .rw, rC, fun _ _ => 0x0⟩
/-- Free spares, 0–4 (R106, Table 3.20). -/
def SPARE.STATUS.spares_left : Fld := ⟨.SPARE, 0x014, 0, 3, 1, 0, .ro, rNone, fun _ _ => 0x4⟩
/-- Core-store copy in progress (R106, Table 3.20). -/
def SPARE.STATUS.copy_active : Fld := ⟨.SPARE, 0x014, 3, 1, 1, 0, .ro, rCT, fun _ _ => 0x0⟩
/-- Logical core being copied (R106, Table 3.20). -/
def SPARE.STATUS.copy_logical : Fld := ⟨.SPARE, 0x014, 4, 6, 1, 0, .ro, rCT, fun _ _ => 0x0⟩
/-- KiB copied, 0–4,096 (R106, Table 3.20). -/
def SPARE.STATUS.copy_kib : Fld := ⟨.SPARE, 0x014, 10, 13, 1, 0, .ro, rCT, fun _ _ => 0x0⟩
/-- Physical core P00–P67 serving Cc (R106, Table 3.20). -/
def SPARE.MAP.phys : Fld := ⟨.SPARE, 0x040, 0, 7, 64, 4, .ro, rNone, fun _ j => j⟩
/-- Cc exists (R106, Table 3.20). -/
def SPARE.MAP.present : Fld := ⟨.SPARE, 0x040, 7, 1, 64, 4, .ro, rNone, fun _ _ => 0x1⟩
/-- Byte p: P(p): 0 active, 1 spare, 2 copy target, 3 retired in field, 4 under test, 5 retired in factory (R106, Table 3.20). -/
def SPARE.PSTATE.state : Fld := ⟨.SPARE, 0x140, 0, 8, 68, 1, .ro, rNone, fun _ j => if j < 64 then 0 else 1⟩
/-- Core to retire under R103 (R106, Table 3.20). -/
def SPARE.RETIRE_CMD.logical : Fld := ⟨.SPARE, 0x188, 0, 6, 1, 0, .wo, rNone, fun _ _ => 0x0⟩
/-- Start (R106, Table 3.20). -/
def SPARE.RETIRE_CMD.go : Fld := ⟨.SPARE, 0x188, 8, 1, 1, 0, .wo, rNone, fun _ _ => 0x0⟩
/-- Physical core to self-test (R106, Table 3.20). -/
def SPARE.TEST_CMD.phys : Fld := ⟨.SPARE, 0x18C, 0, 7, 1, 0, .wo, rNone, fun _ _ => 0x0⟩
/-- Start (R106, Table 3.20). -/
def SPARE.TEST_CMD.go : Fld := ⟨.SPARE, 0x18C, 8, 1, 1, 0, .wo, rNone, fun _ _ => 0x0⟩
/-- 0 idle, 1 running, 2 PASS, 3 FAIL, 4 INCOMPLETE, 5 BUSY (R106, Table 3.20). -/
def SPARE.TEST_RESULT.result : Fld := ⟨.SPARE, 0x190, 0, 3, 1, 0, .ro, rCT, fun _ _ => 0x0⟩
/-- Field retirements over the module's life (R106, Table 3.20). -/
def SPARE.RETIRED_COUNT.count : Fld := ⟨.SPARE, 0x194, 0, 8, 1, 0, .ro, rNone, fun _ _ => 0⟩

/-- Fields of page SPARE, part 1. -/
def SPARE.fields1 : List Fld := [SPARE.CTRL.auto, SPARE.CTRL.hold, SPARE.STATUS.spares_left, SPARE.STATUS.copy_active, SPARE.STATUS.copy_logical, SPARE.STATUS.copy_kib, SPARE.MAP.phys, SPARE.MAP.present, SPARE.PSTATE.state, SPARE.RETIRE_CMD.logical, SPARE.RETIRE_CMD.go, SPARE.TEST_CMD.phys, SPARE.TEST_CMD.go, SPARE.TEST_RESULT.result, SPARE.RETIRED_COUNT.count]
/-- Every field of page SPARE beyond the common header. -/
def SPARE.fields : List Fld := SPARE.fields1

/-! Table 5.8 of spec/05_stacks.md, rule R172: page HS. -/

/-- Bit r: region r is BANK (1) or FINE (0), under R151 (R172, Table 5.8). -/
def HS.CTRL.region_mode : Fld := ⟨.HS, 0x010, 0, 8, 1, 0, .rw, rC, fun _ _ => 0x0⟩
/-- Fence under R163 (R172, Table 5.8). -/
def HS.CTRL.auto_fence : Fld := ⟨.HS, 0x010, 8, 1, 1, 0, .rw, rC, fun _ _ => 0x1⟩
/-- Remap under R169 (R172, Table 5.8). -/
def HS.CTRL.auto_remap : Fld := ⟨.HS, 0x010, 9, 1, 1, 0, .rw, rC, fun _ _ => 0x1⟩
/-- 0 OFF, 1 TRAINING, 2 IN_SERVICE, 3 FENCED, 4 REPAIRING, 5 TESTING, 6 RETIRED (R172, Table 5.8). -/
def HS.STATUS.state : Fld := ⟨.HS, 0x014, 0, 3, 1, 0, .ro, rC, fun _ _ => 0x0⟩
/-- 1 FENCE, 2 UNFENCE, 3 REPAIR, 4 TEST, 5 RETIRE (R172, Table 5.8). -/
def HS.CMD.op : Fld := ⟨.HS, 0x040, 0, 3, 1, 0, .wo, rNone, fun _ _ => 0x0⟩
/-- 0 idle, 1 running, 2 done, 3 refused BUSY, 4 refused STATE, 5 failed (R172, Table 5.8). -/
def HS.CMD_RESULT.result : Fld := ⟨.HS, 0x044, 0, 3, 1, 0, .ro, rC, fun _ _ => 0x0⟩
/-- Last TEST: 0 none, 2 PASS, 3 FAIL, 4 INCOMPLETE (R172, Table 5.8). -/
def HS.CMD_RESULT.test : Fld := ⟨.HS, 0x044, 8, 3, 1, 0, .ro, rC, fun _ _ => 0x0⟩
/-- Data capacity of the stack, GiB: 128 in every state but RETIRED, FENCED included; 0 when retired (R31) (R172, Table 5.8). -/
def HS.CAPACITY.gib : Fld := ⟨.HS, 0x048, 0, 8, 1, 0, .ro, rC, fun _ _ => 0x80⟩
/-- 0 none, 1 host, 2 UE rows, 3 symbol pattern, 4 link, 5 base die or start-up (R172, Table 5.8). -/
def HS.FENCE_INFO.cause : Fld := ⟨.HS, 0x04C, 0, 3, 1, 0, .ro, rC, fun _ _ => 0x0⟩
/-- Bit n: PTn failed its step under R164 (R172, Table 5.8). -/
def HS.FENCE_INFO.partitions : Fld := ⟨.HS, 0x04C, 16, 16, 1, 0, .ro, rC, fun _ _ => 0x0⟩
/-- Transfers repeated under R148, saturating (R172, Table 5.8). -/
def HS.LINK.retries : Fld := ⟨.HS, 0x050, 0, 16, 1, 0, .rc, rC, fun _ _ => 0x0⟩
/-- Lanes replaced (R172, Table 5.8). -/
def HS.LINK.lanes_repaired : Fld := ⟨.HS, 0x050, 16, 8, 1, 0, .ro, rC, fun _ _ => 0x0⟩
/-- Redundant lanes left, 2 per channel (R172, Table 5.8). -/
def HS.LINK.lanes_spare : Fld := ⟨.HS, 0x050, 24, 8, 1, 0, .ro, rC, fun _ _ => 0x40⟩
/-- Rows hard-repaired over the stack's life (R172, Table 5.8). -/
def HS.HARD_REPAIRS.rows : Fld := ⟨.HS, 0x054, 0, 16, 1, 0, .ro, rNone, fun _ _ => 0⟩
/-- Bytes read by tiles and management die, saturating (R172, Table 5.8). -/
def HS.READ.bytes : Fld := ⟨.HS, 0x060, 0, 64, 1, 0, .ro, rC, fun _ _ => 0x0⟩
/-- Bytes written, saturating (R172, Table 5.8). -/
def HS.WRITE.bytes : Fld := ⟨.HS, 0x068, 0, 64, 1, 0, .ro, rC, fun _ _ => 0x0⟩

/-- Fields of page HS, part 1. -/
def HS.fields1 : List Fld := [HS.CTRL.region_mode, HS.CTRL.auto_fence, HS.CTRL.auto_remap, HS.STATUS.state, HS.CMD.op, HS.CMD_RESULT.result, HS.CMD_RESULT.test, HS.CAPACITY.gib, HS.FENCE_INFO.cause, HS.FENCE_INFO.partitions, HS.LINK.retries, HS.LINK.lanes_repaired, HS.LINK.lanes_spare, HS.HARD_REPAIRS.rows, HS.READ.bytes, HS.WRITE.bytes]
/-- Every field of page HS beyond the common header. -/
def HS.fields : List Fld := HS.fields1

/-! Table 5.9 of spec/05_stacks.md, rule R173: page ECC. -/

/-- Run patrol scrub (R173, Table 5.9). -/
def ECC.CTRL.patrol_en : Fld := ⟨.ECC, 0x010, 0, 1, 1, 0, .rw, rC, fun _ _ => 0x1⟩
/-- Pass time, 1–168 h (R173, Table 5.9). -/
def ECC.CTRL.patrol_hours : Fld := ⟨.ECC, 0x010, 8, 8, 1, 0, .rw, rC, fun _ _ => 0x18⟩
/-- Corrections per row per pass that trigger a remap (R173, Table 5.9). -/
def ECC.CTRL.ce_row_thresh : Fld := ⟨.ECC, 0x010, 16, 16, 1, 0, .rw, rC, fun _ _ => 0x10⟩
/-- Pass in progress (R173, Table 5.9). -/
def ECC.STATUS.patrol_active : Fld := ⟨.ECC, 0x014, 0, 1, 1, 0, .ro, rC, fun _ _ => 0x0⟩
/-- Last pass exceeded patrol_hours (R173, Table 5.9). -/
def ECC.STATUS.patrol_late : Fld := ⟨.ECC, 0x014, 1, 1, 1, 0, .ro, rC, fun _ _ => 0x0⟩
/-- Corrected codewords, saturating (R173, Table 5.9). -/
def ECC.CE_COUNT.count : Fld := ⟨.ECC, 0x040, 0, 32, 1, 0, .rc, rC, fun _ _ => 0x0⟩
/-- Uncorrectable codewords on demand reads, saturating (R173, Table 5.9). -/
def ECC.UE_COUNT.count : Fld := ⟨.ECC, 0x044, 0, 32, 1, 0, .rc, rC, fun _ _ => 0x0⟩
/-- Uncorrectable codewords found by patrol, saturating (R173, Table 5.9). -/
def ECC.UE_PATROL.count : Fld := ⟨.ECC, 0x048, 0, 16, 1, 0, .rc, rC, fun _ _ => 0x0⟩
/-- Module address of the last corrected granule (R173, Table 5.9). -/
def ECC.LAST_CE_ADDR.addr : Fld := ⟨.ECC, 0x04C, 0, 64, 1, 0, .ro, rC, fun _ _ => 0x0⟩
/-- Lowest corrected symbol, 0–71 (R173, Table 5.9). -/
def ECC.LAST_CE_INFO.symbol : Fld := ⟨.ECC, 0x054, 0, 7, 1, 0, .ro, rC, fun _ _ => 0x0⟩
/-- Bits flipped in the corrected byte (R173, Table 5.9). -/
def ECC.LAST_CE_INFO.mask : Fld := ⟨.ECC, 0x054, 7, 8, 1, 0, .ro, rC, fun _ _ => 0x0⟩
/-- Module address of the last uncorrectable granule (R173, Table 5.9). -/
def ECC.LAST_UE_ADDR.addr : Fld := ⟨.ECC, 0x058, 0, 64, 1, 0, .ro, rC, fun _ _ => 0x0⟩
/-- Syndrome bytes S0 in [7:0] to S3 in [31:24] (R173, Table 5.9). -/
def ECC.LAST_UE_INFO.syndrome : Fld := ⟨.ECC, 0x060, 0, 32, 1, 0, .ro, rC, fun _ _ => 0x0⟩
/-- 0 tile or Edpen read, 1 IBU, 2 patrol, 3 read-modify-write (R173, Table 5.9). -/
def ECC.LAST_UE_SRC.source : Fld := ⟨.ECC, 0x064, 0, 2, 1, 0, .ro, rC, fun _ _ => 0x0⟩
/-- Requesting partition (R173, Table 5.9). -/
def ECC.LAST_UE_SRC.partition : Fld := ⟨.ECC, 0x064, 4, 4, 1, 0, .ro, rC, fun _ _ => 0x0⟩
/-- partition is valid (R173, Table 5.9). -/
def ECC.LAST_UE_SRC.part_valid : Fld := ⟨.ECC, 0x064, 8, 1, 1, 0, .ro, rC, fun _ _ => 0x0⟩
/-- Index of the next granule to patrol in the stack (R173, Table 5.9). -/
def ECC.PATROL_POS.granule : Fld := ⟨.ECC, 0x068, 0, 32, 1, 0, .ro, rC, fun _ _ => 0x0⟩
/-- Completed passes, saturating (R173, Table 5.9). -/
def ECC.PATROL_PASSES.count : Fld := ⟨.ECC, 0x06C, 0, 32, 1, 0, .ro, rC, fun _ _ => 0x0⟩
/-- Remap table entries in use, 0–256 (R173, Table 5.9). -/
def ECC.REMAP.used : Fld := ⟨.ECC, 0x070, 0, 9, 1, 0, .ro, rNone, fun _ _ => 0⟩
/-- PC of the last remapped row (R173, Table 5.9). -/
def ECC.REMAP_LAST.pc : Fld := ⟨.ECC, 0x074, 0, 6, 1, 0, .ro, rC, fun _ _ => 0x0⟩
/-- Bank (R173, Table 5.9). -/
def ECC.REMAP_LAST.bank : Fld := ⟨.ECC, 0x074, 6, 5, 1, 0, .ro, rC, fun _ _ => 0x0⟩
/-- Row (R173, Table 5.9). -/
def ECC.REMAP_LAST.row : Fld := ⟨.ECC, 0x074, 11, 16, 1, 0, .ro, rC, fun _ _ => 0x0⟩

/-- Fields of page ECC, part 1. -/
def ECC.fields1 : List Fld := [ECC.CTRL.patrol_en, ECC.CTRL.patrol_hours, ECC.CTRL.ce_row_thresh, ECC.STATUS.patrol_active, ECC.STATUS.patrol_late, ECC.CE_COUNT.count, ECC.UE_COUNT.count, ECC.UE_PATROL.count, ECC.LAST_CE_ADDR.addr, ECC.LAST_CE_INFO.symbol, ECC.LAST_CE_INFO.mask, ECC.LAST_UE_ADDR.addr, ECC.LAST_UE_INFO.syndrome, ECC.LAST_UE_SRC.source, ECC.LAST_UE_SRC.partition, ECC.LAST_UE_SRC.part_valid, ECC.PATROL_POS.granule, ECC.PATROL_PASSES.count, ECC.REMAP.used, ECC.REMAP_LAST.pc, ECC.REMAP_LAST.bank, ECC.REMAP_LAST.row]
/-- Every field of page ECC beyond the common header. -/
def ECC.fields : List Fld := ECC.fields1

/-! Table 6.11 of spec/06_inbank.md, rule R209: page IBU. -/

/-- 0: new lists wait in the access engines under R186 (R209, Table 6.11). -/
def IBU.CTRL.dispatch_en : Fld := ⟨.IBU, 0x010, 0, 1, 1, 0, .rw, rC, fun _ _ => 0x1⟩
/-- Lists in flight, 0–64 (R209, Table 6.11). -/
def IBU.STATUS.lists : Fld := ⟨.IBU, 0x014, 0, 7, 1, 0, .ro, rC, fun _ _ => 0x0⟩
/-- Units FAILED, DISABLED or TESTING, 0–1,024 (R209, Table 6.11). -/
def IBU.STATUS.out_of_service : Fld := ⟨.IBU, 0x014, 8, 11, 1, 0, .ro, rNone, fun _ _ => 0⟩
/-- Units the fallback executor serves, 0–16 (R209, Table 6.11). -/
def IBU.STATUS.served : Fld := ⟨.IBU, 0x014, 19, 5, 1, 0, .ro, rNone, fun _ _ => 0⟩
/-- Unit named (R209, Table 6.11). -/
def IBU.CMD.unit : Fld := ⟨.IBU, 0x040, 0, 10, 1, 0, .wo, rNone, fun _ _ => 0x0⟩
/-- 1 DISABLE, 2 ENABLE, 3 TEST (R209, Table 6.11). -/
def IBU.CMD.op : Fld := ⟨.IBU, 0x040, 10, 3, 1, 0, .wo, rNone, fun _ _ => 0x0⟩
/-- 0 idle, 1 running, 2 done, 3 refused BUSY, 4 refused STATE, 5 failed (R209, Table 6.11). -/
def IBU.CMD_RESULT.result : Fld := ⟨.IBU, 0x044, 0, 3, 1, 0, .ro, rC, fun _ _ => 0x0⟩
/-- Last TEST: 0 none, 2 PASS, 3 FAIL, 4 INCOMPLETE (R209, Table 6.11). -/
def IBU.CMD_RESULT.test : Fld := ⟨.IBU, 0x044, 8, 3, 1, 0, .ro, rC, fun _ _ => 0x0⟩
/-- Unit reported in STATE_READ (R209, Table 6.11). -/
def IBU.STATE_SEL.unit : Fld := ⟨.IBU, 0x048, 0, 10, 1, 0, .rw, rC, fun _ _ => 0x0⟩
/-- 0 IN_SERVICE, 1 DISABLED, 2 FAILED, 3 TESTING (R209, Table 6.11). -/
def IBU.STATE_READ.state : Fld := ⟨.IBU, 0x04C, 0, 2, 1, 0, .ro, rNone, fun _ _ => 0⟩
/-- Tokens written, saturating (R209, Table 6.11). -/
def IBU.LISTS.count : Fld := ⟨.IBU, 0x050, 0, 32, 1, 0, .rc, rC, fun _ _ => 0x0⟩
/-- Entries executed, saturating (R209, Table 6.11). -/
def IBU.CMDS.count : Fld := ⟨.IBU, 0x054, 0, 64, 1, 0, .ro, rC, fun _ _ => 0x0⟩
/-- Entries run by the fallback executor, saturating (R209, Table 6.11). -/
def IBU.FALLBACK.count : Fld := ⟨.IBU, 0x05C, 0, 32, 1, 0, .rc, rC, fun _ _ => 0x0⟩
/-- Residue repeats that passed, saturating (R209, Table 6.11). -/
def IBU.RETRIES.passed : Fld := ⟨.IBU, 0x060, 0, 16, 1, 0, .rc, rC, fun _ _ => 0x0⟩
/-- Corrected slate and accumulator words, saturating (R209, Table 6.11). -/
def IBU.RETRIES.slate_ce : Fld := ⟨.IBU, 0x060, 16, 16, 1, 0, .rc, rC, fun _ _ => 0x0⟩
/-- Unit clocks lost to stack-controller requests, saturating (R209, Table 6.11). -/
def IBU.YIELD.clocks : Fld := ⟨.IBU, 0x064, 0, 32, 1, 0, .rc, rC, fun _ _ => 0x0⟩
/-- Bytes read by units, saturating (R209, Table 6.11). -/
def IBU.READ.bytes : Fld := ⟨.IBU, 0x068, 0, 64, 1, 0, .ro, rC, fun _ _ => 0x0⟩
/-- Unit of the last failure (R209, Table 6.11). -/
def IBU.LAST_FAIL.unit : Fld := ⟨.IBU, 0x070, 0, 10, 1, 0, .ro, rC, fun _ _ => 0x0⟩
/-- 1 residue, 2 slate or accumulator UE, 3 test (R209, Table 6.11). -/
def IBU.LAST_FAIL.cause : Fld := ⟨.IBU, 0x070, 12, 2, 1, 0, .ro, rC, fun _ _ => 0x0⟩
/-- Fields valid (R209, Table 6.11). -/
def IBU.LAST_FAIL.valid : Fld := ⟨.IBU, 0x070, 31, 1, 1, 0, .ro, rC, fun _ _ => 0x0⟩
/-- Bit n of OUTk: unit 32k + n out of service (R209, Table 6.11). -/
def IBU.OUT.out : Fld := ⟨.IBU, 0x100, 0, 32, 32, 4, .ro, rNone, fun _ _ => 0⟩
/-- Bit n of FAILEDk: unit 32k + n FAILED (R209, Table 6.11). -/
def IBU.FAILED.failed : Fld := ⟨.IBU, 0x180, 0, 32, 32, 4, .ro, rNone, fun _ _ => 0⟩

/-- Fields of page IBU, part 1. -/
def IBU.fields1 : List Fld := [IBU.CTRL.dispatch_en, IBU.STATUS.lists, IBU.STATUS.out_of_service, IBU.STATUS.served, IBU.CMD.unit, IBU.CMD.op, IBU.CMD_RESULT.result, IBU.CMD_RESULT.test, IBU.STATE_SEL.unit, IBU.STATE_READ.state, IBU.LISTS.count, IBU.CMDS.count, IBU.FALLBACK.count, IBU.RETRIES.passed, IBU.RETRIES.slate_ce, IBU.YIELD.clocks, IBU.READ.bytes, IBU.LAST_FAIL.unit, IBU.LAST_FAIL.cause, IBU.LAST_FAIL.valid, IBU.OUT.out, IBU.FAILED.failed]
/-- Every field of page IBU beyond the common header. -/
def IBU.fields : List Fld := IBU.fields1

/-! Table 5.11 of spec/05_stacks.md, rule R174: page BAND. -/

/-- Lowest band allowed, under R162 (R174, Table 5.11). -/
def BAND.CTRL.force_band : Fld := ⟨.BAND, 0x010, 0, 2, 1, 0, .rw, rC, fun _ _ => 0x0⟩
/-- Band in force (R174, Table 5.11). -/
def BAND.STATUS.band : Fld := ⟨.BAND, 0x014, 0, 2, 1, 0, .ro, rC, fun _ _ => 0x3⟩
/-- A trusted sensor reading is in use (R174, Table 5.11). -/
def BAND.STATUS.trusted : Fld := ⟨.BAND, 0x014, 2, 1, 1, 0, .ro, rC, fun _ _ => 0x0⟩
/-- A downward dwell under R161 is running (R174, Table 5.11). -/
def BAND.STATUS.dwell : Fld := ⟨.BAND, 0x014, 3, 1, 1, 0, .ro, rC, fun _ _ => 0x0⟩
/-- Reading in use, signed, 0.125 °C units (R174, Table 5.11). -/
def BAND.TEMP.temp : Fld := ⟨.BAND, 0x040, 0, 16, 1, 0, .ro, rC, fun _ _ => 0x0⟩
/-- Milliseconds spent in band n, saturating (R174, Table 5.11). -/
def BAND.TIME.ms : Fld := ⟨.BAND, 0x044, 0, 32, 4, 4, .ro, rC, fun _ _ => 0x0⟩
/-- Refresh multiplier of band n (R174, Table 5.11). -/
def BAND.TABLE.refresh_mult : Fld := ⟨.BAND, 0x054, 0, 3, 4, 4, .ro, rNone, fun _ j => bandRefreshMult j⟩
/-- Added row timing of band n, ns (R174, Table 5.11). -/
def BAND.TABLE.row_add_ns : Fld := ⟨.BAND, 0x054, 8, 4, 4, 4, .ro, rNone, fun _ j => bandRowAddNs j⟩

/-- Fields of page BAND, part 1. -/
def BAND.fields1 : List Fld := [BAND.CTRL.force_band, BAND.STATUS.band, BAND.STATUS.trusted, BAND.STATUS.dwell, BAND.TEMP.temp, BAND.TIME.ms, BAND.TABLE.refresh_mult, BAND.TABLE.row_add_ns]
/-- Every field of page BAND beyond the common header. -/
def BAND.fields : List Fld := BAND.fields1

/-- The fields of a page beyond the common header (R532). -/
def Page.fields : Page → List Fld
  | .MOD => MOD.fields
  | .BEAT => BEAT.fields
  | .SCHED => SCHED.fields
  | .HOSTQ => HOSTQ.fields
  | .PWR => PWR.fields
  | .RAIL => RAIL.fields
  | .ENERGY => ENERGY.fields
  | .THERM => THERM.fields
  | .COOL => COOL.fields
  | .LEAK => LEAK.fields
  | .SAFE => SAFE.fields
  | .FW => FW.fields
  | .SEC => SEC.fields
  | .KEEP => KEEP.fields
  | .ACL => ACL.fields
  | .TW => TW.fields
  | .RECORD => RECORD.fields
  | .BIST => BIST.fields
  | .AGE => AGE.fields
  | .TRACE => TRACE.fields
  | .TILE => TILE.fields
  | .MIDWAY => MIDWAY.fields
  | .JUG => JUG.fields
  | .EDPEN => EDPEN.fields
  | .CORE => CORE.fields
  | .SPARE => SPARE.fields
  | .HS => HS.fields
  | .ECC => ECC.fields
  | .IBU => IBU.fields
  | .BAND => BAND.fields

end Sys2Proof.Machine
end

