-- ==== Sys2Proof/Machine/State.lean ====
section
/-! DEFINITION. The state of the block, as plain data, and the ways a command can stop. Register fields live in `State.regs` (one home
each, Machine/Fields.lean lists them); what the rules hold beside the register tables is typed here, block by block. -/

namespace Sys2Proof.Machine

/-- Sparse data by key, keys rising; a key not listed holds the default its reader names. -/
abbrev Assoc (α : Type) := List (Nat × α)

/-- The beat block beside its registers (R41 to R52). -/
structure BeatState where
  /-- BEAT.NOW (R41); 0 while no count runs (R571). -/
  count : Nat
  /-- The moment the reference locked, in ACQUIRE (R48). -/
  lockedAt : Option Nat
  /-- Correction still to be slewed, in 0.25 ns (R43). -/
  slew : Int
  /-- Nanoseconds since the last whole-nanosecond correction (50 ppm is 1 ns in 20,000). -/
  slewAge : Nat
  /-- An accepted SET_CMD value that waits for its moment (R46). -/
  epoch : Option Nat
  /-- Marks in a row with BEAT_REF present, in HOLDOVER (Table 2.2). -/
  relockMarks : Nat
  /-- Offsets of the run of consecutive slips, newest first, 0.25 ns (R51). -/
  slips : List Int
  /-- Moment of the last mark in phase, and of the last valid alignment exchange (R49). -/
  lastMark : Nat
  lastExchange : Nat
  /-- Entry to FREE_RUN: the moment and the bound then (R50). -/
  freeRunAt : Nat
  freeRunBound : Nat
  /-- What the parent's last BEAT_ALIGN carried: its bound (R572). -/
  parentBound : Nat
  /-- BEAT_UNALIGNED has been raised since FREE_RUN was entered. -/
  unaligned : Bool
  /-- The phase source in force while a count runs: BEAT.CTRL.source as it was at the last mark (Table 2.4). -/
  source : Bool
  /-- Moment of the last mark, slipped or not (R49, R51). -/
  lastSeen : Nat
  /-- Moment of the last loss of BEAT_REF (R49). -/
  refLostAt : Nat
deriving DecidableEq, Repr

/-- A command read from a ring and not yet completed (R312 to R317). -/
structure HostCmd where
  ring : Nat
  opcode : Nat
  part : Nat
  cmdId : Nat
  /-- The applied step a of a PROGRAM or MARK (R316). -/
  step : Option Nat
  /-- BEAT.NOW at placement or copy start. -/
  placed : Nat
  /-- Status, fault, bytes and the step's energy, once decided; written by COMPLETION_WRITE. -/
  result : Option (Nat × Nat × Nat × Nat)
  /-- LOAD and READBACK: staging offset, module address, length. -/
  copy : Option (Nat × Nat × Nat)
  /-- A PROGRAM that a full host-command queue holds in its ring (R317). -/
  held : Bool
  entry : Entry64
deriving DecidableEq, Repr

/-- The interrupt pacing of one ring (R332). -/
structure RingIrq where
  sentAt : Nat
  sentOnce : Bool
  owed : Bool
deriving DecidableEq, Repr

/-- An event on its way to the event ring: code, page, bit, partition, beat, parameters (Table 10.10). -/
structure EvtRec where
  code : Nat
  page : Nat
  bit : Nat
  part : Option Nat
  beat : Nat
  params : List Nat
deriving DecidableEq, Repr

/-- The host interface beside its registers (R304 to R332). -/
structure HostState where
  /-- Words of the MSI-X table that differ from their reset value, and the pending-bit array. -/
  msix : Assoc Nat
  pba : Nat
  /-- The event ring: number of the next event, pass of the ring, drops not yet reported. -/
  evtSeq : Nat
  evtPhase : Bool
  evtLost : Nat
  evtIrq : RingIrq
  /-- Events that arose while HOSTIF did not run, oldest first (R474). -/
  deferred : List EvtRec
  /-- The completion phase of each ring (1 at reset) and its interrupt pacing. -/
  phase : Assoc Bool
  irq : Assoc RingIrq
  /-- Commands read and not yet completed, oldest first. -/
  cmds : List HostCmd
  /-- The step at which the previous PROGRAM or MARK of each ring was applied (R316). -/
  lastStep : Assoc Nat
  /-- The ring HOSTIF served last (R315). -/
  rrLast : Nat
  /-- Time of the last heartbeat or attach, of the loss, and of the pause of the timers in a warm reset. -/
  hbAt : Nat
  lostAt : Nat
  pausedAt : Option Nat
deriving DecidableEq, Repr

/-- The keep store (R340, R375, R376, Table 11.13). The records whose bytes the spec does not lay out are held as the typed fields and
registers that stand for them. (DESIGN CHOICE, assumption 30) -/
structure KeepState where
  /-- Bytes of the configuration areas, the settings and the recorder's part. -/
  bytes : List Host.Cell
  /-- Wear counters as flushed, dirty bits, and writes since the last flush, by block. -/
  wear : Assoc Nat
  dirty : Assoc Bool
  since : Assoc Nat
  /-- Stacks retired for good, bit k (R166). -/
  retired : Nat
  /-- Repaired SRAM rows: block type, instance, memory, row of 1 KiB (R517). -/
  repairs : List (Nat × Nat × Nat × Nat)
deriving DecidableEq, Repr

/-- A stack and its controller beside their registers (R146 to R171). -/
structure StackState where
  /-- 0: unlisted bytes read 0; otherwise they are undefined, freshly at each number. -/
  epoch : Nat
  /-- The beat F of a fence trigger, until the state reads FENCED, and whether F + 2,000 has passed (R164). -/
  fencing : Option Nat
  drained : Bool
  /-- The count at F, where one ran; and the fence answers a host FENCE command, whose end it reports (R164, R575). -/
  fenceBeat : Option Nat
  hostFence : Bool
  /-- TEST, REPAIR or training since the fence; a complete PASS of a TEST since the fence (R167). -/
  touched : Bool
  passed : Bool
  /-- Soft remaps: pseudo-channel, bank, row (R169), kept in the keep store. -/
  remaps : List (Nat × Nat × Nat)
  /-- Rows being copied to a spare (R169). -/
  copying : List (Nat × Nat × Nat)
  /-- Granules that a remap carried over uncorrectable (R169). -/
  carried : List Nat
  /-- Uncorrectable codewords of the last second: moment, bank of the stack, row (R163). -/
  ueRows : List (Nat × Nat × Nat)
  /-- Corrections of the count window: the granule and the symbols corrected (R163, R169). -/
  ces : List (Nat × List Nat)
  windowAt : Nat
  passAt : Option Nat
  /-- A raised band that waits for the next refresh interval; the band the readings give; the start of a dwell (R161). -/
  bandUp : Option Nat
  measured : Nat
  dwellAt : Option Nat
  /-- The moment of the last posted uncorrectable event (R158). -/
  uePostAt : Option Nat
  /-- Partitions that sent a request or list in their current step, bit n (R164). -/
  users : Nat
  /-- The patrol has read its last granule (R159). -/
  patrolDone : Bool
  /-- Nanoseconds spent in each band, up to the moment the band in force began. -/
  bandNs : Assoc Nat
  bandAt : Nat
  /-- Redundant lanes in use, by channel (R148). -/
  lanes : Assoc Nat
deriving DecidableEq, Repr

/-- A partition beside its registers (R273 to R293). (DEDUCED, assumption 34) -/
structure PartState where
  /-- The first fault reported in the running step: code and module address (R37). -/
  fault : Option (Nat × Nat)
  /-- A step is running (between the start part and the end part of a boundary). -/
  inStep : Bool
  /-- Boundaries that stretched the running step (R65). -/
  stretches : Nat
  /-- The closing barrier of the running step: B_c once received (R63). -/
  barrier : Option Nat
  /-- A fault owed to the next boundary: a send-queue message it refuses (R255). -/
  owed : Option Nat
  /-- A closing-barrier context has been launched since PART_START; its participant list leaves the module (R52). -/
  closing : Option Bool
  /-- The settings of PART_CFG that the last CONFIG applied (R279). -/
  repeatable : Bool
  pairEn : Bool
  standby : Bool
  /-- A running step is the replay of one ended in error (R283). -/
  replay : Bool
  /-- Park at the next boundary, whatever the causes are then (PART_STOP with park, PARK, R52, R326). -/
  parkNext : Bool
  /-- Pair mode: when the partner was last heard and a keepalive last sent; outcomes of the partner, and own ones with their moment, by step, that
  still lack the other side's (R291). -/
  heardAt : Nat
  keptAt : Nat
  partnerOutcomes : List (Nat × Bool)
  ownOutcomes : List (Nat × Bool × Nat)
  /-- The beat at which the running step started (R265). -/
  startBeat : Nat
  /-- The partition's energy counter, pJ, at the last end part that ended a step (R418). -/
  stepEnergy : Nat
deriving DecidableEq, Repr

/-- A tile beside its page (Table 9.7, R391). -/
structure TileState where
  /-- Since the fence: something has run; a RESET is complete; a complete PASS came after it. -/
  touched : Bool
  wasReset : Bool
  passed : Bool
  /-- When a RESET turned the compute rails off. -/
  resetAt : Option Nat
deriving DecidableEq, Repr

/-- A JENQ or JDEQ that waits (R217, R220, R222, R224). -/
structure JugWait where
  deq : Bool
  /-- 4096 × tile + queue. -/
  queue : Nat
  /-- The register that receives the result, the core-store address, the length or capacity, the flag bits. -/
  reg : Nat
  addr : Nat
  len : Nat
  flags : Nat
  /-- Bytes already in cells; the moment the wait began; its place in the order of waiting. -/
  pos : Nat
  since : Nat
  order : Nat
  /-- A JENQ that waits for cells (not for its release condition, whose mark is the number of the first piece of work posted after it). -/
  stalled : Bool
  mark : Nat
deriving DecidableEq, Repr

/-- A packet of a Juggler queue (R211, R219). -/
structure QPkt where
  id : Nat
  /-- Bytes enqueued; how many of them are delivered or discarded; the order stamp of each cell. -/
  data : List Byte
  taken : Nat
  stamps : List Nat
  /-- Who keeps it open: a stream 4 c + n, or 2048 + an Edpen flow (8 × source tile + class). -/
  openBy : Option Nat
  /-- Its last byte has been enqueued; it has become available; it was closed under R231. -/
  closed : Bool
  avail : Bool
  truncated : Bool
  /-- The stream 4 c + n that holds its claim. -/
  claim : Option Nat
  /-- The rest is discarded (R221, R230, R231). -/
  gone : Bool
  /-- The partition whose stream enqueued it (R254). -/
  part : Option Nat
  /-- Bytes still to be enqueued to a discarded packet count as discards (R232). -/
  counts : Bool
deriving DecidableEq, Repr

/-- A producer other than a stream that has stalled on a queue (R222, R227): 2048 + an Edpen flow, 2^24 + a command ring, or 2^25 for a packet of
FABRIC, which is held here; its place in the order of waiting, and since when. -/
structure Outside where
  who : Nat
  order : Nat
  since : Nat
  bytes : List Byte
deriving DecidableEq, Repr

/-- A Juggler queue beside the JUG page (R211, R213). -/
structure Queue where
  /-- The four descriptor words of Table 7.1, word 0 lowest. -/
  desc : Nat
  error : Bool
  /-- Packets, in the order of their first pieces. -/
  pkts : List QPkt
  /-- Cells in use of the reserve of this queue (R226). -/
  resUsed : Nat
  lastDeq : Nat
  /-- When the stranded-tail timer started; none while it is stopped (R225). -/
  timer : Option Nat
  /-- Stalled producers that are no streams. -/
  outside : List Outside
deriving DecidableEq, Repr

/-- A run of cells of one queue outside the pool, or on its way there: packet number and cell (R228, R229); and the cells as the segment was
written, which say where each lies. -/
structure Seg where
  num : Nat
  queue : Nat
  cells : List (Nat × Nat)
  base : List (Nat × Nat)
deriving DecidableEq, Repr

/-- The Juggler of a tile beside its page and queues. -/
structure JugTile where
  /-- Number of the next packet, cell and wait. -/
  next : Nat
  /-- Cells of the refill reserve in use (R226). -/
  refillUsed : Nat
  /-- The queue whose stalled producer was served last (R222). -/
  rr : Nat
  /-- Spilled segments, oldest first; the run being spilled; the segment being refilled. -/
  segs : List Seg
  run : Option Seg
  refill : Option Nat
  /-- POOL_DRY has been raised in this empty period (R227). -/
  dryTold : Bool
deriving DecidableEq, Repr

/-- A stream of a core beside its registers (R70 to R74). -/
structure Stream where
  /-- g0 to g31, and their values at the last step start (R73). -/
  regs : Assoc Nat
  snap : Assoc Nat
  /-- What a WAITF waits for: flag, count, consume. -/
  flag : Nat
  count : Nat
  consume : Bool
  /-- The beat a WAITBEAT waits for. -/
  deadline : Nat
  /-- A fence: its scope, the number of the first piece of work posted after it, and whether it is STEP_END's. -/
  fence : Option (Nat × Nat × Bool)
  /-- The JENQ or JDEQ it waits in. -/
  jug : Option JugWait
deriving DecidableEq, Repr

/-- A descriptor posted to the access engine (R79 to R88). -/
structure Desc where
  id : Nat
  stream : Nat
  words : Nat
  /-- 0 posted, 1 started, 2 every byte moved or the descriptor stopped by a fault, 3 its request is lost in Midway (R237). -/
  phase : Nat
  fault : Bool
  /-- Bytes read from other modules so far, by global address, and the reads asked for (R248). -/
  cache : List Host.Cell
  asked : List (Nat × Nat)
deriving DecidableEq, Repr

/-- A command in an engine queue (R72, R95); engines 0 to 3 are ME0 to ME3, 4 and 5 VE0 and VE1. -/
structure EngCmd where
  id : Nat
  stream : Nat
  engine : Nat
  words : Nat
  /-- 0 queued, 1 running, 2 the store part of an MMA_STORE waits. -/
  phase : Nat
  fault : Bool
  /-- The engine that runs it: its own, or the one that serves its queue (R100). -/
  on : Nat
deriving DecidableEq, Repr

/-- A logical core beside its registers (R70). -/
structure CoreState where
  streams : Assoc Stream
  /-- Number of the next piece of work posted. -/
  next : Nat
  descs : List Desc
  cmds : List EngCmd
  /-- Accumulator elements: ((engine × 8 + tile) × 256 + 16 i + j). -/
  acc : Assoc Nat
  /-- The stochastic generators: engine × 4 + stream (R118). -/
  gens : Assoc Nat
  /-- The spare being filled, and whether its copy is complete (R101). -/
  spare : Option Nat
  copied : Bool
  /-- When the copy began; CORE_DEGRADED has been reported for want of a spare (R101, R102). -/
  spareAt : Nat
  told : Bool
  /-- The stream that issued last (R71); FAULT_INFO holds the first code of this step (R104). -/
  last : Nat
  codeSeen : Bool
  /-- Words that a descriptor not yet complete has written, with what they held before: descriptor, word key, bytes (R91). -/
  racing : List (Nat × Nat × List Byte)
deriving DecidableEq, Repr

/-- An Edpen packet (Tables 8.5 and 8.6); COLL and management fields lie in `addr`, `aux` and the payload. -/
structure Packet where
  type : Nat
  tc : Nat
  src : Nat
  dst : Nat
  job : Nat
  addr : Nat
  length : Nat
  seq : Nat
  aux : Nat
  payload : List Byte
  /-- Its route in the form of Table 8.4: hops, then the ports; on an arrival, as the switches recorded it. 0 inside the module. -/
  route : Nat
deriving DecidableEq, Repr

/-- A message on Midway: from, to, class (0 REQ, 1 RSP, 2 MGMT), and the tile whose router holds it (R234, R236). -/
structure MidMsg where
  src : Nat
  dst : Nat
  cls : Nat
  at_ : Nat
  pkt : Packet
deriving DecidableEq, Repr

/-- A packet that its source keeps until it is acknowledged (R250). -/
structure Flight where
  tile : Nat
  /-- The port it went out on; 8 is Midway (R237, R255). -/
  port : Nat
  pkt : Packet
  sentAt : Nat
  resends : Nat
  /-- Who waits: the partition, the core and the number of its work. -/
  part : Option Nat
  core : Option Nat
  stream : Nat
  desc : Nat
  /-- Which entry of the descriptor an atomic stands for. -/
  tag : Nat
  /-- A copy for the standby: the answer held for the arrival's sender, and the port it goes to (R289). -/
  held : Option (Nat × Packet)
  /-- What the primary of a pair forwards to the standby (R289, R292). -/
  copy : Bool
deriving DecidableEq, Repr

/-- What a tile knows of a numbered flow from a source tile in a class (R250). -/
structure RxFlow where
  /-- The lowest number that has not arrived, and higher ones that have. -/
  next : Nat
  seen : List Nat
  /-- Arrivals that wait for the gap before them, with the port they came by. -/
  early : List (Nat × Packet)
  /-- Answers other than plain acknowledgements, by number, newest first. -/
  answers : List (Nat × Packet)
  /-- Bytes of the arrival numbered `next` that are in cells already (R242). -/
  placed : Nat
deriving DecidableEq, Repr

/-- A Midway link that is out of service (R235). -/
structure LinkState where
  downAt : Nat
  tries : Nat
deriving DecidableEq, Repr

/-- An Edpen port beside its page (R241, R267 to R269, R272). (DESIGN CHOICE, assumption 136) -/
structure PortState where
  attemptAt : Option Nat
  /-- A test since the fence; a complete PASS since the fence. -/
  tested : Bool
  passed : Bool
  /-- Credits in force, eight times 16 bits; 0: the defaults of Table 8.3. -/
  credits : Nat
  /-- Per-hop resends of the running second, and its start. -/
  retries : Nat
  retryAt : Nat
  /-- Corrected symbols by lane in the running millisecond, uncorrectable codewords by lane in the running second, and their starts (R267). -/
  symbols : Assoc Nat
  symbolsAt : Nat
  uncorr : Assoc Nat
  uncorrAt : Nat
  /-- It was fenced with its tile, and not by EDPEN.CMD (R299). -/
  byTile : Bool
  /-- An UNFENCE or RETRAIN of EDPEN.CMD runs: its result comes with the end of the training. -/
  byCmd : Bool
deriving DecidableEq, Repr

/-- A message of a collective that waits (R257, R261): where it came, the partition of its job tag; the sender, and when its last piece came. -/
structure CollMsg where
  tile : Nat
  part : Nat
  tag : Nat
  rank : Nat
  round : Nat
  inst : Nat
  data : List Byte
  src : Nat
  arrived : Nat
deriving DecidableEq, Repr

/-- A running collective of a tile (R257 to R261). -/
structure Coll where
  tile : Nat
  core : Nat
  part : Nat
  /-- The context, 512 bits, and the participant list. -/
  ctx : Nat
  list : List Nat
  tag : Nat
  inst : Nat
  launch : Nat
  /-- Rounds sent and received; TREE: the level being combined and the ranks combined at it; waiting for the result. -/
  sent : Nat
  rcvd : Nat
  got : List Nat
  climbing : Bool
  /-- The blocks held, in the carried form. -/
  blocks : Assoc (List Nat)
  /-- B_c once known; the least arrival offset so far; the beat of the own contribution. -/
  bc : Option Nat
  amin : Nat
  sentBeat : Nat
  /-- Complete: COLL_DONE writes the result. -/
  complete : Bool
  /-- The blocks before the children that arrived last, in one clock, were combined, and their messages (R259). -/
  base : Assoc (List Nat)
  batch : List CollMsg
deriving DecidableEq, Repr

/-- The fabric blocks of the tiles (R233 to R272). -/
structure FabState where
  /-- Next sequence number by source tile, destination tile and class; the flows that have begun to arrive. -/
  seqOut : Assoc Nat
  flows : Assoc (Option RxFlow)
  flights : List Flight
  /-- Next requester slot. -/
  slot : Nat
  /-- Route entries by tile × 32768 + module, 64 bits (R244), and the loads that run: first entry and count. -/
  routes : Assoc Nat
  loads : Assoc (Option (Nat × Nat))
  /-- Messages on Midway between the tiles of the module, oldest first. -/
  midway : List MidMsg
  /-- Links out of service, by 4 × lower tile + dimension. -/
  links : Assoc (Option LinkState)
  ports : Assoc PortState
  colls : List Coll
  held : List CollMsg
  /-- Launches of each context, by 2^22 × core + offset. -/
  launches : Assoc Nat
  /-- The tree neighbours and participants of the last closing-barrier context, by 16 × tile + partition (R52, R266). -/
  trees : Assoc (List Nat × List Nat)
  /-- The closing barrier of the running step at a tile: beat of its contribution, B_c, A_min (R265, R298). -/
  closes : Assoc (Nat × Option (Nat × Nat))
  /-- Striped packets sent by each tile (R249). -/
  stripes : Assoc Nat
deriving DecidableEq, Repr

/-- An offline test (R509 to R515). -/
structure TestRun where
  /-- Block type and instance, as in the fail log (R518). -/
  type : Nat
  inst : Nat
  /-- Slices passed and slices of the sequence. -/
  done : Nat
  total : Nat
  /-- Start of the running slice. -/
  sliceAt : Nat
  /-- 0 while slices run; else the outcome 2 PASS, 3 FAIL, 4 INCOMPLETE, with the re-initialisation running (R515). -/
  result : Nat
  cut : Nat
  /-- Count, E and signature match of the first slice that did not pass. -/
  count : Nat
  expect : Nat
  sig : Bool
  /-- The SPARE.PSTATE of a physical core before its test (R103). -/
  prior : Nat
  /-- In-bank units that fail in a stack's test (R207). -/
  units : List Nat
deriving DecidableEq, Repr

/-- An entry of the test log (Table 16.7). -/
structure TestLog where
  run : TestRun
  beat : Nat
deriving DecidableEq, Repr

/-- An entry of an in-bank list that is not yet done (R184, R185). -/
structure IbuEntry where
  idx : Nat
  words : Nat
  /-- A payload's data, and the entries it counts for. -/
  data : List Byte
  span : Nat
  /-- The status with which it fails when it is read, 0 for none. -/
  bad : Nat
  /-- Named units that have not yet executed it. -/
  rest : List Nat
  /-- Some unit has executed it; the fallback executor has run it. -/
  ran : Bool
  fb : Bool
deriving DecidableEq, Repr

/-- An in-bank list between its descriptor's start and its token (R184 to R204). -/
structure IbuList where
  id : Nat
  stack : Nat
  core : Nat
  stream : Nat
  desc : Nat
  part : Nat
  /-- It has reached the dispatcher; until then `raw` holds its bytes. -/
  arrived : Bool
  raw : List Byte
  count : Nat
  entries : List IbuEntry
  /-- The list index from which entries are still to be read into unit queues (R186). -/
  next : Nat
  /-- Failed entries: list index, status, address; and the units whose later entries are skipped. -/
  failed : List (Nat × Nat × Nat)
  skipped : List Nat
  done : Nat
  r0 : Nat
  r1 : Nat
  beat : Nat
  fallback : Nat
  ce : Nat
deriving DecidableEq, Repr

/-- An in-bank unit (R205, R207): 0 IN_SERVICE, 1 DISABLED, 2 FAILED, 3 TESTING. -/
structure UnitState where
  state : Nat
  /-- A failure since the last complete PASS. -/
  needPass : Bool
  /-- An uncorrectable slate or accumulator word that the next entry meets. -/
  bad : Bool
deriving DecidableEq, Repr

/-- The in-bank units of all stacks. -/
structure IbuState where
  next : Nat
  lists : List IbuList
  /-- Units by 1024 × stack + unit; slate bytes by that × 16384 + offset. -/
  units : Assoc UnitState
  slate : List Host.Cell
  /-- Units the fallback executor of a stack serves, at most 16 (R206). -/
  served : Assoc (List Nat)
  /-- Queues of the units, oldest entry first: list and list index (R186, R187); and each stack's list that was read last. -/
  queues : Assoc (List (Nat × Nat))
  lastRead : Assoc Nat
deriving DecidableEq, Repr

/-- What a verified image's header says of it (Table 11.4), and its measurement (R351); source: 0 flash, 1 push. -/
structure Img where
  type : Nat
  svn : Nat
  release : Nat
  length : Nat
  setVer : Nat
  setMin : Nat
  iface : Nat
  hVer : Nat
  hMin : Nat
  uMin : Nat
  uMax : Nat
  hash : Nat
  source : Nat
deriving DecidableEq, Repr

/-- A flash part: erased since manufacture, and the bytes that differ from what an unlisted one reads as. -/
structure FlashPart where
  erased : Bool
  bytes : List Host.Cell
deriving DecidableEq, Repr

/-- A prepare (R360): its slot; complete and in force; the images, and the tiles (bit t) whose alternate bank holds the microcode. -/
structure Prep where
  slot : Nat
  done : Bool
  main : Option Img
  ucode : Option Img
  tiles : Nat
deriving DecidableEq, Repr

/-- An operation of UPD_CMD, CFG_CMD or REC_CMD that runs (R354): 0, 1 or 2; its op, how it ends, its reason; a blob still to be written. -/
structure FwOp where
  kind : Nat
  op : Nat
  result : Nat
  reason : Nat
  blob : Option (Nat × List Byte)
deriving DecidableEq, Repr

/-- The firmware's state beside its registers (R335 to R374). -/
structure FwState where
  /-- A cold start, or a start of the management cores alone, is due. -/
  cold : Bool
  restart : Bool
  /-- When the stage was entered (R350). -/
  stageAt : Nat
  /-- The configuration area selected at the last cold start (R343). -/
  area : Option Nat
  loader : Option Img
  main : Option Img
  ucode : Option Img
  /-- Measurements of the images last confirmed: loader, MAIN, MICROCODE (R355). -/
  confirmed : List Nat
  /-- Since when trial minutes accrue; nanoseconds accrued before that (R355). -/
  trialAt : Option Nat
  trialNs : Nat
  slotA : FlashPart
  slotB : FlashPart
  /-- The 1 MiB buffer. -/
  buffer : List Host.Cell
  prep : Option Prep
  op : Option FwOp
  /-- A handover: its slot, group, when it began; 1 the new master is to come, 2 the mirror (R365). -/
  handover : Option (Nat × Nat × Nat × Nat)
  /-- The measurement of the microcode that a half runs, where it differs from `ucode` (R367). -/
  oldUcode : Assoc (Option Nat)
  /-- Votes heard as coordinator, by module: tile and READY (R362); the target whose votes are closed; the vote last sent. -/
  votes : Assoc (Option (Nat × Bool))
  closed : Option Nat
  lastVote : Bool
  /-- Emergency-class reasons are present; when the last cleared (R361). -/
  emergency : Bool
  emergencyAt : Option Nat
  /-- Component faults: component and moment (R368, R369); faults of both cores into the loader in one trial (R358). -/
  faults : List (Nat × Nat)
  loaderFaults : Nat
  /-- The mark period of the last exchange sent (R264). -/
  alignAt : Nat
  /-- A quote that runs: destination, offset, nonce; when the last was asked for (R374). -/
  quote : Option (Nat × Nat × Nat)
  quoteAt : Option Nat
  /-- Log entries of each component in its running second, and the second's start (R371); what the state machines last showed to the trace points. -/
  logged : Assoc (Nat × Nat)
  machines : List Nat
  /-- What the last PREPARE failed in: 1 a check, 2 the migration (Table 11.8). -/
  prepFailed : Nat
deriving DecidableEq, Repr

/-- A rail beside its block (R386 to R397). -/
structure RailState where
  /-- When its enable was last raised, while it is driven; since when it has been power-good. -/
  enabledAt : Option Nat
  goodAt : Option Nat
  /-- Samples of the last millisecond, newest first: mA and mV. -/
  hist : List (Nat × Nat)
  /-- A 2 µs or 20 µs window exceeds its limit; since when the 1 ms window does; the excess e of R395 in 1/65536. -/
  fast : Bool
  slowAt : Option Nat
  excess : Nat
  /-- Energy, pJ. -/
  energy : Nat
  /-- The meter's last reference check was bad (R519). -/
  refBad : Bool
  /-- The safety function that latched it off: 0 SF-OC, 4 SF-SQ (R465). -/
  cutBy : Nat
deriving DecidableEq, Repr

/-- What the tile limiter and POWER hold for a tile beside the PWR page (R395 to R416). -/
structure TilePower where
  /-- Budget and Tightrope or POWER_SHIFT shift, mW. -/
  budget : Nat
  shift : Int
  /-- The issue fraction that rails and budget give, and the budget's alone, in 1/65536. -/
  u : Nat
  uBudget : Nat
  /-- Since when u has stayed at its floor (R404); it reached 3/4 since the last POWER_TICK (R403). -/
  floorAt : Option Nat
  uHigh : Bool
  /-- The points POWER chooses (R403, R396) and R402 gives; a rail limit lowered the first. -/
  psPower : Nat
  psBw : Nat
  railLow : Bool
  /-- A point change that runs: the new point and since when (R399). -/
  move : Option (Nat × Nat)
  /-- The point whose voltage was written last. -/
  volt : Nat
  /-- Energy in pJ and samples of VCORE_t while some core was not barrier-idle, since the last POWER_TICK. -/
  actE : Nat
  actN : Nat
  /-- Throttle time by reason, ns, up to the moment its presence began (R412). -/
  thr : Assoc Nat
  thrAt : Assoc Nat
  /-- The running episode: start, reasons seen, since when it is free of reasons; episodes begun (R413). -/
  episodeAt : Option Nat
  seen : Nat
  freeAt : Option Nat
  episodes : Nat
  /-- Lateness of the steps closed since the last pass: its sum as a fraction, and count (R414). -/
  lateSum : Nat
  lateDen : Nat
  lateN : Nat
  limitTold : Bool
  /-- The budget does not admit the next point (R403); clock skipping last moved at (R404). -/
  held : Bool
  skipAt : Nat
deriving DecidableEq, Repr

/-- Power beside its pages (R388 to R418). -/
structure PowerState where
  /-- The sequence that runs: raising or lowering, its group, when that group was enabled or disabled. -/
  seq : Option (Bool × Nat × Nat)
  rails : Assoc RailState
  tiles : Assoc TilePower
  /-- When the grace of a rack order began (R392). -/
  rackAt : Option Nat
  /-- Since when the average has been above the cap at every floor setting; since when it has not been above it (R411). -/
  overAt : Option Nat
  underAt : Option Nat
  /-- Passes without a receiver (R414). -/
  relax : Nat
  /-- The stacks' issue fraction when the budgets are at their floor, 1/65536 (R408). -/
  uStacks : Nat
  /-- Group gap in µs, down timeout and power-good windows in 100 µs (R387). -/
  gap : Nat
  downT : Nat
  windows : Assoc Nat
  /-- Cores whose engine clocks have been gated (R405). -/
  gated : Assoc Bool
  /-- When POWER last made its pass (R403). -/
  tickAt : Nat
  /-- The sequence was started by PWR.CMD: its result comes with its end. -/
  byCmd : Bool
deriving DecidableEq, Repr

/-- A sensor and its comparator (R425 to R432, R439). -/
structure SensorState where
  /-- Last reading, 0.125 °C; 0 trusted, 1 pending, 2 failed; readings in a row that pass or disagree. -/
  temp : Int
  state : Nat
  goods : Nat
  bads : Nat
  source : Nat
  /-- The last reading was plausible; a RESTORE that waits for trust; the comparator's output. -/
  plausible : Bool
  restoring : Bool
  tripped : Bool
deriving DecidableEq, Repr

/-- A converter (R426, R428). -/
structure ConvState where
  refBad : Nat
  failed : Bool
  /-- When it last finished a sweep or checked its reference. -/
  idleAt : Nat
deriving DecidableEq, Repr

/-- Sensors, converters and demands (R425 to R441). -/
structure ThermState where
  sensors : Assoc SensorState
  convs : Assoc ConvState
  /-- Demands that wait or run, in the order of service: source (0 Safety Net, 1 loop, 2 self-test, 3 host) and groups. -/
  demands : List (Nat × Nat)
  /-- Since when the thermal cap could be at least 100 W higher (R437). -/
  riseAt : Option Nat
  /-- Since when every comparator has been released (R441). -/
  releasedAt : Nat
  /-- Thermal issue fractions of tiles and stacks, 1/65536 (R435). -/
  uTile : Assoc Nat
  uStack : Assoc Nat
  /-- When THERMAL last wrote CAP_THERMAL. -/
  capAt : Nat
  /-- THERMAL has armed its periodic slot since it started (R427). -/
  loopArmed : Bool
deriving DecidableEq, Repr

/-- A cooling channel beside its block (R442 to R447). -/
structure ChanState where
  kickAt : Nat
  /-- Since when its tachometer has been above, or below, the limit. -/
  aboveAt : Option Nat
  belowAt : Option Nat
  /-- When COOLING last wrote its setpoint; the table engine's value; the channel is driven for its partner's fault; stopped by a leak. -/
  setAt : Option Nat
  table : Nat
  partner : Bool
  stopped : Bool
  /-- The integral of the PI loop, mV × 80. -/
  integral : Int
  /-- Time driven above 0 mV, ns, and since when. -/
  drivenNs : Nat
  drivenAt : Option Nat
  /-- When the last daily probe of its tachometer began (R479). -/
  probeAt : Option Nat
deriving DecidableEq, Repr

/-- A coolant device on TW5 (R449). -/
structure CoolantState where
  trusted : Bool
  fails : Nat
  goods : Nat
deriving DecidableEq, Repr

/-- Cooling beside its page (R442 to R450). -/
structure CoolState where
  chans : Assoc ChanState
  coolant : Assoc CoolantState
  /-- The cooling table in use: temperature in 0.125 °C, pump mV, blower mV. -/
  table : List (Int × Nat × Nat)
  /-- Since when outlet minus inlet exceeds dt_c; since when it does not and a pump runs; a cooling failure holds. -/
  hotAt : Option Nat
  calmAt : Option Nat
  failed : Bool
deriving DecidableEq, Repr

/-- A leak input (R451 to R453). -/
structure LeakState where
  wet : Nat
  /-- Beat and time of the first wet sample. -/
  onset : Nat
  onsetAt : Nat
  openAt : Option Nat
  openTold : Bool
  dryAt : Option Nat
deriving DecidableEq, Repr

/-- Safety Net and the management pair beside the SAFE page (R458 to R474). -/
structure SafetyState where
  leaks : Assoc LeakState
  /-- Inputs enabled at the last cold reset (R452), and sampling paused by a restart. -/
  leakEn : Nat
  paused : Bool
  /-- Moments of the last kick of MC-A and MC-B; the cores that run; when each was lost and rejoined; out until a warm reset. -/
  kickA : Nat
  kickB : Nat
  aliveA : Bool
  aliveB : Bool
  lostA : Option Nat
  lostB : Option Nat
  rejoinA : Option Nat
  rejoinB : Option Nat
  outA : Bool
  outB : Bool
  /-- When NONE was entered, and the last warm restart attempted in it (R474). -/
  noneAt : Option Nat
  restartAt : Option Nat
  /-- When a held POWER, THERMAL or COOLING began its counts (R369, R474). -/
  dutyAt : Option Nat
  /-- The last SN_FAULT, how many within 10 s, a restart that runs, a second one has cut the module (R460). -/
  snAt : Option Nat
  snCount : Nat
  snRestart : Bool
  snCut : Bool
  /-- Since when SF-CF is active, and it has cut the module (R467). -/
  cfAt : Option Nat
  cfCut : Bool
  /-- The last edge of WDOG_OUT. -/
  wdogAt : Nat
  /-- Trip comparator sites marked by the self-test (R461). -/
  sites : List Nat
deriving DecidableEq, Repr

/-- An ageing indicator (R478, R479): daily samples of the last 90 days, newest first, as day and value; its baseline, for drift the sum of the
rpm readings of the first seven days and their number; the prediction; whether it is in alarm, and at its limit. -/
structure AgeEntry where
  samples : List (Nat × Nat)
  base : Nat
  baseN : Nat
  days : Nat
  days90 : Nat
  alarm : Bool
  atLimit : Bool
deriving DecidableEq, Repr

/-- Ageing (R478 to R480): the indicators; what ECC.CE_COUNT and HS.READ showed at the last update, by stack, and the daily differences. -/
structure AgeState where
  entries : Assoc AgeEntry
  last : Assoc (Nat × Nat)
  rates : Assoc (List (Nat × Nat))
deriving DecidableEq, Repr

/-- A slot of a recorder bank (R523, R525). -/
structure RecSlot where
  id : Nat
  inst : Nat
  /-- Lower bound of bin 1 and width of a bin. -/
  lo : Int
  width : Nat
  samples : Nat
  least : Int
  most : Int
  /-- ms from the bank's first sample. -/
  minAt : Nat
  maxAt : Nat
  sum : Int
  bins : List Nat
  saturated : Bool
deriving DecidableEq, Repr

/-- A bank: its slots, the beat of its first sample, its period-end beat once closed (R523, R524). -/
structure RecBank where
  slots : List RecSlot
  first : Option Nat
  extended : Bool
  stop : Nat
deriving DecidableEq, Repr

/-- A period: its two banks, and how many period lengths the count had at the last period end (R523). -/
structure RecPeriod where
  live : RecBank
  closed : Option RecBank
  count : Nat
deriving DecidableEq, Repr

/-- The event recorder (R522 to R528): its periods; counters at the last sample, by 65536 × quantity + instance; events posted, by code range. -/
structure RecState where
  periods : Assoc RecPeriod
  last : Assoc Nat
  posted : Assoc Nat
deriving DecidableEq, Repr

/-- A transaction of a controller port (R494): 0 voltage write, 1 attention read, 2 bring-up, 3 poll or fault clear, 4 host transfer. -/
structure Tx where
  kind : Nat
  rail : Nat
  addr : Nat
  page : Option Nat
  wr : List Byte
  rd : Nat
  pec : Bool
  /-- Retries made, and arbitrations lost in a row. -/
  tries : Nat
  losses : Nat
deriving DecidableEq, Repr

/-- A two-wire port beside its page (R488 to R494). -/
structure TwPort where
  queue : List Tx
  active : Option Tx
  /-- Since when the bus is free; when the last cure began or failed, whether it failed, and cures tried in this hang. -/
  freeAt : Nat
  cureAt : Nat
  cureFailed : Bool
  attempts : Nat
  /-- Attention reads made for the running request. -/
  reads : Nat
  /-- The page last written, by address (Table 15.5). -/
  pages : Assoc (Option Nat)
  protoAt : Option Nat
  /-- Another controller has won the bus, and its STOP has not been seen (R492). -/
  waitStop : Bool
deriving DecidableEq, Repr

/-- The two-wire ports (R485 to R505). -/
structure TwState where
  ports : Assoc TwPort
  /-- By rail: VOUT_MODE's exponent field, failed polls in a row; by rail and bit of STATUS_WORD: when a phase fault last showed it. -/
  exps : Assoc Nat
  pollFails : Assoc Nat
  postedAt : Assoc (Option Nat)
  /-- TW4: bytes of the unfinished write in order (offset in its 64-byte page), its pointer, the end of the last transaction. -/
  buf : List (Nat × Byte)
  wptr : Option Nat
  lastAt : Nat
  /-- TW4: a new ATTN bit waits; a request of its own is outstanding since. -/
  attnDue : Bool
  attnAt : Option Nat
  /-- A REC_CMD or CFG_CMD that runs was started over TW4 (Table 15.4). -/
  attnCmd : Bool
deriving DecidableEq, Repr

/-- What the block sends to the outside, in order. (DESIGN CHOICE, assumption 8; DEDUCED, assumption 73) -/
inductive Out where
  /-- An MSI-X message of a vector (R538). -/
  | msix (vector : Nat)
  /-- A wake of the management firmware for a page's event bit, or of a component with a tag (R539, R369). -/
  | wake (target : Nat) (tag : Nat)
  /-- Read data returned to a master, or bytes of a BAR2 read. -/
  | readData (master : Nat) (data : Nat)
  | bytes (data : List Byte)
  /-- A packet sent on an Edpen port of a tile, with its check; and PCIe completions in error (R308, R321). -/
  | packet (tile port : Nat) (p : Packet) (crc : Nat)
  | unsupportedRequest
  | completerAbort
  /-- A keepalive, or the outcome of a boundary, to the partner of a partition (R291): its step, committed or not. -/
  | pair (part step : Nat) (outcome : Option Bool)
  /-- A transaction that starts on a two-wire port: address, bytes written, bytes to read. -/
  | twoWire (port addr : Nat) (wr : List Byte) (rd : Nat)
  /-- A low pulse of 5 µs on TW4's SDA: a Barker request of the target (R501). -/
  | barker
deriving DecidableEq, Repr

/-- The whole state. -/
structure State where
  /-- The commands that wait, first in, first out. -/
  pending : List Instr
  /-- Nanoseconds since standby power good: the clock against which the spec's times are taken. -/
  now : Nat
  /-- How many free values have been drawn (the model's own field: `Config.freeValue`). -/
  free : Nat
  /-- Every register field that differs from its cold-reset value. -/
  regs : Assoc Nat
  beat : BeatState
  /-- Periodic slots whose disarm came after the target was reached: they fire once more and do not rearm, bit n (R56). -/
  slotStop : Nat
  host : HostState
  /-- The stacks' bytes by physical location, and the stored codewords' error masks by granule (R149, R153). -/
  hbm : List Host.Cell
  hbmErr : Assoc Nat
  stackParts : Assoc StackState
  /-- The bytes of the SRAM windows by window address, and the words whose stored value holds an error:
  1 an uncorrectable one, 2 one that reads correct (R28, R34, R90). -/
  sram : List Host.Cell
  sramBad : Assoc Nat
  parts : Assoc PartState
  tiles : Assoc TileState
  /-- Energy counters in pJ: partitions from 0, rings from 16, the module at 80, unattributed at 81, tiles from 82, stacks from 90 (R417). -/
  energy : Assoc Nat
  cores : Assoc CoreState
  /-- Juggler queues by 4096 × tile + queue, and the Jugglers by tile. -/
  queues : Assoc Queue
  jugs : Assoc JugTile
  fab : FabState
  ibu : IbuState
  /-- Offline tests that run, the test log (16, newest first) and the fail log (64, newest first). -/
  tests : List TestRun
  testLog : List TestLog
  failLog : List (Nat × Nat × Nat × Nat)
  /-- The instruction that the test port holds: 0 IDCODE, 1 EXTEST, 2 SCAN_UNLOCK (R520). -/
  scanIr : Nat
  keep : KeepState
  fw : FwState
  power : PowerState
  therm : ThermState
  cool : CoolState
  safety : SafetyState
  age : AgeState
  tw : TwState
  recorder : RecState
  /-- The access tables of pages by page number, 128 bits each, and the start-up tables of section 0x0006 (R544, R547). -/
  acl : Assoc (Option Nat)
  aclStart : Assoc (Option Nat)
  /-- HI words latched by reads of LO words, by field key and master (R542). -/
  latches : Assoc Nat
  /-- Everything the block has sent to the outside, oldest first. -/
  outbox : List Out
deriving DecidableEq, Repr

/-! One update per field of State. -/

def State.putPending (s : State) (x : List Instr) : State := { s with pending := x }
def State.putNow (s : State) (x : Nat) : State := { s with now := x }
def State.putFree (s : State) (x : Nat) : State := { s with free := x }
def State.putRegs (s : State) (x : Assoc Nat) : State := { s with regs := x }
def State.putBeat (s : State) (x : BeatState) : State := { s with beat := x }
def State.putSlotStop (s : State) (x : Nat) : State := { s with slotStop := x }
def State.putHost (s : State) (x : HostState) : State := { s with host := x }
def State.putHbm (s : State) (x : List Host.Cell) : State := { s with hbm := x }
def State.putHbmErr (s : State) (x : Assoc Nat) : State := { s with hbmErr := x }
def State.putStacks (s : State) (x : Assoc StackState) : State := { s with stackParts := x }
def State.putSram (s : State) (x : List Host.Cell) : State := { s with sram := x }
def State.putSramBad (s : State) (x : Assoc Nat) : State := { s with sramBad := x }
def State.putParts (s : State) (x : Assoc PartState) : State := { s with parts := x }
def State.putTiles (s : State) (x : Assoc TileState) : State := { s with tiles := x }
def State.putEnergy (s : State) (x : Assoc Nat) : State := { s with energy := x }
def State.putCores (s : State) (x : Assoc CoreState) : State := { s with cores := x }
def State.putQueues (s : State) (x : Assoc Queue) : State := { s with queues := x }
def State.putJugs (s : State) (x : Assoc JugTile) : State := { s with jugs := x }
def State.putFab (s : State) (x : FabState) : State := { s with fab := x }
def State.putIbu (s : State) (x : IbuState) : State := { s with ibu := x }
def State.putTests (s : State) (x : List TestRun) : State := { s with tests := x }
def State.putTestLog (s : State) (x : List TestLog) : State := { s with testLog := x }
def State.putFailLog (s : State) (x : List (Nat × Nat × Nat × Nat)) : State := { s with failLog := x }
def State.putScanIr (s : State) (x : Nat) : State := { s with scanIr := x }
def State.putKeep (s : State) (x : KeepState) : State := { s with keep := x }
def State.putFw (s : State) (x : FwState) : State := { s with fw := x }
def State.putPower (s : State) (x : PowerState) : State := { s with power := x }
def State.putTherm (s : State) (x : ThermState) : State := { s with therm := x }
def State.putCool (s : State) (x : CoolState) : State := { s with cool := x }
def State.putSafety (s : State) (x : SafetyState) : State := { s with safety := x }
def State.putAge (s : State) (x : AgeState) : State := { s with age := x }
def State.putTw (s : State) (x : TwState) : State := { s with tw := x }
def State.putRecorder (s : State) (x : RecState) : State := { s with recorder := x }
def State.putAcl (s : State) (x : Assoc (Option Nat)) : State := { s with acl := x }
def State.putAclStart (s : State) (x : Assoc (Option Nat)) : State := { s with aclStart := x }
def State.putLatches (s : State) (x : Assoc Nat) : State := { s with latches := x }
def State.putOutbox (s : State) (x : List Out) : State := { s with outbox := x }

/-- How a command can end in a stop of the machine. No command of the spec does; the type has no other constructor. -/
inductive Fault where
  /-- No meaning raises it. Safe: nothing stops here. -/
  | none
deriving DecidableEq, Repr

/-- How a command can be refused by the model. -/
inductive Refusal where
  /-- Raised by an arm of `exec` whose command has no meaning yet. Safe: no statement is made about it. -/
  | notModelled (mnemonic : String)
deriving DecidableEq, Repr

def BeatState.reset : BeatState := ⟨0, none, 0, 0, none, 0, [], 0, 0, 0, 0, 0, false, false, 0, 0⟩
def RingIrq.reset : RingIrq := ⟨0, false, false⟩
/-- DESIGN CHOICE assumption 7. -/
def HostState.reset : HostState := ⟨[], 0, 0, true, 0, RingIrq.reset, [], [], [], [], [], 63, 0, 0, none⟩

def StackState.reset : StackState :=
  { epoch := 0, fencing := none, drained := false, fenceBeat := none, hostFence := false, touched := false, passed := false, remaps := [],
    copying := [], carried := [], ueRows := [], ces := [], windowAt := 0, passAt := none, bandUp := none, measured := 3, dwellAt := none,
    uePostAt := none, users := 0, patrolDone := false, bandNs := [], bandAt := 0, lanes := [] }
def KeepState.reset : KeepState := ⟨[], [], [], [], 0, []⟩
def PartState.reset : PartState := ⟨none, false, 0, none, none, none, false, false, false, false, false, 0, 0, [], [], 0, 0⟩

def TileState.reset : TileState := ⟨false, false, false, none⟩
def Stream.reset : Stream := ⟨[], [], 0, 0, false, 0, none, none⟩
def Queue.reset : Queue := ⟨0, false, [], 0, 0, none, []⟩
def JugTile.reset : JugTile := ⟨0, 0, 4095, [], none, none, false⟩
/-- DESIGN CHOICE assumption 7. -/
def CoreState.reset : CoreState :=
  { streams := [], next := 0, descs := [], cmds := [], acc := [], gens := [], spare := none, copied := false, spareAt := 0, told := false,
    last := 3, codeSeen := false, racing := [] }
def PortState.reset : PortState := ⟨none, false, false, 0, 0, 0, [], 0, [], 0, false, false⟩
/-- DESIGN CHOICE assumption 7. -/
def FabState.reset : FabState := ⟨[], [], [], 0, [], [], [], [], [], [], [], [], [], [], []⟩

/-- DESIGN CHOICE assumption 7. -/
def FwState.reset : FwState :=
  { cold := true, restart := false, stageAt := 0, area := none, loader := none, main := none, ucode := none, confirmed := [], trialAt := none, trialNs := 0,
    slotA := ⟨false, []⟩, slotB := ⟨false, []⟩, buffer := [], prep := none, op := none, handover := none, oldUcode := [], votes := [],
    closed := none, lastVote := false, emergency := false, emergencyAt := none, faults := [], loaderFaults := 0, alignAt := 0,
    quote := none, quoteAt := none, logged := [], machines := [], prepFailed := 0 }

def RailState.reset : RailState := ⟨none, none, [], false, none, 0, 0, false, 0⟩
def TilePower.reset : TilePower := ⟨0, 0, 65536, 65536, none, false, 7, 0, false, none, 7, 0, 0, [], [], none, 0, none, 0, 0, 1, 0, false, false, 0⟩
def PowerState.reset : PowerState := ⟨none, [], [], none, none, none, 0, 65536, 500, 100, [], [], 0, false⟩
def SensorState.reset : SensorState := ⟨0, 1, 0, 0, 0, false, false, false⟩
def ConvState.reset : ConvState := ⟨0, false, 0⟩
def ThermState.reset : ThermState := ⟨[], [], [], none, 0, [], [], 0, false⟩
def ChanState.reset : ChanState := ⟨0, none, some 0, none, 0, false, false, 0, 0, none, none⟩
def CoolantState.reset : CoolantState := ⟨false, 0, 0⟩
/-- The loader's built-in cooling table (Table 13.7). -/
def builtInTable : List (Int × Nat × Nat) := [(240, 400, 300), (480, 600, 500), (640, 850, 750), (720, 1000, 1000)]
def CoolState.reset : CoolState := ⟨[], [], builtInTable, none, none, false⟩
def LeakState.reset : LeakState := ⟨0, 0, 0, none, false, none⟩
/-- DESIGN CHOICE assumption 7. -/
def SafetyState.reset : SafetyState :=
  { leaks := [], leakEn := 15, paused := false, kickA := 0, kickB := 0, aliveA := false, aliveB := false, lostA := none, lostB := none,
    rejoinA := none, rejoinB := none, outA := false, outB := false, noneAt := none, restartAt := none, dutyAt := none, snAt := none,
    snCount := 0, snRestart := false, snCut := false, cfAt := none, cfCut := false, wdogAt := 0, sites := [] }

def AgeEntry.reset : AgeEntry := ⟨[], 0, 0, 0xFFFF, 0xFFFF, false, false⟩
def AgeState.reset : AgeState := ⟨[], [], []⟩

def RecBank.reset : RecBank := ⟨[], none, false, 0⟩
def RecPeriod.reset : RecPeriod := ⟨RecBank.reset, none, 0⟩
def RecState.reset : RecState := ⟨[], [], []⟩

def TwPort.reset : TwPort := ⟨[], none, 0, 0, false, 0, 0, [], none, false⟩
def TwState.reset : TwState := ⟨[], [], [], [], [], none, 0, false, none, false⟩

def UnitState.reset : UnitState := ⟨0, false, false⟩
def IbuState.reset : IbuState := ⟨0, [], [], [], [], [], []⟩

/-- The block right after a cold reset (R564). (DESIGN CHOICE, assumption 2; DESIGN CHOICE, assumption 6; DESIGN CHOICE, assumption 7; DESIGN CHOICE, assumption 35) -/
def State.reset : State :=
  { pending := [], now := 0, free := 0, regs := [], beat := BeatState.reset, slotStop := 0, host := HostState.reset, hbm := [], hbmErr := [],
    stackParts := [], sram := [], sramBad := [], parts := [], tiles := [], energy := [], cores := [], queues := [], jugs := [], fab := FabState.reset, ibu := IbuState.reset, tests := [], testLog := [], failLog := [], scanIr := 0,
    keep := KeepState.reset, fw := FwState.reset, power := PowerState.reset, therm := ThermState.reset,
    cool := CoolState.reset, safety := SafetyState.reset, age := AgeState.reset, tw := TwState.reset, recorder := RecState.reset, acl := [], aclStart := [], latches := [], outbox := [] }

end Sys2Proof.Machine
end

