-- ==== Sys2Proof/Machine/Regs.lean ====
section
/-! DEFINITION. The one operation that reads a register field and the one that writes it, and the sparse maps they stand on. -/

namespace Sys2Proof.Machine

/-- The value at a key, or the default. -/
def Assoc.get (d : α) : Assoc α → Nat → α
  | [], _ => d
  | (k, v) :: m, a => if a = k then v else Assoc.get d m a

/-- Insert or replace, keeping keys rising. -/
def Assoc.ins (k : Nat) (v : α) : Assoc α → Assoc α
  | [] => [(k, v)]
  | (k', v') :: m => if k < k' then (k, v) :: (k', v') :: m else if k = k' then (k, v) :: m else (k', v') :: Assoc.ins k v m

/-- Remove a key. -/
def Assoc.del (k : Nat) : Assoc α → Assoc α
  | [] => []
  | (k', v') :: m => if k = k' then Assoc.del k m else (k', v') :: Assoc.del k m

/-- Write a key; the default is not listed. -/
def Assoc.put [DecidableEq α] (d : α) (m : Assoc α) (k : Nat) (v : α) : Assoc α :=
  if v = d then Assoc.del k m else Assoc.ins k v m

/-- Keys rise strictly: every key is listed once. -/
def Assoc.rising : Assoc α → Bool
  | [] => true
  | [_] => true
  | (a, _) :: (b, y) :: m => a < b && Assoc.rising ((b, y) :: m)

/-- Read a register field (page instance `i`, repetition `j`). -/
def State.rd (s : State) (f : Fld) (i : Nat := 0) (j : Nat := 0) : Nat :=
  Assoc.get (f.rst i j) s.regs (f.key i j)

/-- Write a register field, cut to its width. -/
def State.wr (s : State) (f : Fld) (v : Nat) (i : Nat := 0) (j : Nat := 0) : State :=
  (s.putRegs (Assoc.put (f.rst i j) s.regs (f.key i j) (v % 2 ^ f.w)))

/-- A one-bit field as a truth value. -/
def State.is (s : State) (f : Fld) (i : Nat := 0) (j : Nat := 0) : Bool := s.rd f i j != 0

/-- Add to a counter that saturates at its width. -/
def State.add (s : State) (f : Fld) (n : Nat) (i : Nat := 0) (j : Nat := 0) : State :=
  s.wr f (min (s.rd f i j + n) (2 ^ f.w - 1)) i j

/-- Put a field back to its cold-reset value. -/
def State.clr (s : State) (f : Fld) (i : Nat := 0) (j : Nat := 0) : State :=
  (s.putRegs (Assoc.del (f.key i j) s.regs))

/-- Set or clear one bit of a field. -/
def State.setBit (s : State) (f : Fld) (b : Nat) (v : Bool) (i : Nat := 0) (j : Nat := 0) : State :=
  s.wr f (if v then s.rd f i j ||| 2 ^ b else s.rd f i j - (if (s.rd f i j).testBit b then 2 ^ b else 0)) i j

/-- A page's fields put back to their cold-reset values where `p` holds of them. -/
def State.clearFields (s : State) (p : Fld → Bool) (i : Nat) : List Fld → State
  | [] => s
  | f :: fs =>
    if p f then State.clearFields ((List.range f.n).foldl (fun s j => s.clr f i j) s) p i fs else State.clearFields s p i fs

/-- A fresh free value (DESIGN CHOICE, assumption 2). -/
def State.fresh (s : State) : Nat × State := (Config.freeValue s.free, (s.putFree (s.free + 1)))

/-! Fields of the common header (Table 17.2). -/

def hdrStatus (p : Page) : Fld := ⟨p, 0x018, 0, 32, 1, 0, .w1c, if p.domain 0 = .TC then rCT else rC, fun _ _ => 0⟩
def hdrEnable (p : Page) : Fld := ⟨p, 0x01C, 0, 32, 1, 0, .rw, if p.domain 0 = .TC then rCT else rC, fun _ _ => 0⟩
def hdrVector (p : Page) : Fld := ⟨p, 0x024, 0, 6, 1, 0, .rw, if p.domain 0 = .TC then rCT else rC, fun _ _ => 0⟩
def hdrMsix (p : Page) : Fld := ⟨p, 0x024, 8, 1, 1, 0, .rw, if p.domain 0 = .TC then rCT else rC, fun _ _ => 0⟩
def hdrMc (p : Page) : Fld := ⟨p, 0x024, 9, 1, 1, 0, .rw, if p.domain 0 = .TC then rCT else rC, fun _ _ => 1⟩

/-- The fields of the common header that hold state. -/
def hdrFields (p : Page) : List Fld := [hdrStatus p, hdrEnable p, hdrVector p, hdrMsix p, hdrMc p]

end Sys2Proof.Machine
end

