-- ==== Sys2Proof/Machine/Hbm.lean ====
section
/-! DEFINITION. The stacks' bytes: interleaving (R149), the symbol code (R153, R154), and granule reads and writes with their counters
(R155 to R158). What a request does to partitions, fences and remaps stands in Machine/Stacks.lean. -/

namespace Sys2Proof.Machine

/-- Bits `hi..lo` of a number. -/
def bits (x hi lo : Nat) : Nat := x / 2 ^ lo % 2 ^ (hi + 1 - lo)

/-- Where a byte lies in a stack (Table 5.2). -/
structure Loc where
  pc : Nat
  bank : Nat
  row : Nat
  gran : Nat
  byte : Nat
deriving DecidableEq, Repr

/-- Table 5.2: location of stack offset `off` with the region's layout bit. -/
def locate (bankMode : Bool) (off : Nat) : Loc :=
  let o := off % 2 ^ 34
  let r := off / 2 ^ 34 % 8
  if bankMode then
    { pc := bits o 33 24 / 16, bank := 2 * (bits o 33 24 % 16) + bits o 10 10, row := 8192 * r + bits o 23 11, gran := bits o 9 5,
      byte := bits o 4 0 }
  else
    { pc := bits o 13 8 ^^^ bits o 27 22, bank := bits o 18 14 ^^^ bits o 32 28, row := 8192 * r + bits o 33 21,
      gran := 8 * bits o 20 19 + bits o 7 5, byte := bits o 4 0 }

/-- The in-bank unit a location belongs to (Table 5.1). -/
def Loc.unit (l : Loc) : Nat := 16 * l.pc + l.bank / 2

/-- A granule's number in the module, and a byte's: stack, then pseudo-channel, bank, row, granule, byte. -/
def Loc.granKey (l : Loc) (stk : Nat) : Nat := (((stk * 64 + l.pc) * 32 + l.bank) * 65536 + l.row) * 32 + l.gran
def Loc.key (l : Loc) (stk : Nat) : Nat := l.granKey stk * 32 + l.byte

def State.stk (s : State) (i : Nat) : StackState := Assoc.get StackState.reset s.stackParts i
def State.setStk (s : State) (i : Nat) (x : StackState) : State := (s.putStacks (Assoc.put StackState.reset s.stackParts i x))

/-- The location of a stack offset under the present region modes. -/
def State.locOf (s : State) (stk off : Nat) : Loc :=
  locate ((s.rd HS.CTRL.region_mode stk).testBit (off / 2 ^ 34 % 8)) off

/-- What a byte of memory that nothing has written reads as: 0 after the start-up fill, undefined after the contents were lost. (DESIGN CHOICE, assumption 29; DESIGN CHOICE, assumption 35) -/
def State.unlisted (s : State) (key : Nat) : Byte :=
  let e := (s.stk (key / 2 ^ 37)).epoch
  if e = 0 then 0 else Config.junkByte e key

/-- One stored byte, by physical location. -/
def State.hbmByte (s : State) (key : Nat) : Byte := Assoc.get (s.unlisted key) s.hbm key

/-- Store one byte, keeping the canonical form. -/
def State.hbmSet (s : State) (key : Nat) (b : Byte) : State :=
  (s.putHbm (Assoc.put (s.unlisted key) s.hbm key b))

/-- Store bytes at rising physical locations. -/
def State.hbmSetList (s : State) (key : Nat) : List Byte → State
  | [] => s
  | b :: bs => State.hbmSetList (s.hbmSet key b) (key + 1) bs

/-- The contents of a stack become undefined (R167, R392). (DESIGN CHOICE, assumption 29) -/
def State.loseStack (s : State) (stk : Nat) : State :=
  let s := (s.putFree (s.free + 1))
  let s := s.setStk stk { s.stk stk with epoch := s.free }
  ((s.putHbm (s.hbm.filter (fun c => c.1 / 2 ^ 37 != stk))).putHbmErr (s.hbmErr.filter (fun c => c.1 / 2 ^ 32 != stk)))

/-! The code of R153 over GF(2^8), field polynomial x^8 + x^4 + x^3 + x^2 + 1. -/

def gfX (a : Nat) : Nat := let b := 2 * a; if b ≥ 256 then b % 256 ^^^ 0x1D else b

/-- Product in the field. -/
def gfMul (a b : Nat) : Nat :=
  (List.range 8).foldl (fun acc k => gfX acc ^^^ (if b.testBit (7 - k) then a else 0)) 0

/-- α^n. -/
def gfPow (n : Nat) : Nat := (List.range (n % 255)).foldl (fun a _ => gfX a) 1

/-- Byte j of a codeword or mask, d0 first. -/
def cwByte (m j : Nat) : Nat := m / 2 ^ (8 * j) % 256

/-- Syndrome k of an error mask: its value at α^k, byte j standing at x^(35 - j) (R153). -/
def syndrome (m k : Nat) : Nat :=
  (List.range 36).foldl (fun a j => a ^^^ gfMul (cwByte m j) (gfPow (k * (35 - j)))) 0

/-- The generator polynomial: the product of x + α^k for k below 4, coefficients from x^4 down (R153). -/
def rsGen : List Nat :=
  (List.range 4).foldl (fun g k => (List.zip (g ++ [0]) (0 :: g)).map fun p => p.1 ^^^ gfMul p.2 (gfPow k)) [1]

/-- The check bytes c0 to c3 of 32 data bytes: the remainder of d(x)·x^4 by the generator, so that the codeword vanishes at all four roots
(R153). -/
def checkBytes (d : List Byte) : List Nat :=
  d.foldl (fun r b =>
    let q := b.toNat ^^^ r.headD 0
    (List.zip (r.drop 1 ++ [0]) (rsGen.drop 1)).map fun p => p.1 ^^^ gfMul q p.2) [0, 0, 0, 0]

/-- Syndrome k of 36 stored bytes, d0 first. -/
def wordSyndrome (bs : List Nat) (k : Nat) : Nat := bs.foldl (fun a b => gfMul a (gfPow k) ^^^ b) 0

/-- The bytes of a mask that are not zero. -/
def errBytes (m : Nat) : List Nat := (List.range 36).filter (fun j => cwByte m j != 0)

/-- What decoding a stored codeword answers (R154). `open` stands for errors of four or more bytes, about which nothing is guaranteed. -/
inductive Decoded where
  | clean
  | corrected (byte mask : Nat)
  | uncorrectable
  | unknown
deriving DecidableEq, Repr

/-- R154: one byte in error is corrected, two or three are detected. (DESIGN CHOICE, assumption 31) -/
def decodeMask (m : Nat) : Decoded :=
  match errBytes m with
  | [] => .clean
  | [j] => .corrected j (cwByte m j)
  | [_, _] => .uncorrectable
  | [_, _, _] => .uncorrectable
  | _ => .unknown

/-- Who reads a granule: the source code of ECC.LAST_UE_SRC (Table 5.9). -/
inductive ReadSrc where | tile | ibu | patrol | rmw
deriving DecidableEq, Repr

def ReadSrc.code : ReadSrc → Nat
  | .tile => 0 | .ibu => 1 | .patrol => 2 | .rmw => 3

/-- The 32 stored data bytes of a granule. -/
def State.granBytes (s : State) (g : Nat) : List Byte := (List.range 32).map (fun i => s.hbmByte (g * 32 + i))

/-- A granule as it is stored: its codeword of R153 with the errors the cells hold. -/
def State.storedWord (s : State) (g : Nat) : List Nat :=
  let d := s.granBytes g
  (d.map BitVec.toNat ++ checkBytes d).zipIdx.map fun b => b.1 ^^^ cwByte (Assoc.get 0 s.hbmErr g) b.2

/-- The symbols of R153 that a byte's error mask flips, the lower nibble first. (DEDUCED, assumption 24) -/
def maskSymbols (j mask : Nat) : List Nat :=
  (if mask % 16 != 0 then [2 * j] else []) ++ (if mask / 16 != 0 then [2 * j + 1] else [])
/-- The lowest of them. -/
def lowSymbol (j mask : Nat) : Nat := if mask % 16 != 0 then 2 * j else 2 * j + 1

/-- A whole granule written: the codeword is clean from then on (R157), and no remap has carried it over (R169). -/
def State.writeGran (s : State) (stk off : Nat) (data : List Byte) : State :=
  let g := (s.locOf stk off).granKey stk
  let s := (s.hbmSetList (g * 32) (data.take 32)).putHbmErr (Assoc.del g s.hbmErr)
  if (s.stk stk).carried.contains g then s.setStk stk { s.stk stk with carried := (s.stk stk).carried.filter (· != g) } else s

/-- Module address of BAR2 offset x, as an offset in HS0 (R307). -/
def ringBase : Nat := 0x1FC0000000

/-! HS.STATUS.state (Table 5.8). -/
def hsOFF : Nat := 0
def hsTRAINING : Nat := 1
def hsIN_SERVICE : Nat := 2
def hsFENCED : Nat := 3
def hsREPAIRING : Nat := 4
def hsTESTING : Nat := 5
def hsRETIRED : Nat := 6

def State.hsState (s : State) (k : Nat) : Nat := s.rd HS.STATUS.state k

/-- A tile's memory domain is lost (R17). -/
def State.tileLost (s : State) (t : Nat) : Bool := s.rd TILE.STATUS.state t == 3

/-- The controller accepts requests (R164, R575, R17). -/
def State.stackServes (s : State) (k : Nat) : Bool := s.hsState k == hsIN_SERVICE && (s.stk k).fencing.isNone && !s.tileLost (k / 2)

/-- The management die reaches the ring region: HS0 serves, and its domain has not been lost since the last cold reset (R147, R164, R322).
While HS0 is fenced the region is treated as R322 treats a lost one (DESIGN CHOICE, assumption 145). -/
def State.ringsUp (s : State) : Bool := !s.is MOD.STATUS.rings_lost && s.stackServes 0

/-- The management die writes whole granules of HS0 through its controller (R147, R172). (DESIGN CHOICE, assumption 145) -/
def State.ringPut (s : State) (off : Nat) (bs : List Byte) : State :=
  ((List.range (bs.length / 32)).foldl (fun s i => s.writeGran 0 (off + 32 * i) ((bs.drop (32 * i)).take 32)) s).add HS.WRITE.bytes bs.length 0

/-! The SRAM windows (R28, R34). A byte of tile t at window offset x has the key t × 2^30 + x. -/

/-- DESIGN CHOICE assumption 35. -/
def State.sramByte (s : State) (key : Nat) : Byte := Assoc.get 0 s.sram key
def State.sramSet (s : State) (key : Nat) (b : Byte) : State := (s.putSram (Assoc.put 0 s.sram key b))
def State.sramBytes (s : State) (key n : Nat) : List Byte := (List.range n).map (fun i => s.sramByte (key + i))
def State.sramSetList (s : State) (key : Nat) : List Byte → State
  | [] => s
  | b :: bs => State.sramSetList (s.sramSet key b) (key + 1) bs

/-- The canonical form of the memories: addresses rise, and no entry equals what an unlisted address reads as. -/
def Memory.wf (s : State) : Bool :=
  Assoc.rising s.hbm && s.hbm.all (fun c => c.2 != s.unlisted c.1) && Assoc.rising s.sram && s.sram.all (fun c => c.2 != 0)

/-- Bytes as a little-endian number, and back. -/
def leNat : List Byte → Nat
  | [] => 0
  | b :: bs => b.toNat + 256 * leNat bs
def leBytes : Nat → Nat → List Byte
  | 0, _ => []
  | n + 1, v => BitVec.ofNat 8 v :: leBytes n (v / 256)

end Sys2Proof.Machine
end

