-- ==== Sys2Proof/Machine/Flags.lean ====
section
/-! DEFINITION. Status flags and what follows from them: EVT_STATUS bits (R536), interrupts (R537 to R539, R332) and the event ring
(R329 to R331). -/

namespace Sys2Proof.Machine

/-- A named event: its page, its EVT_STATUS bit and its code in the event ring (0x0001 where it has none of its own, R329). -/
structure Ev where
  pg : Page
  bit : Nat
  code : Nat
deriving DecidableEq, Repr

/-- A component of the firmware runs (Table 11.10). -/
def State.runs (s : State) (component : Nat) : Bool := (s.rd FW.COMPONENTS.running).testBit component
/-- HOSTIF takes commands: it runs, and no handover holds the doorbells (R365). -/
def State.takesCmds (s : State) : Bool := s.runs 5 && !(match s.fw.handover with | some (_, _, _, 1) => true | _ => false)

/-- Word `w` of the MSI-X table; an entry is masked at reset (PRESUMED from PCI Express, assumption 12). -/
def msixDefault (w : Nat) : Nat := if w % 4 = 3 then 1 else 0
/-- PRESUMED assumption 12. -/
def State.msixWord (s : State) (w : Nat) : Nat := Assoc.get (msixDefault w) s.host.msix w

/-- Send a vector, or set its pending bit while it is masked (R538). (PRESUMED, assumption 12) -/
def State.sendMsix (s : State) (v : Nat) : State :=
  if (s.msixWord (4 * v + 3)).testBit 0 then (s.putHost { s.host with pba := s.host.pba ||| 2 ^ v })
  else (s.putOutbox (s.outbox ++ [.msix v]))

/-- R332: signal a written entry of a ring whose vector is paced. Answers the pacing state and whether to send now. -/
def RingIrq.signal (r : RingIrq) (now coalesceUs : Nat) : RingIrq × Bool :=
  if r.sentOnce && now < r.sentAt + coalesceUs * 1000 then ({ r with owed := true }, false)
  else ({ sentAt := now, sentOnce := true, owed := false }, true)

/-- The 64 bytes of an event entry (Table 10.10), the phase in bit 7 of byte 0x3F (R313). -/
def EvtRec.bytes (e : EvtRec) (seq : Nat) (phase : Bool) : List Byte :=
  leBytes 4 (e.code % 2 ^ 16) ++
  leBytes 4 (e.page % 2 ^ 16 + e.bit % 32 * 2 ^ 16 + (match e.part with | some p => 2 ^ 24 + p % 16 * 2 ^ 28 | none => 0)) ++
  leBytes 8 e.beat ++
  ((List.range 5).map (fun i => leBytes 8 (e.params.getD i 0))).flatten ++
  leBytes 4 seq ++ leBytes 4 (if phase then 2 ^ 31 else 0)

/-- The event ring can take no entry: one stays unused (DESIGN CHOICE, assumption 13). -/
def State.evtFull (s : State) : Bool :=
  (s.rd HOSTQ.EVT_TAIL.tail + 1) % 2 ^ s.rd HOSTQ.EVT_SIZE.log2 == s.rd HOSTQ.EVT_HEAD.head

/-- Write one entry at EVT_TAIL, advance, and signal (R313, R332). -/
def State.evtWrite (s : State) (e : EvtRec) : State :=
  let tail := s.rd HOSTQ.EVT_TAIL.tail
  let size := 2 ^ s.rd HOSTQ.EVT_SIZE.log2
  let off := ringBase + s.rd HOSTQ.EVT_BASE.base * 4096 + tail * 64
  let bs := e.bytes s.host.evtSeq s.host.evtPhase
  let s := s.ringPut off bs
  let s := (s.putRecorder { s.recorder with posted := Assoc.put 0 s.recorder.posted (e.code / 256) (Assoc.get 0 s.recorder.posted (e.code / 256) + 1) })
  let wrap := tail + 1 ≥ size
  let s := s.wr HOSTQ.EVT_TAIL.tail ((tail + 1) % size)
  let (irq, send) := s.host.evtIrq.signal s.now (s.rd HOSTQ.EVT_CTRL.coalesce_us)
  let s := (s.putHost { s.host with evtIrq := irq, evtPhase := if wrap then !s.host.evtPhase else s.host.evtPhase })
  if send then s.sendMsix (s.rd HOSTQ.EVT_CTRL.vector) else s

/-- The next sequence number (Table 10.10: dropped events count too). -/
def State.evtCount (s : State) : State := (s.putHost { s.host with evtSeq := (s.host.evtSeq + 1) % 2 ^ 32 })

/-- R330, R331: drop an event and count it; on a full ring, owe an EVT_OVERFLOW. -/
def State.evtDrop (s : State) (full : Bool) : State :=
  let s := (s.add HOSTQ.EVT_DROPPED.count 1).evtCount
  if full then (s.putHost { s.host with evtLost := s.host.evtLost + 1 }) else s

/-- Set a status bit and do what follows for interrupts, but post nothing. Answers whether the bit went from 0 to 1 (R536 to R539). -/
def State.setEvtBit (s : State) (pg : Page) (i bit : Nat) : Bool × State :=
  let old := s.rd (hdrStatus pg) i
  if old.testBit bit then (false, s)
  else
    let en := s.rd (hdrEnable pg) i
    let s := s.wr (hdrStatus pg) (old ||| 2 ^ bit) i
    let s := if (old &&& en) = 0 ∧ ((old ||| 2 ^ bit) &&& en) ≠ 0 ∧ s.is (hdrMsix pg) i then s.sendMsix (s.rd (hdrVector pg) i) else s
    (true, if s.is (hdrMc pg) i then (s.putOutbox (s.outbox ++ [.wake (pg.number i) bit])) else s)

/-- Post an event to the ring, HOSTIF running (R329 to R331). (DESIGN CHOICE, assumption 145) -/
def State.evtPost (s : State) (e : EvtRec) : State :=
  if !s.is HOSTQ.EVT_CTRL.enable || !s.ringsUp then s.evtDrop false
  else if s.evtFull then s.evtDrop true
  else
    let s :=
      if s.host.evtLost = 0 then s
      else
        let (_, s) := s.setEvtBit .HOSTQ 0 1
        let s := (s.evtWrite ⟨0x0002, Page.number .HOSTQ 0, 1, none, s.beat.count, [s.host.evtLost]⟩).evtCount
        (s.putHost { s.host with evtLost := 0 })
    if s.evtFull then s.evtDrop true else (s.evtWrite e).evtCount

/-- Post an event, or keep it until HOSTIF runs again (R474). -/
def State.post (s : State) (code page bit : Nat) (params : List Nat) (part : Option Nat := none) : State :=
  let e : EvtRec := ⟨code, page, bit, part, s.beat.count, params⟩
  if s.runs 5 then s.evtPost e else (s.putHost { s.host with deferred := s.host.deferred ++ [e] })

/-- R474: HOSTIF runs again and posts what it owes, in page order. -/
def State.postDeferred (s : State) : State :=
  let es := s.host.deferred.mergeSort (fun a b => a.page ≤ b.page)
  es.foldl State.evtPost (s.putHost { s.host with deferred := [] })

/-- An event occurs on a page: its bit is set, and a 0-to-1 change is posted (R329, R536). -/
def State.raise (s : State) (e : Ev) (i : Nat := 0) (params : List Nat := []) (part : Option Nat := none) : State :=
  let (fresh, s) := s.setEvtBit e.pg i e.bit
  if fresh then
    s.post e.code (e.pg.number i) e.bit (if e.code = 1 then [s.rd (hdrStatus e.pg) i] else params) part
  else s

/-- An event without a status bit: page 0, bit 0 (R329). -/
def State.postBare (s : State) (code : Nat) (params : List Nat) (part : Option Nat := none) : State := s.post code 0 0 params part

/-- R538: after a write to EVT_STATUS or EVT_ENABLE that leaves the page pending, send again. (DEDUCED, assumption 133) -/
def State.resendPending (s : State) (pg : Page) (i : Nat) : State :=
  if (s.rd (hdrStatus pg) i &&& s.rd (hdrEnable pg) i) ≠ 0 ∧ s.is (hdrMsix pg) i then s.sendMsix (s.rd (hdrVector pg) i) else s

/-! The events, by page and bit. -/


namespace Ev
def HEARTBEAT_LOST : Ev := ⟨.MOD, 0, 0x0003⟩
def RINGS_LOST : Ev := ⟨.MOD, 1, 0x0001⟩
def RING_UE : Ev := ⟨.MOD, 2, 0x0006⟩
def DRIVER_ATTACHED : Ev := ⟨.MOD, 3, 0x0004⟩
def RING_FAULT : Ev := ⟨.HOSTQ, 0, 0x0005⟩
def BEAT_ALIGNED : Ev := ⟨.BEAT, 0, 0x0001⟩
def BEAT_HOLDOVER : Ev := ⟨.BEAT, 1, 0x0001⟩
def BEAT_FREE_RUN : Ev := ⟨.BEAT, 2, 0x0001⟩
def BEAT_UNALIGNED : Ev := ⟨.BEAT, 3, 0x0001⟩
def MARK_SLIP : Ev := ⟨.BEAT, 4, 0x0001⟩
def BEAT_DISAGREE : Ev := ⟨.BEAT, 5, 0x0001⟩
def SLOT_REFUSED : Ev := ⟨.SCHED, 0, 0x0001⟩
def STACK_FENCED : Ev := ⟨.HS, 0, 0x0001⟩
def STACK_RETIRED : Ev := ⟨.HS, 1, 0x0001⟩
def HBM_LINK : Ev := ⟨.HS, 2, 0x0001⟩
def HS_CMD_DONE : Ev := ⟨.HS, 3, 0x0001⟩
def CE_THRESHOLD : Ev := ⟨.ECC, 0, 0x0001⟩
def HBM_UE : Ev := ⟨.ECC, 1, 0x0001⟩
def UE_PATROL : Ev := ⟨.ECC, 2, 0x0001⟩
def ROW_REMAPPED : Ev := ⟨.ECC, 3, 0x0001⟩
def SPARE_ROWS_EXHAUSTED : Ev := ⟨.ECC, 4, 0x0001⟩
def PATROL_PASS : Ev := ⟨.ECC, 5, 0x0001⟩
def BAND_CHANGE : Ev := ⟨.BAND, 0, 0x0001⟩
def BAND_UNTRUSTED : Ev := ⟨.BAND, 1, 0x0001⟩
def ENGINE_FAULT : Ev := ⟨.CORE, 0, 0x0001⟩
def CORE_FAULT : Ev := ⟨.CORE, 1, 0x0001⟩
def DESC_FAULT : Ev := ⟨.CORE, 2, 0x0001⟩
def FLAG_FAULT : Ev := ⟨.CORE, 3, 0x0001⟩
def SRAM_CE : Ev := ⟨.CORE, 4, 0x0001⟩
def SRAM_UE : Ev := ⟨.CORE, 5, 0x0001⟩
def CORE_DEGRADED : Ev := ⟨.CORE, 6, 0x0001⟩
def SUBSTITUTED : Ev := ⟨.SPARE, 0, 0x0001⟩
def SPARES_LOW : Ev := ⟨.SPARE, 1, 0x0001⟩
def SPARES_EXHAUSTED : Ev := ⟨.SPARE, 2, 0x0001⟩
def CORE_ABSENT : Ev := ⟨.SPARE, 3, 0x0001⟩
def IBU_FAILED : Ev := ⟨.IBU, 0, 0x0001⟩
def IBU_FALLBACK_FULL : Ev := ⟨.IBU, 1, 0x0001⟩
def IBU_CMD_DONE : Ev := ⟨.IBU, 2, 0x0001⟩
def POOL_LOW : Ev := ⟨.JUG, 0, 0x0001⟩
def POOL_DRY : Ev := ⟨.JUG, 1, 0x0001⟩
def SPILL_FULL : Ev := ⟨.JUG, 2, 0x0001⟩
def QUEUE_STRANDED : Ev := ⟨.JUG, 3, 0x0001⟩
def QUEUE_ERROR : Ev := ⟨.JUG, 4, 0x0001⟩
def QCMD_DONE : Ev := ⟨.JUG, 5, 0x0001⟩
def MIDWAY_LINK_DOWN : Ev := ⟨.MIDWAY, 0, 0x0001⟩
def MIDWAY_LINK_UP : Ev := ⟨.MIDWAY, 1, 0x0001⟩
def MODULE_ID_MISMATCH : Ev := ⟨.MIDWAY, 2, 0x0001⟩
def ROUTE_LOAD_DONE : Ev := ⟨.MIDWAY, 3, 0x0001⟩
def ARRIVAL_REFUSED : Ev := ⟨.MIDWAY, 4, 0x0001⟩
def PARTNER_PARKED : Ev := ⟨.MIDWAY, 5, 0x0001⟩
def LANE_DOWN : Ev := ⟨.EDPEN, 0, 0x0001⟩
def PORT_DOWN : Ev := ⟨.EDPEN, 1, 0x0001⟩
def PORT_UP : Ev := ⟨.EDPEN, 2, 0x0001⟩
def RETRY_HIGH : Ev := ⟨.EDPEN, 3, 0x0001⟩
def EDPEN_CMD_DONE : Ev := ⟨.EDPEN, 4, 0x0001⟩
def TILE_FENCED : Ev := ⟨.TILE, 0, 0x0001⟩
def TILE_LOST : Ev := ⟨.TILE, 1, 0x0001⟩
def STRAGGLER : Ev := ⟨.TILE, 2, 0x0001⟩
def TILE_CMD_DONE : Ev := ⟨.TILE, 3, 0x0001⟩
def ACL_REFUSED : Ev := ⟨.ACL, 0, 0x0001⟩
def LOG_DROPPED : Ev := ⟨.TRACE, 0, 0x0001⟩
def CONFIG_INVALID : Ev := ⟨.FW, 0, 0x0400⟩
def DEFERRED : Ev := ⟨.FW, 1, 0x0401⟩
def STARTED : Ev := ⟨.FW, 2, 0x0402⟩
def BOOT_FALLBACK : Ev := ⟨.FW, 3, 0x0403⟩
def IMAGE_REFUSED : Ev := ⟨.FW, 4, 0x0404⟩
def MIGRATION_FAILED : Ev := ⟨.FW, 5, 0x0405⟩
def SLOT_REVERTED : Ev := ⟨.FW, 6, 0x0406⟩
def ACTIVATED : Ev := ⟨.FW, 7, 0x0407⟩
def CONFIRMED : Ev := ⟨.FW, 8, 0x0408⟩
def UPDATE_DONE : Ev := ⟨.FW, 9, 0x0409⟩
def COMPONENT_RESTART : Ev := ⟨.FW, 10, 0x040A⟩
def COMPONENT_HELD : Ev := ⟨.FW, 11, 0x040B⟩
def IDENTITY_LOW : Ev := ⟨.SEC, 0, 0x040E⟩
def QUOTE_DONE : Ev := ⟨.SEC, 1, 0x0001⟩
def KEEP_WEAR : Ev := ⟨.KEEP, 0, 0x040C⟩
def KEEP_WORN : Ev := ⟨.KEEP, 1, 0x040D⟩
def THROTTLE_START : Ev := ⟨.PWR, 0, 0x0100⟩
def THROTTLE_END : Ev := ⟨.PWR, 1, 0x0101⟩
def CAP_UNREACHABLE : Ev := ⟨.PWR, 2, 0x0102⟩
def CAP_CHANGED : Ev := ⟨.PWR, 3, 0x0103⟩
def RAIL_CUT : Ev := ⟨.PWR, 4, 0x0104⟩
def SEQ_FAULT : Ev := ⟨.PWR, 5, 0x0105⟩
def TIGHTROPE_LIMIT : Ev := ⟨.PWR, 6, 0x0106⟩
def RACK_OFF : Ev := ⟨.PWR, 7, 0x0107⟩
def SENSOR_FAILED : Ev := ⟨.THERM, 0, 0x0200⟩
def SENSOR_RESTORED : Ev := ⟨.THERM, 1, 0x0201⟩
def THERMTRIP : Ev := ⟨.THERM, 2, 0x0202⟩
def TRIP_CLEARED : Ev := ⟨.THERM, 3, 0x0203⟩
def TILE_UNTRUSTED : Ev := ⟨.THERM, 4, 0x020C⟩
def PUMP_FAULT : Ev := ⟨.COOL, 0, 0x0204⟩
def BLOWER_FAULT : Ev := ⟨.COOL, 1, 0x0205⟩
def COOL_CLEARED : Ev := ⟨.COOL, 2, 0x0206⟩
def TABLE_MODE : Ev := ⟨.COOL, 3, 0x0207⟩
def COOLANT_UNTRUSTED : Ev := ⟨.COOL, 4, 0x0208⟩
def COOLING_FAILURE : Ev := ⟨.COOL, 5, 0x0209⟩
def LEAK : Ev := ⟨.LEAK, 0, 0x020A⟩
def LEAK_OPEN : Ev := ⟨.LEAK, 1, 0x020B⟩
def SAFETY_ACTIVE : Ev := ⟨.SAFE, 0, 0x0300⟩
def SAFETY_CLEARED : Ev := ⟨.SAFE, 1, 0x0301⟩
def MC_TAKEOVER : Ev := ⟨.SAFE, 2, 0x0302⟩
def MC_MIRRORED : Ev := ⟨.SAFE, 3, 0x0303⟩
def MC_BOTH_LOST : Ev := ⟨.SAFE, 4, 0x0304⟩
def SAFE_FLOOR : Ev := ⟨.SAFE, 5, 0x0305⟩
def SN_FAULT : Ev := ⟨.SAFE, 6, 0x0306⟩
def SAFETY_SELFTEST : Ev := ⟨.SAFE, 7, 0x0307⟩
def PHASE_FAULT : Ev := ⟨.SAFE, 8, 0x0308⟩
def AGE_ALARM : Ev := ⟨.AGE, 0, 0x0310⟩
def AGE_LIMIT : Ev := ⟨.AGE, 1, 0x0311⟩
def TEST_DONE : Ev := ⟨.BIST, 0, 0x0500⟩
def START_TEST_FAIL : Ev := ⟨.BIST, 1, 0x0501⟩
def REPAIR : Ev := ⟨.BIST, 2, 0x0502⟩
def SCAN_UNLOCKED : Ev := ⟨.BIST, 3, 0x0503⟩
def METER_FAULT : Ev := ⟨.BIST, 4, 0x0504⟩
def RECORD_EXTENDED : Ev := ⟨.RECORD, 0, 0x0505⟩
def RECORD_SATURATED : Ev := ⟨.RECORD, 1, 0x0506⟩
def TW_STUCK : Ev := ⟨.TW, 0, 0x0600⟩
def TW_FREED : Ev := ⟨.TW, 1, 0x0601⟩
def TW_BARKER : Ev := ⟨.TW, 2, 0x0602⟩
def TW_XFER_FAIL : Ev := ⟨.TW, 3, 0x0603⟩
def TW_PROTO : Ev := ⟨.TW, 4, 0x0604⟩
def TW_WAKE : Ev := ⟨.TW, 5, 0x0605⟩
end Ev

end Sys2Proof.Machine
end

