-- ==== Sys2Proof/Machine/Acl.lean ====
section
/-! DEFINITION. Who may touch a register page: the page map (R532), offline pages (R534), access tables (R544 to R549) and the gate every
register command passes. -/

namespace Sys2Proof.Machine

/-! Master IDs (Table 17.3). -/
def HOST : Nat := 0
def MCA : Nat := 1
def MCB : Nat := 2
def SAFENET : Nat := 3
def SECENG : Nat := 4
def TRAY : Nat := 5
def FLEET : Nat := 6
def ceOf (t : Nat) : Nat := 8 + t
def pmOf (n : Nat) : Nat := 16 + n
def DEBUG : Nat := 63

/-- The page a page number names (Table 17.1). -/
def pageOf (n : Nat) : Option (Page × Nat) :=
  if n < 0x100 then
    if n = 0x00 then some (.MOD, 0) else if n = 0x01 then some (.BEAT, 0) else if n = 0x02 then some (.SCHED, 0)
    else if 0x08 ≤ n ∧ n < 0x10 then some (.HOSTQ, n - 0x08)
    else if n = 0x10 then some (.PWR, 0) else if 0x11 ≤ n ∧ n < 0x18 then some (.RAIL, n - 0x11) else if n = 0x18 then some (.ENERGY, 0)
    else if n = 0x20 then some (.THERM, 0) else if n = 0x21 then some (.COOL, 0) else if n = 0x22 then some (.LEAK, 0)
    else if n = 0x28 then some (.SAFE, 0)
    else if n = 0x30 then some (.FW, 0) else if n = 0x31 then some (.SEC, 0) else if n = 0x32 then some (.KEEP, 0)
    else if n = 0x33 then some (.ACL, 0)
    else if 0x38 ≤ n ∧ n < 0x3E then some (.TW, n - 0x38)
    else if n = 0x40 then some (.RECORD, 0) else if n = 0x41 then some (.BIST, 0) else if n = 0x42 then some (.AGE, 0)
    else if n = 0x43 then some (.TRACE, 0) else none
  else if n < 0x900 then
    let t := (n - 0x100) / 0x100
    let r := n % 0x100
    if r = 0 then some (.TILE, t) else if r = 1 then some (.MIDWAY, t) else if r = 2 then some (.JUG, t)
    else if 4 ≤ r ∧ r < 0xC then some (.EDPEN, 8 * t + (r - 4))
    else if 0x10 ≤ r ∧ r < 0x50 then some (.CORE, 64 * t + (r - 0x10))
    else if r = 0x50 then some (.SPARE, t) else none
  else if n < 0xA00 then
    let k := (n - 0x900) / 0x10
    let r := n % 0x10
    if r = 0 then some (.HS, k) else if r = 1 then some (.ECC, k) else if r = 2 then some (.IBU, k) else if r = 3 then some (.BAND, k) else none
  else none

/-- RAIL.STATUS.state of rail n: 0 off, 1 ramping, 2 good, 3 window missed, 4 cut. -/
def State.railState (s : State) (n : Nat) : Nat := s.rd RAIL.STATUS.state (n / 8) (n % 8)
def State.railGood (s : State) (n : Nat) : Bool := s.railState n == 2
/-- Its enable has dropped: off, window missed or cut. -/
def State.railDown (s : State) (n : Nat) : Bool := s.railState n == 0 || s.railState n == 3 || s.railState n == 4

/-- A rail is latched off (R465). -/
def State.railCutBit (s : State) (n : Nat) : Bool :=
  if n < 32 then (s.rd SAFE.RAIL_CUT0.rails).testBit n else (s.rd SAFE.RAIL_CUT1.rails).testBit (n - 32)


/-- The tile a page belongs to. -/
def Page.tileOf : Page → Nat → Nat
  | .EDPEN, i => i / 8
  | .CORE, i => i / 64
  | .HS, k | .ECC, k | .IBU, k | .BAND, k => k / 2
  | _, t => t

/-- R534: the page's domain cannot serve it. -/
def State.offline (s : State) (pg : Page) (i : Nat) : Bool :=
  let t := pg.tileOf i
  match pg.domain i with
  | .AO => false
  | .MG => !s.railGood 51
  | .TM => s.tileLost t
  | .TC => !s.railGood (4 * t) || !s.railGood (4 * t + 1) || s.tileLost t

/-- Half h is held by partition n: TILE.HALVES shows its owner (R274, Table 9.11). -/
def State.holder (s : State) (h : Nat) : Option Nat :=
  let t := h / 2
  if h % 2 = 0 then (if s.is TILE.HALVES.valid0 t then some (s.rd TILE.HALVES.owner0 t) else none)
  else (if s.is TILE.HALVES.valid1 t then some (s.rd TILE.HALVES.owner1 t) else none)
def State.holds (s : State) (n h : Nat) : Bool := s.holder h == some n
/-- The halves a partition holds, lowest first. -/
def State.halvesOf (s : State) (n : Nat) : List Nat := (List.range 16).filter (s.holds n)
/-- The partition of a logical core of the module (R273). -/
def State.partOfCore (s : State) (core : Nat) : Option Nat := s.holder (core / 32)

/-- Table 17.4: the default entry of a master for a page: 0 denied, 1 read, 2 write, 3 persistent. -/
def aclDefault (pg : Page) (i m : Nat) : Nat :=
  let c := if m < 7 then [0, 1, 1, 2, 3, 4, 5].getD m 9 else if 8 ≤ m ∧ m < 16 then 6 else if 16 ≤ m ∧ m < 32 then 7 else 9
  let row : List Nat := match pg with
    | .MOD => [2, 2, 1, 0, 1, 2, 0, 0]
    | .BEAT => [2, 2, 1, 0, 1, 2, 1, 1]
    | .SCHED => [2, 2, 1, 0, 2, 2, 1, 2]
    | .HOSTQ => [2, 2, 0, 0, 0, 1, 0, 0]
    | .PWR => [2, 2, 2, 0, 2, 2, 1, 1]
    | .RAIL | .THERM | .COOL => [2, 2, 2, 0, 2, 2, 1, 0]
    | .ENERGY => [1, 1, 1, 0, 1, 1, 0, 0]
    | .LEAK => [3, 2, 3, 0, 3, 2, 0, 0]
    | .SAFE => [2, 2, 2, 0, 2, 1, 0, 0]
    | .FW => [3, 2, 1, 1, 2, 3, 0, 0]
    | .SEC => [3, 2, 1, 3, 1, 2, 0, 0]
    | .KEEP => [2, 2, 1, 2, 1, 2, 0, 0]
    | .ACL => [2, 1, 1, 0, 1, 2, 0, 0]
    | .TW => if i = 4 then [1, 2, 2, 0, 2, 1, 0, 0] else [2, 2, 1, 0, 1, 2, 0, 0]
    | .BIST => [2, 2, 1, 0, 2, 2, 0, 0]
    | .RECORD | .AGE | .TRACE => [2, 2, 1, 0, 1, 2, 0, 0]
    | .TILE | .MIDWAY | .SPARE | .EDPEN | .CORE => [2, 2, 1, 0, 1, 2, 1, 1]
    | .JUG => [2, 2, 0, 0, 0, 2, 1, 2]
    | .HS | .ECC | .IBU | .BAND => [2, 2, 1, 0, 0, 2, 1, 1]
  row.getD c 0

/-- The default table of a page as 128 bits. -/
def aclDefaultTable (pg : Page) (i : Nat) : Nat := (List.range 64).foldr (fun m a => a * 4 + aclDefault pg i m) 0

/-- The start-up table of a page: section 0x0006's, or the default (R547). -/
def State.aclStartTable (s : State) (pg : Page) (i : Nat) : Nat :=
  (Assoc.get none s.aclStart (pg.number i)).getD (aclDefaultTable pg i)
/-- The table in force. -/
def State.aclTable (s : State) (pg : Page) (i : Nat) : Nat :=
  (Assoc.get none s.acl (pg.number i)).getD (s.aclStartTable pg i)
def aclEntryOf (table m : Nat) : Nat := table / 4 ^ m % 4

/-- R549: what a CE or a program master reaches beyond its table. -/
def State.reaches (s : State) (m : Nat) (pg : Page) (i : Nat) : Bool :=
  let t := pg.tileOf i
  let tilePage := match pg.domain 0, pg with
    | .TM, _ => true
    | .TC, _ => true
    | _, _ => false
  if !tilePage then true
  else if 8 ≤ m ∧ m < 16 then t == m - 8
  else if 16 ≤ m ∧ m < 32 then
    match pg with
    | .CORE => s.holds (m - 16) (i / 32)
    | .HS | .ECC | .IBU | .BAND => s.holds (m - 16) i
    | _ => s.holds (m - 16) (2 * t) || s.holds (m - 16) (2 * t + 1)
  else true

/-- The entry of a master for a page (R544, R549). -/
def State.entry (s : State) (m : Nat) (pg : Page) (i : Nat) : Nat :=
  if s.reaches m pg i then aclEntryOf (s.aclTable pg i) m else 0

def State.mayRead (s : State) (m : Nat) (pg : Page) (i : Nat) : Bool := s.entry m pg i != 0
def State.mayWrite (s : State) (m : Nat) (pg : Page) (i : Nat) : Bool := s.entry m pg i ≥ 2
def State.mayPersist (s : State) (m : Nat) (pg : Page) (i : Nat) : Bool := s.entry m pg i = 3

/-- R544: a denied access is counted with its master and page. -/
def State.countDenied (s : State) (m : Nat) (pg : Page) (i : Nat) : State :=
  ((s.add ACL.DENIED.count 1).wr ACL.DENIED.master m).wr ACL.DENIED_PAGE.page (pg.number i)

/-- The main firmware runs: stages WAIT_MICROCODE and RUNNING (Table 11.1). -/
def State.mainRuns (s : State) : Bool := s.rd FW.STATUS.stage ≥ 5

/-- R336, R458: what BAR0 serves before the main firmware runs. (DEDUCED, assumption 14) -/
def State.hostServed (s : State) (m : Nat) (pg : Page) (i off : Nat) : Bool :=
  m != HOST || s.mainRuns ||
    (match pg with
     | .MOD | .FW | .SAFE => true
     | .HOSTQ => i == 0 && (off == 0x330 || off == 0x334)
     | _ => false)

/-- The gate of a register write that has a command of its own: the page must be served, the master's entry must allow the write; a denied
write is counted and changes nothing (R533, R534, R336, R544). (DEDUCED, assumption 131) -/
def State.gate (s : State) (m : Nat) (pg : Page) (i off : Nat) (act : State → State) : State :=
  if s.offline pg i || !s.hostServed m pg i off then s
  else if s.mayWrite m pg i then act s
  else s.countDenied m pg i

end Sys2Proof.Machine
end

