-- ==== Sys2Proof/Machine/Ops.lean ====
section
/-! DEFINITION. Named operations that many commands share: partitions' faults and park causes, event slots. -/

namespace Sys2Proof.Machine

/-! Partitions (R273 to R285). -/

def State.part (s : State) (n : Nat) : PartState := Assoc.get PartState.reset s.parts n
def State.setPart (s : State) (n : Nat) (x : PartState) : State := (s.putParts (Assoc.put PartState.reset s.parts n x))

/-- PART_STATE.state: 0 FREE, 1 STOPPED, 2 RUNNING, 3 PARKED. -/
def State.partState (s : State) (n : Nat) : Nat := s.rd MOD.PART_STATE.state 0 n
def State.running (s : State) (n : Nat) : Bool := s.partState n == 2

/-- R37: the first fault reported in the running step is kept, with its module address. (DEDUCED, assumption 72) -/
def State.partFault (s : State) (n code addr : Nat) : State :=
  let p := s.part n
  if p.inStep && p.fault.isNone then s.setPart n { p with fault := some (code, addr) } else s

/-- The fault of a request whose partition may be absent. -/
def State.optFault (s : State) (n : Option Nat) (code addr : Nat) : State :=
  match n with | some n => s.partFault n code addr | none => s

/-- Set a park cause of Table 9.2; a RUNNING partition parks at its next boundary. -/
def State.setCause (s : State) (n bit : Nat) : State :=
  let s := s.setBit MOD.PART_STATE.causes bit true 0 n
  if s.running n then s.setPart n { s.part n with parkNext := true } else s

def State.clearCause (s : State) (n bit : Nat) : State := s.setBit MOD.PART_STATE.causes bit false 0 n

/-- Do something for each partition that answers. -/
def State.forParts (s : State) (p : State → Nat → Bool) (f : State → Nat → State) : State :=
  (List.range 16).foldl (fun s n => if p s n then f s n else s) s

/-- Do something for the numbers below a bound that answer. -/
def State.forEach (s : State) (n : Nat) (p : State → Nat → Bool) (f : State → Nat → State) : State :=
  (List.range n).foldl (fun s k => if p s k then f s k else s) s

/-! Microcode (R360, R367). -/

/-- Halves whose tiles run the active microcode from now on (R367). -/
def State.newUcode (s : State) (hs : List Nat) : State :=
  (s.putFw { s.fw with oldUcode := s.fw.oldUcode.filter (fun x => !hs.contains x.1) })

/-- The alternate microcode bank of a tile is loaded or cleared (R360). -/
def State.altBank (s : State) (t : Nat) (on : Bool) : State :=
  match s.fw.prep with
  | some p => (s.putFw { s.fw with prep := some { p with tiles := if on then p.tiles ||| 2 ^ t else p.tiles - (if p.tiles.testBit t then 2 ^ t else 0) } })
  | none => s

/-! Step-ending fault codes, in the numbering of Table 3.15. -/
def fSTEP_OVERRUN : Nat := 0x18
def fADDR_FAULT : Nat := 0x20
def fDESC_FAULT : Nat := 0x21
def fFLAG_FAULT : Nat := 0x22
def fCORE_FAULT : Nat := 0x24
def fSRAM_UE : Nat := 0x25
def fHBM_UE : Nat := 0x30
def fSTACK_FENCED : Nat := 0x31
def fHBM_LINK : Nat := 0x32
def fIBU_CMD : Nat := 0x38
def fIBU_BOUNDS : Nat := 0x39
def fIBU_FAULT : Nat := 0x3A
def fQUEUE_FAULT : Nat := 0x40
def fPACKET_FAULT : Nat := 0x41
def fROUTE_FAULT : Nat := 0x48
def fEDPEN_REFUSED : Nat := 0x49
def fLINK_TIMEOUT : Nat := 0x4A
def fCOLL_TIMEOUT : Nat := 0x4B
def fCOLL_FAULT : Nat := 0x4C
def fTILE_LOST : Nat := 0x50
def fPART_STOPPED : Nat := 0x51
def fPAIR_STANDBY : Nat := 0x52
def fPOWER_OFF : Nat := 0x60

/-! Event slots (R53 to R60). -/

/-- Action codes of Table 2.3. -/
def actStepBoundary : Nat := 0x01
def actPartStart : Nat := 0x02
def actPartStop : Nat := 0x03
def actFwActivate : Nat := 0x04
def actPsChange : Nat := 0x05
def actCapChange : Nat := 0x06
def actCollLaunch : Nat := 0x07
def actPowerShift : Nat := 0x08
def actSensorDemand : Nat := 0x09
def actMcEvent : Nat := 0x0A
def actHostEvent : Nat := 0x0B

/-- The count runs (R571). -/
def State.counting (s : State) : Bool := s.rd BEAT.STATUS.state ≥ 2

def State.armed (s : State) (n : Nat) : Bool := s.is SCHED.SLOT_CTL.arm 0 n
def State.slotAction (s : State) (n : Nat) : Nat := s.rd SCHED.SLOT_CTL.action 0 n
def State.slotTarget (s : State) (n : Nat) : Nat := s.rd SCHED.SLOT_TARGET.target 0 n
def State.slotOwner (s : State) (n : Nat) : Nat := s.rd SCHED.SLOT_CTL.owner 0 n
def State.slotParam0 (s : State) (n : Nat) : Nat := s.rd SCHED.SLOT_PARAM0.param0 0 n
def State.slotParam1 (s : State) (n : Nat) : Nat := s.rd SCHED.SLOT_PARAM1.param1 0 n

/-- Slot n is armed for an action and the count has reached its target (R53). (DESIGN CHOICE, assumption 3; DESIGN CHOICE, assumption 10) -/
def State.slotDue (s : State) (n action : Nat) : Bool :=
  s.armed n && s.slotAction n == action && s.counting && s.slotTarget n ≤ s.beat.count

/-- R56, R57: the slot fires: it is counted, and a periodic one rearms at target + PERIOD. (DESIGN CHOICE, assumption 10; DEDUCED, assumption 21) -/
def State.slotFire (s : State) (n : Nat) : State :=
  let delay := min (s.beat.count - s.slotTarget n) 255
  let period := s.rd SCHED.SLOT_PERIOD.period 0 n
  let s := (s.add SCHED.SLOT_COUNT.count 1 0 n).wr SCHED.SLOT_RESULT.delay_ns delay 0 n
  let s := s.wr SCHED.LATE_MAX.delay_ns (max (s.rd SCHED.LATE_MAX.delay_ns) delay)
  let s := s.setBit SCHED.FIRED.fired (n % 32) true 0 (n / 32)
  if period ≠ 0 ∧ s.slotStop.testBit n = false then
    (s.wr SCHED.SLOT_TARGET.target (s.slotTarget n + period) 0 n).wr SCHED.SLOT_RESULT.state 1 0 n
  else
    ((((s.wr SCHED.SLOT_CTL.arm 0 0 n).wr SCHED.SLOT_RESULT.state 2 0 n)).putSlotStop (if s.slotStop.testBit n then s.slotStop - 2 ^ n else s.slotStop))

/-- R59: a slot disarmed by a reset or a release shows state 3 (cancelled). -/
def State.slotCancel (s : State) (n : Nat) : State :=
  if s.armed n then
    ((((s.wr SCHED.SLOT_CTL.arm 0 0 n).wr SCHED.SLOT_RESULT.state 3 0 n)).putSlotStop (if s.slotStop.testBit n then s.slotStop - 2 ^ n else s.slotStop))
  else s

/-- R59: disarm every slot owned by a partition, or by a tile. -/
def State.cancelPartSlots (s : State) (p : Nat) : State :=
  s.forEach 96 (fun s n => s.armed n && s.rd SCHED.SLOT_CTL.owner_kind 0 n == 2 && s.slotOwner n == p) State.slotCancel
def State.cancelTileSlots (s : State) (t : Nat) : State :=
  s.forEach 96 (fun s n => s.armed n && s.rd SCHED.SLOT_CTL.owner_kind 0 n == 1 && s.slotOwner n == t) State.slotCancel

/-- The armed STEP_BOUNDARY slot of a partition (R61). -/
def State.boundarySlot (s : State) (p : Nat) : Option Nat :=
  (List.range 96).find? (fun n => s.armed n && s.slotAction n == actStepBoundary && s.rd SCHED.SLOT_CTL.owner_kind 0 n == 2 && s.slotOwner n == p)

/-- Armed slots of an action that are due on the beat `target` (R60). (DEDUCED, assumption 33) -/
def State.beatSlots (s : State) (action target : Nat) : List Nat :=
  (List.range 96).filter fun k => s.slotDue k action && s.slotTarget k == target

/-- Table 2.3: the place of an action among those of one beat. -/
def actionOrder (a : Nat) : Nat :=
  if a = actStepBoundary then 1 else if a = actPartStop then 2 else if a = actFwActivate then 3
  else if a = actPsChange ∨ a = actCapChange ∨ a = actPowerShift then 4 else if a = actPartStart then 5
  else if a = actCollLaunch then 7 else if a = actSensorDemand then 8 else 9

/-- R60: no other slot of the same beat comes before slot n, by the order of Table 2.3 and then by number. -/
def State.slotTurn (s : State) (n : Nat) : Bool :=
  let o := actionOrder (s.slotAction n)
  (List.range 96).all fun k =>
    let ok := actionOrder (s.slotAction k)
    !(s.armed k && s.slotTarget k == s.slotTarget n && (decide (ok < o) || (ok == o && decide (k < n))))

/-- Slot n is due for an action of its own, and its turn on its beat has come (R60): a command that comes before its turn is no firing yet
(DESIGN CHOICE, assumption 11). -/
def State.dueAlone (s : State) (n action : Nat) : Bool := s.slotDue n action && s.slotTurn n

/-- A boundary fires on the beat on which slot n is due: what slot n does is part of that firing (R60, DEDUCED, assumption 33). -/
def State.onBoundary (s : State) (n : Nat) : Bool := !(s.beatSlots actStepBoundary (s.slotTarget n)).isEmpty

/-- A refusal of the SCHED page, recorded (R46, R54, R68). -/
def State.reject (s : State) (slot reason : Nat) : State :=
  (((s.add SCHED.REJECTS.count 1).wr SCHED.REJECTS.last_slot slot).wr SCHED.REJECTS.last_reason reason).raise Ev.SLOT_REFUSED

end Sys2Proof.Machine
end

