-- ==== Sys2Proof/Machine/Bist.lean ====
section
/-! DEFINITION. Offline tests: their start, cut and log (R509 to R519). -/

namespace Sys2Proof.Machine

/-! Block types of R518. -/
def btCore : Nat := 1
def btTile : Nat := 2
def btStack : Nat := 3
def btUnit : Nat := 4
def btPort : Nat := 5
def btLink : Nat := 6
def btConverter : Nat := 7
def btMeter : Nat := 8

/-- Slices of each block's offline test (Table 16.1). -/
def testSlices (type : Nat) : Nat := [0, 13, 47, 11, 2, 3, 2, 1, 1].getD type 0

def State.testOf (s : State) (type inst : Nat) : Option TestRun := s.tests.find? (fun t => t.type == type && t.inst == inst)

/-- R519: the request is refused BUSY: the block already runs a test, or eight tests run. -/
def State.testBusy (s : State) (type inst : Nat) : Bool := (s.testOf type inst).isSome || s.tests.length ≥ 8

/-- A test begins with its first slice. -/
def State.startTest (s : State) (type inst prior : Nat) : State :=
  (s.putTests (s.tests ++ [TestRun.mk type inst 0 (testSlices type) s.now 0 0 0 0 false prior []]))

def State.setTest (s : State) (r : TestRun) : State :=
  (s.putTests (s.tests.map (fun t => if t.type = r.type ∧ t.inst = r.inst then r else t)))

/-- R512: the running slice of every test that answers is to be cut short, for the first reason that came; SLICE_CUT ends it. -/
def State.cutTests (s : State) (p : TestRun → Bool) (reason : Nat) : State :=
  (s.putTests (s.tests.map (fun t => if t.result = 0 ∧ t.cut = 0 ∧ p t then { t with cut := reason } else t)))
def State.cutTest (s : State) (type inst reason : Nat) : State := s.cutTests (fun t => t.type == type && t.inst == inst) reason

/-- A test of a block of a tile's compute domain, or of a stack. -/
def TestRun.onTile (r : TestRun) (t : Nat) : Bool :=
  (r.type == btCore && r.inst / 68 == t) || (r.type == btTile && r.inst == t) || (r.type == btPort && r.inst / 8 == t)
def TestRun.onStack (r : TestRun) (k : Nat) : Bool := (r.type == btStack && r.inst == k) || (r.type == btUnit && r.inst / 1024 == k)

/-- Rail n feeds the block under test, or is the one whose meter is tested (R512, Table 12.1). -/
def TestRun.fedBy (r : TestRun) (n : Nat) : Bool :=
  (r.type == btMeter && r.inst == n) ||
  (if n < 32 then (if n % 4 = 2 then r.onStack (n / 2) || r.onStack (n / 2 - 1) else r.onTile (n / 4))
   else if n < 48 then r.onStack (n - 32)
   else if n < 50 then r.type == btStack || r.type == btUnit
   else n == 50 && r.type == btLink)

/-- The test leaves the list: it is logged and TEST_DONE is posted (R511, R515, Table 16.6). -/
def State.logTest (s : State) (t : TestRun) : State :=
  let s := ((s.putTests (s.tests.filter (fun u => !(u.type == t.type && u.inst == t.inst)))).putTestLog ((TestLog.mk t (s.beat.count % 2 ^ 32) :: s.testLog).take 16))
  s.raise Ev.TEST_DONE 0 [t.type * 2 ^ 16 + t.inst, t.result, t.done * 2 ^ 16 + t.total]

end Sys2Proof.Machine
end

