-- ==== Sys2Proof/Machine/Numeric.lean ====
section
/-! DEFINITION. Number formats, rounding and conversion (R107 to R120), exact words (R134 to R138). Values are exact until they are rounded. -/

namespace Sys2Proof.Machine

/-- A value: NaN, an infinity, or (-1)^neg × m × 2^e exactly; m = 0 is a signed zero. -/
inductive Num where
  | nan
  | inf (neg : Bool)
  | fin (neg : Bool) (m : Nat) (e : Int)
deriving DecidableEq, Repr

/-- What lies at the top exponent of a floating format (Table 4.1). -/
inductive TopKind where | none | nanOnly | ieee
deriving DecidableEq, Repr

/-- A format of Table 3.9. -/
inductive Fmt where
  | int (w : Nat)
  | flt (eb mb bias : Nat) (kind : TopKind)
  | bool
deriving DecidableEq, Repr

/-- Table 3.9, Table 4.1. -/
def Fmt.ofCode (c : Nat) : Option Fmt :=
  if c = 0 then some (.int 4) else if c = 1 then some (.int 8) else if c = 2 then some (.int 16) else if c = 3 then some (.int 32)
  else if c = 4 then some (.int 64) else if c = 8 then some (.flt 2 1 1 .none) else if c = 9 then some (.flt 2 3 1 .none)
  else if c = 10 then some (.flt 3 2 3 .none) else if c = 11 then some (.flt 4 3 7 .nanOnly) else if c = 12 then some (.flt 5 2 15 .ieee)
  else if c = 13 then some (.flt 8 7 127 .ieee) else if c = 14 then some (.flt 5 10 15 .ieee) else if c = 15 then some (.flt 8 23 127 .ieee)
  else if c = 16 then some .bool else none

def fp32 : Fmt := .flt 8 23 127 .ieee

/-- Bits of one element. -/
def Fmt.bits : Fmt → Nat
  | .int w => w
  | .flt eb mb _ _ => 1 + eb + mb
  | .bool => 1

/-- FP4 and the two FP6 formats exist only in blocks (R112). -/
def Fmt.isBlock : Fmt → Bool
  | .flt _ _ _ .none => true
  | _ => false
def Fmt.isFloat : Fmt → Bool
  | .flt _ _ _ _ => true
  | _ => false

/-- A number as a signed integer of a width. -/
def sext (w v : Nat) : Int := if v % 2 ^ w ≥ 2 ^ (w - 1) ∧ w ≠ 0 then ((v % 2 ^ w : Nat) : Int) - 2 ^ w else ((v % 2 ^ w : Nat) : Int)
/-- A signed integer as a pattern of a width. -/
def toPat (w : Nat) (x : Int) : Nat := (x % (2 ^ w : Nat)).toNat
def intNum (x : Int) : Num := .fin (x < 0) x.natAbs 0
/-- Limited to the range of a width (Table 4.3). -/
def limit (w : Nat) (x : Int) : Int := max (-(2 ^ (w - 1))) (min x (2 ^ (w - 1) - 1))

/-- The value of a pattern (R109 to R111). -/
def Fmt.decode (f : Fmt) (raw : Nat) : Num :=
  match f with
  | .int w => intNum (sext w raw)
  | .bool => .fin false (raw % 2) 0
  | .flt eb mb bias kind =>
    let m := raw % 2 ^ mb
    let e := raw / 2 ^ mb % 2 ^ eb
    let neg := (raw / 2 ^ (mb + eb)) % 2 == 1
    let top := e == 2 ^ eb - 1
    match kind, top with
    | .ieee, true => if m = 0 then .inf neg else .nan
    | .nanOnly, true => if m = 2 ^ mb - 1 then .nan else .fin neg (2 ^ mb + m) ((e : Int) - bias - mb)
    | _, _ => if e = 0 then .fin neg m (1 - (bias : Int) - mb) else .fin neg (2 ^ mb + m) ((e : Int) - bias - mb)

/-- The round field (R114), with the random value of mode 2 (R119). -/
inductive Rnd where
  | near
  | zero
  | stoch (r : Nat)
deriving DecidableEq, Repr

/-- m × 2^e as a multiple of 2^q. -/
def roundAt (rnd : Rnd) (m : Nat) (e q : Int) : Nat :=
  if e ≥ q then m * 2 ^ (e - q).toNat
  else
    let u := 2 ^ (q - e).toNat
    let k := m / u
    let rem := m % u
    match rnd with
    | .near => if 2 * rem > u ∨ (2 * rem = u ∧ k % 2 = 1) then k + 1 else k
    | .zero => k
    | .stoch r => if rem * 2 ^ 32 / u + r ≥ 2 ^ 32 then k + 1 else k

/-- Pattern of the largest finite value, of infinity and of the canonical NaN (Tables 4.1 and 4.2). -/
def maxFinite (eb mb : Nat) : TopKind → Nat
  | .ieee => (2 ^ eb - 1) * 2 ^ mb - 1
  | .nanOnly => 2 ^ (eb + mb) - 2
  | .none => 2 ^ (eb + mb) - 1
def infPat (eb mb : Nat) : TopKind → Nat
  | .ieee => (2 ^ eb - 1) * 2 ^ mb
  | k => maxFinite eb mb k
def nanPat (eb mb : Nat) : TopKind → Nat
  | .ieee => (2 ^ eb - 1) * 2 ^ mb + 2 ^ (mb - 1)
  | .nanOnly => 2 ^ (eb + mb) - 1
  | .none => 0

/-- A finite magnitude to a floating pattern without sign (R114, R115). -/
def encodeMag (eb mb bias : Nat) (kind : TopKind) (rnd : Rnd) (m : Nat) (e : Int) : Nat :=
  if m = 0 then 0
  else
    let qmin : Int := 1 - (bias : Int) - mb
    let q := max ((Nat.log2 m : Int) + e - mb) qmin
    let k := roundAt rnd m e q
    let pat := if k < 2 ^ mb then k else (q - qmin).toNat * 2 ^ mb + k
    if pat > maxFinite eb mb kind then (if rnd = .near then infPat eb mb kind else maxFinite eb mb kind) else pat

/-- A value written in a format (R110, R114 to R117). -/
def Fmt.encode (f : Fmt) (rnd : Rnd) (v : Num) : Nat :=
  match f with
  | .bool => match v with
    | .nan => 0
    | .inf _ => 1
    | .fin _ m _ => if m = 0 then 0 else 1
  | .int w => match v with
    | .nan => 0
    | .inf neg => toPat w (if neg then -(2 ^ (w - 1)) else 2 ^ (w - 1) - 1)
    | .fin neg m e =>
      let k : Int := roundAt rnd m e 0
      toPat w (limit w (if neg then -k else k))
  | .flt eb mb bias kind =>
    let s : Bool → Nat := fun neg => if neg then 2 ^ (eb + mb) else 0
    match v with
    | .nan => nanPat eb mb kind
    | .inf neg => s neg + infPat eb mb kind
    | .fin neg m e => s neg + encodeMag eb mb bias kind rnd m e

/-- A value rounded once to FP32 under nearest-even. -/
def Num.fp32 (v : Num) : Num := Sys2Proof.Machine.fp32.decode (Sys2Proof.Machine.fp32.encode .near v)

/-! Exact arithmetic on values. -/

/-- The signed integer of a finite value in units of 2^q, q ≤ its exponent. -/
def scaled (neg : Bool) (m : Nat) (e q : Int) : Int := let k : Int := m * 2 ^ (e - q).toNat; if neg then -k else k

/-- Exact sum; opposite operands give +0, two negative zeros −0 (R117). -/
def Num.add : Num → Num → Num
  | .nan, _ => .nan
  | _, .nan => .nan
  | .inf a, .inf b => if a = b then .inf a else .nan
  | .inf a, _ => .inf a
  | _, .inf b => .inf b
  | .fin s m e, .fin s' m' e' =>
    let q := min e e'
    let x := scaled s m e q + scaled s' m' e' q
    if x = 0 then .fin (s && s' && m == 0 && m' == 0) 0 q else .fin (x < 0) x.natAbs q

def Num.neg : Num → Num
  | .nan => .nan
  | .inf a => .inf (!a)
  | .fin s m e => .fin (!s) m e
def Num.abs : Num → Num
  | .nan => .nan
  | .inf _ => .inf false
  | .fin _ m e => .fin false m e

/-- Exact product; zero times infinity is NaN. -/
def Num.mul : Num → Num → Num
  | .nan, _ => .nan
  | _, .nan => .nan
  | .inf a, .inf b => .inf (a != b)
  | .inf a, .fin s m _ => if m = 0 then .nan else .inf (a != s)
  | .fin s m _, .inf b => if m = 0 then .nan else .inf (s != b)
  | .fin s m e, .fin s' m' e' => .fin (s != s') (m * m') (e + e')

def Num.isNan : Num → Bool
  | .nan => true
  | _ => false

/-- Numerical order of values that are not NaN; −0 and +0 are equal (R133). -/
def Num.lt : Num → Num → Bool
  | .nan, _ => false
  | _, .nan => false
  | .inf a, .inf b => a && !b
  | .inf a, _ => a
  | _, .inf b => !b
  | .fin s m e, .fin s' m' e' => let q := min e e'; scaled s m e q < scaled s' m' e' q
def Num.eq (a b : Num) : Bool := !a.isNan && !b.isNan && !a.lt b && !b.lt a

/-- A sign, for −0 below +0. -/
def Num.isNeg : Num → Bool
  | .nan => false
  | .inf a => a
  | .fin s _ _ => s

/-- The total order of R133, strictly: −∞ < … < −0 < +0 < … < +∞ < NaN. -/
def Num.tlt (a b : Num) : Bool :=
  if a.isNan then false else if b.isNan then true else a.lt b || (a.eq b && a.isNeg && !b.isNeg)

/-- MIN and MAX: NaN if either is NaN, −0 below +0 (R133). -/
def Num.min (a b : Num) : Num := if a.isNan || b.isNan then .nan else if b.tlt a then b else a
def Num.max (a b : Num) : Num := if a.isNan || b.isNan then .nan else if a.tlt b then b else a

/-- A compare condition: 0 EQ, 1 NE, 2 LT, 3 LE, 4 GT, 5 GE (R97, R133); 6 and 7 are not conditions. -/
def compareNum (c : Nat) (a b : Num) : Option Bool :=
  if c = 0 then some (a.eq b) else if c = 1 then some (!a.eq b) else if c = 2 then some (a.lt b) else if c = 3 then some (a.lt b || a.eq b)
  else if c = 4 then some (b.lt a) else if c = 5 then some (b.lt a || a.eq b) else none

/-! Packed areas (R107). -/

/-- Element n of a packed area. -/
def elemOf (f : Fmt) (area : Nat) (n : Nat) : Nat := area / 2 ^ (f.bits * n) % 2 ^ f.bits
/-- Elements of a packed area. -/
def unpack (f : Fmt) (bytes : List Byte) (n : Nat) : List Nat := let a := leNat bytes; (List.range n).map (elemOf f a)
/-- Bytes of n elements. -/
def Fmt.area (f : Fmt) (n : Nat) : Nat := (f.bits * n + 7) / 8
/-- Elements packed from bit 0 upward, unused bits 0 (R108). -/
def pack (f : Fmt) (es : List Nat) : List Byte := leBytes (f.area es.length) (es.foldr (fun e a => a * 2 ^ f.bits + e) 0)

/-- The value a block's scale byte stands for: none is NaN. -/
def scaleOf (s : Nat) : Num := if s = 255 then .nan else .fin false 1 ((s : Int) - 127)

/-! Raw exact words (R134 to R138). -/

def gridOf : Fmt → Option Nat
  | .flt 8 7 _ _ => some 1
  | .flt 4 3 _ _ => some 0
  | .flt 5 2 _ _ => some 0
  | .flt 5 10 _ _ => some 0
  | _ => none
def gridUnit (g : Nat) : Int := if g = 0 then -48 else -64
def rawSum (r : Nat) : Nat := r % 2 ^ 124
def rawGrid (r : Nat) : Nat := r / 2 ^ 124 % 2
def rawFlags (r : Nat) : Nat := r / 2 ^ 125 % 8
def rawZero (g : Nat) : Nat := g * 2 ^ 124
/-- The 124-bit signed sum. -/
def rawInt (r : Nat) : Int := sext 124 (rawSum r)

/-- One term placed on a grid (R136), as a raw word holding that term alone. -/
def place (g : Nat) (single : Bool) (v : Num) : Nat :=
  let big : Bool → Nat := fun neg => rawZero g + (if neg then 2 ^ 127 else 2 ^ 126)
  match v with
  | .nan => rawZero g + 2 ^ 125
  | .inf neg => big neg
  | .fin neg m e =>
    let lim : Option Int := if single then some (if g = 0 then 75 else 59) else if g = 1 then some 32 else none
    let above : Bool := match lim with | some l => m != 0 && (Nat.log2 m : Int) + e ≥ l | none => false
    if above then big neg
    else
      let k : Int := roundAt .near m e (gridUnit g)
      rawZero g + toPat 124 (if neg then -k else k)

/-- R137: raw words of one grid combine. -/
def combineRaw (a b : Nat) : Nat := rawZero (rawGrid a) + (rawSum a + rawSum b) % 2 ^ 124 + (rawFlags a ||| rawFlags b) * 2 ^ 125

/-- The value a raw word stands for (R138). -/
def rawValue (r : Nat) : Num :=
  let f := rawFlags r
  if f % 2 = 1 ∨ f ≥ 6 then .nan
  else if f = 2 then .inf false else if f = 4 then .inf true
  else let x := rawInt r; .fin (x < 0) x.natAbs (gridUnit (rawGrid r))

/-- R138, R117: an exact result in a format; a zero is always +0. -/
def encodeRaw (f : Fmt) (rnd : Rnd) (r : Nat) : Nat :=
  let p := f.encode rnd (rawValue r)
  match f with
  | .flt eb mb _ _ => if p = 2 ^ (eb + mb) then 0 else p
  | _ => p

/-! The stochastic generators (R118). -/

/-- One step of a generator: the new state and 32 random bits. -/
def rngNext (s : Nat) : Nat × Nat :=
  let s := s ^^^ (s * 2 ^ 13 % 2 ^ 64)
  let s := s ^^^ (s / 2 ^ 7)
  let s := s ^^^ (s * 2 ^ 17 % 2 ^ 64)
  (s, (s * 0x2545F4914F6CDD1D) % 2 ^ 64 / 2 ^ 32)

/-- R118: the state at a step start. (DESIGN CHOICE, assumption 45) -/
def rngSeed (seed step core engine stream : Nat) : Nat :=
  let s := (seed * 2 ^ 32) ||| ((step % 2 ^ 21) * 2 ^ 11) ||| (core * 2 ^ 5) ||| (engine * 2 ^ 2) ||| stream
  let s := if s = 0 then 1 else s
  (List.range 16).foldl (fun s _ => (rngNext s).1) s

/-- Write values in a format under a round field, drawing one random value each in mode 2 (R119). Answers patterns and generator. -/
def encodeAll (enc : Rnd → α → Nat) (mode : Nat) (g : Nat) : List α → List Nat × Nat
  | [] => ([], g)
  | v :: vs =>
    let (g, rnd) := if mode = 2 then let (g, r) := rngNext g; (g, Rnd.stoch r) else (g, if mode = 1 then Rnd.zero else Rnd.near)
    let (rest, g') := encodeAll enc mode g vs
    (enc rnd v :: rest, g')

/-! Accumulator elements and semirings (R121 to R130). -/

def i64Max : Int := 2 ^ 63 - 1
def i64Min : Int := -(2 ^ 63)
def sat64 (x : Int) : Int := limit 64 x

/-- Lists cut into groups. -/
def groups (n : Nat) : Nat → List α → List (List α)
  | 0, _ => []
  | fuel + 1, l => if l.isEmpty then [] else l.take n :: groups n fuel (l.drop n)

/-- An integer operand of (min,+) and (max,+): the format's limits are the infinities (R128). -/
def infCode (w : Nat) (x : Int) : Int := if x = 2 ^ (w - 1) - 1 then i64Max else if x = -(2 ^ (w - 1)) then i64Min else x

/-- ⊗ of (min,+) (ann = the positive limit) or (max,+) on integers (R129). -/
def tropMul (ann opp : Int) (a b : Int) : Int := if a = ann ∨ b = ann then ann else if a = opp ∨ b = opp then opp else a + b

/-- ⊗ of (min,+) or (max,+) on values: the annihilator is the infinity of sign `neg` (R129). -/
def tropMulF (neg : Bool) (a b : Num) : Num :=
  if a.isNan || b.isNan then .nan else if a = .inf neg ∨ b = .inf neg then .inf neg else (a.add b).fp32

/-- R126: the ⊕ identity of an algebra in the element form. -/
def identity (alg : Nat) (f : Fmt) (exact : Bool) : Nat :=
  if exact then rawZero ((gridOf f).getD 0)
  else if alg = 1 then (if f.isFloat then 0x7F800000 else toPat 64 i64Max)
  else if alg = 2 then (if f.isFloat then 0xFF800000 else toPat 64 i64Min)
  else if alg = 3 then toPat 64 (-(2 ^ (f.bits - 1)))
  else 0

/-- The integer value of an operand. -/
def Num.toInt : Num → Int
  | .fin neg m e => let k : Int := roundAt .near m e 0; if neg then -k else k
  | _ => 0

/-- One element of an MMA: ⊕ over k of A[i][k] ⊗ Bt[j][k], on top of the element (R93, R122, R123, R128 to R130, R136, R137). -/
def mmaElem (alg : Nat) (f : Fmt) (exact : Bool) (cur : Nat) (a b : List Num) : Nat :=
  let ps := List.zip a b
  if alg = 0 ∧ exact then ps.foldl (fun r p => combineRaw r (place ((gridOf f).getD 0) false (p.1.mul p.2))) cur
  else if f.isFloat then
    let x := Sys2Proof.Machine.fp32.decode (cur % 2 ^ 32)
    let x :=
      if alg = 0 then (groups (if f.isBlock then 32 else 16) ps.length ps).foldl (fun x g => (g.foldl (fun t p => t.add (p.1.mul p.2)) x).fp32) x
      else if alg = 1 then ps.foldl (fun x p => x.min (tropMulF false p.1 p.2)) x
      else ps.foldl (fun x p => x.max (tropMulF true p.1 p.2)) x
    Sys2Proof.Machine.fp32.encode .near x
  else
    let x := sext 64 cur
    let is := ps.map (fun p => (p.1.toInt, p.2.toInt))
    let w := f.bits
    let x : Int :=
      if alg = 0 then (groups 16 is.length is).foldl (fun x g => sat64 (g.foldl (fun t p => t + p.1 * p.2) x)) x
      else if alg = 1 then is.foldl (fun x p => min x (tropMul i64Max i64Min (infCode w p.1) (infCode w p.2))) x
      else if alg = 2 then is.foldl (fun x p => max x (tropMul i64Min i64Max (infCode w p.1) (infCode w p.2))) x
      else if alg = 3 then is.foldl (fun x p => max x (min p.1 p.2)) x
      else if x ≠ 0 ∨ is.any (fun p => p.1 != 0 && p.2 != 0) then 1 else 0
    toPat 64 x

/-- The algebra and format pairs of Table 3.12: k-slices per clock times 8, and in exact mode (0: none). -/
def rate8 (alg fmt : Nat) : Option (Nat × Nat) :=
  if alg = 0 then
    if fmt = 0 ∨ fmt = 8 then some (16, 0) else if fmt = 1 ∨ fmt = 9 ∨ fmt = 10 then some (8, 0)
    else if fmt = 11 ∨ fmt = 12 then some (8, 4) else if fmt = 2 then some (4, 0) else if fmt = 13 ∨ fmt = 14 then some (4, 2)
    else if fmt = 3 ∨ fmt = 15 then some (1, 0) else none
  else if alg = 1 ∨ alg = 2 then (if fmt = 2 ∨ fmt = 3 ∨ fmt = 14 ∨ fmt = 13 then some (4, 0) else none)
  else if alg = 3 then (if fmt = 1 then some (8, 0) else if fmt = 2 then some (4, 0) else none)
  else if alg = 4 then (if fmt = 16 then some (32, 0) else none)
  else none

/-- A value read by LOAD_ACC as an element (R124, R125, R128, R136). -/
def elemOfNum (alg : Nat) (f : Fmt) (exact : Bool) (v : Num) : Nat :=
  if exact then place ((gridOf f).getD 0) true v
  else if f.isFloat then Sys2Proof.Machine.fp32.encode .near v
  else if alg = 4 then Fmt.bool.encode .near v
  else (Fmt.int 64).encode .near v

/-- A value read by LOAD_ACC in out_fmt: infinity codes in (min,+) and (max,+) (R124, R128). -/
def loadNum (alg : Nat) (out : Fmt) (raw : Nat) : Num :=
  match out with
  | .int w =>
    if (alg = 1 ∨ alg = 2) ∧ (w = 16 ∨ w = 32) then
      let x := sext w raw
      if x = 2 ^ (w - 1) - 1 then .inf false else if x = -(2 ^ (w - 1)) then .inf true else intNum x
    else out.decode raw
  | _ => out.decode raw

/-- The value of an element that is not exact; INT64 limits are the infinities in (min,+) and (max,+) (R121, R128). -/
def elemNum (alg : Nat) (f : Fmt) (e : Nat) : Num :=
  if f.isFloat then Sys2Proof.Machine.fp32.decode (e % 2 ^ 32)
  else
    let x := sext 64 e
    if (alg = 1 ∨ alg = 2) ∧ x = i64Max then .inf false else if (alg = 1 ∨ alg = 2) ∧ x = i64Min then .inf true else intNum x

end Sys2Proof.Machine
end

