-- ==== Sys2Proof/Machine/Keep.lean ====
section
/-! DEFINITION. The keep store: word writes, wear counting and worn blocks (R375, R376). -/

namespace Sys2Proof.Machine

/-- Writes a block endures (R376). -/
def keepLimit : Nat := 1000000

/-- A block's wear counter as flushed. -/
def State.wearOf (s : State) (b : Nat) : Nat := Assoc.get 0 s.keep.wear b
def State.worn (s : State) (b : Nat) : Bool := s.wearOf b ≥ keepLimit

/-- R376: 4,096 is added to a block's counter; the alarm and the end of life are raised. (DESIGN CHOICE, assumption 30) -/
def State.keepFlush (s : State) (b : Nat) : State :=
  let old := s.wearOf b
  let new := old + 4096
  let s := (s.putKeep { s.keep with
                                          wear := Assoc.put 0 s.keep.wear b new, since := Assoc.put 0 s.keep.since b 0,
                                          dirty := Assoc.put false s.keep.dirty b false })
  let s := if new > s.rd KEEP.MAX_WEAR.count then (s.wr KEEP.MAX_WEAR.count (min new (2 ^ 20 - 1))).wr KEEP.MAX_WEAR.block b else s
  let s := if old < s.rd KEEP.ALARM.count ∧ new ≥ s.rd KEEP.ALARM.count then (s.wr KEEP.STATUS.wear_alarm 1).raise Ev.KEEP_WEAR 0 [b, new] else s
  if old < keepLimit ∧ new ≥ keepLimit then
    ((s.wr KEEP.STATUS.worn 1).add KEEP.WORN.blocks 1).raise Ev.KEEP_WORN 0 [b]
  else s

/-- One word write to a block: counted, or refused on a worn block (R376). Answers whether it was taken. (DESIGN CHOICE, assumption 30; DEDUCED, assumption 135) -/
def State.keepTouch (s : State) (b : Nat) : Bool × State :=
  if s.worn b then (false, s.add KEEP.REFUSED.count 1)
  else
    let n := Assoc.get 0 s.keep.since b + 1
    let s := (s.putKeep { s.keep with since := Assoc.put 0 s.keep.since b n, dirty := Assoc.put false s.keep.dirty b true })
    (true, if n ≥ 4096 then s.keepFlush b else s)

/-- A byte of the keep store. -/
def State.keepByte (s : State) (a : Nat) : Byte := Assoc.get 0 s.keep.bytes a
def State.keepBytes (s : State) (a n : Nat) : List Byte := (List.range n).map (fun i => s.keepByte (a + i))
def State.keepWord (s : State) (a : Nat) : Nat := leNat (s.keepBytes a 4)
def State.keepSetList (s : State) (a : Nat) : List Byte → State
  | [] => s
  | b :: bs => State.keepSetList (s.putKeep { s.keep with bytes := Assoc.put 0 s.keep.bytes a b }) (a + 1) bs

/-- Write an aligned word of the keep store, whole or not at all (R375, R376). -/
def State.keepWrite (s : State) (a : Nat) (w : List Byte) : Bool × State :=
  match s.keepTouch (a / 256) with
  | (true, s) => (true, s.keepSetList a (w.take 4))
  | (false, s) => (false, s)

/-- Write bytes of the keep store word by word. -/
def State.keepWriteAll (s : State) (a : Nat) (bs : List Byte) : State :=
  (List.range ((bs.length + 3) / 4)).foldl (fun s i => (s.keepWrite (a + 4 * i) ((bs.drop (4 * i)).take 4)).2) s

/-- A change of the boot record (block 0, Table 11.13): on a worn block it keeps what it held (R376). -/
def State.bootRecord (s : State) (f : State → State) : State :=
  match s.keepTouch 0 with
  | (true, s) => f s
  | (false, s) => s

/-- R376: at a cold start, 4,096 is added to every dirty block's counter. -/
def State.keepColdStart (s : State) : State :=
  (s.keep.dirty.map (·.1)).foldl State.keepFlush s

end Sys2Proof.Machine
end

