-- ==== Sys2Proof/Machine/Stacks.lean ====
section
/-! DEFINITION. The stacks: reads and writes through the controller with what they trigger (R154 to R158, R163, R169), fencing, commands,
patrol and bands (R148 to R171). -/

namespace Sys2Proof.Machine

/-- R163, R164: a fence is triggered; the controller accepts nothing from now on. (DEDUCED, assumption 28) -/
def State.startFence (s : State) (k cause : Nat) : State :=
  if s.stackServes k then
    let s := s.setStk k { s.stk k with
      fencing := some s.now, fenceBeat := if s.counting then some s.beat.count else none, hostFence := cause == 1, drained := false,
      touched := false, passed := false }
    (s.wr HS.FENCE_INFO.cause cause k).wr HS.FENCE_INFO.partitions 0 k
  else s

def State.autoFence (s : State) (k cause : Nat) : State := if s.is HS.CTRL.auto_fence k then s.startFence k cause else s

/-- R169, R170: start copying a row to a spare of its bank, if one is left. (DESIGN CHOICE, assumption 25) -/
def State.startRemap (s : State) (k pc bank row : Nat) : State :=
  let x := s.stk k
  if !s.is HS.CTRL.auto_remap k || x.copying.contains (pc, bank, row) then s
  else if x.remaps.length + x.copying.length ≥ 256 ∨
      ((x.remaps ++ x.copying).filter (fun r => r.1 == pc && r.2.1 == bank)).length ≥ 8 then s.raise Ev.SPARE_ROWS_EXHAUSTED k
  else s.setStk k { x with copying := x.copying ++ [(pc, bank, row)] }

/-- The pseudo-channel, and the row with its bank, of a granule number. -/
def granPc (g : Nat) : Nat := g / 32 / 65536 / 32 % 64
def granRow (g : Nat) : Nat := g / 32

/-- What a correction triggers: the symbol pattern of R163, over distinct codewords; the row threshold of R169, over corrections. Corrections
that came before a row was remapped still count (DESIGN CHOICE, assumption 155). (DEDUCED, assumption 24) -/
def State.ceTriggers (s : State) (k : Nat) (l : Loc) (c : Nat × List Nat) : State :=
  let s := s.setStk k { s.stk k with ces := c :: (s.stk k).ces }
  let ces := (s.stk k).ces
  let pattern := c.2.any fun sym =>
    let words := ((ces.filter fun d => granPc d.1 == granPc c.1 && d.2.contains sym).map (·.1)).eraseDups
    decide (words.length ≥ 64) && decide (((words.map granRow).eraseDups).length ≥ 8)
  let inRow := (ces.filter fun d => granRow d.1 == granRow c.1).length
  let s := if pattern then s.autoFence k 3 else s
  if inRow = s.rd ECC.CTRL.ce_row_thresh k then (s.raise Ev.CE_THRESHOLD k).startRemap k l.pc l.bank l.row
  else if inRow > s.rd ECC.CTRL.ce_row_thresh k then s.startRemap k l.pc l.bank l.row
  else s

/-- R158: at most one posted event per stack per millisecond. HBM_UE and UE_PATROL share that limit, and the status bit of an event that is not
posted is set all the same (DESIGN CHOICE, assumption 146). -/
def State.ueEvent (s : State) (k : Nat) (e : Ev) : State :=
  match (s.stk k).uePostAt with
  | some t => if s.now < t + 1000000 then (s.setEvtBit e.pg k e.bit).2 else (s.setStk k { s.stk k with uePostAt := some s.now }).raise e k
  | none => (s.setStk k { s.stk k with uePostAt := some s.now }).raise e k

/-- What an uncorrectable codeword triggers: its event, four rows of one bank within 1 s (R163), a remap (R169). -/
def State.ueTriggers (s : State) (k : Nat) (l : Loc) (src : ReadSrc) : State :=
  let s := s.ueEvent k (if src = .patrol then Ev.UE_PATROL else Ev.HBM_UE)
  let b := l.pc * 32 + l.bank
  let recent := (s.now, b, l.row) :: (s.stk k).ueRows.filter (fun u => s.now < u.1 + 1000000000)
  let s := s.setStk k { s.stk k with ueRows := recent }
  let rows := ((recent.filter (fun u => u.2.1 == b)).map (fun u => u.2.2)).eraseDups
  let s := if rows.length ≥ 4 then s.autoFence k 2 else s
  if (s.stk k).carried.contains (l.granKey k) then s else s.startRemap k l.pc l.bank l.row

/-- R155, R158: a corrected codeword is counted and recorded. (DEDUCED, assumption 24) -/
def State.noteCe (s : State) (stk addr : Nat) (l : Loc) (j mask : Nat) : State :=
  let s := (((s.add ECC.CE_COUNT.count 1 stk).wr ECC.LAST_CE_ADDR.addr addr stk).wr ECC.LAST_CE_INFO.symbol (lowSymbol j mask) stk).wr
    ECC.LAST_CE_INFO.mask mask stk
  s.ceTriggers stk l (l.granKey stk, maskSymbols j mask)

/-- R158: an uncorrectable codeword is recorded and counted. -/
def State.noteUe (s : State) (stk addr : Nat) (l : Loc) (src : ReadSrc) (part : Option Nat) : State :=
  let w := s.storedWord (l.granKey stk)
  let s := if src = .patrol then s.add ECC.UE_PATROL.count 1 stk else s.add ECC.UE_COUNT.count 1 stk
  let s := s.wr ECC.LAST_UE_ADDR.addr addr stk
  let s := s.wr ECC.LAST_UE_INFO.syndrome
    (wordSyndrome w 0 + wordSyndrome w 1 * 2 ^ 8 + wordSyndrome w 2 * 2 ^ 16 + wordSyndrome w 3 * 2 ^ 24) stk
  let s := s.wr ECC.LAST_UE_SRC.source src.code stk
  let s := s.wr ECC.LAST_UE_SRC.partition (part.getD 0) stk
  let s := s.wr ECC.LAST_UE_SRC.part_valid (if part.isSome then 1 else 0) stk
  s.ueTriggers stk l src

/-- Bytes about which nothing is guaranteed. -/
def State.openBytes (s : State) : List Byte × State :=
  ((List.range 32).map (fun i => BitVec.ofNat 8 (Config.freeValue (s.free + i))), (s.putFree (s.free + 32)))

/-- A granule read and decoded: its bytes, or none where the codeword is uncorrectable (R154 to R158). (DESIGN CHOICE, assumption 31; DESIGN CHOICE, assumption 36) -/
def State.readGran (s : State) (stk off : Nat) (src : ReadSrc) (part : Option Nat) : Option (List Byte) × State :=
  let l := s.locOf stk off
  let g := l.granKey stk
  let addr := stk * 2 ^ 37 + off / 32 * 32
  let m := Assoc.get 0 s.hbmErr g
  match decodeMask m with
  | .clean => (some (s.granBytes g), s)
  | .corrected j mask =>
    let bs := s.granBytes g
    let s := s.noteCe stk addr l j mask
    (some bs, (s.putHbmErr (Assoc.del g s.hbmErr)))
  | .uncorrectable => (none, s.noteUe stk addr l src part)
  | .unknown =>
    let (v, s) := s.fresh
    if v % 2 = 0 then let (bs, s) := s.openBytes; (some bs, s) else (none, s.noteUe stk addr l src part)

/-- Bytes laid over a granule from byte `at_`. -/
def overlay (old : List Byte) (at_ : Nat) (new : List Byte) : List Byte :=
  (old.take at_ ++ new ++ old.drop (at_ + new.length)).take old.length

/-- A write inside one granule: whole, or as a read-modify-write that an uncorrectable codeword stops (R32, R156, R157). -/
def State.writeInGran (s : State) (stk off : Nat) (data : List Byte) (part : Option Nat) : Bool × State :=
  if off % 32 = 0 ∧ data.length = 32 then (true, s.writeGran stk off data)
  else
    match s.readGran stk (off / 32 * 32) .rmw part with
    | (some old, s) => (true, s.writeGran stk (off / 32 * 32) (overlay old (off % 32) data))
    | (none, s) => (false, s)

/-- The module address of the granule of a stack offset. -/
def granAddr (stk off : Nat) : Nat := stk * 2 ^ 37 + off / 32 * 32

/-- Read `n` bytes of a stack, granule by granule, with `fuel` granules left; or the module address of the first uncorrectable granule
(R156). (DESIGN CHOICE, assumption 27) -/
def State.readStack (s : State) (fuel : Nat) (stk off n : Nat) (src : ReadSrc) (part : Option Nat) : Except Nat (List Byte) × State :=
  match fuel with
  | 0 => (.ok [], s)
  | fuel + 1 =>
    if n = 0 then (.ok [], s) else
    let k := min n (32 - off % 32)
    match s.readGran stk (off / 32 * 32) src part with
    | (none, s) => (.error (granAddr stk off), s)
    | (some g, s) =>
      match State.readStack s fuel stk (off + k) (n - k) src part with
      | (.error a, s) => (.error a, s)
      | (.ok rest, s) => (.ok ((g.drop (off % 32)).take k ++ rest), s)

/-- Write bytes to a stack, granule by granule. An uncorrectable granule of a partial write stays unchanged; the answer is the module address of
the first such granule. A partition's write stops there (R104); one of the management die goes on. (DESIGN CHOICE, assumption 27) -/
def State.writeStack (s : State) (fuel : Nat) (stk off : Nat) (data : List Byte) (part : Option Nat) : Option Nat × State :=
  match fuel with
  | 0 => (none, s)
  | fuel + 1 =>
    if data.isEmpty then (none, s) else
    let k := min data.length (32 - off % 32)
    match s.writeInGran stk off (data.take k) part with
    | (true, s) => State.writeStack s fuel stk (off + k) (data.drop k) part
    | (false, s) =>
      (some (granAddr stk off), if part.isSome then s else (State.writeStack s fuel stk (off + k) (data.drop k) part).2)

/-- The management die reads and writes HS0 (R147, R172). -/
def State.ringRead (s : State) (off n : Nat) : Except Nat (List Byte) × State :=
  (s.add HS.READ.bytes n 0).readStack (n / 32 + 2) 0 off n .tile none
def State.ringStore (s : State) (off : Nat) (bs : List Byte) : Option Nat × State :=
  (s.add HS.WRITE.bytes bs.length 0).writeStack (bs.length / 32 + 2) 0 off bs none

/-! Commands of a stack (R148, R151, R159 to R171). -/

/-- Park cause STACK clears when every owned stack is IN_SERVICE (Table 9.2). -/
def State.refreshStackCauses (s : State) : State :=
  s.forParts (fun s n => (s.rd MOD.PART_STATE.causes 0 n).testBit 1 && (s.halvesOf n).all (fun h => s.hsState h == hsIN_SERVICE))
    (fun s n => s.clearCause n 1)

/-- A stack enters service: its patrol and count window begin (R159). -/
def State.enterService (s : State) (k : Nat) : State :=
  let s := s.setStk k { s.stk k with fencing := none, drained := false, windowAt := s.now, ces := [],
                                     passAt := if s.is ECC.CTRL.patrol_en k then some s.now else none }
  let s := (s.wr HS.STATUS.state hsIN_SERVICE k).wr ECC.STATUS.patrol_active (if s.is ECC.CTRL.patrol_en k then 1 else 0) k
  s.refreshStackCauses

/-- R163: a request of partition `part` reaches the controller. Answers whether it is accepted. -/
def State.useStack (s : State) (k : Nat) (part : Option Nat) : State :=
  match part with
  | some n => s.setStk k { s.stk k with users := (s.stk k).users ||| 2 ^ n }
  | none => s

/-- One request to a stack for up to 32 bytes inside a granule: link, code, service or failure (R147, R148, R154 to R157). A sender is noted
whether or not its request is accepted (R164). (DESIGN CHOICE, assumption 36) -/
def State.stackAccess (s : State) (k : Nat) (part : Option Nat) (write : Bool) (off n : Nat) (data : List Byte) (crc flip : Nat) : State :=
  let s := s.useStack k part
  if !s.stackServes k then s.optFault part fADDR_FAULT (k * 2 ^ 37 + off)
  else if crc ≥ 4 then ((s.optFault part fHBM_LINK (k * 2 ^ 37 + off)).raise Ev.HBM_LINK k).autoFence k 4
  else
    let s := if crc = 0 then s else s.add HS.LINK.retries 1 k
    let g := (s.locOf k off).granKey k
    let s := (s.putHbmErr (Assoc.put 0 s.hbmErr g (Assoc.get 0 s.hbmErr g ^^^ flip)))
    let n := min n (32 - off % 32)
    if write then
      let (ok, s) := s.writeInGran k off (data.take n) part
      if ok then s.add HS.WRITE.bytes n k else s.optFault part fHBM_UE (granAddr k off)
    else
      match s.readGran k (off / 32 * 32) .tile part with
      | (some bs, s) => (((s.add HS.READ.bytes n k)).putOutbox (s.outbox ++ [.bytes ((bs.drop (off % 32)).take n)]))
      | (none, s) => s.optFault part fHBM_UE (granAddr k off)

/-- STACK_ACCESS (R147): `crc` transfers fail their CRC in a row; `flip` is what upsets have done to the stored codeword. (DESIGN CHOICE, assumption 36) -/
def execStackAccess (k : StackId) (part : Option PartId) (write : Bool) (off : BitVec 37) (n : Fin 33) (data : BitVec 256) (crc : Fin 5)
    (flip : BitVec 288) (s : State) : Host.Outcome State Fault Refusal :=
  .next (s.stackAccess k (part.map Fin.val) write off.toNat n (leBytes 32 data.toNat) crc flip.toNat)

/-- PATROL_READ (R159): the next granule is read, `flip` being what upsets have done to it. (DESIGN CHOICE, assumption 26) -/
def execPatrolRead (k : StackId) (flip : BitVec 288) (s : State) : Host.Outcome State Fault Refusal :=
  .next <|
    if s.stackServes k ∧ s.is ECC.CTRL.patrol_en k ∧ s.is ECC.STATUS.patrol_active k ∧ (s.stk k).patrolDone = false then
      let pos := s.rd ECC.PATROL_POS.granule k
      let g := (s.locOf k (pos * 32)).granKey k
      let s := (s.putHbmErr (Assoc.put 0 s.hbmErr g (Assoc.get 0 s.hbmErr g ^^^ flip.toNat)))
      let (_, s) := s.readGran k (pos * 32) .patrol none
      let s := s.wr ECC.PATROL_POS.granule (pos + 1) k
      if pos + 1 ≥ 2 ^ 32 then s.setStk k { s.stk k with patrolDone := true } else s
    else s

/-- Nanoseconds of ECC.CTRL.patrol_hours; a value outside 1 to 168 acts as the nearer of the two (DESIGN CHOICE, assumption 26). -/
def State.patrolNs (s : State) (k : Nat) : Nat := max 1 (min 168 (s.rd ECC.CTRL.patrol_hours k)) * 3600000000000

/-- A patrol pass begins, and a count window with it (R159). -/
def State.passBegin (s : State) (k : Nat) : State :=
  (s.setStk k { s.stk k with patrolDone := false, ces := [], windowAt := s.now, passAt := some s.now }).wr ECC.STATUS.patrol_active 1 k

/-- ECC.CTRL.patrol_en is written on a stack in service: a pass begins, or the one in progress ends uncompleted
(R159; DESIGN CHOICE, assumption 26). -/
def State.patrolSwitch (s : State) (k : Nat) : State :=
  if s.hsState k != hsIN_SERVICE then s
  else if s.is ECC.CTRL.patrol_en k then (if s.is ECC.STATUS.patrol_active k then s else s.passBegin k)
  else (s.setStk k { s.stk k with passAt := none, patrolDone := false }).wr ECC.STATUS.patrol_active 0 k

/-- PATROL_PASS_END (R159). -/
def execPatrolPassEnd (k : StackId) (s : State) : Host.Outcome State Fault Refusal :=
  .next <|
    if (s.stk k).patrolDone then
      let late : Bool := match (s.stk k).passAt with | some t => t + s.patrolNs k < s.now | none => false
      let s := (s.wr ECC.STATUS.patrol_late (if late then 1 else 0) k).add ECC.PATROL_PASSES.count 1 k
      let en := s.is ECC.CTRL.patrol_en k
      let s := s.setStk k { s.stk k with patrolDone := false, ces := [], windowAt := s.now, passAt := if en then some s.now else none }
      (s.wr ECC.STATUS.patrol_active (if en then 1 else 0) k).raise Ev.PATROL_PASS k
    else s

/-- COUNT_WINDOW_END (R159): patrol_hours after the window began. -/
def execCountWindowEnd (k : StackId) (s : State) : Host.Outcome State Fault Refusal :=
  .next <|
    if s.hsState k = hsIN_SERVICE ∧ (s.stk k).windowAt + s.patrolNs k ≤ s.now then s.setStk k { s.stk k with ces := [], windowAt := s.now } else s

/-- The band in force: the measured one, or force_band if that is higher (R162). -/
def State.band (s : State) (k : Nat) : Nat := max (s.stk k).measured (s.rd BAND.CTRL.force_band k)

/-- The time spent in the band that was in force is added up (Table 5.10); BAND_CHANGE is raised. -/
def State.bandMoved (s : State) (k old : Nat) : State :=
  if s.band k = old then s
  else
    let x := s.stk k
    (s.setStk k { x with bandNs := Assoc.put 0 x.bandNs old (Assoc.get 0 x.bandNs old + (s.now - x.bandAt)), bandAt := s.now }).raise Ev.BAND_CHANGE k

/-- BAND_UP (R161): at the next refresh interval of the old band. -/
def execBandUp (k : StackId) (s : State) : Host.Outcome State Fault Refusal :=
  .next <| match (s.stk k).bandUp with
    | some b =>
      let old := s.band k
      (s.setStk k { s.stk k with bandUp := none, measured := b, dwellAt := none }).bandMoved k old
    | none => s

/-- BAND_DWELL_EXPIRE (R161): 100 ms of dwell move the stack down one band. -/
def execBandDwellExpire (k : StackId) (s : State) : Host.Outcome State Fault Refusal :=
  .next <| match (s.stk k).dwellAt with
    | some t =>
      if t + 100000000 ≤ s.now then
        let old := s.band k
        (s.setStk k { s.stk k with dwellAt := none, measured := (s.stk k).measured - 1 }).bandMoved k old
      else s
    | none => s

/-- BASE_DIE_FAULT (R163). -/
def execBaseDieFault (k : StackId) (s : State) : Host.Outcome State Fault Refusal := .next (s.autoFence k 5)

/-- R164: partitions that own the stack, or used it in their current step, end that step with STACK_FENCED; owners park (R165). -/
def State.fenceParts (s : State) (k : Nat) : State :=
  let hit := fun (s : State) (n : Nat) => s.holds n k || ((s.stk k).users.testBit n)
  let s := s.forParts (fun s n => hit s n && (s.part n).inStep)
    (fun s n => (s.partFault n fSTACK_FENCED (k * 2 ^ 37)).setBit HS.FENCE_INFO.partitions n true k)
  s.forParts (fun s n => s.holds n k && (s.running n || s.partState n == 3)) (fun s n => s.setCause n 1)

/-- 2,000 beats have passed since F (R164); without a count, 2,000 ns. (DEDUCED, assumption 28) -/
def State.fenceDrained (s : State) (k f : Nat) : Bool :=
  match (s.stk k).fenceBeat with
  | some b => if s.counting then decide (b + 2000 ≤ s.beat.count) else decide (f + 2000 ≤ s.now)
  | none => decide (f + 2000 ≤ s.now)

/-- FENCE_DRAIN_END (R164): F + 2,000. The in-bank lists that ran are aborted (Machine/Ibu.lean takes them away at the same moment). -/
def State.fenceDrainEnd (s : State) (k : Nat) : State :=
  match (s.stk k).fencing with
  | some f => if s.fenceDrained k f ∧ (s.stk k).drained = false then (s.setStk k { s.stk k with drained := true }).fenceParts k else s
  | none => s

/-- STACK_FENCED (R164): the state reads FENCED; cause and partitions are posted. -/
def execStackFenced (k : StackId) (s : State) : Host.Outcome State Fault Refusal :=
  .next <|
    if (s.stk k).drained ∧ (s.stk k).fencing.isSome then
      let host := (s.stk k).hostFence
      let s := s.setStk k { s.stk k with fencing := none, fenceBeat := none, hostFence := false, drained := false, users := 0 }
      let s := (s.wr HS.STATUS.state hsFENCED k).wr ECC.STATUS.patrol_active 0 k
      let s := s.raise Ev.STACK_FENCED k [s.rd HS.FENCE_INFO.cause k, s.rd HS.FENCE_INFO.partitions k]
      if host then (s.wr HS.CMD_RESULT.result 2 k).raise Ev.HS_CMD_DONE k else s
    else s

/-- The gate of HS.CMD: refused BUSY from F until FENCED (R575), refused STATE where Table 5.7 has no such event. -/
def State.hsCmd (s : State) (m k : Nat) (ok : State → Bool) (act : State → State) : State :=
  s.gate m .HS k 0x040 fun s =>
    if (s.stk k).fencing.isSome then s.wr HS.CMD_RESULT.result 3 k
    else if ok s then act s
    else s.wr HS.CMD_RESULT.result 4 k

/-- HS_FENCE (R166). -/
def execHsFence (m : MasterId) (k : StackId) (s : State) : Host.Outcome State Fault Refusal :=
  .next (s.hsCmd m k (fun s => s.hsState k == hsIN_SERVICE) fun s => (s.startFence k 1).wr HS.CMD_RESULT.result 1 k)

/-- A write of HS.CMD whose op names no command is refused like any that Table 5.7 does not allow (R166, R575). -/
def State.hsNoCmd (s : State) (k : Nat) : State := s.wr HS.CMD_RESULT.result (if (s.stk k).fencing.isSome then 3 else 4) k

/-- HS_UNFENCE (R167). FENCE_INFO goes back to 0 (DESIGN CHOICE, assumption 147). -/
def execHsUnfence (m : MasterId) (k : StackId) (s : State) : Host.Outcome State Fault Refusal :=
  .next (s.hsCmd m k
    (fun s => s.hsState k == hsFENCED && ((s.stk k).passed || (s.rd HS.FENCE_INFO.cause k == 1 && !(s.stk k).touched)))
    fun s => ((((s.wr HS.FENCE_INFO.cause 0 k).wr HS.FENCE_INFO.partitions 0 k).enterService k).wr HS.CMD_RESULT.result 2 k).raise Ev.HS_CMD_DONE k)

/-- HS_REPAIR (R171). -/
def execHsRepair (m : MasterId) (k : StackId) (s : State) : Host.Outcome State Fault Refusal :=
  .next (s.hsCmd m k (fun s => s.hsState k == hsFENCED)
    fun s => ((s.setStk k { s.stk k with touched := true }).wr HS.STATUS.state hsREPAIRING k).wr HS.CMD_RESULT.result 1 k)

/-- REPAIR_DONE (R171): bit n of `unburnt`: the die cannot burn entry n. -/
def execRepairDone (k : StackId) (unburnt : BitVec 256) (s : State) : Host.Outcome State Fault Refusal :=
  .next <|
    if s.hsState k = hsREPAIRING then
      let rs := (s.stk k).remaps
      let left := (rs.zipIdx.filter (fun e => unburnt.getLsbD e.2)).map (·.1)
      let s := s.setStk k { s.stk k with remaps := left }
      let s := s.add HS.HARD_REPAIRS.rows (rs.length - left.length) k
      let (_, s) := s.keepTouch (0x280 + k)
      ((s.wr HS.STATUS.state hsFENCED k).wr HS.CMD_RESULT.result (if left.isEmpty then 2 else 5) k).raise Ev.HS_CMD_DONE k
    else s

/-- HS_RETIRE (R166): rails off, capacity 0, recorded in the keep store; the contents are gone. -/
def execHsRetire (m : MasterId) (k : StackId) (s : State) : Host.Outcome State Fault Refusal :=
  .next (s.hsCmd m k (fun s => s.hsState k == hsFENCED) fun s =>
    let (_, s) := s.keepTouch (0x280 + k)
    let s := (s.putKeep { s.keep with retired := s.keep.retired ||| 2 ^ k.val })
    let s := s.setStk k { s.stk k with copying := [] }
    let s := (s.loseStack k).wr RAIL.STATUS.state 0 ((32 + k) / 8) ((32 + k) % 8)
    ((((s.wr HS.CAPACITY.gib 0 k).wr HS.STATUS.state hsRETIRED k).wr HS.CMD_RESULT.result 2 k).raise Ev.STACK_RETIRED k).raise Ev.HS_CMD_DONE k)

/-- HS_CTRL_WRITE (R151). -/
def State.hsCtrlWrite (s : State) (k v : Nat) : State :=
  let old := s.rd HS.CTRL.region_mode k
  let new := v % 256
  let owned : Bool := match s.holder k with | some n => s.partState n != 1 | none => false
  let kept := if s.hsState k = hsIN_SERVICE ∧ owned then 255 else if k = 0 then 128 else 0
  let mode := (old &&& kept) ||| (new &&& (255 - kept))
  let refused := mode != new
  let s := ((s.wr HS.CTRL.region_mode mode k).wr HS.CTRL.auto_fence (bits v 8 8) k).wr HS.CTRL.auto_remap (bits v 9 9) k
  if refused then s.wr HS.CMD_RESULT.result 4 k else s

def execHsCtrlWrite (m : MasterId) (k : StackId) (v : Word) (s : State) : Host.Outcome State Fault Refusal :=
  .next (s.gate m .HS k 0x010 fun s => s.hsCtrlWrite k v.toNat)

/-- ROW_REMAP_DONE (R169): the copy ends; correctable granules are corrected, uncorrectable ones carried over as they are. (DESIGN CHOICE, assumption 25; DESIGN CHOICE, assumption 27) -/
def execRowRemapDone (k : StackId) (s : State) : Host.Outcome State Fault Refusal :=
  .next <| match (s.stk k).copying with
    | (pc, bank, row) :: rest =>
      let g0 := (⟨pc, bank, row, 0, 0⟩ : Loc).granKey k
      let ue := ((List.range 32).map (g0 + ·)).filter fun g => decodeMask (Assoc.get 0 s.hbmErr g) = .uncorrectable
      let err := s.hbmErr.filter fun e => !(g0 ≤ e.1 && e.1 < g0 + 32) || (match decodeMask e.2 with | .corrected _ _ => false | _ => true)
      let s := (s.putHbmErr err)
      let x := s.stk k
      let s := s.setStk k { x with copying := rest, remaps := x.remaps ++ [(pc, bank, row)],
                                   carried := (x.carried.filter fun g => !(g0 ≤ g && g < g0 + 32)) ++ ue }
      let (_, s) := s.keepTouch (0x280 + k)
      (((s.wr ECC.REMAP_LAST.pc pc k).wr ECC.REMAP_LAST.bank bank k).wr ECC.REMAP_LAST.row row k).raise Ev.ROW_REMAPPED k
    | [] => s

/-- Lanes of channel c that fail a training: bits 2c and 2c + 1 of a word, 3 standing for three or more. -/
def failedLanes (lanes c : Nat) : Nat := lanes / 4 ^ c % 4
/-- Redundant lanes of a channel in use. -/
def State.lanesUsed (s : State) (k c : Nat) : Nat := Assoc.get 0 (s.stk k).lanes c
/-- Each channel's two redundant lanes cover the failed ones. -/
def State.lanesCover (s : State) (k lanes : Nat) : Bool := (List.range 32).all fun c => s.lanesUsed k c + failedLanes lanes c ≤ 2
/-- Failed lanes are replaced, channel by channel, as far as the channel's redundant lanes go (R148). -/
def State.laneRepair (s : State) (k lanes : Nat) : State :=
  let take := fun c => min (failedLanes lanes c) (2 - s.lanesUsed k c)
  let n := ((List.range 32).map take).sum
  let s := s.setStk k { s.stk k with lanes := (List.range 32).foldl (fun m c => Assoc.put 0 m c (Assoc.get 0 m c + take c)) (s.stk k).lanes }
  (s.add HS.LINK.lanes_repaired n k).wr HS.LINK.lanes_spare (s.rd HS.LINK.lanes_spare k - n) k

/-- STACK_TRAINING_COMPLETE (R166): training and the start-up test end; lanes are replaced (R148); `pass`: a complete PASS. A fenced stack may
be trained too, which moves it to no other state (R148, R167). (DEDUCED, assumption 86) -/
def State.trainingComplete (s : State) (k : Nat) (trained pass : Bool) (lanes : Nat) : State :=
  if s.hsState k = hsTRAINING then
    let ok := trained && pass && s.lanesCover k lanes
    let s := s.laneRepair k lanes
    let s := s.setBit BIST.START_STACKS.pass k ok
    let s := s.setBit BIST.START_STACKS.not_pass k (!ok)
    if ok then s.enterService k
    else
      let s := s.setStk k { s.stk k with touched := true, passed := false, fencing := none, drained := false }
      ((s.wr HS.STATUS.state hsFENCED k).wr HS.FENCE_INFO.cause 5 k).raise Ev.STACK_FENCED k [5, 0]
  else if s.hsState k = hsFENCED then
    let s := s.laneRepair k lanes
    s.setStk k { s.stk k with touched := true, passed := false }
  else s

end Sys2Proof.Machine
end

