-- ==== Sys2Proof/Machine/Memory.lean ====
section
/-! DEFINITION. The module address map (R25 to R31), SRAM words (R34, R90), and reads and writes of one partition in this module. -/

namespace Sys2Proof.Machine

/-- What a module address names (Tables 1.5 and 1.6). -/
inductive Target where
  | hbm (stk off : Nat)
  | core (core off : Nat)
  | pool (tile off : Nat)
  | cells (tile off : Nat)
  | unmapped
deriving DecidableEq, Repr

def targetOf (addr : Nat) : Target :=
  if addr < 2 ^ 41 then .hbm (addr / 2 ^ 37) (addr % 2 ^ 37)
  else if addr < 2 ^ 45 then .unmapped
  else
    let t := (addr - 2 ^ 45) / 2 ^ 30
    let o := addr % 2 ^ 30
    if t ≥ 8 then .unmapped
    else if o < 0x10000000 then .core (64 * t + o / 2 ^ 22) (o % 2 ^ 22)
    else if o < 0x13000000 then .pool t o
    else if o < 0x14000000 then .cells t o
    else .unmapped

/-- The key of a byte of the SRAM windows, from its module address, and back. -/
def sramKey (addr : Nat) : Nat := addr - 2 ^ 45
def coreKey (core off : Nat) : Nat := core / 64 * 2 ^ 30 + core % 64 * 2 ^ 22 + off
/-- The module address of a core-store offset. (DEDUCED, assumption 37) -/
def coreAddr (core off : Nat) : Nat := 2 ^ 45 + coreKey core off

/-- The compute domain of a tile is up and the tile in service (R16, R31). -/
def State.tileUp (s : State) (t : Nat) : Bool :=
  s.railGood (4 * t) && s.railGood (4 * t + 1) && s.rd TILE.STATUS.state t == 0

/-- A logical core is present (R102). -/
def State.corePresent (s : State) (c : Nat) : Bool := s.is SPARE.MAP.present (c / 64) (c % 64) && s.rd CORE.STATUS.state c != 0

/-- Bytes of a tile's spill area: SPILL_SIZE is 0 to 4,096 MiB; a larger value acts as 4,096 (R228; DESIGN CHOICE, assumption 148). -/
def State.spillBytes (s : State) (t : Nat) : Nat := min (s.rd JUG.SPILL_SIZE.mib t) 4096 * 2 ^ 20

/-- An address of a stack lies in a Juggler spill area (R228). -/
def State.inSpill (s : State) (addr : Nat) : Bool :=
  (List.range 8).any fun t => s.rd JUG.SPILL_BASE.addr t ≤ addr && addr < s.rd JUG.SPILL_BASE.addr t + s.spillBytes t

/-- R275, R30, R31: partition p owns the byte and its range is in service. -/
def State.owns (s : State) (p addr : Nat) : Bool :=
  match targetOf addr with
  | .hbm k off => s.holds p k && s.stackServes k && !(k == 0 && off ≥ ringBase) && !s.inSpill addr
  | .core c _ => s.holds p (c / 32) && s.corePresent c && s.tileUp (c / 64)
  | .pool t o => s.holds p (2 * t + (if o < 0x11800000 then 0 else 1)) && s.tileUp t
  | _ => false

/-- Where ownership can change inside a range, with its first byte: the areas of the module address map begin at multiples of 4 MiB (Tables 1.5
and 1.6), the spill areas where the registers say. -/
def State.ownCuts (s : State) (addr n : Nat) : List Nat :=
  addr :: (((List.range (n / 2 ^ 22 + 1)).map fun i => (addr / 2 ^ 22 + 1 + i) * 2 ^ 22) ++
    ((List.range 8).flatMap fun t => [s.rd JUG.SPILL_BASE.addr t, s.rd JUG.SPILL_BASE.addr t + s.spillBytes t])).filter
      fun x => addr < x && x < addr + n

/-- The partition owns every byte from addr to addr + n - 1 (R30). -/
def State.ownsRange (s : State) (p addr n : Nat) : Bool := (s.ownCuts addr n).all (s.owns p)

/-! SRAM words (R34, R90). -/

/-- The stored word is uncorrectable. -/
def State.wordBad (s : State) (w : Nat) : Bool := Assoc.get 0 s.sramBad w == 1

/-- Words of a range in error of a kind: 1 uncorrectable, 2 corrected when read. -/
def State.wordsOf (s : State) (kind key n : Nat) : List Nat :=
  (s.sramBad.filter fun w => w.2 == kind && n != 0 && decide (key / 8 ≤ w.1) && decide (w.1 ≤ (key + n - 1) / 8)).map (·.1)

/-- The words of a range are all readable. -/
def State.sramGood (s : State) (key n : Nat) : Bool := (s.wordsOf 1 key n).isEmpty

/-- The key of the first uncorrectable word of a range. -/
def State.badKey (s : State) (key n : Nat) : Nat := match s.wordsOf 1 key n with | w :: _ => 8 * w | [] => key

/-- Read a range of an SRAM window; none where a word is uncorrectable. -/
def State.sramRead (s : State) (key n : Nat) : Option (List Byte) := if s.sramGood key n then some (s.sramBytes key n) else none

/-- Where a corrected word is counted: a word of a core store at its core; a word of a tile pool at the core that reads it, or else at C00 of
the tile (DESIGN CHOICE, assumption 144). -/
def wordCore (w : Nat) (reader : Option Nat) : Nat :=
  let t := 8 * w / 2 ^ 30
  let o := 8 * w % 2 ^ 30
  if o < 0x10000000 then 64 * t + o / 2 ^ 22 else reader.getD (64 * t)

/-- R90: the corrected words of a range that is read are counted; nothing else changes. -/
def State.sramSee (s : State) (reader : Option Nat) (key n : Nat) : State :=
  (s.wordsOf 2 key n).foldl (fun s w => (s.add CORE.SRAM_ECC.corrected 1 (wordCore w reader)).raise Ev.SRAM_CE (wordCore w reader)) s

/-- Write a range word by word: whole words are replaced and cured; a word that is covered in part is read first, and an uncorrectable one
stops the write (R90, R104). -/
def State.sramWrite (s : State) (fuel : Nat) (key : Nat) (data : List Byte) : Bool × State :=
  match fuel with
  | 0 => (true, s)
  | fuel + 1 =>
    if data.isEmpty then (true, s) else
    let k := min data.length (8 - key % 8)
    if k < 8 ∧ s.wordBad (key / 8) then (false, s)
    else
      let s := if k < 8 then s.sramSee none key k else s
      State.sramWrite ((s.sramSetList key (data.take k)).putSramBad (Assoc.del (key / 8) s.sramBad)) fuel (key + k) (data.drop k)

/-- Write bytes of an SRAM window. -/
def State.sramPut (s : State) (key : Nat) (data : List Byte) : Bool × State := s.sramWrite (data.length / 8 + 2) key data

/-- Read and write a core store; see the corrected words of a range that is read; the offset of its first uncorrectable word. -/
def State.coreRead (s : State) (core off n : Nat) : Option (List Byte) := s.sramRead (coreKey core off) n
def State.corePut (s : State) (core off : Nat) (data : List Byte) : Bool × State := s.sramPut (coreKey core off) data
def State.coreSee (s : State) (core off n : Nat) : State := s.sramSee (some core) (coreKey core off) n
def State.badOff (s : State) (core off n : Nat) : Nat := s.badKey (coreKey core off) n - coreKey core 0

/-- The answer of an access: the value, or the fault code and address. -/
abbrev Res (α : Type) := Except (Nat × Nat) α × State

/-- Read n bytes of a stack for partition p. -/
def State.hbmRead (s : State) (p k off n : Nat) (src : ReadSrc) : Res (List Byte) :=
  match ((s.useStack k (some p)).add HS.READ.bytes n k).readStack (n / 32 + 2) k off n src (some p) with
  | (.ok bs, s) => (.ok bs, s)
  | (.error a, s) => (.error (fHBM_UE, a), s)

/-- Write bytes of a stack for partition p. -/
def State.hbmWrite (s : State) (p k off : Nat) (data : List Byte) : Res Unit :=
  match ((s.useStack k (some p)).add HS.WRITE.bytes data.length k).writeStack (data.length / 32 + 2) k off data (some p) with
  | (none, s) => (.ok (), s)
  | (some a, s) => (.error (fHBM_UE, a), s)

/-- R30, R156: partition p reads n bytes of this module; a range that runs on into the next stack is read there (R26). Where only a part of the
range is not owned, the report carries the first address of the whole range (DESIGN CHOICE, assumption 5). -/
def State.memRead (s : State) (p addr n : Nat) (src : ReadSrc) (reader : Option Nat := none) : Res (List Byte) :=
  if n = 0 then (.ok [], s)
  else if !s.ownsRange p addr n then (.error (fADDR_FAULT, addr), s)
  else match targetOf addr with
    | .hbm k off =>
      let m := min n (2 ^ 37 - off)
      match s.hbmRead p k off m src with
      | (.ok bs, s) =>
        if m = n then (.ok bs, s)
        else match s.hbmRead p (k + 1) 0 (n - m) src with
          | (.ok cs, s) => (.ok (bs ++ cs), s)
          | (.error e, s) => (.error e, s)
      | (.error e, s) => (.error e, s)
    | _ =>
      match s.sramRead (sramKey addr) n with
      | some bs => (.ok bs, s.sramSee reader (sramKey addr) n)
      | none => (.error (fSRAM_UE, 2 ^ 45 + s.badKey (sramKey addr) n), s)

/-- R30, R32, R90: partition p writes bytes of this module. (DESIGN CHOICE, assumption 5) -/
def State.memWrite (s : State) (p addr : Nat) (data : List Byte) : Res Unit :=
  if data.isEmpty then (.ok (), s)
  else if !s.ownsRange p addr data.length then (.error (fADDR_FAULT, addr), s)
  else match targetOf addr with
    | .hbm k off =>
      let m := min data.length (2 ^ 37 - off)
      match s.hbmWrite p k off (data.take m) with
      | (.ok _, s) => if m = data.length then (.ok (), s) else s.hbmWrite p (k + 1) 0 (data.drop m)
      | (.error e, s) => (.error e, s)
    | _ =>
      match s.sramPut (sramKey addr) data with
      | (true, s) => (.ok (), s)
      | (false, s) => (.error (fSRAM_UE, 2 ^ 45 + s.badKey (sramKey addr) data.length), s)

/-- R88: one atomic operation on a word; the old value. (DEDUCED, assumption 37) -/
def atomicOp (op size old arg cmp : Nat) : Nat :=
  let w := 8 * size
  if op = 0 then (old + arg) % 2 ^ w
  else if op = 1 then (if sext w arg < sext w old then arg else old)
  else if op = 2 then (if sext w old < sext w arg then arg else old)
  else if op = 3 then old &&& arg
  else if op = 4 then old ||| arg
  else if op = 5 then old ^^^ arg
  else if op = 6 then arg
  else if old = cmp then arg else old

end Sys2Proof.Machine
end

