-- ==== Sys2Proof/Machine/Fabric.lean ====
section
/-! DEFINITION. Sending Edpen packets: who may send (R245), routes (R244), headers and their check (R246), ports (R249), sequence numbers and
retention (R250), what the standby of a pair keeps to itself (R290); Midway routes (R236). -/

namespace Sys2Proof.Machine

/-- The module number a tile takes as its own (R245). -/
def State.ownModule (s : State) (t : Nat) : Nat := if s.is MIDWAY.MODULE_ID.valid t then s.rd MIDWAY.MODULE_ID.module t else 0
/-- The global tile number of a tile (R29). -/
def State.globalTile (s : State) (t : Nat) : Nat := 8 * s.ownModule t + t
/-- A global address names another module (R248). -/
def State.isRemote (s : State) (t addr : Nat) : Bool := addr / 2 ^ 46 % 2 ^ 18 / 8 != s.ownModule t

/-- The value and valid bit of MODULE_ID agree with the lowest-numbered in-service tile (R245). -/
def State.idAgrees (s : State) (t : Nat) : Bool :=
  match (List.range 8).find? (fun u => s.rd TILE.STATUS.state u == 0) with
  | some u => s.rd MIDWAY.MODULE_ID.module t == s.rd MIDWAY.MODULE_ID.module u && s.rd MIDWAY.MODULE_ID.valid t == s.rd MIDWAY.MODULE_ID.valid u
  | none => true

/-- Ports of a tile that are UP (R268). -/
def State.upPorts (s : State) (t : Nat) : List Nat :=
  (List.range 8).filter fun p => s.rd EDPEN.STATUS.state (8 * t + p) == 2 || s.rd EDPEN.STATUS.state (8 * t + p) == 3

/-- Partition traffic of a tile may enter or leave over Edpen, ports aside (R245). -/
def State.edpenOn (s : State) (t : Nat) : Bool := s.is MIDWAY.MODULE_ID.valid t && s.idAgrees t && s.is MIDWAY.CTRL.edpen_en t
def State.edpenReady (s : State) (t : Nat) : Bool := s.edpenOn t && !(s.upPorts t).isEmpty

/-- A route entry (Table 8.4), and whether it leads to global tile dst (R244). -/
def State.route (s : State) (t m : Nat) : Nat := Assoc.get 0 s.fab.routes (t * 32768 + m)
def State.routeOk (s : State) (t dst : Nat) : Bool :=
  let e := s.route t (dst / 8)
  let hops := e % 8
  1 ≤ hops && hops ≤ 5 && e / 2 ^ (3 + 9 * (hops - 1)) % 512 + dst % 8 ≤ 511

/-- The port of a pinned flow: EP(dst mod 8), or the next UP port in ascending order (R249). -/
def State.pinnedPort (s : State) (t dst : Nat) : Nat :=
  ((List.range 8).map (fun i => (dst + i) % 8)).find? (fun p => (s.upPorts t).contains p) |>.getD (dst % 8)

/-- Active lanes of a port that is UP (Table 8.12). -/
def State.lanesOf (s : State) (i : Nat) : Nat := if s.rd EDPEN.STATUS.state i = 2 then 4 else 3

/-- A turn of the striped packets of a tile: the UP ports in ascending order, four times over, a port with three lanes left out of the last round
(R249; DESIGN CHOICE, assumption 156). -/
def State.stripeTurn (s : State) (t : Nat) : List Nat :=
  (List.range 4).flatMap fun r => (s.upPorts t).filter fun p => r < s.lanesOf (8 * t + p)

/-- The port of a tile's next striped packet. (DESIGN CHOICE, assumption 156) -/
def State.stripedPort (s : State) (t : Nat) : Nat × State :=
  let n := Assoc.get 0 s.fab.stripes t
  let turn := s.stripeTurn t
  (turn.getD (n % max 1 turn.length) 0, s.putFab { s.fab with stripes := Assoc.put 0 s.fab.stripes t (n + 1) })

/-- The route of a packet to a global tile: the ports of its module's entry, the tile added to the last one (R244). -/
def State.routeTo (s : State) (t dst : Nat) : Nat :=
  let e := s.route t (dst / 8) % 2 ^ 48
  e + dst % 8 * 2 ^ (3 + 9 * (e % 8 - 1))

/-- Port i of a route, and the recorded route reversed for the answer (R246). -/
def routePort (r i : Nat) : Nat := r / 2 ^ (3 + 9 * i) % 512
def reverseRoute (r : Nat) : Nat := (List.range (r % 8)).foldl (fun a i => a + routePort r (r % 8 - 1 - i) * 2 ^ (3 + 9 * i)) (r % 8)

/-! CRC-32C (R246, R341). -/

def crcBit (c : Nat) : Nat := if c % 2 = 1 then c / 2 ^^^ 0x82F63B78 else c / 2
def crcByte (c : Nat) (b : Byte) : Nat := (List.range 8).foldl (fun c _ => crcBit c) (c ^^^ b.toNat)
def crc32c (bs : List Byte) : Nat := bs.foldl crcByte 0xFFFFFFFF ^^^ 0xFFFFFFFF

/-- The 32 header bytes of a packet (Table 8.5) with a hop pointer and a value of the crc field. -/
def Packet.head (p : Packet) (hop crc : Nat) : List Byte :=
  leBytes 8 (p.type % 256 + p.tc % 8 * 2 ^ 8 + p.route % 8 * 2 ^ 11 + hop % 8 * 2 ^ 14 + p.route / 8 % 2 ^ 45 * 2 ^ 17) ++
    leBytes 8 (p.src % 2 ^ 18 + p.dst % 2 ^ 18 * 2 ^ 18 + p.job % 2 ^ 16 * 2 ^ 36) ++ leBytes 8 (p.addr % 2 ^ 46 + p.length % 2 ^ 13 * 2 ^ 46) ++
    leBytes 8 (p.seq % 2 ^ 16 + p.aux % 2 ^ 16 * 2 ^ 16 + crc % 2 ^ 32 * 2 ^ 32)

/-- The check of a packet: CRC-32C over header and payload with the field as 0 (Table 8.5); the whole header. -/
def Packet.crc (p : Packet) (hop : Nat) : Nat := crc32c (p.head hop 0 ++ p.payload)
def Packet.header (p : Packet) (hop : Nat) : List Byte := p.head hop (p.crc hop)

/-- The job tag of a partition on a tile. -/
def State.jobTag (s : State) (t p : Nat) : Nat := s.rd MIDWAY.JOB_TAG.tag t p

/-- Put a packet on the wire, its header at hop 0. -/
def State.emit (s : State) (t port : Nat) (p : Packet) : State :=
  ((s.add EDPEN.TX.bytes p.payload.length (8 * t + port)).putOutbox (s.outbox ++ [.packet t port p (p.crc 0)]))

/-! Midway (R234, R236). -/

/-- A request of tile t to tile u is on its way over Midway: a later one must not overtake it (R234). -/
def State.midBusy (s : State) (t u : Nat) : Bool := t != u && s.fab.midway.any fun m => m.src == t && m.dst == u && m.cls == 0

/-- The tile whose router serves an address of the module (R21). -/
def Target.tile : Target → Option Nat
  | .hbm k _ => some (k / 2)
  | .core c _ => some (c / 64)
  | .pool t _ => some t
  | .cells t _ => some t
  | .unmapped => none

/-- A write of tile t to a module address would overtake a message to the same tile. (DESIGN CHOICE, assumption 66) -/
def State.midBehind (s : State) (t addr : Nat) : Bool := match (targetOf addr).tile with | some u => s.midBusy t u | none => false

/-- A message enters the router of its tile. -/
def State.midSend (s : State) (t cls : Nat) (p : Packet) : State :=
  s.putFab { s.fab with midway := s.fab.midway ++ [⟨t, p.dst % 8, cls, t, p⟩] }

/-- A link is in service. -/
def State.linkUp (s : State) (t d : Nat) : Bool := (s.rd MIDWAY.STATUS.link_up t).testBit d

/-- Tiles in service from which a set is reached in one hop more, or none. -/
def State.hopSet (s : State) (to_ : List Nat) : List Nat :=
  (List.range 8).filter fun t => to_.contains t || (!s.tileLost t && (List.range 3).any fun d => s.linkUp t d && to_.contains (t ^^^ 2 ^ d))

/-- Tiles from which tile u is reached in at most n hops. -/
def State.within (s : State) (u : Nat) : Nat → List Nat
  | 0 => [u]
  | n + 1 => s.hopSet (State.within s u n)

/-- The next link of the table at tile t toward tile u: of the shortest paths over working links, by the lowest link number (R236). -/
def State.nextLink (s : State) (t u : Nat) : Option Nat :=
  match (List.range 8).find? fun n => (s.within u n).contains t with
  | some (n + 1) => (List.range 3).find? fun d => s.linkUp t d && (s.within u n).contains (t ^^^ 2 ^ d)
  | _ => none

/-- Who a packet is sent for; `copy`: what the primary of a pair forwards. -/
structure Sender where
  part : Option Nat
  core : Option Nat
  desc : Nat
  tag : Nat
  stream : Nat := 0
  copy : Bool := false
deriving DecidableEq, Repr

/-! Pairs (R289, R290). -/

/-- A partition acts as the standby of a pair in force. -/
def State.standing (s : State) (p : Nat) : Bool := s.is MOD.PART_STATE.paired 0 p && !s.is MOD.PART_STATE.primary 0 p

/-- The tile of a partition's lowest half, with its program master (R277). -/
def State.masterTile (s : State) (p : Nat) : Nat := (s.halvesOf p).headD 0 / 2

/-- The partner's tile that corresponds to a tile of partition p: as far from the partner's program master (DESIGN CHOICE, assumption 153). -/
def State.pairTile (s : State) (p t : Nat) : Nat :=
  let peer := s.rd MOD.PAIR_PEER.tile 0 p
  peer / 8 * 8 + (peer % 8 + t + 8 - s.masterTile p) % 8

/-- A half of the tile belongs to the partition. -/
def State.holdsTile (s : State) (p t : Nat) : Bool := s.holds p (2 * t) || s.holds p (2 * t + 1)

/-- A global tile lies outside the pair of partition p: neither a tile of the partition nor the partner's tile of one. -/
def State.outsidePair (s : State) (p t dst : Nat) : Bool :=
  !(dst / 8 == s.ownModule t && s.holdsTile p (dst % 8)) && !((List.range 8).any fun u => s.holdsTile p u && s.pairTile p u == dst)

/-- R290: the standby of a pair in force sends nothing outside the pair. -/
def State.suppressed (s : State) (part : Option Nat) (t dst : Nat) : Bool :=
  match part with
  | some p => s.standing p && s.outsidePair p t dst
  | none => false

/-- PAIR_STATUS counts the PUTs, ENQs and atomics that the standby drops (R290). (DESIGN CHOICE, assumption 153) -/
def State.countDropped (s : State) (part : Option Nat) (type : Nat) : State :=
  match part with
  | some p => if type = 1 ∨ type = 4 ∨ type = 6 then s.add MOD.PAIR_STATUS.suppressed 1 0 p else s
  | none => s

/-- Send one packet of a flow with a sequence number, over Edpen or, to a tile of the module, over Midway; none where R244 or R245 raises
ROUTE_FAULT. -/
def State.sendFlow (s : State) (t : Nat) (who : Sender) (type tc dst addr length aux : Nat) (payload : List Byte) (pinned : Bool)
    (held : Option (Nat × Packet) := none) : Option State :=
  let own := dst / 8 == s.ownModule t
  if s.suppressed who.part t dst then some (s.countDropped who.part type)
  else if !own && (!s.edpenReady t || !s.routeOk t dst) then none
  else
    let key := (t * 2 ^ 18 + dst) * 8 + tc
    let seq := Assoc.get 0 s.fab.seqOut key
    let (port, s) := if own then (8, s) else if pinned then (s.pinnedPort t dst, s) else s.stripedPort t
    let job := match who.part with | some p => s.jobTag t p | none => 0
    let (aux, s) := if type = 2 then (s.fab.slot, (s.putFab { s.fab with slot := (s.fab.slot + 1) % 2 ^ 16 })) else (aux, s)
    let pkt : Packet := ⟨type, tc, s.globalTile t, dst, job, addr, length, seq, aux, payload, if own then 0 else s.routeTo t dst⟩
    let s := (s.putFab { s.fab with
                                          seqOut := Assoc.put 0 s.fab.seqOut key ((seq + 1) % 2 ^ 16),
                                          flights := s.fab.flights ++ [Flight.mk t port pkt s.now 0 who.part who.core who.stream who.desc who.tag held who.copy] })
    some (if own then s.midSend t 0 pkt else s.emit t port pkt)

/-- Send an answer by the way its packet came: over Midway, or on a port, its route reversed (R246). -/
def State.sendBack (s : State) (t via : Nat) (p : Packet) : State := if via ≥ 8 then s.midSend t 1 p else s.emit t via p

/-- Cut a transfer into packets of at most 4,096 bytes that cross no 4 KiB boundary of the destination address (R248). -/
def cutPackets : Nat → Nat → Nat → List (Nat × Nat)
  | 0, _, _ => []
  | fuel + 1, addr, n => if n = 0 then [] else let k := min n (4096 - addr % 4096); (addr, k) :: cutPackets fuel (addr + k) (n - k)

/-- Merge address-contiguous pieces (R248). -/
def mergePieces : List (Nat × Nat) → List (Nat × Nat)
  | [] => []
  | (a, n) :: rest =>
    match mergePieces rest with
    | (b, m) :: more => if a + n = b then (a, n + m) :: more else (a, n) :: (b, m) :: more
    | [] => [(a, n)]

end Sys2Proof.Machine
end

