-- ==== Sys2Proof/Machine/Queues.lean ====
section
/-! DEFINITION. Juggler queues as data: descriptors, packets, cells and their accounting (R210 to R215, R226). -/

namespace Sys2Proof.Machine

def State.queue (s : State) (k : Nat) : Queue := Assoc.get Queue.reset s.queues k
def State.setQueue (s : State) (k : Nat) (q : Queue) : State := (s.putQueues (Assoc.put Queue.reset s.queues k q))
def State.jug (s : State) (t : Nat) : JugTile := Assoc.get JugTile.reset s.jugs t
def State.setJug (s : State) (t : Nat) (x : JugTile) : State := (s.putJugs (Assoc.put JugTile.reset s.jugs t x))

/-! Descriptor fields (Table 7.1). -/
def Queue.f (q : Queue) (w hi lo : Nat) : Nat := bits (q.desc / 2 ^ (32 * w)) hi lo
def Queue.enabled (q : Queue) : Bool := q.f 0 0 0 == 1
def Queue.spillable (q : Queue) : Bool := q.f 0 1 1 == 1
def Queue.remoteEn (q : Queue) : Bool := q.f 0 2 2 == 1
def Queue.owner (q : Queue) : Nat := q.f 0 11 8
def Queue.maxCells (q : Queue) : Nat := q.f 1 15 0
def Queue.reserve (q : Queue) : Nat := q.f 1 31 16

/-- The state of QSTAT2: 0 disabled, 1 enabled, 2 ERROR. -/
def Queue.state (q : Queue) : Nat := if q.error then 2 else if q.enabled then 1 else 0

/-- Cells of a packet that are held, on-chip or spilled: from the first not yet wholly delivered (R221). -/
def QPkt.cells (p : QPkt) : List Nat :=
  if p.gone then [] else (List.range ((p.data.length + 255) / 256)).filter fun i => p.taken / 256 ≤ i

/-- The depth of a queue in cells, and its held cells in order. -/
def Queue.depth (q : Queue) : Nat := (q.pkts.map (·.cells.length)).sum
def Queue.cells (q : Queue) : List (Nat × Nat) := q.pkts.flatMap fun p => p.cells.map fun i => (p.id, i)
/-- The queue has content (R225: an open or claimed packet counts). -/
def Queue.hasContent (q : Queue) : Bool := q.pkts.any (fun p => !p.gone)

def State.pkt (s : State) (k id : Nat) : Option QPkt := (s.queue k).pkts.find? (fun p => p.id == id)
def State.setPkt (s : State) (k : Nat) (p : QPkt) : State :=
  s.setQueue k { s.queue k with pkts := (s.queue k).pkts.map (fun r => if r.id = p.id then p else r) }
def State.dropPkt (s : State) (k id : Nat) : State :=
  s.setQueue k { s.queue k with pkts := (s.queue k).pkts.filter (fun r => r.id != id) }

/-- Spilled cells of a queue (QSTAT1), and whether one cell is. -/
def State.spilledOf (s : State) (k : Nat) : Nat := (((s.jug (k / 4096)).segs.filter (fun g => g.queue == k)).map (·.cells.length)).sum
def State.isSpilled (s : State) (k : Nat) (x : Nat × Nat) : Bool := (s.jug (k / 4096)).segs.any (fun g => g.queue == k && g.cells.contains x)

/-- The packet that a stream keeps open, with its queue; the packet it has claimed (R216, R221). -/
def State.openOf (s : State) (c n : Nat) : Option (Nat × QPkt) :=
  s.queues.findSome? fun x => (x.2.pkts.find? (fun p => p.openBy == some (4 * c + n))).map fun p => (x.1, p)
def State.claimOf (s : State) (c n : Nat) : Option (Nat × QPkt) :=
  s.queues.findSome? fun x => (x.2.pkts.find? (fun p => p.claim == some (4 * c + n))).map fun p => (x.1, p)

/-! Cell accounting (R226). -/

def State.generalFree (s : State) (t : Nat) : Nat := s.rd JUG.STATUS.general_free t

/-- A cell for a queue: from its reserve below reserve_cells, else from the general pool; none at max_cells, or when both are empty. -/
def State.takeCell (s : State) (k : Nat) : Option State :=
  let q := s.queue k
  let t := k / 4096
  let d := q.depth
  if q.maxCells ≠ 0 ∧ d ≥ q.maxCells then none
  else if d < q.reserve ∧ q.resUsed < q.reserve then some (s.setQueue k { q with resUsed := q.resUsed + 1 })
  else if s.generalFree t > 0 then some (s.wr JUG.STATUS.general_free (s.generalFree t - 1) t)
  else none

/-- Cells become free: they restore the refill reserve, then the reserve of their queue, then the general pool; a cell that frees ends a
dry period (R226, R227). -/
def State.freeCells (s : State) (k : Nat) : Nat → State
  | 0 => s
  | n + 1 =>
    let t := k / 4096
    let j := s.jug t
    let q := s.queue k
    let s :=
      if j.refillUsed > 0 then s.setJug t { j with refillUsed := j.refillUsed - 1 }
      else if q.resUsed > 0 then s.setQueue k { q with resUsed := q.resUsed - 1 }
      else ((s.wr JUG.STATUS.general_free (s.generalFree t + 1) t).wr JUG.STATUS.dry 0 t).setJug t { j with dryTold := false }
    State.freeCells s k n

/-- The cells of a packet leave: those on chip become free, spilled ones leave their segments (R215, R221, R231). -/
def State.freePkt (s : State) (k : Nat) (xs : List (Nat × Nat)) : State :=
  let t := k / 4096
  let onchip := (xs.filter (fun x => !s.isSpilled k x)).length
  let j := s.jug t
  let segs := (j.segs.map fun g => if g.queue = k then { g with cells := g.cells.filter (fun x => !xs.contains x) } else g).filter
    (fun g => !g.cells.isEmpty || j.refill == some g.num)
  ((s.setJug t { j with segs := segs }).wr JUG.SPILL_USED.segments segs.length t).freeCells k onchip

/-- The rest of a packet is discarded, with what is still to come (R221, R231); `counts`: as JUG.DISCARDS counts it (R232). -/
def State.discardPkt (s : State) (k : Nat) (p : QPkt) (counts : Bool := true) : State :=
  let s := if counts then s.add JUG.DISCARDS.bytes (p.data.length - p.taken) (k / 4096) else s
  let s := s.freePkt k (p.cells.map fun i => (p.id, i))
  if p.openBy.isSome then s.setPkt k { p with gone := true, claim := none, counts := counts } else s.dropPkt k p.id

/-- R214, R232: the sum of all reserves of a tile, the refill reserve aside. -/
def State.reserveSum (s : State) (t : Nat) : Nat := ((s.queues.filter (fun x => x.1 / 4096 == t)).map (·.2.reserve)).sum

/-- A reserve changes: what it grows by comes from the free general cells as far as they go, what it shrinks by returns to them. Answers the
used part of the new reserve. (DEDUCED, assumption 53) -/
def State.moveReserve (s : State) (t old new used : Nat) : Nat × State :=
  let g := s.generalFree t
  if old ≤ new then
    let n := min (new - old) g
    (used + (new - old - n), s.wr JUG.STATUS.general_free (g - n) t)
  else
    let free := min (old - new) (old - min old used)
    (used - (old - new - free), s.wr JUG.STATUS.general_free (g + free) t)

/-- A descriptor takes effect: its reserve moves, RESERVED_SUM shows the sum (R214, R226). -/
def State.setDesc128 (s : State) (k desc : Nat) : State :=
  let t := k / 4096
  let q := s.queue k
  let (used, s) := s.moveReserve t q.reserve ({ q with desc := desc } : Queue).reserve q.resUsed
  let s := s.setQueue k { q with desc := desc, resUsed := used }
  s.wr JUG.RESERVED_SUM.cells (s.reserveSum t + s.rd JUG.SPILL_CFG.refill_cells t) t

/-- FLUSH (R215): every cell is freed, claims end, the queue is empty and out of ERROR. Packets that a stream still feeds stay until it ends them. -/
def State.flushQueue (s : State) (k : Nat) : State :=
  let q := s.queue k
  let s := q.pkts.foldl (fun s p => (s.freePkt k (p.cells.map fun i => (p.id, i)))) s
  let left := (q.pkts.filter (fun p => p.openBy.isSome)).map fun p => { p with gone := true, claim := none, counts := false }
  s.setQueue k { s.queue k with pkts := left, error := false, timer := none }

/-- Complete host commands that a flush of a host-command queue loses: their bytes (R320). -/
def State.lostCommands (s : State) (k : Nat) : List (List Byte) := ((s.queue k).pkts.filter (fun p => p.closed && !p.gone)).map (·.data)

end Sys2Proof.Machine
end

