-- ==== Sys2Proof/Machine/Cores.lean ====
section
/-! DEFINITION. Cores: control-engine instructions (R71 to R78, R99), buffer flags (R76 to R78), faults (R104), failed engines and spare
cores (R100 to R103). -/

namespace Sys2Proof.Machine

/-- DESIGN CHOICE assumption 45. -/
def State.core (s : State) (c : Nat) : CoreState := Assoc.get CoreState.reset s.cores c
def State.setCore (s : State) (c : Nat) (x : CoreState) : State := (s.putCores (Assoc.put CoreState.reset s.cores c x))
def State.strm (s : State) (c n : Nat) : Stream := Assoc.get Stream.reset (s.core c).streams n
def State.setStrm (s : State) (c n : Nat) (x : Stream) : State :=
  s.setCore c { s.core c with streams := Assoc.put Stream.reset (s.core c).streams n x }

/-- A general register of a stream. -/
def State.g (s : State) (c n r : Nat) : Nat := Assoc.get 0 (s.strm c n).regs r
def State.setG (s : State) (c n r v : Nat) : State :=
  s.setStrm c n { s.strm c n with regs := Assoc.put 0 (s.strm c n).regs r (v % 2 ^ 64) }

/-! CORE.STREAM_STATE. -/
def snIDLE : Nat := 0
def snREADY : Nat := 1
def snFLAG : Nat := 2
def snFULL : Nat := 3
def snFENCE : Nat := 4
def snBEAT : Nat := 5
def snJUG : Nat := 6
def snEND : Nat := 7
def snSTOP : Nat := 8

def State.sn (s : State) (c n : Nat) : Nat := s.rd CORE.STREAM_STATE.sn_state c / 16 ^ n % 16
def State.setSn (s : State) (c n v : Nat) : State :=
  let w := s.rd CORE.STREAM_STATE.sn_state c
  s.wr CORE.STREAM_STATE.sn_state (w - s.sn c n * 16 ^ n + v * 16 ^ n) c

/-- The views STATUS.at_step_end, AE_OUT and BUSY (Table 3.19). -/
def State.atStepEnd (s : State) (c : Nat) : Nat := (List.range 4).foldl (fun a n => if s.sn c n = snEND then a + 2 ^ n else a) 0
def State.aeOut (s : State) (c n : Nat) : Nat := ((s.core c).descs.filter (fun d => d.stream == n)).length
def State.coreBusy (s : State) (c : Nat) : Nat :=
  (if (s.core c).descs.any (fun d => d.phase != 0) then 1 else 0) +
    (List.range 6).foldl (fun a e => if (s.core c).cmds.any (fun k => k.on == e && k.phase != 0) then a + 2 ^ (e + 1) else a) 0

/-- Units of FAULT_INFO. -/
def uCE : Nat := 0
def uAE : Nat := 1
def uME (e : Nat) : Nat := 2 + e

/-- The event bit a fault code raises on the CORE page (R105). -/
def faultEvent (code : Nat) : Option Ev :=
  if code = fDESC_FAULT then some Ev.DESC_FAULT else if code = fFLAG_FAULT then some Ev.FLAG_FAULT
  else if code = fCORE_FAULT then some Ev.CORE_FAULT else if code = fSRAM_UE then some Ev.SRAM_UE else none

/-- FAULT_INFO keeps the first code of Table 3.15 of the step (R104, R105); a corrected word changes nothing but its count (R90). -/
def State.noteCode (s : State) (c unit stream code addr : Nat) : State :=
  if (s.core c).codeSeen then s
  else
    let s := s.setCore c { s.core c with codeSeen := true }
    ((((s.wr CORE.FAULT_INFO.code code c).wr CORE.FAULT_INFO.unit unit c).wr CORE.FAULT_INFO.stream stream c).wr
      CORE.FAULT_INFO.valid 1 c).wr CORE.FAULT_ADDR.addr addr c

/-- R104, R37: a core reports a fault: the first of the step is kept in FAULT_INFO, the partition's step ends in error. `addr` is what the core
shows, `report` the module address. -/
def State.coreFault (s : State) (c unit stream code addr report : Nat) : State :=
  let s := match faultEvent code with | some e => s.raise e c | none => s
  let s := if code = fSRAM_UE then s.add CORE.SRAM_ECC.uncorrected 1 c else s
  ((s.noteCode c unit stream code addr).wr CORE.STATUS.faulted 1 c).optFault (s.partOfCore c) code report

/-- A fault at a core-store offset of the core itself (R90). -/
def State.coreFaultAt (s : State) (c unit stream code off : Nat) : State := s.coreFault c unit stream code off (coreAddr c off)

/-! Buffer flags (R76 to R78). -/

def State.flag (s : State) (c f : Nat) : Nat := s.rd CORE.FLAG.value c f

/-- R78: an addition that would take a flag above 255 leaves it at 255 and raises FLAG_FAULT. (DEDUCED, assumption 57) -/
def State.addFlag (s : State) (c f n unit stream : Nat) : State :=
  let v := s.flag c f + n
  if v > 255 then (s.wr CORE.FLAG.value 255 c f).coreFaultAt c unit stream fFLAG_FAULT 0 else s.wr CORE.FLAG.value v c f

/-- Wait and signal parts of words 5 and 6 of an engine command. -/
def cmdField (w word hi lo : Nat) : Nat := bits (w / 2 ^ (32 * word)) hi lo
def cmdWaits (w : Nat) : List (Nat × Nat) :=
  (if cmdField w 6 0 0 = 1 then [(cmdField w 5 7 0, cmdField w 6 11 4)] else []) ++
  (if cmdField w 6 1 1 = 1 then [(cmdField w 5 15 8, cmdField w 6 19 12)] else [])
def cmdSigs (w : Nat) : List Nat :=
  (if cmdField w 6 2 2 = 1 then [cmdField w 5 23 16] else []) ++ (if cmdField w 6 3 3 = 1 then [cmdField w 5 31 24] else [])
def descWaits (w : Nat) : List (Nat × Nat) := if bits w 5 5 = 1 then [(bits w 15 8, bits w 31 24)] else []

/-- A set of waits is covered by the flags (two waits may name one flag). -/
def State.covers (s : State) (c : Nat) (taken : Nat → Nat) (ws : List (Nat × Nat)) : Bool :=
  ws.all fun w => s.flag c w.1 ≥ taken w.1 + ((ws.filter (fun v => v.1 == w.1)).map (·.2)).sum

/-- The oldest unstarted descriptor of a stream, if its order bit lets it start (R79). -/
def State.nextDesc (s : State) (c n : Nat) : Option Desc :=
  if !s.tileUp (c / 64) then none else
  match (s.core c).descs.filter (fun d => d.stream == n) with
  | ds => match ds.find? (fun d => d.phase == 0) with
    | some d => if bits d.words 7 7 = 1 && ds.any (fun e => e.id < d.id) then none else some d
    | none => none

/-- The accumulator tiles a matrix command reads, and those it writes (R95). -/
def accOp (w : Nat) : Nat := bits w 7 0
def accTiles (w : Nat) : List Nat := let at_ := bits w 31 29; if bits w 26 26 = 1 then [at_, at_ + 1] else [at_]
def accReads (w : Nat) : List Nat := if accOp w = 1 ∨ accOp w = 4 then accTiles w else []
def accWrites (w : Nat) : List Nat := if accOp w = 4 then [] else accTiles w

/-- A matrix or vector engine has failed. -/
def State.engineDead (s : State) (c e : Nat) : Bool :=
  if e < 4 then (s.rd CORE.ENGINE_STATE.me_failed c).testBit e else (s.rd CORE.ENGINE_STATE.ve_failed c).testBit (e - 4)
/-- R100: the engine that serves the queues meant for engine e: e itself, or the next working one of its kind. -/
def State.servedBy (s : State) (c e : Nat) : Option Nat :=
  (if e < 4 then (List.range 4).map (fun i => (e + i) % 4) else [e, 9 - e]).find? fun f => !s.engineDead c f

/-- The head of a stream's queue of an engine, and (R95) whether the accumulators it reads hold their results. -/
def State.headOf (s : State) (c e n : Nat) : Option EngCmd :=
  if !s.tileUp (c / 64) then none else (s.core c).cmds.find? (fun k => k.engine == e && k.stream == n && k.phase == 0)
def State.accReady (s : State) (c : Nat) (k : EngCmd) : Bool :=
  k.engine ≥ 4 || (accReads k.words).all fun a =>
    !(s.core c).cmds.any (fun j => j.engine == k.engine && j.phase == 1 && (accWrites j.words).contains a)

/-- Who takes counts on this clock, so far: a rank in the order of R77 and the counts taken. -/
abbrev Takers := List (Nat × List (Nat × Nat))
def Takers.taken (v : Takers) (f : Nat) : Nat := (v.map fun x => ((x.2.filter (fun w => w.1 == f)).map (·.2)).sum).sum

/-- R95, R77: the head that engine f starts, after those served before it: the oldest ready head of the queues it serves. -/
def State.engineHead (s : State) (c f : Nat) (v : Takers) : Option EngCmd :=
  if (s.core c).cmds.any (fun j => j.on == f && j.phase == 1) then none
  else ((List.range 24).filterMap fun i =>
    if s.servedBy c (i / 4) = some f then
      (s.headOf c (i / 4) (i % 4)).bind fun k => if s.accReady c k && s.covers c v.taken (cmdWaits k.words) then some k else none
    else none).foldl (fun best k => match best with | some b => if k.id < b.id then some k else some b | none => some k) none

/-- The descriptors that the access engine starts on this clock (R76, R79). -/
def State.descServed (s : State) (c : Nat) : Takers :=
  (List.range 4).foldl (fun v n => match s.nextDesc c n with
    | some d => if s.covers c v.taken (descWaits d.words) then v ++ [(n, descWaits d.words)] else v
    | none => v) []
/-- With the commands that engines 0 to k - 1 start. -/
def State.engServed (s : State) (c k : Nat) : Takers :=
  (List.range k).foldl (fun v f => match s.engineHead c f v with
    | some h => v ++ [(4 + f, cmdWaits h.words)]
    | none => v) (s.descServed c)
/-- With the WAITFs of the streams that wait; rank 10 + stream. -/
def State.served (s : State) (c : Nat) : Takers :=
  (List.range 4).foldl (fun v n =>
    let x := s.strm c n
    if s.sn c n = snFLAG ∧ s.covers c v.taken [(x.flag, x.count)] then v ++ [(10 + n, if x.consume then [(x.flag, x.count)] else [])] else v)
    (s.engServed c 6)

/-- R77: counts that waiters served before a rank take from a flag: ranks 0 to 3 the streams of the AE, 4 to 9 the engines, 10 to 13 the
streams' WAITFs. -/
def State.takenBefore (s : State) (c rank f : Nat) : Nat := Takers.taken ((s.served c).filter fun x => x.1 < rank) f

/-- R76, R77: a waiter of a rank may take its counts now. -/
def State.mayTake (s : State) (c rank : Nat) (ws : List (Nat × Nat)) : Bool := s.covers c (s.takenBefore c rank) ws

/-- The counts are subtracted. -/
def State.takeFlags (s : State) (c : Nat) (ws : List (Nat × Nat)) : State :=
  ws.foldl (fun s w => s.wr CORE.FLAG.value (s.flag c w.1 - w.2) c w.1) s

/-! Issue (R71 to R74). -/

/-- R71: no other ready stream comes before stream n in the round that starts after the stream that issued last. -/
def State.issueTurn (s : State) (c n : Nat) : Bool :=
  let from_ := fun m => (m + 3 - (s.core c).last) % 4
  (List.range 4).all fun m => m == n || !((s.rd CORE.CTRL.stream_en c).testBit m && s.sn c m == snREADY) || decide (from_ n < from_ m)

/-- A stream may issue: enabled, not halted, ready (or retrying on a full queue), its core present and its control engine working, its turn
come (R71). (DESIGN CHOICE, assumption 149) -/
def State.canIssue (s : State) (c n : Nat) : Bool :=
  s.tileUp (c / 64) && (s.rd CORE.CTRL.stream_en c).testBit n && !s.is CORE.CTRL.halt c && s.corePresent c && !s.is CORE.ENGINE_STATE.ce_ae_failed c &&
    (s.sn c n == snREADY || s.sn c n == snFULL) && s.issueTurn c n

/-- One instruction issues: it is counted and the program counter advances, unless the instruction sets it. -/
def State.issue (s : State) (c n : Nat) (act : State → State) : State :=
  if s.canIssue c n then
    let s := s.setCore c { s.core c with last := n }
    act (((s.setSn c n snREADY).wr CORE.PC.pc (s.rd CORE.PC.pc c n + 4) c n).add CORE.PERF.count 1 c 0)
  else s

/-! Reads that race with the access engine (R91). -/

/-- Bytes of core stores laid down, unless the state is the same. -/
def State.layWords (s : State) (ws : List (Nat × List Byte)) : State := ws.foldr (fun x s => s.sramSetList (8 * x.1) x.2) s

/-- R91: an engine reads while descriptors that are not complete have written words of its core's store: of each such word it sees the old value or
the new one, as a free value says. A word it does not write keeps the new value. (DESIGN CHOICE, assumption 5) -/
def State.raced (s : State) (c : Nat) (act : State → State) : State :=
  let rs := (s.core c).racing
  if rs.isEmpty then act s
  else
    let old := (rs.zipIdx.filter fun x => Config.freeValue (s.free + x.2) % 2 == 1).map fun x => x.1.2
    let view := (s.putFree (s.free + rs.length)).layWords old
    let t := act view
    t.layWords ((old.filter fun x => t.sramBytes (8 * x.1) 8 == view.sramBytes (8 * x.1) 8).map fun x => (x.1, s.sramBytes (8 * x.1) 8))

/-- A descriptor writes to its core's store; what the words held before is kept until it completes (R91). (DESIGN CHOICE, assumption 5) -/
def State.putLocal (s : State) (c id off : Nat) (bs : List Byte) : Bool × State :=
  let key := coreKey c off
  let ws := (List.range (if bs.isEmpty then 0 else (key + bs.length - 1) / 8 + 1 - key / 8)).map fun i => (id, key / 8 + i, s.sramBytes (8 * (key / 8 + i)) 8)
  let (ok, s) := s.corePut c off bs
  (ok, s.setCore c { s.core c with racing := (s.core c).racing ++ ws })

/-- A malformed or faulting instruction stops its stream. -/
def State.instrFault (s : State) (c n code off : Nat) : State := (s.coreFaultAt c uCE n code off).setSn c n snSTOP

/-- A CE access of k bytes at an offset that 22 bits name (R72). (DEDUCED, assumption 40) -/
def ceCross (off k : Nat) : Bool := off + k > 2 ^ 22

/-- The ALU's result; `none` where a shift by 64 or more leaves it open (PRESUMED, assumption 38). -/
def aluValue (op : AluOp) (x y : Nat) : Option Nat :=
  match op with
  | .add => some ((x + y) % 2 ^ 64)
  | .sub => some ((x + 2 ^ 64 - y) % 2 ^ 64)
  | .mul => some (x * y % 2 ^ 64)
  | .and => some (x &&& y)
  | .or => some (x ||| y)
  | .xor => some (x ^^^ y)
  | .shl => if y < 64 then some (x * 2 ^ y % 2 ^ 64) else none
  | .shr => if y < 64 then some (x / 2 ^ y) else none
  | .sar => if y < 64 then some (toPat 64 (sext 64 x / 2 ^ y)) else none
  | .eq => some (if x = y then 1 else 0)
  | .ne => some (if x = y then 0 else 1)
  | .lt => some (if sext 64 x < sext 64 y then 1 else 0)
  | .ltu => some (if x < y then 1 else 0)
  | .mov => some y

/-- ALU (R72). -/
def execAlu (c : CoreId) (n : StreamId) (op : AluOp) (d a b : GReg) (imm : Option (BitVec 16)) (s : State) : Host.Outcome State Fault Refusal :=
  .next (s.issue c n fun s =>
    let y := match imm with | some i => toPat 64 (sext 16 i.toNat) | none => s.g c n b
    match aluValue op (s.g c n a) y with
    | some v => s.setG c n d v
    | none => s.setG c n d (Config.openValue 0 [(if op = .shl then 0 else if op = .shr then 1 else 2), s.g c n a, y]))

/-- The core-store offset of a CE access: base plus signed offset, cut to 22 bits. (PRESUMED, assumption 38) -/
def State.ceAddr (s : State) (c n a off : Nat) : Nat := (s.g c n a + toPat 64 (sext 16 off)) % 2 ^ 22

/-- LD (R72, R90); `upset`: 1 the word read holds a correctable error, 2 an uncorrectable one. -/
def execLd (c : CoreId) (n : StreamId) (d a : GReg) (off : BitVec 16) (size : Fin 4) (upset : Fin 3) (s : State) : Host.Outcome State Fault Refusal :=
  .next (s.issue c n fun s =>
    let o := s.ceAddr c n a off.toNat
    let k := 2 ^ size.val
    if ceCross o k then s.instrFault c n fADDR_FAULT o
    else
      let s := if upset = 0 then s else s.putSramBad (Assoc.put 0 s.sramBad (coreKey c o / 8) (3 - upset.val))
      s.raced c fun s =>
        match s.coreRead c o k with
        | some bs => (s.coreSee c o k).setG c n d (leNat bs)
        | none => s.instrFault c n fSRAM_UE (s.badOff c o k))

/-- ST (R72, R90). -/
def execSt (c : CoreId) (n : StreamId) (d a : GReg) (off : BitVec 16) (size : Fin 4) (s : State) : Host.Outcome State Fault Refusal :=
  .next (s.issue c n fun s =>
    let o := s.ceAddr c n a off.toNat
    let k := 2 ^ size.val
    if ceCross o k then s.instrFault c n fADDR_FAULT o
    else
      let (ok, s) := s.corePut c o (leBytes k (s.g c n d))
      if ok then s else s.instrFault c n fSRAM_UE (s.badOff c o k))

/-- BR, BRC, CALL and RET (R72). -/
def State.branch (s : State) (c n pc off : Nat) : State := s.wr CORE.PC.pc (Config.branchTarget pc off) c n
def execBr (c : CoreId) (n : StreamId) (off : BitVec 16) (s : State) : Host.Outcome State Fault Refusal :=
  .next (let pc := s.rd CORE.PC.pc c n; s.issue c n fun s => s.branch c n pc off.toNat)
def execBrc (c : CoreId) (n : StreamId) (a : GReg) (off : BitVec 16) (s : State) : Host.Outcome State Fault Refusal :=
  .next (let pc := s.rd CORE.PC.pc c n
         s.issue c n fun s => if Config.branchTaken (s.g c n a) off.toNat then s.branch c n pc off.toNat else s)
/-- PRESUMED assumption 38. -/
def execCall (c : CoreId) (n : StreamId) (d : GReg) (off : BitVec 16) (s : State) : Host.Outcome State Fault Refusal :=
  .next (let pc := s.rd CORE.PC.pc c n; s.issue c n fun s => (s.setG c n d (pc + 4)).branch c n pc off.toNat)
/-- PRESUMED assumption 38. -/
def execRet (c : CoreId) (n : StreamId) (a : GReg) (s : State) : Host.Outcome State Fault Refusal :=
  .next (s.issue c n fun s => s.wr CORE.PC.pc (s.g c n a) c n)

/-- The instruction stalls: it has not issued; the stream shows what it waits for. -/
def State.stall (s : State) (c n : Nat) (old : State) (sn : Nat) : State :=
  (((s.wr CORE.PC.pc (old.rd CORE.PC.pc c n) c n).wr CORE.PERF.count (old.rd CORE.PERF.count c 0) c 0).setCore c
    { s.core c with last := (old.core c).last }).setSn c n sn

/-- ISSUE (R72): engines 1 to 4 are ME0 to ME3, 5 and 6 VE0 and VE1; at most 8 commands wait in a queue. -/
def execIssue (c : CoreId) (n : StreamId) (a : GReg) (engine : Fin 8) (s : State) : Host.Outcome State Fault Refusal :=
  .next (let old := s
    s.issue c n fun s =>
      let e := engine.val - 1
      let o := s.g c n a % 2 ^ 22
      if engine.val = 0 ∨ engine.val = 7 then s.instrFault c n fDESC_FAULT 0
      else if ((s.core c).cmds.filter (fun k => k.engine == e && k.stream == n.val && k.phase == 0)).length ≥ 8 then s.stall c n old snFULL
      else if ceCross o 32 then s.instrFault c n fADDR_FAULT o
      else s.raced c fun s => match s.coreRead c o 32 with
        | some bs =>
          let s := s.coreSee c o 32
          let x := s.core c
          s.setCore c { x with next := x.next + 1, cmds := x.cmds ++ [EngCmd.mk x.next n e (leNat bs) 0 false e] }
        | none => s.instrFault c n fSRAM_UE (s.badOff c o 32))

/-- DPOST (R72): at most 64 descriptors of a stream are outstanding. -/
def execDpost (c : CoreId) (n : StreamId) (a : GReg) (s : State) : Host.Outcome State Fault Refusal :=
  .next (let old := s
    s.issue c n fun s =>
      let o := s.g c n a % 2 ^ 22
      if s.aeOut c n ≥ 64 then s.stall c n old snFULL
      else if ceCross o 64 then s.instrFault c n fADDR_FAULT o
      else s.raced c fun s => match s.coreRead c o 64 with
        | some bs =>
          let s := s.coreSee c o 64
          let x := s.core c
          s.setCore c { x with next := x.next + 1, descs := x.descs ++ [Desc.mk x.next n (leNat bs) 0 false [] []] }
        | none => s.instrFault c n fSRAM_UE (s.badOff c o 64))

/-- SIGNAL (R72, R78). -/
def execSignal (c : CoreId) (n : StreamId) (flag k : Fin 256) (s : State) : Host.Outcome State Fault Refusal :=
  .next (s.issue c n fun s => s.addFlag c flag k uCE n)

/-- WAITF (R72, R77): goes on at once where the flag suffices after those served before it. -/
def execWaitf (c : CoreId) (n : StreamId) (flag k : Fin 256) (consume : Bool) (s : State) : Host.Outcome State Fault Refusal :=
  .next (s.issue c n fun s =>
    if s.mayTake c (10 + n) [(flag.val, k.val)] then (if consume then s.takeFlags c [(flag.val, k.val)] else s)
    else (s.setStrm c n { s.strm c n with flag := flag, count := k, consume := consume }).setSn c n snFLAG)

/-- WAITF_SATISFIED (R77). -/
def execWaitfSatisfied (c : CoreId) (n : StreamId) (s : State) : Host.Outcome State Fault Refusal :=
  .next (
    let x := s.strm c n
    if s.sn c n = snFLAG ∧ s.mayTake c (10 + n) [(x.flag, x.count)] then
      (if x.consume then s.takeFlags c [(x.flag, x.count)] else s).setSn c n snREADY
    else s)

/-- Writes and atomics of a stream to other modules, of work numbered below a mark, that are not acknowledged yet (R99, R252). -/
def State.unacked (s : State) (c n mark : Nat) : Bool :=
  s.fab.flights.any fun f => f.core == some c && f.stream == n && f.desc < mark && (f.pkt.type == 1 || f.pkt.type == 4)

/-- Work of a stream (scope 3: of the core) posted before a fence is complete (R99); for SYSTEM, its packets are acknowledged (R252). -/
def State.fenceMet (s : State) (c n scope mark : Nat) : Bool :=
  let mine := fun (str id : Nat) => (scope == 3 || str == n) && id < mark
  !(s.core c).descs.any (fun d => mine d.stream d.id) && !(s.core c).cmds.any (fun k => mine k.stream k.id) &&
    (scope != 2 || !s.unacked c n mark)

/-- FENCE (R99). -/
def State.fence (s : State) (c n scope : Nat) (ending : Bool) : State :=
  (s.setStrm c n { s.strm c n with fence := some (scope, (s.core c).next, ending) }).setSn c n snFENCE
def execFence (c : CoreId) (n : StreamId) (scope : Fin 4) (s : State) : Host.Outcome State Fault Refusal :=
  .next (s.issue c n fun s => s.fence c n scope false)

/-- FENCE_COMPLETE (R99, R74): the condition holds; a STEP_END's fence brings the stream to step end. -/
def execFenceComplete (c : CoreId) (n : StreamId) (s : State) : Host.Outcome State Fault Refusal :=
  .next (match (s.strm c n).fence with
    | some (scope, mark, ending) =>
      if s.sn c n = snFENCE ∧ s.fenceMet c n scope mark then
        (s.setStrm c n { s.strm c n with fence := none }).setSn c n (if ending then snEND else snREADY)
      else s
    | none => s)

/-- BEAT (R72, R571): 0 while no count runs. -/
def execBeatRead (c : CoreId) (n : StreamId) (d : GReg) (s : State) : Host.Outcome State Fault Refusal :=
  .next (s.issue c n fun s => s.setG c n d (if s.counting then s.beat.count else 0))

/-- WAITBEAT (R72, R571): the count reads 0 while none runs. -/
def State.beatReached (s : State) (b : Nat) : Bool := b ≤ (if s.counting then s.beat.count else 0)
def execWaitbeat (c : CoreId) (n : StreamId) (a : GReg) (s : State) : Host.Outcome State Fault Refusal :=
  .next (s.issue c n fun s =>
    if s.beatReached (s.g c n a) then s else (s.setStrm c n { s.strm c n with deadline := s.g c n a }).setSn c n snBEAT)

/-- WAITBEAT_EXPIRE (R72). -/
def execWaitbeatExpire (c : CoreId) (n : StreamId) (s : State) : Host.Outcome State Fault Refusal :=
  .next (if s.sn c n = snBEAT ∧ s.beatReached (s.strm c n).deadline then s.setSn c n snREADY else s)

/-- STEPNUM (R283): the work number of the running step. -/
def execStepnum (c : CoreId) (n : StreamId) (d : GReg) (s : State) : Host.Outcome State Fault Refusal :=
  .next (s.issue c n fun s => s.setG c n d (match s.partOfCore c with | some p => s.rd MOD.PART_WORK.work 0 p | none => 0))

/-- STEP_END (R74, R218): a stream that keeps a packet open raises PACKET_FAULT. -/
def execStepEnd (c : CoreId) (n : StreamId) (s : State) : Host.Outcome State Fault Refusal :=
  .next (s.issue c n fun s => if (s.openOf c n).isSome then s.instrFault c n fPACKET_FAULT 0 else s.fence c n 1 true)

/-- RESERVED_OPCODE (R72): a major opcode of no row of Table 3.3. -/
def reservedMajor (m : Nat) : Bool := !(m < 0x18 || (0x20 ≤ m && m ≤ 0x29) || m == 0x2F)
def execReservedOpcode (c : CoreId) (n : StreamId) (major : Fin 64) (s : State) : Host.Outcome State Fault Refusal :=
  .next (if reservedMajor major then s.issue c n fun s => s.instrFault c n fDESC_FAULT (s.rd CORE.PC.pc c n - 4) else s)

/-! Failed engines and spares (R100 to R103). -/

/-- A core works without a kind of engine it needs (R102). -/
def State.lacksEngine (s : State) (c : Nat) : Bool :=
  s.rd CORE.ENGINE_STATE.me_failed c == 15 || s.rd CORE.ENGINE_STATE.ve_failed c == 3 || s.is CORE.ENGINE_STATE.ce_ae_failed c

/-- Free spares of a tile. -/
def State.spareList (s : State) (t : Nat) : List Nat := (List.range 68).filter (fun p => s.rd SPARE.PSTATE.state t p == 1)

/-- STATUS.spares_left and the events at one and none left (R106). -/
def State.countSpares (s : State) (t : Nat) : State :=
  let n := (s.spareList t).length
  let old := s.rd SPARE.STATUS.spares_left t
  let s := s.wr SPARE.STATUS.spares_left n t
  if n < old ∧ n = 1 then s.raise Ev.SPARES_LOW t else s

/-- R102: a logical core becomes absent; its partition parks at its next boundary. -/
def State.coreAbsent (s : State) (c : Nat) : State :=
  let t := c / 64
  let (_, s) := s.keepTouch (0x290 + t)
  let s := (s.wr CORE.STATUS.state 0 c).wr SPARE.MAP.present 0 t (c % 64)
  let s := s.wr SPARE.PSTATE.state 3 t (s.rd SPARE.MAP.phys t (c % 64))
  let s := ((s.add SPARE.RETIRED_COUNT.count 1 t).raise Ev.SPARES_EXHAUSTED t).raise Ev.CORE_ABSENT t
  match s.partOfCore c with
  | some p => if s.rd MOD.PART_STATE.state 0 p = 0 then s else s.setCause p 3
  | none => s

/-- Logical cores of a tile whose copies run. -/
def State.copying (s : State) (t : Nat) : List Nat :=
  (List.range 64).filter fun l => (s.core (64 * t + l)).spare.isSome && !(s.core (64 * t + l)).copied
/-- The copy that began first; of several that began together, that of the lowest core. -/
def State.oldestCopy (s : State) (t : Nat) : Option Nat :=
  (s.copying t).foldl (fun best l => match best with
    | some b => if (s.core (64 * t + l)).spareAt < (s.core (64 * t + b)).spareAt then some l else some b
    | none => some l) none
/-- STATUS shows the copy that began first (DESIGN CHOICE, assumption 157). -/
def State.showCopy (s : State) (t : Nat) : State :=
  match s.oldestCopy t with
  | some l => ((s.wr SPARE.STATUS.copy_active 1 t).wr SPARE.STATUS.copy_logical l t).wr SPARE.STATUS.copy_kib 0 t
  | none => s.wr SPARE.STATUS.copy_active 0 t

/-- The copy of a core's store to a physical spare starts (R101). -/
def State.startCopy (s : State) (c p : Nat) : State :=
  let t := c / 64
  let s := s.setCore c { s.core c with spare := some p, copied := false, spareAt := s.now, told := false }
  ((((s.wr SPARE.PSTATE.state 2 t p).wr CORE.STATUS.state 3 c)).showCopy t).countSpares t

/-- A core waits for a spare: degraded, with a CORE_FAULT or retired in advance, and none taken yet. -/
def State.wantsSpare (s : State) (c : Nat) : Bool :=
  s.corePresent c && (s.core c).spare.isNone && (s.rd CORE.STATUS.state c == 2 || s.rd CORE.STATUS.state c == 3 || s.is CORE.ENGINE_STATE.ce_ae_failed c)

/-- R101 to R103: a waiting core takes the first free spare, or one under test; with none, it degrades, which is reported once, or becomes
absent. -/
def State.serveSpare (s : State) (c : Nat) : State :=
  let t := c / 64
  match s.spareList t with
  | p :: _ => s.startCopy c p
  | [] =>
    match s.tests.find? (fun r => r.type == btCore && r.prior == 1 && r.inst / 68 == t) with
    | some r =>
      let s := s.logTest { r with result := 4, cut := 7 }
      (s.wr SPARE.TEST_RESULT.result 4 t).startCopy c (r.inst % 68)
    | none =>
      if s.lacksEngine c then s.coreAbsent c
      else if s.rd CORE.STATUS.state c = 2 ∧ (s.core c).told = false then
        (s.setCore c { s.core c with told := true }).raise Ev.CORE_DEGRADED c
      else s

/-- R101, R102: every waiting core of a tile is served, the lowest logical number first. (DEDUCED, assumption 39) -/
def State.serveSpares (s : State) (t : Nat) : State :=
  if !s.is SPARE.CTRL.auto t || s.is SPARE.CTRL.hold t then s
  else s.forEach 64 (fun s l => s.wantsSpare (64 * t + l)) (fun s l => s.serveSpare (64 * t + l))

/-- R100: an engine of the core fails its repeat: ENGINE_FAULT; its sibling serves its queue. -/
def State.engineFails (s : State) (c e stream : Nat) : State :=
  let s := if e < 4 then s.setBit CORE.ENGINE_STATE.me_failed e true c else s.setBit CORE.ENGINE_STATE.ve_failed (e - 4) true c
  let s := (s.noteCode c (uME e) stream 0x23 0).raise Ev.ENGINE_FAULT c
  let s := if s.rd CORE.STATUS.state c = 1 then s.wr CORE.STATUS.state 2 c else s
  s.serveSpares (c / 64)

/-- CORE_FAULT (R100): a control or access engine fails; the core's streams stop. -/
def execCoreFault (c : CoreId) (ae : Bool) (s : State) : Host.Outcome State Fault Refusal :=
  .next (
    if !s.corePresent c then s
    else
      let s := s.wr CORE.ENGINE_STATE.ce_ae_failed 1 c
      let s := s.coreFaultAt c (if ae then uAE else uCE) 0 fCORE_FAULT 0
      let s := (List.range 4).foldl (fun s n => if s.sn c n = snIDLE then s else s.setSn c n snSTOP) s
      s.serveSpares (c.val / 64))

/-- R101: a core is bound to its spare. The store, tiles, flags and registers move with it; the old physical core is
retired. SPARE.CTRL.hold defers it (R106). -/
def State.substitute (s : State) (c : Nat) : State :=
  match (s.core c).spare with
  | some p =>
    if (s.core c).copied && !s.is SPARE.CTRL.hold (c / 64) then
      let t := c / 64
      let (_, s) := s.keepTouch (0x290 + t)
      let s := s.wr SPARE.PSTATE.state 3 t (s.rd SPARE.MAP.phys t (c % 64))
      let s := (s.wr SPARE.MAP.phys p t (c % 64)).wr SPARE.PSTATE.state 0 t p
      let s := (((s.wr CORE.STATUS.state 1 c).wr CORE.ENGINE_STATE.me_failed 0 c).wr CORE.ENGINE_STATE.ve_failed 0 c).wr
        CORE.ENGINE_STATE.ce_ae_failed 0 c
      let s := s.setCore c { s.core c with spare := none, copied := false }
      (s.add SPARE.RETIRED_COUNT.count 1 t).raise Ev.SUBSTITUTED t
    else s
  | none => s

/-- SPARE_COPY_COMPLETE (R101): the copy shown ends; a core that no running partition holds is bound at once (DEDUCED, assumption 39). (DESIGN CHOICE, assumption 157) -/
def execSpareCopyComplete (t : TileId) (s : State) : Host.Outcome State Fault Refusal :=
  .next (
    if s.is SPARE.STATUS.copy_active t then
      let c := 64 * t.val + s.rd SPARE.STATUS.copy_logical t
      let s := s.wr SPARE.STATUS.copy_kib 4096 t
      let s := (s.setCore c { s.core c with copied := true }).showCopy t
      let s := if (s.partOfCore c).isNone then s.substitute c else s
      s.serveSpares t
    else s)

/-- CORE_RETIRE (R103): follows R101 without a step error. -/
def execCoreRetire (m : MasterId) (t : TileId) (logical : Fin 64) (s : State) : Host.Outcome State Fault Refusal :=
  .next (s.gate m .SPARE t 0x188 fun s =>
    let c := 64 * t.val + logical.val
    if s.corePresent c && (s.core c).spare.isNone then (s.wr CORE.STATUS.state 3 c).serveSpares t else s)

/-- CORE_TEST (R103, R519): a spare or retired physical core; one in service returns BUSY. -/
def execCoreTest (m : MasterId) (t : TileId) (phys : Fin 128) (s : State) : Host.Outcome State Fault Refusal :=
  .next (s.gate m .SPARE t 0x18C fun s =>
    let st := s.rd SPARE.PSTATE.state t phys
    let inst := 68 * t.val + phys.val
    if phys.val < 68 ∧ (st = 1 ∨ st = 3 ∨ st = 5) ∧ s.testBusy btCore inst = false then
      (((s.startTest btCore inst st).wr SPARE.PSTATE.state 4 t phys).wr SPARE.TEST_RESULT.result 1 t).countSpares t
    else s.wr SPARE.TEST_RESULT.result 5 t)

end Sys2Proof.Machine
end

