-- ==== Sys2Proof/Machine/Access.lean ====
section
/-! DEFINITION. The access engine: descriptors (R79 to R88), their start, data movement and completion (R76, R80, R81, R248). A read from
another module goes out as GET_REQ packets; the descriptor's command may run again once the answers have come. -/

namespace Sys2Proof.Machine

/-- Word w of a descriptor, bits hi..lo. -/
def dw (words w hi lo : Nat) : Nat := bits (words / 2 ^ (32 * w)) hi lo
def descKind (d : Desc) : Nat := dw d.words 0 3 0
def descLocal (d : Desc) : Nat := dw d.words 1 21 0
def descRemote (d : Desc) : Nat := dw d.words 2 63 0

/-- Bits of words 4 to 15 that a kind's table defines (Tables 3.5 to 3.8, R87, R88). -/
def kindMask (kind : Nat) : List Nat :=
  let f := 0xFFFFFFFF
  if kind = 0 then [f, f, f, f, f, f, f, f]
  else if kind = 1 ∨ kind = 2 then [0x7FFFFF, 0xFFFFFF, 0xFFFF, f, 0xFFFFFF]
  else if kind = 3 ∨ kind = 4 then [0xFFFFFF, 0xFFFFFF, f, f, f, f, 3, 0x3FFFFF, 0xFFFFFF]
  else if kind = 5 then [0xFFFFFF, 0xFFFFFF, 0x3F3F, f]
  else if kind = 6 then [0xF, 0xFFFF, 0x3FFFFF]
  else if kind = 7 then [0x107, 0xFFFFFF]
  else []

/-- A 1 in a reserved bit (R79, R80). -/
def reservedBits (w : Nat) : Bool :=
  let kind := dw w 0 3 0
  kind > 7 || (kind != 0 && dw w 0 4 4 == 1) || dw w 1 31 22 != 0 ||
    (List.range 12).any fun i => let m := (kindMask kind).getD i 0; (dw w (4 + i) 31 0 &&& m) != dw w (4 + i) 31 0

/-- Further malformations of R80, R82, R83, R86 and R87. -/
def malformed (w : Nat) : Bool :=
  let kind := dw w 0 3 0
  reservedBits w || (dw w 0 5 5 == 1 && dw w 0 31 24 == 0) ||
    (if kind = 0 then (List.range 6).any (fun i => bits (w / 2 ^ 128) (16 * i + 15) (16 * i) == 0)
     else if kind = 1 ∨ kind = 2 then dw w 5 23 0 == 0 || dw w 6 15 0 < 8 || dw w 6 15 0 % 8 != 0
     else if kind = 5 then dw w 4 23 22 == 3 || dw w 6 5 0 == 0 || dw w 6 5 0 > 40 || dw w 6 13 8 == 0
     else if kind = 6 then dw w 2 63 0 != 0
     else false)

/-- The core-store areas a descriptor names: offset and length. -/
def localAreas (w : Nat) : List (Nat × Nat) :=
  let kind := dw w 0 3 0
  let loc := dw w 1 21 0
  let cnt := dw w 5 23 0
  if kind = 0 then [(loc, ((List.range 6).map fun i => bits (w / 2 ^ 128) (16 * i + 15) (16 * i)).foldl (· * ·) 1)]
  else if kind = 1 ∨ kind = 2 then
    let row := dw w 6 15 0
    let stride := if dw w 8 23 0 = 0 then row else dw w 8 23 0
    [(loc, (cnt - 1) * stride + row), (dw w 4 21 0, cnt * (if dw w 4 22 22 = 1 then 8 else 4))]
  else if kind = 3 ∨ kind = 4 then
    [(loc, dw w 12 23 0 * (if dw w 4 23 23 = 1 then 16 else 8)), (dw w 4 21 0, cnt * 4), (dw w 11 21 0, 8)]
  else if kind = 5 then
    let big := dw w 4 23 22 = 2
    [(loc, cnt * (if big then 32 else 16)), (dw w 4 21 0, cnt * 2 ^ (2 + dw w 4 23 22))]
  else if kind = 6 then [(loc, dw w 5 15 0 * 32), (dw w 6 21 0, 32)]
  else [(loc, cnt * 16)]

def State.descAt (s : State) (c n i : Nat) : Option Desc := ((s.core c).descs.filter (fun d => d.stream == n))[i]?
def State.setDesc (s : State) (c : Nat) (d : Desc) : State :=
  s.setCore c { s.core c with descs := (s.core c).descs.map (fun e => if e.id = d.id then d else e) }

/-- R104: a descriptor stops by a fault: it moves nothing more and will signal nothing. -/
def State.descFault (s : State) (c : Nat) (d : Desc) (code addr : Nat) : State :=
  let own := addr / 2 ^ 22 == coreAddr c 0 / 2 ^ 22 && code == fSRAM_UE
  let s := s.coreFault c uAE d.stream code (if own then addr % 2 ^ 22 else addr) addr
  s.setDesc c { d with phase := 2, fault := true }

/-- DESC_START (R76, R79, R80). A descriptor is checked when it starts, its wait counts taken, and not when it is posted
(DESIGN CHOICE, assumption 158). -/
def execDescStart (c : CoreId) (n : StreamId) (s : State) : Host.Outcome State Fault Refusal :=
  .next (match s.nextDesc c n with
    | some d =>
      if s.mayTake c n (descWaits d.words) then
        let s := s.takeFlags c (descWaits d.words)
        if malformed d.words then s.descFault c d fDESC_FAULT 0
        else if (localAreas d.words).any (fun a => a.1 + a.2 > 2 ^ 22) then s.descFault c d fADDR_FAULT (coreAddr c (descLocal d))
        else s.setDesc c { d with phase := 1 }
      else s
    | none => s)

/-! Bytes of another module that have arrived, and those still to be asked for. -/

def cacheBytes (cache : List Host.Cell) (addr : Nat) : Nat → Option (List Byte)
  | 0 => some []
  | n + 1 => match cache.find? (fun x => x.1 == addr), cacheBytes cache (addr + 1) n with
    | some x, some bs => some (x.2 :: bs)
    | _, _ => none

/-- Ask for pieces of other modules that have not been asked for (R248, R249); a fault where R244 or R245 says so. The standby of a pair asks
nobody outside it and gets open bytes (R290; DESIGN CHOICE, assumption 153). (DESIGN CHOICE, assumption 44) -/
def State.askRemote (s : State) (c : Nat) (p : Nat) (d : Desc) (pieces : List (Nat × Nat)) : State :=
  let t := c / 64
  let new := pieces.filter (fun x => !d.asked.contains x)
  let pkts := (mergePieces new).flatMap (fun x => cutPackets (x.2 / 4096 + 2) x.1 x.2)
  let go : State × List Host.Cell × Bool := pkts.foldl (fun (acc : State × List Host.Cell × Bool) x =>
    let (s, cache, ok) := acc
    if !ok then acc
    else if s.suppressed (some p) t (x.1 / 2 ^ 46) then
      let (v, s) := s.fresh
      (s, cache ++ ((leBytes x.2 v).zipIdx.map fun y => (x.1 + y.2, y.1)), true)
    else match s.sendFlow t ⟨some p, some c, d.id, 0, d.stream, false⟩ 2 3 (x.1 / 2 ^ 46) (x.1 % 2 ^ 46) x.2 0 [] false with
      | some s => (s, cache, true)
      | none => (s, cache, false)) (s, d.cache, true)
  if go.2.2 then go.1.setDesc c { d with asked := d.asked ++ new, cache := go.2.1 } else s.descFault c d 0x48 (new.headD (0, 0)).1

/-- What a read for a descriptor answers: bytes, a fault, or a piece of another module that is still to come. (DESIGN CHOICE, assumption 44) -/
inductive Got where
  | bytes (bs : List Byte)
  | fault (code addr : Nat)
  | wait (addr n : Nat)
deriving DecidableEq, Repr

/-- R29, R30, R248: read n bytes at a global address for a descriptor of core c. (DESIGN CHOICE, assumption 44) (DESIGN CHOICE, assumption 151) -/
def State.fetch (s : State) (c p : Nat) (d : Desc) (addr n : Nat) : Got × State :=
  if s.isRemote (c / 64) addr then
    match cacheBytes d.cache addr n with
    | some bs => (.bytes bs, s.add CORE.PERF.count n c 3)
    | none => (.wait addr n, s)
  else
    match s.memRead p (addr % 2 ^ 46) n .tile (some c) with
    | (.ok bs, s) => (.bytes bs, s.add CORE.PERF.count n c 3)
    | (.error (code, a), s) => (.fault code a, s)

/-- One piece of a transfer: global address, core-store offset, bytes. -/
structure Piece where
  remote : Nat
  loc : Nat
  n : Nat
deriving DecidableEq, Repr

/-- R80: the first piece of this module that the partition does not own. -/
def State.badPiece (s : State) (c p : Nat) (ps : List Piece) : Option Nat :=
  (ps.find? fun x => !s.isRemote (c / 64) x.remote && !s.ownsRange p (x.remote % 2 ^ 46) x.n).map fun x => x.remote % 2 ^ 46

/-- Move pieces into the core store, in order, until a fault. (DEDUCED, assumption 46) -/
def State.moveIn (s : State) (c p : Nat) (d : Desc) : List Piece → State
  | [] => s.setDesc c { d with phase := 2 }
  | x :: xs =>
    match s.fetch c p d x.remote x.n with
    | (.bytes bs, s) =>
      let (ok, s) := s.putLocal c d.id x.loc bs
      if ok then State.moveIn s c p d xs else s.descFault c d fSRAM_UE (coreAddr c (s.badOff c x.loc x.n))
    | (.fault code a, s) => s.descFault c d code a
    | (.wait _ _, s) => s

/-- Fill the core store from pieces: check, ask, and move once everything has come. -/
def State.fill (s : State) (c p : Nat) (d : Desc) (ps : List Piece) : State :=
  match s.badPiece c p ps with
  | some a => s.descFault c d fADDR_FAULT a
  | none =>
    let missing := (ps.filter fun x => s.isRemote (c / 64) x.remote && (cacheBytes d.cache x.remote x.n).isNone).map fun x => (x.remote, x.n)
    if missing.isEmpty then s.moveIn c p d ps else s.askRemote c p d missing

/-- Merge address-contiguous writes to another module, with their bytes (R248). -/
def mergeWrites : List (Nat × List Byte) → List (Nat × List Byte)
  | [] => []
  | (a, bs) :: rest =>
    match mergeWrites rest with
    | (b, cs) :: more => if a + bs.length = b then (a, bs ++ cs) :: more else (a, bs) :: (b, cs) :: more
    | [] => [(a, bs)]

/-- Send the writes of a descriptor to other modules as PUT packets (R248 to R250). (DESIGN CHOICE, assumption 151) -/
def State.putRemote (s : State) (c p : Nat) (d : Desc) (ws : List (Nat × List Byte)) : State :=
  let t := c / 64
  let pkts := (mergeWrites ws).flatMap fun w => (cutPackets (w.2.length / 4096 + 2) w.1 w.2.length).map fun x => (x.1, (w.2.drop (x.1 - w.1)).take x.2)
  let go : State × Bool := pkts.foldl (fun (acc : State × Bool) x =>
    if acc.2 then
      match acc.1.sendFlow t ⟨some p, some c, d.id, 0, d.stream, false⟩ 1 3 (x.1 / 2 ^ 46) (x.1 % 2 ^ 46) x.2.length 0 x.2 false with
      | some s => (s.add CORE.PERF.count x.2.length c 4, true)
      | none => (acc.1, false)
    else acc) (s, true)
  if go.2 then go.1.setDesc c { d with phase := 2 } else s.descFault c d 0x48 (ws.headD (0, [])).1

/-- Move pieces out of the core store, in order, until a fault; bytes for other modules are gathered. (DEDUCED, assumption 46) -/
def State.moveOut (s : State) (c p : Nat) (d : Desc) (out : List (Nat × List Byte)) : List Piece → State
  | [] => s.putRemote c p d out
  | x :: xs =>
    match s.coreRead c x.loc x.n with
    | none => s.descFault c d fSRAM_UE (coreAddr c (s.badOff c x.loc x.n))
    | some bs =>
      let s := s.coreSee c x.loc x.n
      if s.isRemote (c / 64) x.remote then State.moveOut s c p d (out ++ [(x.remote, bs)]) xs
      else
        match s.memWrite p (x.remote % 2 ^ 46) bs with
        | (.ok _, s) => State.moveOut (s.add CORE.PERF.count bs.length c 4) c p d out xs
        | (.error (code, a), s) => s.descFault c d code a

/-- Writes wait while a message of the tile to the same tile is on its way over Midway (R234). (DEDUCED, assumption 46) -/
def State.drain (s : State) (c p : Nat) (d : Desc) (ps : List Piece) : State :=
  match s.badPiece c p ps with
  | some a => s.descFault c d fADDR_FAULT a
  | none => if ps.any (fun x => !s.isRemote (c / 64) x.remote && s.midBehind (c / 64) (x.remote % 2 ^ 46)) then s else s.moveOut c p d [] ps

/-- A started descriptor of a kind runs for the partition that holds its core. (DESIGN CHOICE, assumption 5) -/
def State.runDesc (s : State) (c n i kind : Nat) (act : State → Nat → Desc → State) : State :=
  match s.descAt c n i, s.partOfCore c with
  | some d, some p => if d.phase = 1 ∧ descKind d = kind then act s p d else s
  | _, _ => s

/-- Remote addresses of an AFFINE descriptor in visiting order, dimension 1 innermost after the run (R82). -/
def affineAddrs (w : Nat) : List Nat :=
  let cnt := fun i => bits (w / 2 ^ 128) (16 * i + 15) (16 * i)
  let str := fun i => toPat 64 (sext 32 (dw w (6 + i) 31 0))
  (List.range 5).foldl (fun l i => (List.range (cnt (i + 1))).flatMap fun k => l.map fun a => (a + k * str (i + 1)) % 2 ^ 64) [dw w 2 63 0]

def affinePieces (w : Nat) : List Piece :=
  let n := bits (w / 2 ^ 128) 15 0
  (affineAddrs w).zipIdx.map fun x => ⟨x.1, dw w 1 21 0 + x.2 * n, n⟩

/-- AFFINE (R82). -/
def execAffine (c : CoreId) (n : StreamId) (i : Fin 64) (s : State) : Host.Outcome State Fault Refusal :=
  .next (s.runDesc c n i 0 fun s p d =>
    if dw d.words 0 4 4 = 0 then s.fill c p d (affinePieces d.words) else s.drain c p d (affinePieces d.words))

/-- The rows of a GATHER or SCATTER, from the index list in the core store (R83). -/
def rowPieces (w : Nat) (idx : List Byte) : List Piece :=
  let k := if dw w 4 22 22 = 1 then 8 else 4
  let row := dw w 6 15 0
  let stride := if dw w 8 23 0 = 0 then row else dw w 8 23 0
  (List.range (dw w 5 23 0)).map fun i =>
    ⟨(dw w 2 63 0 + leNat ((idx.drop (k * i)).take k) * dw w 7 31 0) % 2 ^ 64, dw w 1 21 0 + i * stride, row⟩

def State.withIndices (s : State) (c : Nat) (d : Desc) (act : State → List Piece → State) : State :=
  let n := dw d.words 5 23 0 * (if dw d.words 4 22 22 = 1 then 8 else 4)
  match s.coreRead c (dw d.words 4 21 0) n with
  | some idx => act (s.coreSee c (dw d.words 4 21 0) n) (rowPieces d.words idx)
  | none => s.descFault c d fSRAM_UE (coreAddr c (s.badOff c (dw d.words 4 21 0) n))

/-- GATHER and SCATTER (R83). -/
def execGather (c : CoreId) (n : StreamId) (i : Fin 64) (s : State) : Host.Outcome State Fault Refusal :=
  .next (s.runDesc c n i 1 fun s p d => s.withIndices c d fun s ps => s.fill c p d ps)
def execScatter (c : CoreId) (n : StreamId) (i : Fin 64) (s : State) : Host.Outcome State Fault Refusal :=
  .next (s.runDesc c n i 2 fun s p d => s.withIndices c d fun s ps => s.drain c p d ps)

/-! Graph walks (R84, R85). -/

/-- How a walk over the frontier ends: the records and the vertices consumed, a fault, or a read still to come. -/
structure Walk where
  s : State
  out : List Byte
  recs : Nat
  used : Nat
  stop : Bool
  got : Option Got

/-- The records of one vertex: neighbour and weight bytes to bytes of records. -/
def walkRecords (csc weight : Bool) (wsize x deg : Nat) (nbr wgt : List Byte) : List Byte :=
  (List.range deg).flatMap fun e =>
    let v := leNat ((nbr.drop (4 * e)).take 4)
    let (u, v) := if csc then (v, x) else (x, v)
    leBytes 4 u ++ leBytes 4 v ++ (if weight then leBytes 8 (leNat ((wgt.drop (wsize * e)).take wsize)) else [])

/-- One frontier vertex. A vertex whose offsets fall (offs[x + 1] below offs[x]) has no edges (DESIGN CHOICE, assumption 159). -/
def Walk.vertex (k : Walk) (csc : Bool) (c p : Nat) (d : Desc) (x : Nat) : Walk :=
  if k.stop ∨ k.got.isSome then k
  else
    let w := d.words
    let osz := if dw w 4 22 22 = 1 then 8 else 4
    let wsize := 2 ^ dw w 10 1 0
    let weight := dw w 4 23 23 = 1
    let cap := dw w 12 23 0
    match k.s.fetch c p d ((dw w 2 63 0 + osz * x) % 2 ^ 64) (2 * osz) with
    | (.bytes bs, s) =>
      let o0 := leNat (bs.take osz)
      let deg := leNat (bs.drop osz) - o0
      if deg > cap then { k with s := s, got := some (.fault fDESC_FAULT 0) }
      else if k.recs + deg > cap then { k with s := s, stop := true }
      else
        match s.fetch c p d ((dw w 6 63 0 + 4 * o0) % 2 ^ 64) (4 * deg) with
        | (.bytes nbr, s) =>
          match (if weight then s.fetch c p d ((dw w 8 63 0 + wsize * o0) % 2 ^ 64) (wsize * deg) else (.bytes [], s)) with
          | (.bytes wgt, s) =>
            { k with s := s, out := k.out ++ walkRecords csc weight wsize x deg nbr wgt, recs := k.recs + deg, used := k.used + 1 }
          | (g, s) => { k with s := s, got := some g }
        | (g, s) => { k with s := s, got := some g }
    | (g, s) => { k with s := s, got := some g }

def State.walk (s : State) (csc : Bool) (c p : Nat) (d : Desc) : State :=
  let w := d.words
  match s.coreRead c (dw w 4 21 0) (4 * dw w 5 23 0) with
  | none => s.descFault c d fSRAM_UE (coreAddr c (s.badOff c (dw w 4 21 0) (4 * dw w 5 23 0)))
  | some fr =>
    let s := s.coreSee c (dw w 4 21 0) (4 * dw w 5 23 0)
    let xs := (List.range (dw w 5 23 0)).map fun i => leNat ((fr.drop (4 * i)).take 4)
    let k := xs.foldl (fun (k : Walk) x => k.vertex csc c p d x) ⟨s, [], 0, 0, false, none⟩
    match k.got with
    | some (.fault code a) => k.s.descFault c d code a
    | some (.wait a n) => s.askRemote c p d [(a, n)]
    | _ =>
      match k.s.putLocal c d.id (descLocal d) k.out with
      | (false, s) => s.descFault c d fSRAM_UE (coreAddr c (s.badOff c (descLocal d) k.out.length))
      | (true, s) =>
        match s.putLocal c d.id (dw w 11 21 0) (leBytes 4 k.recs ++ leBytes 4 k.used) with
        | (true, s) => s.setDesc c { d with phase := 2 }
        | (false, s) => s.descFault c d fSRAM_UE (coreAddr c (s.badOff c (dw w 11 21 0) 8))

/-- CSR_WALK and CSC_WALK (R84, R85). -/
def execCsrWalk (c : CoreId) (n : StreamId) (i : Fin 64) (s : State) : Host.Outcome State Fault Refusal :=
  .next (s.runDesc c n i 3 fun s p d => s.walk false c p d)
def execCscWalk (c : CoreId) (n : StreamId) (i : Fin 64) (s : State) : Host.Outcome State Fault Refusal :=
  .next (s.runDesc c n i 4 fun s p d => s.walk true c p d)

/-! Hash probes (R86). -/

/-- The start bucket of a key. (DEDUCED, assumption 43) -/
def hashBucket (key ksize seed log2 : Nat) : Nat :=
  let k64 := if ksize = 16 then (key % 2 ^ 64) ^^^ (key / 2 ^ 64) else key
  let m := 0x9E3779B97F4A7C15 ^^^ (seed * 2)
  (k64 * m) % 2 ^ 64 / 2 ^ (64 - log2)

/-- The slots of a bucket: key and value (R86). -/
def bucketSlots (ksize : Nat) (b : List Byte) : List (Nat × Nat) :=
  let h := if ksize = 16 then 16 else 8
  (List.range (64 / (2 * h))).map fun i => (leNat ((b.drop (2 * h * i)).take h), leNat ((b.drop (2 * h * i + h)).take h))

/-- What a probe finds: value, status, bucket. (DEDUCED, assumption 43) -/
def State.probe (s : State) (c p : Nat) (d : Desc) (key ksize : Nat) : Nat → Nat → (Except Got (Nat × Nat × Nat)) × State
  | 0, b => (.ok (0, 2, b), s)
  | fuel + 1, b =>
    let h := if ksize = 16 then 16 else 8
    match s.fetch c p d ((descRemote d + 64 * b) % 2 ^ 64) 64 with
    | (.bytes bs, s) =>
      let slots := bucketSlots ksize bs
      match slots.find? (fun x => x.1 == key) with
      | some x => (.ok (x.2, 0, b), s)
      | none =>
        if slots.any (fun x => x.1 == 2 ^ (8 * h) - 1) then (.ok (0, 1, b), s)
        else if fuel = 0 then (.ok (0, 2, b), s)
        else State.probe s c p d key ksize fuel ((b + 1) % 2 ^ dw d.words 6 5 0)
    | (g, s) => (.error g, s)

/-- Keys probed so far: the state, their outputs, a stop. -/
structure Probe where
  s : State
  out : List Byte
  got : Option Got

def Probe.key (k : Probe) (c p : Nat) (d : Desc) (ksize key : Nat) : Probe :=
  if k.got.isSome then k
  else
    let w := d.words
    match k.s.probe c p d key ksize (dw w 6 13 8) (hashBucket key ksize (dw w 7 31 0) (dw w 6 5 0)) with
    | (.ok (v, st, b), s) =>
      if ksize = 16 then
        { k with s := s, out := k.out ++ leBytes 16 v ++ leBytes 8 (Config.openValue 0x100 [key, v, st, b]) ++ leBytes 8 (st + 256 * b) }
      else { k with s := s, out := k.out ++ leBytes 8 v ++ leBytes 8 (st + 256 * b) }
    | (.error g, s) => { k with s := s, got := some g }

/-- HASH_PROBE (R86). (DEDUCED, assumption 43) -/
def execHashProbe (c : CoreId) (n : StreamId) (i : Fin 64) (s : State) : Host.Outcome State Fault Refusal :=
  .next (s.runDesc c n i 5 fun s p d =>
    let w := d.words
    let ksize := 2 ^ (2 + dw w 4 23 22)
    match s.coreRead c (dw w 4 21 0) (ksize * dw w 5 23 0) with
    | none => s.descFault c d fSRAM_UE (coreAddr c (s.badOff c (dw w 4 21 0) (ksize * dw w 5 23 0)))
    | some ks =>
      let s := s.coreSee c (dw w 4 21 0) (ksize * dw w 5 23 0)
      let k := (List.range (dw w 5 23 0)).foldl (fun (k : Probe) j => k.key c p d ksize (leNat ((ks.drop (ksize * j)).take ksize))) ⟨s, [], none⟩
      match k.got with
      | some (.fault code a) => k.s.descFault c d code a
      | some (.wait a m) => s.askRemote c p d [(a, m)]
      | _ =>
        let (ok, s) := k.s.putLocal c d.id (descLocal d) k.out
        if ok then s.setDesc c { d with phase := 2 } else s.descFault c d fSRAM_UE (coreAddr c (s.badOff c (descLocal d) k.out.length)))

/-! Atomics (R88). -/

/-- One atomic operation at its naturally aligned word of this module: the old value. (DEDUCED, assumption 42) -/
def State.atomicAt (s : State) (c p addr op size arg cmp : Nat) : Res Nat :=
  let a := addr / size * size
  match s.memRead p a size .rmw (some c) with
  | (.ok bs, s) =>
    let old := leNat bs
    match s.memWrite p a (leBytes size (atomicOp op size old (arg % 2 ^ (8 * size)) (cmp % 2 ^ (8 * size)))) with
    | (.ok _, s) => (.ok old, s)
    | (.error e, s) => (.error e, s)
  | (.error e, s) => (.error e, s)

/-! Fields of an ATOMIC descriptor. -/
def aOp (w : Nat) : Nat := dw w 4 2 0
def aSize (w : Nat) : Nat := if dw w 4 8 8 = 1 then 8 else 4
def aCount (w : Nat) : Nat := dw w 5 23 0
/-- Entries that operate: CAS takes the next entry's low half as compare value and skips it. (DEDUCED, assumption 42) -/
def aEntries (w : Nat) : List Nat := if aOp w = 7 then (List.range ((aCount w + 1) / 2)).map (2 * ·) else List.range (aCount w)

/-- The global address of entry j, as far as its word can be read. -/
def State.atomicAddr (s : State) (c : Nat) (d : Desc) (j : Nat) : Option Nat :=
  (s.coreRead c (descLocal d + 16 * j) 8).map fun e => (descRemote d + leNat e) % 2 ^ 64

/-- The words of this module that an ATOMIC works on. -/
def State.atomicWords (s : State) (c : Nat) (d : Desc) : List Nat :=
  ((aEntries d.words).filterMap fun j => s.atomicAddr c d j).filterMap fun a => if s.isRemote (c / 64) a then none else some (a % 2 ^ 46)

/-- R80: the first of them that the partition does not own: no entry is performed then. -/
def State.badAtomic (s : State) (c p : Nat) (d : Desc) : Option Nat :=
  (s.atomicWords c d).find? fun a => let sz := aSize d.words; !s.ownsRange p (a / sz * sz) sz

/-- The entries in list order, until a fault. The old value replaces the 8-byte operand, a 4-byte one zero-extended; a CAS in the last entry takes
its compare value from the 8 bytes after the list (DESIGN CHOICE, assumption 160). (DEDUCED, assumption 42) (DESIGN CHOICE, assumption 65; DESIGN CHOICE, assumption 151) -/
def State.atomics (s : State) (c p : Nat) (d : Desc) : List Nat → State
  | [] => s.setDesc c { d with phase := 2 }
  | j :: js =>
    let w := d.words
    let op := aOp w
    let size := aSize w
    let at_ := descLocal d + 16 * j
    let n := if op = 7 then 24 else 16
    match s.coreRead c at_ n with
    | some e =>
      let s := s.coreSee c at_ n
      let addr := (descRemote d + leNat (e.take 8)) % 2 ^ 64
      let arg := leNat ((e.drop 8).take 8)
      if s.isRemote (c / 64) addr then
        match s.sendFlow (c / 64) ⟨some p, some c, d.id, j, d.stream, false⟩ 4 3 (addr / 2 ^ 46) (addr % 2 ^ 46) 16 (op + (if size = 8 then 8 else 0)) (e.take 16) true with
        | some s => State.atomics ((s.add CORE.PERF.count size c 3).add CORE.PERF.count size c 4) c p d js
        | none => s.descFault c d 0x48 addr
      else
        match s.atomicAt c p (addr % 2 ^ 46) op size arg (leNat (e.drop 16)) with
        | (.ok old, s) =>
          let (ok, s) := s.putLocal c d.id (at_ + 8) (leBytes 8 old)
          if ok then State.atomics ((s.add CORE.PERF.count size c 3).add CORE.PERF.count size c 4) c p d js
          else s.descFault c d fSRAM_UE (coreAddr c (s.badOff c (at_ + 8) 8))
        | (.error (code, a), s) => s.descFault c d code a
    | none => s.descFault c d fSRAM_UE (coreAddr c (s.badOff c at_ n))

/-- ATOMIC (R88); like other writes it does not overtake a message of its tile (R234). (DEDUCED, assumption 42) -/
def execAtomic (c : CoreId) (n : StreamId) (i : Fin 64) (s : State) : Host.Outcome State Fault Refusal :=
  .next (s.runDesc c n i 7 fun s p d => match s.badAtomic c p d with
    | some a => s.descFault c d fADDR_FAULT a
    | none => if (s.atomicWords c d).any (s.midBehind (c / 64)) then s else s.atomics c p d (aEntries d.words))

/-- DESC_COMPLETE (R81, R76, R104): the last byte is in place or accepted; a faulted descriptor adds nothing to its flag. -/
def execDescComplete (c : CoreId) (n : StreamId) (i : Fin 64) (s : State) : Host.Outcome State Fault Refusal :=
  .next (match s.descAt c n i with
    | some d =>
      if d.phase = 2 ∧ !(s.fab.flights.any fun f => f.core == some c.val && f.desc == d.id) then
        let s := s.setCore c { s.core c with descs := (s.core c).descs.filter (fun e => e.id != d.id),
                                             racing := (s.core c).racing.filter (fun x => x.1 != d.id) }
        if d.fault = false ∧ dw d.words 0 6 6 = 1 then s.addFlag c (dw d.words 0 23 16) 1 uAE n else s
      else s
    | none => s)

end Sys2Proof.Machine
end

