-- ==== Sys2Proof/Machine/Juggler.lean ====
section
/-! DEFINITION. The Juggler queue manager: enqueue and dequeue (R216 to R224), stranded tails (R225), back-pressure (R227), spill and refill
(R228 to R230), queue commands (R213 to R215). -/

namespace Sys2Proof.Machine

/-! Spill and refill: one engine for each tile, refill first (R229). -/

/-- Segments of the spill area. -/
def State.spillSegs (s : State) (t : Nat) : Nat := s.spillBytes t / 4096

/-- The first eligible cells of a queue: not among the head cells kept, not of a claimed or open packet, on chip (R229). (DESIGN CHOICE, assumption 56) -/
def State.spillRun (s : State) (k : Nat) : List (Nat × Nat) :=
  let q := s.queue k
  let ok := fun (x : Nat × Nat) => (match s.pkt k x.1 with | some p => p.closed && p.claim.isNone | none => false) && !s.isSpilled k x
  (((q.cells.drop (s.rd JUG.SPILL_CFG.keep_head (k / 4096))).dropWhile (fun x => !ok x)).takeWhile ok).take 16

/-- The order stamp of a cell. -/
def State.cellStamp (s : State) (k : Nat) (x : Nat × Nat) : Nat := match s.pkt k x.1 with | some p => p.stamps.getD x.2 0 | none => 0

/-- The queue whose oldest eligible cell was enqueued earliest, with its run. -/
def State.pickRun (s : State) (t : Nat) : Option (Nat × List (Nat × Nat)) :=
  (s.queues.filter (fun x => x.1 / 4096 == t && x.2.spillable && !x.2.error)).foldl (fun best x =>
    match s.spillRun x.1 with
    | [] => best
    | c :: cs =>
      match best with
      | some (k, b) => if s.cellStamp x.1 c < s.cellStamp k (b.headD (0, 0)) then some (x.1, c :: cs) else best
      | none => some (x.1, c :: cs)) none

/-- Streams of the module that wait in a JENQ or JDEQ, with what they wait for. -/
def State.jugWaits (s : State) : List (Nat × Nat × JugWait) :=
  s.cores.flatMap fun x => x.2.streams.filterMap fun y =>
    match y.2.jug with
    | some w => if s.sn x.1 y.1 = snJUG then some (x.1, y.1, w) else none
    | none => none

/-- R229: the head cells on chip fall below keep_head / 2, or a JDEQ waits on the queue, while it has spilled segments. (DEDUCED, assumption 54) -/
def State.wantsRefill (s : State) (k : Nat) : Bool :=
  s.spilledOf k > 0 && !(s.queue k).error &&
    (((s.queue k).cells.takeWhile (fun x => !s.isSpilled k x)).length < s.rd JUG.SPILL_CFG.keep_head (k / 4096) / 2 ||
      s.jugWaits.any (fun w => w.2.2.deq && w.2.2.queue == k))

/-- The segment that holds the oldest spilled cell of a queue. (DEDUCED, assumption 54) -/
def State.headSeg (s : State) (k : Nat) : Option Seg :=
  ((s.queue k).cells.find? (s.isSpilled k)).bind fun x => (s.jug (k / 4096)).segs.find? fun g => g.queue == k && g.cells.contains x

/-- The next segment to refill, if cells for it are free and its stack serves (R229). (DEDUCED, assumption 54) -/
def State.nextRefill (s : State) (t : Nat) : Option Nat :=
  match ((s.jug t).segs.find? (fun g => s.wantsRefill g.queue)).bind fun g => s.headSeg g.queue with
  | some g => if s.stackServes (s.rd JUG.SPILL_BASE.addr t / 2 ^ 37) ∧ g.cells.length ≤ s.generalFree t + (s.rd JUG.SPILL_CFG.refill_cells t - (s.jug t).refillUsed) then some g.num else none
  | none => none

/-- A queue holds as many cells as it may. -/
def Queue.full (q : Queue) : Bool := q.maxCells != 0 && decide (q.depth ≥ q.maxCells)

/-- Producers outside the streams that wait on a queue; the host's, while its ring holds the command. -/
def State.outsideOf (s : State) (k : Nat) : List Outside :=
  (s.queue k).outside.filter fun o => !(2 ^ 24 ≤ o.who && o.who < 2 ^ 25) || s.host.cmds.any fun c => 2 ^ 24 + c.ring == o.who && c.held && c.result.isNone

/-- Queues of a tile on which producers are stalled. -/
def State.stalledQueues (s : State) (t : Nat) : List Nat :=
  ((s.jugWaits.filter fun w => !w.2.2.deq && w.2.2.stalled).map (·.2.2.queue) ++
    (s.queues.map (·.1)).filter fun k => !(s.outsideOf k).isEmpty).filter (· / 4096 == t)

/-- JUG.STATUS.dry shows whether producers are stalled on an empty general pool (R227). -/
def State.showDry (s : State) (t : Nat) : State :=
  s.wr JUG.STATUS.dry (if s.generalFree t = 0 ∧ (s.stalledQueues t).any (fun k => !(s.queue k).full) then 1 else 0) t

/-- Tile clocks since a moment. -/
def State.clocksSince (s : State) (t since : Nat) : Nat := (s.now - since) * (1950 - 150 * s.rd PWR.TILE_PS.ps 0 t) / 1000

/-- Clocks for which producers of a tile are stalled and that JUG.STALLS does not count yet. -/
def State.stallsOwed (s : State) (t : Nat) : Nat :=
  ((s.jugWaits.filter fun w => !w.2.2.deq && w.2.2.stalled && w.2.2.queue / 4096 == t).map fun w => s.clocksSince t w.2.2.since).sum +
    ((s.queues.filter (·.1 / 4096 == t)).flatMap fun x => (s.outsideOf x.1).map fun o => s.clocksSince t o.since).sum

/-- JUG.STALLS catches up with them (R232). -/
def State.countStalls (s : State) (t : Nat) : State :=
  let owed := s.stallsOwed t
  let s := (s.jugWaits.filter fun w => !w.2.2.deq && w.2.2.stalled && w.2.2.queue / 4096 == t).foldl (fun s w =>
    s.setStrm w.1 w.2.1 { s.strm w.1 w.2.1 with jug := some { w.2.2 with since := s.now } }) s
  let s := (s.queues.filter fun x => x.1 / 4096 == t && !x.2.outside.isEmpty).foldl (fun s x =>
    s.setQueue x.1 { x.2 with outside := x.2.outside.map fun o => { o with since := s.now } }) s
  s.add JUG.STALLS.clocks owed t

/-- The spill and refill engine of a tile looks for work (R229, R230). -/
def State.jugEngine (s : State) (t : Nat) : State :=
  let s := s.showDry t
  let j := s.jug t
  if j.run.isSome || j.refill.isSome || !s.is JUG.CTRL.enable t then s
  else match s.nextRefill t with
  | some n => (s.setJug t { j with refill := some n }).wr JUG.STATUS.refilling 1 t
  | none =>
    let free := s.generalFree t
    let go := s.is JUG.CTRL.spill_en t && s.stackServes (s.rd JUG.SPILL_BASE.addr t / 2 ^ 37) && free < s.rd JUG.SPILL_WM.high t && (s.is JUG.STATUS.spilling t || free ≤ s.rd JUG.SPILL_WM.low t)
    if !go then s.wr JUG.STATUS.spilling 0 t
    else if j.segs.length ≥ s.spillSegs t then (s.wr JUG.STATUS.spilling 0 t).raise Ev.SPILL_FULL t
    else match s.pickRun t with
    | none => s.wr JUG.STATUS.spilling 0 t
    | some (k, run) =>
      let num := ((List.range (j.segs.length + 1)).find? (fun i => !j.segs.any (fun g => g.num == i))).getD 0
      let s := if s.is JUG.STATUS.spilling t then s else (s.wr JUG.STATUS.spilling 1 t).raise Ev.POOL_LOW t
      s.setJug t { j with run := some ⟨num, k, run, run⟩ }

/-- The bytes of a cell, padded to 256. (DESIGN CHOICE, assumption 56) -/
def State.cellBytes (s : State) (k : Nat) (x : Nat × Nat) : List Byte :=
  match s.pkt k x.1 with
  | some p => let bs := (p.data.drop (256 * x.2)).take 256; bs ++ List.replicate (256 - bs.length) 0
  | none => List.replicate 256 0

/-- The stack and offset of a segment (R228). -/
def State.segAt (s : State) (t num : Nat) : Nat × Nat := let a := s.rd JUG.SPILL_BASE.addr t + 4096 * num; (a / 2 ^ 37, a % 2 ^ 37)

/-- SPILL_RUN_DONE (R229): the run's cells that are still held are in the segment; their cells are free. -/
def State.spillDone (s : State) (t : Nat) : State :=
  match (s.jug t).run with
  | none => s
  | some g =>
    let cells := g.cells.filter (fun x => (s.queue g.queue).cells.contains x)
    let s := s.setJug t { s.jug t with run := none }
    if cells.isEmpty then s.jugEngine t
    else
      let (k, off) := s.segAt t g.num
      let (_, s) := s.writeStack 130 k off (cells.flatMap (s.cellBytes g.queue)) none
      let s := s.freeCells g.queue cells.length
      let segs := (s.jug t).segs ++ [Seg.mk g.num g.queue cells cells]
      let s := ((s.setJug t { s.jug t with segs := segs }).wr JUG.SPILL_USED.segments segs.length t).add JUG.SPILLED.cells cells.length t
      s.jugEngine t

/-- Put bytes back into a cell of a packet. -/
def QPkt.setCell (p : QPkt) (i : Nat) (bs : List Byte) : QPkt := { p with data := overlay p.data (256 * i) bs }

/-- One cell from the general pool, or from the refill reserve (R229). -/
def State.takeRefill (s : State) (t : Nat) : Nat → State
  | 0 => s
  | n + 1 =>
    let s := if s.generalFree t > 0 then s.wr JUG.STATUS.general_free (s.generalFree t - 1) t
             else s.setJug t { s.jug t with refillUsed := (s.jug t).refillUsed + 1 }
    State.takeRefill s t n

/-- A queue goes to ERROR and its owner's step ends in error (R230). (DEDUCED, assumption 54) -/
def State.queueError (s : State) (k code addr : Nat) : State :=
  let q := s.queue k
  ((s.setQueue k { q with error := true }).raise Ev.QUEUE_ERROR (k / 4096)).partFault q.owner code addr

/-- REFILL_DONE (R229, R230). -/
def State.refillDone (s : State) (t : Nat) : State :=
  match (s.jug t).refill with
  | none => s
  | some num =>
    let g := ((s.jug t).segs.find? (fun g => g.num == num)).getD ⟨num, 4096 * t, [], []⟩
    let s := (s.setJug t { s.jug t with refill := none }).wr JUG.STATUS.refilling 0 t
    let (k, off) := s.segAt t num
    match s.readStack 130 k off (256 * g.base.length) .tile none with
    | (.error a, s) => (s.queueError g.queue fHBM_UE a).jugEngine t
    | (.ok bs, s) =>
      let s := g.cells.foldl (fun s x =>
        match s.pkt g.queue x.1 with
        | some p => s.setPkt g.queue (p.setCell x.2 ((bs.drop (256 * g.base.idxOf x)).take (min 256 (p.data.length - 256 * x.2))))
        | none => s) s
      let s := s.takeRefill t g.cells.length
      let segs := (s.jug t).segs.filter (fun h => h.num != num)
      let s := ((s.setJug t { s.jug t with segs := segs }).wr JUG.SPILL_USED.segments segs.length t).add JUG.REFILLED.cells g.cells.length t
      s.jugEngine t

/-! Packets become available (R219, R213). -/

/-- Add 1 to the notify flag of a queue. (DEDUCED, assumption 57) -/
def State.notify (s : State) (k : Nat) : State :=
  let q := s.queue k
  s.addFlag (64 * (k / 4096) + q.f 2 13 8) (q.f 2 23 16) 1 uCE 0

def State.markAvail (s : State) (k id : Nat) : State :=
  let q := s.queue k
  match s.pkt k id with
  | some p =>
    if p.avail || p.gone then s
    else if p.closed || (q.f 2 5 0 != 0 && p.data.length / 256 ≥ q.f 2 5 0) then
      let s := s.setPkt k { p with avail := true }
      if q.f 0 3 3 = 1 then s.notify k else s
    else s
  | none => s

/-- A new packet at the end of a queue; a queue that becomes non-empty starts its timer (R225). -/
def State.newPkt (s : State) (k : Nat) (openBy part : Option Nat) : Nat × State :=
  let t := k / 4096
  let j := s.jug t
  let q := s.queue k
  let timer := if q.hasContent then q.timer else some s.now
  let s := s.setJug t { j with next := j.next + 1 }
  (j.next, s.setQueue k { q with pkts := q.pkts ++ [QPkt.mk j.next [] 0 [] openBy false false false none false part false], timer := timer })

/-- Place bytes in cells, cell by cell; answers the bytes that found none. A discarded packet swallows them. -/
def State.fillCells (s : State) (k id : Nat) : Nat → List Byte → List Byte × State
  | 0, bs => (bs, s)
  | fuel + 1, bs =>
    if bs.isEmpty then ([], s)
    else match s.pkt k id with
    | none => ([], s)
    | some p =>
      if p.gone then ([], if p.counts then s.add JUG.DISCARDS.bytes bs.length (k / 4096) else s)
      else if !s.is JUG.CTRL.enable (k / 4096) then (bs, s)
      else
        let n := 256 - p.data.length % 256
        if p.data.length % 256 ≠ 0 then
          State.fillCells (s.setPkt k { p with data := p.data ++ bs.take n }) k id fuel (bs.drop n)
        else match s.takeCell k with
        | none => (bs, s)
        | some s =>
          let j := s.jug (k / 4096)
          let s := s.setJug (k / 4096) { j with next := j.next + 1 }
          State.fillCells (s.setPkt k { p with data := p.data ++ bs.take n, stamps := p.stamps ++ [j.next] }) k id fuel (bs.drop n)

/-- The last byte of a packet has been enqueued (R219); a discarded packet leaves its queue. (DEDUCED, assumption 51) -/
def State.closePkt (s : State) (k id : Nat) (truncated : Bool) : State :=
  match s.pkt k id with
  | some p =>
    if p.gone then s.dropPkt k id
    else if p.data.isEmpty then s.dropPkt k id
    else (s.setPkt k { p with openBy := none, closed := true, truncated := truncated }).markAvail k id
  | none => s

/-- R227: a producer stalls for want of a cell on an empty general pool. -/
def State.poolDry (s : State) (k : Nat) : State :=
  let t := k / 4096
  if s.generalFree t = 0 ∧ !(s.queue k).full then
    let s := s.wr JUG.STATUS.dry 1 t
    if (s.jug t).dryTold then s else (s.setJug t { s.jug t with dryTold := true }).raise Ev.POOL_DRY t
  else s

/-! Producers that have to wait (R222, R227). -/

/-- Stalled streams of a queue. -/
def State.stalledOf (s : State) (k : Nat) : List (Nat × Nat × JugWait) :=
  s.jugWaits.filter (fun w => !w.2.2.deq && w.2.2.stalled && w.2.2.queue == k)

/-- The producer that stalled first on a queue: a stream 4 c + n, or one from outside. -/
def State.firstProducer (s : State) (k : Nat) : Option Nat :=
  let ps := ((s.stalledOf k).map fun w => (4 * w.1 + w.2.1, w.2.2.order)) ++ (s.outsideOf k).map fun o => (o.who, o.order)
  (ps.foldl (fun (b : Option (Nat × Nat)) x => match b with | some y => if x.2 < y.2 then some x else b | none => some x) none).map (·.1)

/-- A producer may enqueue now: nobody waits before it. -/
def State.mayEnqueue (s : State) (k who : Nat) : Bool := match s.firstProducer k with | some w => w == who | none => true

/-- A producer from outside stalls; it keeps its place. -/
def State.stallOutside (s : State) (k who : Nat) (bytes : List Byte) : State :=
  let q := s.queue k
  let j := s.jug (k / 4096)
  let s := if who ≠ 2 ^ 25 ∧ q.outside.any (·.who == who) then s
    else (s.setQueue k { q with outside := q.outside ++ [⟨who, j.next, s.now, bytes⟩] }).setJug (k / 4096) { j with next := j.next + 1 }
  s.poolDry k

/-- A producer from outside stalls no more: its first entry goes. -/
def State.unstall (s : State) (k who : Nat) : State :=
  match (s.queue k).outside.find? (·.who == who) with
  | some o => (s.countStalls (k / 4096)).setQueue k { s.queue k with outside := (s.queue k).outside.erase o }
  | none => s

/-! JENQ (R216 to R218, R222 to R224, R253, R254). -/

/-- R212, R218, R254: may core c use queue k, for enqueue or dequeue? The fault otherwise. (DEDUCED, assumption 51) -/
def State.jugRefuses (s : State) (c k : Nat) (deq : Bool) : Option Nat :=
  let q := s.queue k
  let n := k % 4096
  let own := c / 64 == k / 4096
  if deq ∧ 4064 ≤ n ∧ n < 4080 then some fADDR_FAULT
  else if !deq ∧ 4064 ≤ n ∧ ¬(own ∧ 4068 ≤ n ∧ n ≤ 4071) then some fADDR_FAULT
  else if !q.enabled || q.error then some fQUEUE_FAULT
  else if 4068 ≤ n ∧ n ≤ 4071 then none
  else if s.partOfCore c != some q.owner || (!own && !q.remoteEn) then some fADDR_FAULT
  else none

/-- R224, R253: the writes and atomics that the stream posted before meet the MODULE condition of Table 3.10, for a send queue the SYSTEM one. -/
def State.released (s : State) (c n k mark : Nat) : Bool := s.fenceMet c n (if 4068 ≤ k % 4096 ∧ k % 4096 ≤ 4071 then 2 else 1) mark

/-- A JENQ can take effect: its release condition is met, and no earlier message of its tile is on the way to the queue's (R234). -/
def State.jenqFree (s : State) (c n : Nat) (w : JugWait) : Bool :=
  (!w.flags.testBit 1 || s.released c n w.queue w.mark) && !s.midBusy (c / 64) (w.queue / 4096)

/-- The bytes of a waiting JENQ that are not yet in cells. -/
def State.jenqRest (s : State) (c : Nat) (w : JugWait) : Option (List Byte) := s.coreRead c (w.addr + w.pos) (w.len - w.pos)

/-- The JENQ completes: its packet ends unless it stays open; gl receives 0 (R216, R217). -/
def State.jenqDone (s : State) (c n : Nat) (w : JugWait) (id : Nat) : State :=
  let s := if w.stalled then s.add JUG.STALLS.clocks (s.clocksSince (w.queue / 4096) w.since) (w.queue / 4096) else s
  let s := if w.flags % 2 = 1 then s.markAvail w.queue id else s.closePkt w.queue id false
  let s := s.setStrm c n { s.strm c n with jug := none }
  ((s.setG c n w.reg 0).setSn c n snREADY).jugEngine (w.queue / 4096)

/-- Bytes go into cells, `fuel` cells at most; the JENQ completes or goes on waiting. (DEDUCED, assumption 50) -/
def State.jenqMove (s : State) (c n : Nat) (w : JugWait) (fuel : Nat) : State :=
  match s.jenqRest c w with
  | none => (s.setStrm c n { s.strm c n with jug := none }).instrFault c n fSRAM_UE (w.addr + w.pos)
  | some bs =>
    let (id, s) := match s.openOf c n with
      | some x => (x.2.id, s)
      | none => s.newPkt w.queue (some (4 * c + n)) (s.partOfCore c)
    let (rest, s) := s.fillCells w.queue id fuel bs
    let s := s.markAvail w.queue id
    let w := { w with pos := w.len - rest.length }
    if rest.isEmpty then s.jenqDone c n w id
    else
      let j := s.jug (w.queue / 4096)
      let (w, s) := if w.stalled then (w, s)
        else ({ w with stalled := true, since := s.now, order := j.next }, s.setJug (w.queue / 4096) { j with next := j.next + 1 })
      (((s.setStrm c n { s.strm c n with jug := some w }).setSn c n snJUG).poolDry w.queue).jugEngine (w.queue / 4096)

/-- A JENQ takes effect for the first time, its release condition met (R217). -/
def State.jenqStart (s : State) (c n : Nat) (w : JugWait) : State :=
  let busy := (s.firstProducer w.queue).isSome
  if w.flags.testBit 2 then
    let full := (s.setStrm c n { s.strm c n with jug := none }).setG c n w.reg 1 |>.setSn c n snREADY
    if busy then full
    else
      let s' := s.jenqMove c n w 66
      if s'.sn c n = snJUG then full else s'
  else if busy then s.jenqMove c n w 0
  else s.jenqMove c n w 66

/-- With release = 1 a JENQ waits for its stream's earlier writes (R224, R253). -/
def State.jenqFirst (s : State) (c n : Nat) (w : JugWait) : State :=
  if !s.jenqFree c n w then (s.setStrm c n { s.strm c n with jug := some w }).setSn c n snJUG
  else s.jenqStart c n w

/-- JENQ (R216). -/
def execJenq (c : CoreId) (n : StreamId) (ga gq gl : GReg) (flags : BitVec 11) (s : State) : Host.Outcome State Fault Refusal :=
  .next (s.issue c n fun s =>
    let addr := s.g c n ga % 2 ^ 22
    let qv := s.g c n gq
    let len := s.g c n gl % 2 ^ 16
    let k := 4096 * (if qv.testBit 15 then bits qv 14 12 else c.val / 64) + qv % 4096
    if flags.toNat / 8 ≠ 0 ∨ addr % 64 ≠ 0 ∨ len = 0 ∨ len > 16384 then s.instrFault c n fDESC_FAULT 0
    else if addr + len > 2 ^ 22 then s.instrFault c n fADDR_FAULT addr
    else match s.jugRefuses c k false, s.openOf c n with
      | some code, _ => s.instrFault c n code 0
      | none, some (k', p) =>
        if k' ≠ k ∨ p.data.length + len > 16384 then s.instrFault c n fPACKET_FAULT 0
        else s.jenqFirst c n ⟨false, k, gl, addr, len, flags.toNat, 0, s.now, 0, false, (s.core c).next⟩
      | none, none => s.jenqFirst c n ⟨false, k, gl, addr, len, flags.toNat, 0, s.now, 0, false, (s.core c).next⟩)

/-- A stalled producer can take a step: its packet is gone or has room in its last cell, or a cell is free to it. A queue in ERROR takes nothing
until FLUSH (R230). -/
def State.canFill (s : State) (k who : Nat) : Bool :=
  let q := s.queue k
  s.is JUG.CTRL.enable (k / 4096) && !q.error &&
    (q.pkts.any (fun p => p.openBy == some who && (p.gone || p.data.length % 256 != 0)) || (s.takeCell k).isSome)

/-- R222: the queue of a tile whose first stalled producer is served next, round-robin by queue number. (DEDUCED, assumption 50) -/
def State.nextProducer (s : State) (t : Nat) : Option Nat :=
  let qs := (s.queues.map (·.1)).filter fun k => k / 4096 == t && (match s.firstProducer k with | some w => s.canFill k w | none => false)
  let rr := 4096 * t + (s.jug t).rr
  (qs.find? (fun k => k > rr)).orElse fun _ => qs.head?

/-- It is the turn of a producer on a queue; the turn is taken. -/
def State.producerTurn (s : State) (k who : Nat) : Bool := s.nextProducer (k / 4096) == some k && s.firstProducer k == some who
def State.takeTurn (s : State) (k : Nat) : State := s.setJug (k / 4096) { s.jug (k / 4096) with rr := k % 4096 }

/-- A waiting JENQ can go on: it is its turn, or its release is met. -/
def State.jenqReady (s : State) (c n : Nat) (w : JugWait) : Bool :=
  !w.deq && s.sn c n == snJUG && (if w.stalled then s.producerTurn w.queue (4 * c + n) else s.jenqFree c n w)

/-- In its turn a stalled JENQ takes a cell; it completes with its last byte (R217, R222). -/
def State.jenqGo (s : State) (c n : Nat) (w : JugWait) : State :=
  if w.stalled then (s.takeTurn w.queue).jenqMove c n w 1 else s.jenqStart c n w

/-! JDEQ (R219 to R225). -/

/-- What a JDEQ can deliver now: the packet and the bytes; none where it has to wait (R219, R220). (DEDUCED, assumption 51) -/
def State.jdeqPlan (s : State) (c n : Nat) (w : JugWait) : Option (QPkt × Nat) :=
  let q := s.queue w.queue
  let p := if w.flags.testBit 1 then q.pkts.find? (fun p => p.claim == some (4 * c + n))
           else match q.pkts.find? (fun p => p.claim.isNone && !p.gone) with
             | some p => if (p.avail || w.flags.testBit 2) && !p.data.isEmpty then some p else none
             | none => none
  match p with
  | none => none
  | some p =>
    let m := min w.len (p.data.length - p.taken)
    if m = 0 ∧ w.len ≠ 0 ∧ ¬(p.closed ∧ p.taken = p.data.length) then none else some (p, m)

/-- The bytes it would deliver lie on chip (R229). -/
def State.onChip (s : State) (k : Nat) (p : QPkt) (m : Nat) : Bool :=
  !(p.cells.any fun i => 256 * i < p.taken + m && s.isSpilled k (p.id, i)) || m == 0

/-- The waiting JDEQ of a stream is served now: data, or the end of a wait that must not last (R220). -/
def State.jdeqReady (s : State) (c n : Nat) (w : JugWait) : Bool :=
  s.is JUG.CTRL.enable (w.queue / 4096) && !(s.queue w.queue).error &&
    (match s.jdeqPlan c n w with
     | some (p, m) => s.onChip w.queue p m
     | none => w.flags.testBit 0 || (w.flags.testBit 1 && (s.claimOf c n).isNone))

/-- R222: no JDEQ that began to wait earlier can be served. (DEDUCED, assumption 50) -/
def State.jdeqTurn (s : State) (c n : Nat) (w : JugWait) : Bool :=
  !(s.jugWaits.any fun x => x.2.2.deq && x.2.2.queue == w.queue && (x.1, x.2.1) != (c, n) && x.2.2.order < w.order && s.jdeqReady x.1 x.2.1 x.2.2)

/-- The JDEQ retires with its result (Table 7.2). -/
def State.jdeqDone (s : State) (c n : Nat) (w : JugWait) (result : Nat) : State :=
  let s := (s.setStrm c n { s.strm c n with jug := none }).setSn c n snREADY
  s.setG c n w.reg result

/-- Deliver bytes of a packet (R220, R221, R225); `upset`: 1 a cell word is uncorrectable, 2 a link word (R230), 3 a cell word was corrected (R90,
R210). A JDEQ of capacity 0 delivers nothing: of Table 7.2 it gives the length of a complete packet and `truncated` (DEDUCED, assumption 51). -/
def State.jdeqDeliver (s : State) (c n : Nat) (w : JugWait) (p : QPkt) (m upset : Nat) : State :=
  let k := w.queue
  let t := k / 4096
  if w.len = 0 then
    ((s.discardPkt k p).jdeqDone c n w ((if p.truncated then 2 ^ 18 else 0) + (if p.closed then p.data.length * 2 ^ 32 else 0))).jugEngine t
  else if upset = 2 then
    (s.queueError k fSRAM_UE 0).setStrm c n { s.strm c n with jug := some w } |>.setSn c n snJUG
  else if upset = 1 then
    let (v, s) := s.fresh
    let s := s.discardPkt k p false
    let s := (s.setStrm c n { s.strm c n with jug := none }).setSn c n snSTOP
    s.coreFault c uCE n fSRAM_UE 0 (2 ^ 45 + t * 2 ^ 30 + 0x13000000 + 256 * (v % 65536))
  else if w.addr + m > 2 ^ 22 then (s.setStrm c n { s.strm c n with jug := none }).instrFault c n fADDR_FAULT w.addr
  else
    let s := if upset = 3 then (s.add CORE.SRAM_ECC.corrected 1 c).raise Ev.SRAM_CE c else s
    let (ok, s) := s.corePut c w.addr ((p.data.drop p.taken).take m)
    if !ok then (s.setStrm c n { s.strm c n with jug := none }).instrFault c n fSRAM_UE (s.badOff c w.addr m)
    else
      let taken := p.taken + m
      let eop := p.closed && taken == p.data.length
      let freed := if eop then p.cells else p.cells.filter (fun i => i < taken / 256)
      let s := s.freePkt k (freed.map fun i => (p.id, i))
      let s := if eop then s.dropPkt k p.id else s.setPkt k { p with taken := taken, claim := some (4 * c + n) }
      let s := if m = 0 then s else s.setQueue k { s.queue k with lastDeq := s.beat.count % 2 ^ 32, timer := some s.now }
      let r := m + (if p.taken = 0 ∧ m > 0 then 2 ^ 16 else 0) + (if eop then 2 ^ 17 else 0) + (if p.truncated then 2 ^ 18 else 0) +
        (if p.closed then p.data.length * 2 ^ 32 else 0)
      (s.jdeqDone c n w r).jugEngine t

/-- A JDEQ whose turn it is: data, EMPTY, or the wait goes on (R220). -/
def State.jdeqTry (s : State) (c n : Nat) (w : JugWait) (upset : Nat) : State :=
  let wait := ((s.setStrm c n { s.strm c n with jug := some w }).setSn c n snJUG).jugEngine (w.queue / 4096)
  if !s.is JUG.CTRL.enable (w.queue / 4096) || (s.queue w.queue).error || !s.jdeqTurn c n w then wait
  else match s.jdeqPlan c n w with
  | some (p, m) => if s.onChip w.queue p m then s.jdeqDeliver c n w p m upset else wait
  | none => if w.flags.testBit 0 then s.jdeqDone c n w (2 ^ 20) else if w.flags.testBit 1 ∧ (s.claimOf c n).isNone then s.jdeqDone c n w 0 else wait

/-! Stranded tails (R225). -/

/-- QUEUE_STRANDED (R225). -/
def execQueueStranded (t : TileId) (q : Fin 4096) (s : State) : Host.Outcome State Fault Refusal :=
  .next (
    let k := 4096 * t.val + q.val
    let x := s.queue k
    match x.timer with
    | some t0 =>
      if x.f 0 4 4 = 1 ∧ x.f 3 31 0 ≠ 0 ∧ x.hasContent ∧ t0 + x.f 3 31 0 ≤ s.now then
        let s := s.setQueue k { x with timer := none }
        let s := (s.setBit JUG.STRANDED.stranded (q.val % 32) true t (q.val / 32)).notify k
        let s := if x.f 0 5 5 = 1 then s.raise Ev.QUEUE_STRANDED t [q.val] else (s.setEvtBit .JUG t 3).2
        (s.jugWaits.filter (fun w => w.2.2.deq && w.2.2.queue == k)).foldl (fun s w => s.jdeqDone w.1 w.2.1 w.2.2 (2 * 2 ^ 20)) s
      else s
    | none => s)

/-! Queue commands (R213 to R215, R275). -/

/-- Bits of the descriptor words that Table 7.1 leaves reserved, and values R213 refuses. (DEDUCED, assumption 51) -/
def badDescriptor (d : Nat) : Bool :=
  let w := fun i hi lo => bits (d / 2 ^ (32 * i)) hi lo
  w 0 7 6 != 0 || w 0 31 12 != 0 || w 1 31 16 > 4096 || w 2 7 6 != 0 || w 2 15 14 != 0 || w 2 31 24 != 0 || (1 ≤ w 3 31 0 && w 3 31 0 ≤ 999)

/-- The result of a CONFIG of the selected queue: 2 done, 3 BUSY, 4 FIELD, 5 OWNER (R211, R213, R214, R275). (DEDUCED, assumption 52) -/
def State.configResult (s : State) (m t k d : Nat) : Nat :=
  let q := s.queue k
  let new : Queue := { q with desc := d }
  if k % 4096 ≥ 4064 ∧ m ≠ MCA ∧ m ≠ MCB then 5
  else if 16 ≤ m ∧ m < 32 ∧ (q.owner ≠ m - 16 ∨ new.owner ≠ m - 16) then 5
  else if ¬(16 ≤ m ∧ m < 32) ∧ m ≠ HOST ∧ m ≠ MCA ∧ m ≠ MCB then 5
  else if !s.holdsTile new.owner t then 5
  else if badDescriptor d then 4
  else if (q.depth > 0 ∨ q.pkts.any (·.claim.isSome)) ∧ ((q.enabled ∧ new.enabled = false) ∨ q.owner ≠ new.owner) then 3
  else if new.reserve > q.reserve ∧ s.reserveSum t - q.reserve + new.reserve + s.rd JUG.SPILL_CFG.refill_cells t > 32768 then 3
  else 2

/-- The result of a queue command is shown; a done one raises QCMD_DONE. -/
def State.qcmdDone (s : State) (t r : Nat) : State :=
  let s := s.wr JUG.QCMD_RESULT.result r t
  if r = 2 then s.raise Ev.QCMD_DONE t else s

def State.selQueue (s : State) (t : Nat) : Nat := 4096 * t + s.rd JUG.QSEL.queue t

/-- A CONFIG takes effect: packets that hold cut_through full cells become available, and the free cells may have become few (R219, R229). -/
def State.configure (s : State) (k d : Nat) : State :=
  let s := s.setDesc128 k d
  ((s.queue k).pkts.foldl (fun s p => s.markAvail k p.id) s).jugEngine (k / 4096)

/-- The four words of QDESC. -/
def State.qdesc (s : State) (t : Nat) : Nat := (List.range 4).foldr (fun i a => a * 2 ^ 32 + s.rd JUG.QDESC.word t i) 0

/-- QCMD_READ (R213): a write of JUG.QCMD with op 2. -/
def execQcmdRead (m : MasterId) (t : TileId) (s : State) : Host.Outcome State Fault Refusal :=
  .next (s.gate m .JUG t 0x054 fun s =>
    let q := s.queue (s.selQueue t)
    ((List.range 4).foldl (fun s i => s.wr JUG.QDESC.word (bits (q.desc / 2 ^ (32 * i)) 31 0) t i) s).qcmdDone t 2)

/-- A flush that loses host commands: they complete FLUSHED (R320); `lost` says how. -/
def State.flushWith (s : State) (k : Nat) (lost : State → List (List Byte) → State) : State :=
  let cmds := if k % 4096 ≥ 4080 then s.lostCommands k else []
  (lost (s.flushQueue k) cmds).jugEngine (k / 4096)

/-! Step errors and resets (R231). -/

/-- R231: claims of a partition's streams end, their open packets close truncated, their waits are abandoned. -/
def State.jugStepError (s : State) (p : Nat) : State :=
  let mine := fun (k : Nat) => s.partOfCore (k / 4) == some p
  let s := (List.range 8).foldl State.countStalls s
  let s := s.queues.foldl (fun s x => x.2.pkts.foldl (fun s r =>
    let s := match r.claim with
      | some k => if mine k then (match s.pkt x.1 r.id with | some r => s.discardPkt x.1 r | none => s) else s
      | none => s
    match r.openBy with
    | some k => if k < 2048 && mine k then s.closePkt x.1 r.id true else s
    | none => s) s) s
  let s := s.jugWaits.foldl (fun s w => if s.partOfCore w.1 = some p then s.setStrm w.1 w.2.1 { s.strm w.1 w.2.1 with jug := none } else s) s
  (List.range 8).foldl State.jugEngine s

/-- R231: a tile reset flushes every queue of the tile, disables every descriptor and empties the spill area. -/
def State.jugReset (s : State) (t : Nat) : State :=
  ((s.putQueues (s.queues.filter (fun x => x.1 / 4096 != t))).putJugs (Assoc.del t s.jugs))

/-- R254: the fabric queues, set by FABRIC at tile start: those in use enabled, the reserved ones not. (DEDUCED, assumption 55) -/
def State.fabricQueues (s : State) (t : Nat) : State :=
  [4064, 4068, 4069, 4070, 4071, 4072, 4073].foldl (fun s q => s.setDesc128 (4096 * t + q) 1) s

/-- Put a closed packet into a queue, whole or not at all, for a producer that does not wait behind another (R211, R222, R227). -/
def State.putWhole (s : State) (k who : Nat) (bs : List Byte) : Option State :=
  let q := s.queue k
  if !q.enabled || q.error || !s.mayEnqueue k who then none
  else
    let (id, s) := s.newPkt k none none
    match s.fillCells k id 66 bs with
    | ([], s) => some (((s.closePkt k id false).unstall k who).jugEngine (k / 4096))
    | _ => none

/-- FABRIC puts a record into a queue; where the queue cannot take it yet, it waits there (R227: no enqueue is dropped). -/
def State.fabricPut (s : State) (k : Nat) (bs : List Byte) : State :=
  (if (s.queue k).outside.any (·.who == 2 ^ 25) then none else s.putWhole k (2 ^ 25) bs).getD (s.stallOutside k (2 ^ 25) bs)

end Sys2Proof.Machine
end

