-- ==== Sys2Proof/Machine/Edpen.lean ====
section
/-! DEFINITION. Midway and Edpen: ports and lanes (R267 to R269), arrivals and their checks (R246 to R255), acknowledgements and timeouts (R250,
R251), who goes on when cells become free (R222, R227), send queues (R255), Midway links (R235), module numbers and routes (R244, R245). -/

namespace Sys2Proof.Machine

/-- DEDUCED assumption 62. -/
def State.flow (s : State) (k : Nat) : Option RxFlow := Assoc.get none s.fab.flows k
def State.setFlow (s : State) (k : Nat) (f : RxFlow) : State := (s.putFab { s.fab with flows := Assoc.put none s.fab.flows k (some f) })
def State.portSt (s : State) (i : Nat) : PortState := Assoc.get PortState.reset s.fab.ports i
def State.setPort (s : State) (i : Nat) (x : PortState) : State := (s.putFab { s.fab with ports := Assoc.put PortState.reset s.fab.ports i x })

def State.timedOut (s : State) (f : Flight) : Bool := f.sentAt + s.rd MIDWAY.E2E_TIMEOUT.us f.tile * 1000 ≤ s.now

/-- The packet goes out again on the next UP port (R250). -/
def State.resend (s : State) (f : Flight) (count : Nat) : State :=
  let next := ((List.range 8).map (fun i => (f.port + 1 + i) % 8)).find? (fun p => (s.upPorts f.tile).contains p) |>.getD f.port
  let g := { f with port := next, sentAt := s.now, resends := f.resends + count }
  let s := (s.putFab { s.fab with flights := s.fab.flights.map (fun x => if x = f then g else x) })
  (s.emit f.tile next f.pkt).add MIDWAY.RESENDS.count 1 f.tile

/-! Ports (R267 to R269, R241). -/

def pDOWN : Nat := 0
def pTRAINING : Nat := 1
def pUP4 : Nat := 2
def pUP3 : Nat := 3
def pFENCED : Nat := 4
def pTESTING : Nat := 5
def State.pState (s : State) (i : Nat) : Nat := s.rd EDPEN.STATUS.state i

/-- R268: an UP port's traffic moves: packets in flight on it are sent again on the next UP port. -/
def State.moveTraffic (s : State) (i : Nat) : State :=
  if (s.upPorts (i / 8)).isEmpty then s
  else (s.fab.flights.filter (fun f => f.tile == i / 8 && f.port == i % 8)).foldl (fun s f => s.resend f 0) s

/-- A command of a port ends. -/
def State.portResult (s : State) (i r : Nat) : State :=
  let s := s.wr EDPEN.CMD_RESULT.result r i
  if r = 2 ∨ r = 5 then s.raise Ev.EDPEN_CMD_DONE i else s

/-- The training that an UNFENCE or RETRAIN started ends. -/
def State.trainResult (s : State) (i r : Nat) : State :=
  if (s.portSt i).byCmd then (s.setPort i { s.portSt i with byCmd := false }).portResult i r else s
/-- An UNFENCE or RETRAIN starts a training. -/
def State.trainByCmd (s : State) (i : Nat) : State := (s.setPort i { s.portSt i with byCmd := true }).portResult i 1

/-- A port leaves UP4 or UP3 (R268). -/
def State.portLeaves (s : State) (i next : Nat) : State :=
  let was := s.pState i
  let s := ((s.wr EDPEN.STATUS.state next i).wr EDPEN.STATUS.lanes_up 0 i).trainResult i 5
  if was = pUP4 ∨ was = pUP3 then ((s.add EDPEN.DOWNS.ports 1 i).raise Ev.PORT_DOWN i).moveTraffic i else s

/-- A port is FENCED or TESTING: nothing but UNFENCE lets it out (Table 8.12). -/
def State.portKept (s : State) (i : Nat) : Bool := s.pState i == pFENCED || s.pState i == pTESTING

/-- Training starts (R269); the credits written take effect where their sum allows (R241). -/
def State.portTrain (s : State) (i : Nat) : State :=
  let cr := [s.rd EDPEN.CREDIT0.tc0 i, s.rd EDPEN.CREDIT0.tc1 i, s.rd EDPEN.CREDIT1.tc2 i, s.rd EDPEN.CREDIT1.tc3 i,
             s.rd EDPEN.CREDIT2.tc4 i, s.rd EDPEN.CREDIT2.tc5 i, s.rd EDPEN.CREDIT3.tc6 i, s.rd EDPEN.CREDIT3.tc7 i]
  let x := { s.portSt i with attemptAt := some s.now }
  let x := if cr.sum ≤ 8192 then { x with credits := cr.foldr (fun c a => a * 2 ^ 16 + c) 0 } else x
  (s.setPort i x).wr EDPEN.STATUS.state pTRAINING i

/-- R269, Table 8.12: the port is fenced: its traffic moves and a new round of tests may begin. -/
def State.portFence (s : State) (i : Nat) : State :=
  let s := s.portLeaves i pFENCED
  s.setPort i { s.portSt i with tested := false, passed := false, byTile := false }

/-- R267, R268: a lane that is up fails. -/
def State.laneFails (s : State) (i : Nat) (lane : Nat) : State :=
  if (s.rd EDPEN.STATUS.lanes_up i).testBit lane = false then s
  else if s.pState i = pUP4 then
    (((s.setBit EDPEN.STATUS.lanes_up lane false i).wr EDPEN.STATUS.state pUP3 i).add EDPEN.DOWNS.lanes 1 i).raise Ev.LANE_DOWN i
  else if s.pState i = pUP3 then s.portLeaves i pDOWN
  else s

/-- Add to a count of a window that starts anew when it is over. -/
def tally (now span : Nat) (m : Assoc Nat) (at_ k v : Nat) : Assoc Nat × Nat :=
  if now ≥ at_ + span then (Assoc.put 0 [] k v, now) else (Assoc.put 0 m k (Assoc.get 0 m k + v), at_)

/-- R267: a lane with more corrected symbols in a millisecond than LANE_THRESH, or with more than 16 uncorrectable codewords in a second, fails; the
windows follow one another (DESIGN CHOICE, assumption 136). -/
def State.laneCount (s : State) (i lane symbols uncorr : Nat) : State :=
  let x := s.portSt i
  let (sy, sa) := tally s.now (10 ^ 6) x.symbols x.symbolsAt lane symbols
  let (un, ua) := tally s.now (10 ^ 9) x.uncorr x.uncorrAt lane uncorr
  let s := s.setPort i { x with symbols := sy, symbolsAt := sa, uncorr := un, uncorrAt := ua }
  if Assoc.get 0 sy lane > s.rd EDPEN.LANE_THRESH.symbols i ∨ Assoc.get 0 un lane > 16 then s.laneFails i lane else s


/-! Numbers of a flow (R250). -/

/-- How far a number lies ahead of the one expected. -/
def ahead (next seq : Nat) : Nat := (seq + 65536 - next) % 65536

def RxFlow.isOld (f : RxFlow) (seq : Nat) : Bool := ahead f.next seq ≥ 32768 || f.seen.contains seq

def RxFlow.advance (f : RxFlow) : Nat → RxFlow
  | 0 => f
  | n + 1 => if f.seen.contains f.next then RxFlow.advance { f with next := (f.next + 1) % 65536, seen := f.seen.filter (· != f.next) } n else f

/-- A number has arrived. (DEDUCED, assumption 62) -/
def RxFlow.mark (f : RxFlow) (seq : Nat) : RxFlow := ({ f with seen := seq :: f.seen }).advance (f.seen.length + 1)

/-! Answers (R247, R250, R251). -/

def ackOf (own : Nat) (p : Packet) : Packet := ⟨7, 2, own, p.src, p.job, p.tc, 0, p.seq, 0, [], reverseRoute p.route⟩
def nackOf (own reason : Nat) (p : Packet) : Packet := ⟨8, 2, own, p.src, p.job, p.tc, 0, p.seq, reason, [], reverseRoute p.route⟩
def answerOf (own type addr aux : Nat) (data : List Byte) (p : Packet) : Packet :=
  ⟨type, 2, own, p.src, p.job, addr, data.length, p.seq, aux, data, reverseRoute p.route⟩

/-- R251, R254: a refusal is counted, raised, and its header as it arrived queued for FABRIC. (DEDUCED, assumption 58) -/
def State.refused (s : State) (t reason : Nat) (p : Packet) : State :=
  let s := ((s.add MIDWAY.REFUSED.count 1 t).wr MIDWAY.REFUSED.last_reason reason t).raise Ev.ARRIVAL_REFUSED t
  s.fabricPut (4096 * t + 4073) (p.header (p.route % 8))

/-- The partition that owns an address (R251). -/
def State.ownerOf (s : State) (addr n : Nat) : Option Nat := (List.range 16).find? (fun p => s.ownsRange p addr n)

/-- R251: the checks of an access to memory: the owner, or the reason of a refusal. (DEDUCED, assumption 59) -/
def State.checkAddr (s : State) (t addr n job : Nat) (mgmt : Bool) : Except Nat Nat :=
  match s.ownerOf addr n with
  | none => .error 2
  | some p =>
    if !mgmt && !(s.is MIDWAY.JOB_TAG.valid t p && s.jobTag t p == job) then .error 1
    else if !s.running p then .error 4 else .ok p

/-- An arrival's write, and its read: none where a codeword or word cannot be read (DEDUCED, assumption 59). -/
def State.arrWrite (s : State) (addr : Nat) (data : List Byte) : Bool × State :=
  match targetOf addr with
  | .hbm k off => let r := (s.add HS.WRITE.bytes data.length k).writeStack (data.length / 32 + 2) k off data none; (r.1.isNone, r.2)
  | _ => s.sramPut (sramKey addr) data
/-- DEDUCED assumption 59. -/
def State.arrRead (s : State) (addr n : Nat) : Option (List Byte) × State :=
  match targetOf addr with
  | .hbm k off =>
    match (s.add HS.READ.bytes n k).readStack (n / 32 + 2) k off n .tile none with
    | (.ok bs, s) => (some bs, s)
    | (.error _, s) => (none, s)
  | _ => (s.sramRead (sramKey addr) n, s.sramSee none (sramKey addr) n)

/-- What becomes of an arrival: it is answered; it finds a codeword or word that cannot be read, and stays without an answer; or it waits, so many of
its bytes in cells. -/
inductive Served where
  | answer (a : Packet) (s : State)
  | lost (s : State)
  | wait (placed : Nat) (s : State)
deriving DecidableEq, Repr

/-- A refused arrival's answer. -/
def State.nack (s : State) (t reason : Nat) (p : Packet) : Served := .answer (nackOf (s.globalTile t) reason p) (s.refused t reason p)
/-- An arrival that has taken effect. -/
def State.ack (s : State) (t : Nat) (p : Packet) : Served := .answer (ackOf (s.globalTile t) p) s

/-- PUT (R250, R251). -/
def State.servePut (s : State) (t : Nat) (p : Packet) : Served :=
  match s.checkAddr t p.addr (max 1 p.payload.length) p.job false with
  | .error r => s.nack t r p
  | .ok _ => match s.arrWrite p.addr p.payload with
    | (true, s) => s.ack t p
    | (false, s) => .lost s

/-- GET_REQ (R247, R251). -/
def State.serveGet (s : State) (t : Nat) (p : Packet) : Served :=
  match s.checkAddr t p.addr (max 1 p.length) p.job false with
  | .error r => s.nack t r p
  | .ok _ => match s.arrRead p.addr p.length with
    | (some bs, s) => .answer (answerOf (s.globalTile t) 3 p.addr p.aux bs p) s
    | (none, s) => .lost s

/-- ATOMIC_REQ (R88, R250 to R252). The packet holds one entry; the compare value of a CAS, which R88 takes from the next one, does not come with it
and is open (DESIGN CHOICE, assumption 65). -/
def State.serveAtomic (s : State) (t : Nat) (p : Packet) : Served :=
  let size := if p.aux / 8 % 2 = 1 then 8 else 4
  let a := p.addr / size * size
  match s.checkAddr t a size p.job false with
  | .error r => s.nack t r p
  | .ok _ =>
    match s.arrRead a size with
    | (none, s) => .lost s
    | (some bs, s) =>
      let old := leNat bs
      let arg := leNat ((p.payload.drop 8).take size)
      let cmp := Config.openValue 0x101 [p.src, p.tc, p.seq, p.addr] % 2 ^ (8 * size)
      match s.arrWrite a (leBytes size (atomicOp (p.aux % 8) size old arg cmp)) with
      | (true, s) => .answer (answerOf (s.globalTile t) 5 p.addr 0 (leBytes 8 old) p) s
      | (false, s) => .lost s

/-- The number under which a flow's arrivals wait at a queue. -/
def flowWho (p : Packet) : Nat := 2048 + p.src * 8 + p.tc

/-- ENQ (R222, R227, R242, R251, R255): its bytes go into cells, `cells` at most; what finds none waits in the receive buffer, in its turn. `placed`
bytes are in cells already. -/
def State.serveEnq (s : State) (t : Nat) (p : Packet) (placed cells : Nat) : Served :=
  let k := 4096 * t + p.addr % 4096
  let q := s.queue k
  let who := flowWho p
  if !q.enabled || q.error || !q.remoteEn then (s.unstall k who).nack t 3 p
  else if !(s.is MIDWAY.JOB_TAG.valid t q.owner && s.jobTag t q.owner == p.job) then (s.unstall k who).nack t 1 p
  else if !s.running q.owner then (s.unstall k who).nack t 4 p
  else if !s.mayEnqueue k who then .wait placed (s.stallOutside k who [])
  else
    let (id, s') := match q.pkts.find? (fun x => x.openBy == some who) with
      | some x => if p.aux % 2 = 1 ∧ placed = 0 then s.newPkt k (some who) none else (x.id, s)
      | none => s.newPkt k (some who) none
    match s'.fillCells k id cells (p.payload.drop placed) with
    | ([], s) =>
      let s := if p.aux / 2 % 2 = 1 then s.closePkt k id false else s.markAvail k id
      ((s.unstall k who).jugEngine t).ack t p
    | (rest, s'') =>
      if rest.length = p.payload.length then .wait 0 ((s.stallOutside k who []).jugEngine t)
      else .wait (p.payload.length - rest.length) (((s''.markAvail k id).stallOutside k who []).jugEngine t)

/-- R289: a host command that the primary forwards goes onto the standby's own host-command queue; the partition is the one that has the sender as
the partner's tile of this one, in the class of the pair. (DEDUCED, assumption 64) -/
def State.servePair (s : State) (t : Nat) (p : Packet) : Served :=
  match (List.range 16).find? (fun n => s.standing n && s.pairTile n t == p.src && s.rd MOD.PAIR_CFG.tc 0 n == p.tc && s.holdsTile n t) with
  | some n =>
    let k := 4096 * t + 4080 + n
    match s.putWhole k (flowWho p) p.payload with
    | some s => s.ack t p
    | none => .wait 0 (s.stallOutside k (flowWho p) [])
  | none => s.nack t 3 p

/-- The effect of a numbered arrival by its type (Table 8.6). -/
def State.serveReq (s : State) (t : Nat) (p : Packet) (placed cells : Nat) : Served :=
  if p.type = 1 then s.servePut t p else if p.type = 2 then s.serveGet t p else if p.type = 4 then s.serveAtomic t p
  else if p.addr % 4096 ≥ 4080 then s.servePair t p else s.serveEnq t p placed cells

/-- The partition an arrival is for: the owner of its address or queue. (DEDUCED, assumption 64) -/
def State.partOfArrival (s : State) (t : Nat) (p : Packet) : Option Nat :=
  if p.type = 6 then some (s.queue (4096 * t + p.addr % 4096)).owner else s.ownerOf p.addr (max 1 p.length)

/-- The partition is the primary of a pair in force. -/
def State.leading (s : State) (n : Nat) : Bool := s.is MOD.PART_STATE.paired 0 n && s.is MOD.PART_STATE.primary 0 n

/-- R289: the primary of a pair in force sends a copy to the standby and holds the answer; otherwise the answer goes at once. (DEDUCED, assumption 64) -/
def State.answer (s : State) (t via : Nat) (p a : Packet) : State :=
  match s.partOfArrival t p with
  | some n =>
    if a.type ≠ 8 ∧ s.leading n then
      (s.sendFlow t ⟨some n, none, 0, 0, 0, true⟩ p.type (s.rd MOD.PAIR_CFG.tc 0 n) (s.pairTile n t) p.addr p.length p.aux p.payload true
        (some (via, a))).getD (s.sendBack t via a)
    else s.sendBack t via a
  | none => s.sendBack t via a

/-- An answer to an arrival is held for a copy (R289). -/
def State.answerHeld (s : State) (t : Nat) (p : Packet) : Bool :=
  s.fab.flights.any fun f => f.tile == t && (match f.held with | some (_, a) => a.dst == p.src && a.seq == p.seq && (a.type != 7 || a.addr == p.tc) | none => false)

/-- A numbered arrival is served, `cells` cells at most. Where it takes effect its number is taken and its answer sent, and kept where it is no plain
acknowledgement; one that waits stays in the receive buffer (R242, R250); one that stays without an answer leaves its number open.
(DEDUCED, assumption 62) -/
def State.takeReq (s : State) (t key via : Nat) (p : Packet) (cells : Nat) : State × Bool :=
  let f := (s.flow key).getD ⟨0, [], [], [], 0⟩
  match s.serveReq t p (if p.seq = f.next then f.placed else 0) cells with
  | .answer a s =>
    let g := (f.mark p.seq)
    let g := { g with early := g.early.filter (fun x => x.2.seq != p.seq), placed := if p.seq = f.next then 0 else g.placed,
                      answers := if a.type = 7 then g.answers else ((p.seq, a) :: g.answers).take 4096 }
    ((s.setFlow key g).answer t via p a, true)
  | .lost s => (s.setFlow key { f with early := f.early.filter (fun x => x.2.seq != p.seq) }, false)
  | .wait n s =>
    (s.setFlow key { f with early := if f.early.any (fun x => x.2.seq == p.seq) then f.early else f.early ++ [(via, p)], placed := n }, false)

/-- Arrivals that wait take effect in order, as far as they can (R250). (DEDUCED, assumption 62) -/
def State.drainEarly (s : State) (t key cells : Nat) : Nat → State
  | 0 => s
  | n + 1 =>
    match s.flow key with
    | some f =>
      match f.early.find? (fun x => x.2.seq == f.next) with
      | some (via, p) => match s.takeReq t key via p cells with
        | (s, true) => State.drainEarly s t key cells n
        | (s, false) => s
      | none => s
    | none => s

/-- The number of a flow from a source tile in a class, at a tile. -/
def flowKey (t src tc : Nat) : Nat := (t * 2 ^ 18 + src) * 8 + tc

/-- One producer from outside goes on in its turn, by one cell: an arrival that waits, or a record of FABRIC (R222, R227). None where it is nobody's
turn, or a stream's or the host's. -/
def State.serveOne (s : State) (t : Nat) : Option State :=
  match s.nextProducer t with
  | none => none
  | some k =>
    match s.firstProducer k with
    | none => none
    | some who =>
      if who = 2 ^ 25 then
        match (s.queue k).outside.find? (·.who == who) with
        | some o => (s.takeTurn k).putWhole k who o.bytes
        | none => none
      else if 2048 ≤ who ∧ who < 2 ^ 24 then
        let key := flowKey t ((who - 2048) / 8) ((who - 2048) % 8)
        match s.flow key with
        | some f => some ((s.takeTurn k).drainEarly t key 1 (f.early.length + 1))
        | none => none
      else none

/-- Producers from outside go on until none can. -/
def State.serveMany (s : State) (t : Nat) : Nat → State
  | 0 => s
  | n + 1 => match s.serveOne t with | some s => State.serveMany s t n | none => s

/-- Cells may have become free on a tile: who waits there goes on. -/
def State.serveHeld (s : State) (t : Nat) : State := s.serveMany t (20 * (s.stalledQueues t).length + 20)

/-- A PUT, GET_REQ, ATOMIC_REQ or ENQ arrives at a tile by a port or over Midway (R250). An ENQ or ATOMIC_REQ takes effect in its number's turn; a
duplicate is acknowledged again, once its answer is not held for a copy (R289). -/
def State.request (s : State) (t via : Nat) (p : Packet) : State :=
  let key := flowKey t p.src p.tc
  let f := (s.flow key).getD ⟨0, [], [], [], 0⟩
  if f.isOld p.seq then
    if s.answerHeld t p then s
    else match f.answers.find? (fun x => x.1 == p.seq) with
    | some x => s.sendBack t via x.2
    | none =>
      if p.type = 2 then (match s.serveGet t p with | .answer a s => s.sendBack t via a | .lost s => s | .wait _ s => s)
      else s.sendBack t via (ackOf (s.globalTile t) p)
  else if (p.type = 4 ∨ p.type = 6) ∧ (p.seq ≠ f.next ∨ f.early.any (fun x => x.2.seq == p.seq)) then
    let s := if f.early.any (fun x => x.2.seq == p.seq) then s else s.setFlow key { f with early := f.early ++ [(via, p)] }
    s.drainEarly t key 20 (f.early.length + 1)
  else
    let r := s.takeReq t key via p 20
    if r.2 then r.1.drainEarly t key 20 (f.early.length + 1) else r.1

/-! What a port counts (R240, R267, R272). -/

/-- DESIGN CHOICE assumption 136. -/
def State.rxCount (s : State) (t : Nat) (rx : Rx) (bytes : Nat) : State :=
  let i := 8 * t + rx.port.val
  let s := (s.add EDPEN.FEC_CORR.count rx.corrected.toNat i).add EDPEN.FEC_UNCORR.count rx.uncorrected.toNat i
  let s := (s.add EDPEN.LANE_ERR.symbols rx.symbols.toNat i rx.lane).add EDPEN.RETRIES.count rx.resends.toNat i
  let s := s.add EDPEN.RX.bytes bytes i
  let x := s.portSt i
  let x := if s.now ≥ x.retryAt + 10 ^ 9 then { x with retries := 0, retryAt := s.now } else x
  let s := s.setPort i { x with retries := x.retries + rx.resends.toNat }
  let s := if x.retries + rx.resends.toNat > 1000 then s.raise Ev.RETRY_HIGH i else s
  s.laneCount i rx.lane rx.symbols.toNat rx.uncorrected.toNat

/-- The port can receive: it is UP and the compute domain runs (R251). (DESIGN CHOICE, assumption 136) -/
def State.portReceives (s : State) (t : Nat) (rx : Rx) : Bool := (s.upPorts t).contains rx.port.val && s.tileUp t

/-- A packet of partition traffic arrives at a port; where R245 forbids it, it is discarded unanswered. -/
def State.arrive (s : State) (t : Nat) (rx : Rx) (bytes : Nat) (act : State → State) : State :=
  if !s.portReceives t rx then s
  else let s := s.rxCount t rx bytes; if s.edpenOn t then act s else s

/-- A request's packet as it arrives. -/
def reqPacket (s : State) (t type tc : Nat) (rx : Rx) (h : Head) (addr length aux : Nat) (data : List Byte) : Packet :=
  ⟨type, tc, h.src.toNat, s.globalTile t, h.job.toNat, addr, length, h.seq.toNat, aux, data, rx.route.toNat⟩

/-- PUT (R250, R251). A packet of class `tc` above 3 is a copy from a pair's primary (R289). -/
def execPut (t : TileId) (rx : Rx) (h : Head) (tc : Fin 8) (addr : BitVec 46) (data : List Byte) (s : State) : Host.Outcome State Fault Refusal :=
  .next (s.arrive t rx data.length fun s => s.request t rx.port (reqPacket s t 1 tc rx h addr.toNat data.length 0 data))

/-- GET_REQ (R247). A packet of a class above 3 is a copy from a pair's primary (R289). -/
def execGetReq (t : TileId) (rx : Rx) (h : Head) (addr : BitVec 46) (length : Fin 4097) (slot : BitVec 16) (s : State) :
    Host.Outcome State Fault Refusal :=
  .next (s.arrive t rx 0 fun s => s.request t rx.port (reqPacket s t 2 h.cls rx h addr.toNat length slot.toNat []))

/-- ATOMIC_REQ (R250). (DEDUCED, assumption 65) -/
def execAtomicReq (t : TileId) (rx : Rx) (h : Head) (tc : Fin 8) (addr : BitVec 46) (op : Fin 8) (wide : Bool) (data : List Byte) (s : State) :
    Host.Outcome State Fault Refusal :=
  .next (s.arrive t rx data.length fun s =>
    s.request t rx.port (reqPacket s t 4 tc rx h addr.toNat data.length (op.val + (if wide then 8 else 0)) data))

/-- ENQ (R255). -/
def execEnq (t : TileId) (rx : Rx) (h : Head) (tc : Fin 8) (queue : Fin 4096) (first last : Bool) (data : List Byte) (s : State) :
    Host.Outcome State Fault Refusal :=
  .next (s.arrive t rx data.length fun s =>
    s.request t rx.port (reqPacket s t 6 tc rx h queue.val data.length ((if first then 1 else 0) + (if last then 2 else 0)) data))

/-! Answers at the source (R247, R250, R251). -/

def State.dropFlight (s : State) (f : Flight) : State :=
  (s.putFab { s.fab with flights := s.fab.flights.filter (fun g => !(g == f)) })

/-- R289: the copy is acknowledged: the answer held for the first sender goes out. -/
def State.freeHeld (s : State) (f : Flight) : State := match f.held with | some (via, a) => s.sendBack f.tile via a | none => s

/-- The descriptor a flight belongs to. -/
def State.flightDesc (s : State) (f : Flight) : Option (Nat × Desc) :=
  match f.core with
  | some c => ((s.core c).descs.find? (fun d => d.id == f.desc)).map fun d => (c, d)
  | none => none

/-- A flight ends its partition's step in error; a copy for the standby ends nobody's, and the answer held for it goes (R292). -/
def State.flightFault (s : State) (f : Flight) (code : Nat) : State :=
  if f.copy then (s.dropFlight f).freeHeld f
  else match s.flightDesc f with
  | some (c, d) => (s.dropFlight f).descFault c d code f.pkt.addr
  | none => ((s.dropFlight f).freeHeld f).optFault f.part code f.pkt.addr

/-- An ACK for a class and number (R250). -/
def State.gotAck (s : State) (t src tc seq : Nat) : State :=
  match s.fab.flights.find? (fun f => f.tile == t && f.pkt.dst == src && f.pkt.tc == tc && f.pkt.seq == seq) with
  | some f => (s.dropFlight f).freeHeld f
  | none => s

/-- A NACK (R251): EDPEN_REFUSED; of class 1 it ends the collectives that sent to its source (`ends`). -/
def State.gotNack (s : State) (t src tc seq : Nat) (ends : State → State) : State :=
  if tc = 1 then ends s
  else match s.fab.flights.find? (fun f => f.tile == t && f.pkt.dst == src && f.pkt.tc == tc && f.pkt.seq == seq) with
  | some f => s.flightFault f fEDPEN_REFUSED
  | none => s

/-- A GET_RSP brings the bytes that a descriptor asked for (R248). (DEDUCED, assumption 63) -/
def State.gotGetRsp (s : State) (t src slot : Nat) (data : List Byte) : State :=
  match s.fab.flights.find? (fun f => f.tile == t && f.pkt.type == 2 && f.pkt.dst == src && f.pkt.aux == slot) with
  | some f =>
    let s := (s.dropFlight f).freeHeld f
    match s.flightDesc f with
    | some (c, d) => s.setDesc c { d with cache := d.cache ++ (data.zipIdx.map fun x => (src * 2 ^ 46 + f.pkt.addr + x.2, x.1)) }
    | none => s
  | none => s

/-- An ATOMIC_RSP brings the old value into the descriptor's entry (R88, R247). (DEDUCED, assumption 63) -/
def State.gotAtomicRsp (s : State) (t src seq : Nat) (old : List Byte) : State :=
  match s.fab.flights.find? (fun f => f.tile == t && f.pkt.type == 4 && f.pkt.dst == src && f.pkt.seq == seq) with
  | some f =>
    let s := (s.dropFlight f).freeHeld f
    match s.flightDesc f with
    | some (c, d) =>
      let (ok, s) := s.corePut c (descLocal d + 16 * f.tag + 8) (old.take 8)
      if ok then s else s.descFault c d fSRAM_UE (coreAddr c (descLocal d + 16 * f.tag))
    | none => s
  | none => s

/-- ACK (R250). -/
def execAck (t : TileId) (rx : Rx) (src : BitVec 18) (cls : Fin 8) (seq : BitVec 16) (s : State) : Host.Outcome State Fault Refusal :=
  .next (s.arrive t rx 0 fun s => s.gotAck t src.toNat cls seq.toNat)

/-- GET_RSP (R247). -/
def execGetRsp (t : TileId) (rx : Rx) (src : BitVec 18) (slot : BitVec 16) (data : List Byte) (s : State) : Host.Outcome State Fault Refusal :=
  .next (s.arrive t rx data.length fun s => s.gotGetRsp t src.toNat slot.toNat data)

/-- ATOMIC_RSP (R247). -/
def execAtomicRsp (t : TileId) (rx : Rx) (src : BitVec 18) (seq : BitVec 16) (old : Word64) (s : State) : Host.Outcome State Fault Refusal :=
  .next (s.arrive t rx 8 fun s => s.gotAtomicRsp t src.toNat seq.toNat (leBytes 8 old.toNat))

/-! Timeouts (R237, R250). -/

/-- E2E_TIMEOUT (R250): of the packet in flight numbered i. A copy for the standby that stays unanswered waits for the end of the pair (R292). -/
def execE2eTimeout (i : BitVec 16) (s : State) : Host.Outcome State Fault Refusal :=
  .next (match s.fab.flights[i.toNat]? with
    | some f => if f.port < 8 ∧ s.timedOut f then (if f.resends < 3 then s.resend f 1 else if f.copy then s else s.flightFault f fLINK_TIMEOUT) else s
    | none => s)

/-- A Midway request is lost: neither it nor its answer is on its way, waits at its destination or is held (R237). -/
def State.midLost (s : State) (f : Flight) : Bool :=
  let answers := fun (a : Packet) => a.src == f.pkt.dst && a.dst == f.pkt.src && a.seq == f.pkt.seq
  !(s.fab.midway.any fun m => m.pkt == f.pkt || (m.cls == 1 && answers m.pkt)) &&
    !(s.fab.flows.any fun x => match x.2 with | some g => g.early.any (·.2 == f.pkt) | none => false) &&
    !(s.fab.flights.any fun g => match g.held with | some (_, a) => answers a | none => false)

/-- LINK_TIMEOUT (R237): a Midway request that was lost with a tile gets no response. -/
def execLinkTimeout (i : BitVec 16) (s : State) : Host.Outcome State Fault Refusal :=
  .next (match s.fab.flights[i.toNat]? with
    | some f => if f.port = 8 ∧ s.timedOut f ∧ s.midLost f then s.flightFault f fLINK_TIMEOUT else s
    | none => s)

/-! Send queues (R255). -/

/-- The pieces of a message: offset and length. -/
def segments (n : Nat) : List (Nat × Nat) := (List.range ((n + 4095) / 4096)).map fun i => (4096 * i, min 4096 (n - 4096 * i))

/-- SEND_QUEUE_SERVE (R255): the first packet of a send queue leaves. A bad header is owed to the sender's next boundary. -/
def State.sendServe (s : State) (t q : Nat) : State :=
  let k := 4096 * t + 4068 + q
  match (s.queue k).pkts.find? (fun p => !p.gone) with
  | none => s
  | some p =>
    if !p.avail || !p.closed || !s.tileUp t then s
    else
      let s := (s.freePkt k (p.cells.map fun i => (p.id, i))).dropPkt k p.id
      let s := s.setQueue k { s.queue k with lastDeq := s.beat.count % 2 ^ 32, timer := some s.now }
      let w0 := leNat (p.data.take 4)
      let w1 := leNat ((p.data.drop 4).take 2)
      let msg := p.data.drop 32
      let bad := w0 ≥ 2 ^ 18 || w1 ≥ 2 ^ 12 || leNat ((p.data.drop 6).take 26) != 0 || p.data.length ≤ 32
      let s := if bad then (match p.part with | some n => s.setPart n { s.part n with owed := some fPACKET_FAULT } | none => s)
        else
          let segs := segments msg.length
          let go : State × Bool := segs.foldl (fun (acc : State × Bool) x =>
            if acc.2 then
              match acc.1.sendFlow t ⟨p.part, none, 0, 0, 0, false⟩ 6 (4 + q) (w0 % 2 ^ 18) w1 x.2
                  ((if x.1 = 0 then 1 else 0) + (if x.1 + x.2 = msg.length then 2 else 0)) ((msg.drop x.1).take x.2) true with
              | some s => (s, true)
              | none => (acc.1, false)
            else acc) (s, true)
          if go.2 then go.1 else go.1.optFault p.part fROUTE_FAULT 0
      (s.jugEngine t).serveHeld t

def execSendQueueServe (t : TileId) (q : Fin 4) (s : State) : Host.Outcome State Fault Refusal := .next (s.sendServe t q)

/-! Events and commands of a port (R267 to R269). -/

/-- LANE_FAIL (R267, R268). (DESIGN CHOICE, assumption 136) -/
def execLaneFail (i : PortId) (lane : Fin 4) (s : State) : Host.Outcome State Fault Refusal :=
  .next (s.laneFails i lane)

/-- PORT_DOWN (R268): the partner has sent nothing for 10 µs. -/
def execPortDown (i : PortId) (s : State) : Host.Outcome State Fault Refusal :=
  .next (if s.pState i = pUP4 ∨ s.pState i = pUP3 then s.portLeaves i pDOWN else s)

/-- PORT_TRAIN_START (R269). -/
def execPortTrainStart (i : PortId) (s : State) : Host.Outcome State Fault Refusal :=
  .next (
    let due : Bool := match (s.portSt i).attemptAt with | some t0 => decide (t0 + 10 ^ 9 ≤ s.now) | none => true
    if s.pState i = pDOWN ∧ s.is EDPEN.CTRL.enable i ∧ s.tileUp (i.val / 8) ∧ due then s.portTrain i else s)

/-- PORT_TRAIN_END (R269): the lanes that came up within 200 ms, and the eye margins found. (DESIGN CHOICE, assumption 110) -/
def execPortTrainEnd (i : PortId) (lanes : BitVec 4) (margins : Word) (s : State) : Host.Outcome State Fault Refusal :=
  .next (
    if s.pState i ≠ pTRAINING then s
    else
      let up := lanes.toNat &&& s.rd EDPEN.CTRL.lane_en i
      let n := ((List.range 4).filter (fun l => up.testBit l)).length
      let s := (s.wr EDPEN.STATUS.lanes_up (if n ≥ 3 then up else 0) i).wr EDPEN.LANE_MARGIN.margin margins.toNat i
      let s := if n = 4 then (s.wr EDPEN.STATUS.state pUP4 i).raise Ev.PORT_UP i
        else if n = 3 then ((((s.wr EDPEN.STATUS.state pUP3 i).raise Ev.PORT_UP i).add EDPEN.DOWNS.lanes 1 i).raise Ev.LANE_DOWN i)
        else s.wr EDPEN.STATUS.state pDOWN i
      s.trainResult i (if n ≥ 3 then 2 else 5))

/-- PORT_FENCE (R269). -/
def execPortFence (m : MasterId) (i : PortId) (s : State) : Host.Outcome State Fault Refusal :=
  .next (s.gate m .EDPEN i 0x040 fun s =>
    let st := s.pState i
    if st = pUP4 ∨ st = pUP3 ∨ st = pDOWN then (s.portFence i).portResult i 2 else s.portResult i 4)

/-- PORT_UNFENCE (R269). -/
def execPortUnfence (m : MasterId) (i : PortId) (s : State) : Host.Outcome State Fault Refusal :=
  .next (s.gate m .EDPEN i 0x040 fun s =>
    let x := s.portSt i
    if s.pState i = pFENCED ∧ (x.passed ∨ x.tested = false) then (s.portTrain i).trainByCmd i else s.portResult i 4)

/-- PORT_RETRAIN (R269): on an UP port refused STATE (DEDUCED, assumption 60). -/
def execPortRetrain (m : MasterId) (i : PortId) (s : State) : Host.Outcome State Fault Refusal :=
  .next (s.gate m .EDPEN i 0x040 fun s =>
    if s.pState i = pDOWN ∧ s.is EDPEN.CTRL.enable i then (s.portTrain i).trainByCmd i else s.portResult i 4)

/-- PORT_TEST (R269, R519): on an UP port refused BUSY (DEDUCED, assumption 60). -/
def execPortTest (m : MasterId) (i : PortId) (s : State) : Host.Outcome State Fault Refusal :=
  .next (s.gate m .EDPEN i 0x040 fun s =>
    let st := s.pState i
    if st = pFENCED ∧ s.testBusy btPort i = false then
      (((s.startTest btPort i 0).setPort i { s.portSt i with tested := true, passed := false }).wr EDPEN.STATUS.state pTESTING i).portResult i 1
    else s.portResult i (if st = pDOWN ∨ st = pTRAINING then 4 else 3))

/-! Midway links (R235, R236). -/

/-- The home of a link: its lower tile and dimension. -/
def linkKey (t d : Nat) : Nat := 4 * min t (t ^^^ 2 ^ d) + d

/-- Both ends of a link show a state. -/
def State.setLink (s : State) (t d : Nat) (up : Bool) : State :=
  (s.setBit MIDWAY.STATUS.link_up d up t).setBit MIDWAY.STATUS.link_up d up (t ^^^ 2 ^ d)

/-- The link leaves service: counted and raised at both ends; routes follow the links in service (R235, R236). -/
def State.linkDown (s : State) (t d : Nat) : State :=
  let u := t ^^^ 2 ^ d
  let s := (((s.setLink t d false)).putFab { s.fab with links := Assoc.put none s.fab.links (linkKey t d) (some ⟨s.now, 0⟩) })
  (((s.add MIDWAY.LINK_DOWNS.count 1 t d).add MIDWAY.LINK_DOWNS.count 1 u d).raise Ev.MIDWAY_LINK_DOWN t).raise Ev.MIDWAY_LINK_DOWN u

/-- MIDWAY_LINK_DOWN (R235). -/
def execMidwayLinkDown (t : TileId) (d : Fin 3) (s : State) : Host.Outcome State Fault Refusal :=
  .next (if s.linkUp t d then s.linkDown t d else s)

/-- MIDWAY_RETRAIN (R235): at 1 s intervals, three times. -/
def execMidwayRetrain (t : TileId) (d : Fin 3) (ok : Bool) (s : State) : Host.Outcome State Fault Refusal :=
  .next (match Assoc.get none s.fab.links (linkKey t d) with
    | some l =>
      if l.tries < 3 ∧ l.downAt + (l.tries + 1) * 10 ^ 9 ≤ s.now ∧ s.tileLost t = false ∧ s.tileLost (t.val ^^^ 2 ^ d.val) = false then
        if ok then
          let s := (((s.setLink t d true)).putFab { s.fab with links := Assoc.del (linkKey t d) s.fab.links })
          (s.raise Ev.MIDWAY_LINK_UP t).raise Ev.MIDWAY_LINK_UP (t.val ^^^ 2 ^ d.val)
        else (s.putFab { s.fab with links := Assoc.put none s.fab.links (linkKey t d) (some { l with tries := l.tries + 1 }) })
      else s
    | none => s)

/-! Module numbers and routes (R244, R245). -/

/-- Tiles that disagree with the lowest-numbered in-service tile raise MODULE_ID_MISMATCH (R245). -/
def State.checkIds (s : State) : State :=
  s.forEach 8 (fun s t => !s.tileLost t && !s.idAgrees t) (fun s t => s.raise Ev.MODULE_ID_MISMATCH t)

/-- The lowest-numbered in-service tile; where it is another one than before, the tiles are held to it. -/
def State.idTile (s : State) : Option Nat := (List.range 8).find? (fun u => s.rd TILE.STATUS.state u == 0)
def State.recheckIds (s : State) (before : Option Nat) : State := if s.idTile = before then s else s.checkIds

/-- MODULE_ID_WRITE (R245): ignored while a partition that uses the tile runs. -/
def State.moduleIdWrite (s : State) (t v : Nat) : State :=
  if (List.range 16).any (fun p => s.running p && s.holdsTile p t) then s
  else ((s.wr MIDWAY.MODULE_ID.module v t).wr MIDWAY.MODULE_ID.valid (v / 2 ^ 31) t).checkIds
def execModuleIdWrite (m : MasterId) (t : TileId) (v : Word) (s : State) : Host.Outcome State Fault Refusal :=
  .next (s.gate m .MIDWAY t 0x040 fun s => s.moduleIdWrite t v.toNat)

/-- A route entry is replaced whole. -/
def State.setRoute (s : State) (t e v : Nat) : State := (s.putFab { s.fab with routes := Assoc.put 0 s.fab.routes (t * 32768 + e) v })

/-- R244 (the text beside Table 8.4): HOST, MCA, MCB and FLEET write route entries. -/
def routeMaster (m : Nat) : Bool := m == HOST || m == MCA || m == MCB || m == FLEET

/-- ROUTE_HI_WRITE (R244). -/
def State.routeHiWrite (s : State) (m t v : Nat) : State :=
  if routeMaster m then
    let s := s.wr MIDWAY.ROUTE_HI.bits_hi v t
    s.setRoute t (s.rd MIDWAY.ROUTE_SEL.entry t) (s.rd MIDWAY.ROUTE_LO.bits_lo t + v % 2 ^ 32 * 2 ^ 32)
  else s
def execRouteHiWrite (m : MasterId) (t : TileId) (v : Word) (s : State) : Host.Outcome State Fault Refusal :=
  .next (s.gate m .MIDWAY t 0x050 fun s => s.routeHiWrite m t v.toNat)

/-- ROUTE_LOAD_CMD (R244). (DEDUCED, assumption 61) -/
def State.routeLoad (s : State) (m t v : Nat) : State :=
  let count := bits v 30 15
  if routeMaster m ∧ v.testBit 31 ∧ 1 ≤ count ∧ count ≤ 32768 ∧ s.is MIDWAY.STATUS.route_loading t = false then
    (((s.wr MIDWAY.STATUS.route_loading 1 t)).putFab { s.fab with loads := Assoc.put none s.fab.loads t (some (v % 32768, count)) })
  else s
/-- DEDUCED assumption 61. -/
def execRouteLoadCmd (m : MasterId) (t : TileId) (v : Word) (s : State) : Host.Outcome State Fault Refusal :=
  .next (s.gate m .MIDWAY t 0x05C fun s => s.routeLoad m t v.toNat)

/-- ROUTE_LOAD_DONE (R244): entries that the table cannot give are left as they are (DEDUCED, assumption 61). -/
def execRouteLoadDone (t : TileId) (s : State) : Host.Outcome State Fault Refusal :=
  .next (match Assoc.get none s.fab.loads t with
    | some (first, count) =>
      let base := s.rd MIDWAY.ROUTE_LOAD.addr t
      let s := (List.range count).foldl (fun s i =>
        match targetOf (base + 8 * i) with
        | .hbm k off =>
          if s.stackServes k && first + i < 32768 then
            match s.readStack 2 k off 8 .tile none with
            | (.ok bs, s) => s.setRoute t (first + i) (leNat bs)
            | (.error _, s) => s
          else s
        | _ => s) s
      let s := (((s.wr MIDWAY.STATUS.route_loading 0 t)).putFab { s.fab with loads := Assoc.del t s.fab.loads })
      s.raise Ev.ROUTE_LOAD_DONE t
    | none => s)

/-! Messages into queues from management packets (R263, R265). -/

/-- PACE (R265): the record goes into the collector queue, subject to its checks, or waits for it (R227). -/
def State.paceArrive (s : State) (t : Nat) (p : Packet) : State :=
  let k := 4096 * t + p.addr % 4096
  let q := s.queue k
  if !q.enabled || q.error || !q.remoteEn then s.refused t 3 p
  else if !s.running q.owner then s.refused t 4 p
  else s.fabricPut k p.payload

def execPace (t : TileId) (rx : Rx) (src : BitVec 18) (queue : Fin 4096) (data : BitVec 256) (s : State) : Host.Outcome State Fault Refusal :=
  .next (if s.portReceives t rx then
      (s.rxCount t rx 32).paceArrive t ⟨0x11, 0, src.toNat, s.globalTile t, 0, queue.val, 32, 0, 0, leBytes 32 data.toNat, rx.route.toNat⟩
    else s)

end Sys2Proof.Machine
end

