-- ==== Sys2Proof/Machine/Coll.lean ====
section
/-! DEFINITION. Collectives (R257 to R262), PARTNER_PARKED (R266) and the messages that cross Midway (R234, R255). -/

namespace Sys2Proof.Machine

/-! The context (Table 8.9). -/

def cKind (x : Nat) : Nat := dw x 0 3 0
def cAlg (x : Nat) : Nat := dw x 0 7 4
def cFmt (x : Nat) : Fmt := (Fmt.ofCode (dw x 0 12 8)).getD (.int 8)
def cOp (x : Nat) : Nat := dw x 0 15 13
def cExact (x : Nat) : Bool := dw x 0 16 16 == 1
def cFixed (x : Nat) : Bool := dw x 0 17 17 == 1
def cClosing (x : Nat) : Bool := dw x 0 18 18 == 1
def cFanin (x : Nat) : Nat := dw x 0 29 24
def cSrc (x : Nat) : Nat := dw x 1 21 0
def cDst (x : Nat) : Nat := dw x 2 21 0
def cCount (x : Nat) : Nat := dw x 3 31 0
def cN (x : Nat) : Nat := dw x 4 18 0
def cRank (x : Nat) : Nat := dw x 5 17 0
def cList (x : Nat) : Nat := dw x 6 63 0
def cDeadline (x : Nat) : Nat := dw x 8 31 0
def cRound (x : Nat) : Nat := dw x 9 31 0
def cFlag (x : Nat) : Nat := dw x 10 7 0
def cResult (x : Nat) : Nat := dw x 11 21 0

/-- Exact words of INT64 go in and come out unchanged (R260). -/
def cRawIo (x : Nat) : Bool := cExact x && dw x 0 12 8 == 4

/-- Malformations of a context (R257 to R261, Table 8.9). -/
def collMalformed (x : Nat) : Bool :=
  let n := cN x
  let f := dw x 0 12 8
  dw x 0 23 19 != 0 || dw x 0 31 30 != 0 || dw x 1 31 22 != 0 || dw x 2 31 22 != 0 || dw x 4 31 19 != 0 || dw x 5 31 18 != 0 ||
  dw x 10 31 8 != 0 || dw x 11 31 22 != 0 || x / 2 ^ 384 % 2 ^ 128 != 0 ||
  cKind x > 4 || cAlg x > 3 || cOp x > 5 || (match Fmt.ofCode f with | some g => g.isBlock | none => true) ||
  n == 0 || n > 262144 || cRank x ≥ n || cResult x % 16 != 0 ||
  (cAlg x == 0 && (cFanin x < 2 || cFanin x > 64)) ||
  (cAlg x == 2 && n != 2 ^ Nat.log2 n) ||
  (cAlg x == 3 && cKind x != 3 && cKind x != 4) || (cKind x == 3 && cAlg x != 3) ||
  (cClosing x && !(cKind x == 4 || (cKind x == 0 && cAlg x == 0))) ||
  (cExact x && (cOp x != 0 || !(f == 4 || f == 0x0B || f == 0x0C || f == 0x0D || f == 0x0E)))

/-- Elements of the source and of the result. -/
def collSrcCount (x : Nat) : Nat := if cKind x = 4 then 0 else if cKind x = 1 ∨ cKind x = 3 then cN x * cCount x else cCount x
def collDstCount (x : Nat) : Nat := if cKind x = 4 then 0 else if cKind x = 2 ∨ cKind x = 3 then cN x * cCount x else cCount x
def collBytes (x n : Nat) : Nat := if cRawIo x then 16 * n else (cFmt x).area n

/-! The carried form of R260: raw words, INT64, FP32, or the patterns of the format. -/

inductive Carried where | raw | i64 | f32 | pat
deriving DecidableEq, Repr

def collForm (x : Nat) : Carried :=
  if cRawIo x then .raw
  else if cKind x = 2 ∨ cKind x = 3 ∨ cOp x ≠ 0 then .pat
  else if cExact x then .raw
  else if (cFmt x).isFloat then .f32 else .i64

def collSize (x : Nat) : Nat := match collForm x with | .raw => 16 | .i64 => 8 | .f32 => 4 | .pat => ((cFmt x).bits + 7) / 8

/-- A contribution's element in the carried form, and back with one rounding (R260, R136, R138); a BOOL is 1 where the sum is not 0 (R116). -/
def collIn (x e : Nat) : Nat :=
  match collForm x with
  | .raw => if cRawIo x then e else place ((gridOf (cFmt x)).getD 0) true ((cFmt x).decode e)
  | .i64 => toPat 64 ((cFmt x).decode e).toInt
  | .f32 => fp32.encode .near ((cFmt x).decode e)
  | .pat => e
def collOut (x e : Nat) : Nat :=
  match collForm x with
  | .raw => if cRawIo x then e else encodeRaw (cFmt x) .near e
  | .i64 => if cFmt x = .bool then (if e % 2 ^ 64 = 0 then 0 else 1) else toPat (cFmt x).bits (limit (cFmt x).bits (sext 64 e))
  | .f32 => (cFmt x).encode .near (fp32.decode e)
  | .pat => e

/-- One combine (R260, R131, R133, R137). -/
def collCombine (x a b : Nat) : Nat :=
  match collForm x with
  | .raw => combineRaw a b
  | .i64 => toPat 64 (sat64 (sext 64 a + sext 64 b))
  | .f32 => fp32.encode .near ((fp32.decode a).add (fp32.decode b))
  | .pat =>
    let f := cFmt x
    if cOp x = 1 then f.encode .near ((f.decode a).min (f.decode b))
    else if cOp x = 2 then f.encode .near ((f.decode a).max (f.decode b))
    else if cOp x = 3 then a &&& b else if cOp x = 4 then a ||| b else a ^^^ b

/-- The elements of an area. -/
def collUnpack (x : Nat) (bs : List Byte) (n : Nat) : List Nat :=
  if cRawIo x then (List.range n).map (fun i => leNat ((bs.drop (16 * i)).take 16)) else unpack (cFmt x) bs n
def collPack (x : Nat) (es : List Nat) : List Byte := if cRawIo x then es.flatMap (leBytes 16) else pack (cFmt x) es

/-! Blocks. -/

/-- Where block i of an ALLREDUCE over a ring or by halving begins (DESIGN CHOICE, assumption 67). -/
def blockAt (x i : Nat) : Nat := i * cCount x / cN x

/-- The blocks a participant begins with. -/
def startBlocks (x : Nat) (es : List Nat) : Assoc (List Nat) :=
  let n := cN x
  if cKind x = 4 then []
  else if cKind x = 0 then
    if cAlg x = 0 then [(0, es)]
    else (List.range n).map fun i => (i, (es.drop (blockAt x i)).take (blockAt x (i + 1) - blockAt x i))
  else if cKind x = 2 then [(cRank x, es)]
  else
    let bs := (List.range n).map fun i => (i, (es.drop (i * cCount x)).take (cCount x))
    if cKind x = 3 then bs ++ [(n + cRank x, (es.drop (cRank x * cCount x)).take (cCount x))] else bs

/-- The elements of the result. (DESIGN CHOICE, assumption 67) -/
def resultOf (x : Nat) (b : Assoc (List Nat)) : List Nat :=
  let n := cN x
  let all := fun (from_ : Nat) => (List.range n).flatMap fun i => Assoc.get [] b (from_ + i)
  if cKind x = 4 then [] else if cKind x = 0 then (if cAlg x = 0 then Assoc.get [] b 0 else all 0)
  else if cKind x = 1 then Assoc.get [] b (cRank x) else if cKind x = 2 then all 0 else all n

/-! The tree (R259). -/

/-- Ranks under one leader of a level, and the distance of its children. -/
def treeSpan (x l : Nat) : Nat := 8 * cFanin x ^ l
def treeStride (x l : Nat) : Nat := if l = 0 then 1 else treeSpan x (l - 1)

/-- Levels until one leader is left. (DESIGN CHOICE, assumption 67) -/
def treeLevels (x : Nat) : Nat := if cN x ≤ 1 then 0 else ((List.range 20).find? (fun l => treeSpan x l ≥ cN x)).getD 20 + 1

/-- The level at which a rank is a child; the number of levels for rank 0. -/
def treeTop (x r : Nat) : Nat := ((List.range (treeLevels x)).find? (fun l => r % treeSpan x l != 0)).getD (treeLevels x)
def treeParent (x r : Nat) : Nat := r - r % treeSpan x (treeTop x r)
def treeChildren (x r l : Nat) : List Nat :=
  (List.range (treeSpan x l / treeStride x l)).filterMap fun j => if j ≠ 0 ∧ r + j * treeStride x l < cN x then some (r + j * treeStride x l) else none

/-- Parent and children of a rank. -/
def treeNeighbours (x r : Nat) : List Nat :=
  (if r = 0 then [] else [treeParent x r]) ++ (List.range (treeTop x r)).flatMap (treeChildren x r)

/-! Rounds of RING, HALVING and DIRECT (R259). -/

def redRounds (x : Nat) : Nat :=
  let base := if cAlg x = 2 then Nat.log2 (cN x) else cN x - 1
  if cAlg x = 3 then 0 else if cKind x = 2 then 0 else base
def allRounds (x : Nat) : Nat :=
  let base := if cAlg x = 2 then Nat.log2 (cN x) else cN x - 1
  if cAlg x = 3 then cN x - 1 else if cKind x = 1 ∨ cKind x = 2 then base else 2 * base

/-- Round r of a participant: whom it sends to, which blocks, and from whom it receives. (DESIGN CHOICE, assumption 67) -/
def roundPlan (x r : Nat) : Nat × List Nat × Nat :=
  let n := cN x
  let j := cRank x
  if cAlg x = 1 then
    let b := if r ≤ redRounds x then (j + n - r % n) % n else (j + n + 1 - (r - redRounds x) % n) % n
    ((j + 1) % n, [b], (j + n - 1) % n)
  else if cAlg x = 2 then
    if r ≤ redRounds x then
      let half := n / 2 ^ r
      let p := j ^^^ half
      (p, (List.range n).filter (fun i => i / (2 * half) == j / (2 * half) && i / half != j / half), p)
    else
      let w := 2 ^ (r - redRounds x - 1)
      (j ^^^ w, (List.range n).filter (fun i => i / w == j / w), j ^^^ w)
  else ((j + r) % n, [(j + r) % n], (j + n - r % n) % n)

/-! Messages: B_c, A_min, length, then blocks as index and elements (DESIGN CHOICE, assumption 67). -/

def noBeat : Nat := 2 ^ 64 - 1

def blocksBytes (x : Nat) (bs : List (Nat × List Nat)) : List Byte :=
  bs.flatMap fun b => leBytes 4 b.1 ++ leBytes 4 b.2.length ++ b.2.flatMap (leBytes (collSize x))
/-- DESIGN CHOICE assumption 67. -/
def collPayload (x : Nat) (bc : Option Nat) (amin : Nat) (bs : List (Nat × List Nat)) : List Byte :=
  let body := blocksBytes x bs
  leBytes 8 (bc.getD noBeat) ++ leBytes 8 amin ++ leBytes 8 (24 + body.length) ++ body

/-- The blocks of a message body. -/
def readBlocks (x : Nat) : Nat → List Byte → List (Nat × List Nat)
  | 0, _ => []
  | fuel + 1, bs =>
    if bs.length < 8 then []
    else
      let n := leNat ((bs.drop 4).take 4)
      let z := collSize x
      (leNat (bs.take 4), (List.range n).map (fun i => leNat ((bs.drop (8 + z * i)).take z))) :: readBlocks x fuel (bs.drop (8 + z * n))

def CollMsg.whole (m : CollMsg) : Bool := m.data.length ≥ 24 && m.data.length ≥ leNat ((m.data.drop 16).take 8)
def CollMsg.bc (m : CollMsg) : Option Nat := let v := leNat (m.data.take 8); if v = noBeat then none else some v
def CollMsg.amin (m : CollMsg) : Nat := leNat ((m.data.drop 8).take 8)
def CollMsg.blocks (x : Nat) (m : CollMsg) : List (Nat × List Nat) := readBlocks x (m.data.length / 8 + 1) (m.data.drop 24)

/-! Running collectives. -/

def sameColl (a b : Coll) : Bool := a.tile == b.tile && a.part == b.part && a.tag == b.tag && a.inst == b.inst
def State.setColl (s : State) (c : Coll) : State := (s.putFab { s.fab with colls := s.fab.colls.map (fun d => if sameColl c d then c else d) })

/-- Send a round's message of a collective to a rank; none where it needs Edpen and R244 or R245 forbid it. The standby of a pair sends none outside
the pair (R290). (DEDUCED, assumption 69) -/
def State.collSend (s : State) (c : Coll) (rank round : Nat) (blocks : List Nat) : Option State :=
  let data := collPayload c.ctx c.bc c.amin (blocks.map fun b => (b, Assoc.get [] c.blocks b))
  let dst := c.list.getD rank 0
  let own := dst / 8 == s.ownModule c.tile
  if s.suppressed (some c.part) c.tile dst then some s
  else if !own && (!s.edpenReady c.tile || !s.routeOk c.tile dst) then none
  else
    let pieces := (segments data.length).map fun x => (data.drop x.1).take x.2
    let addr := cRank c.ctx + round % 2 ^ 19 * 2 ^ 18 + c.inst * 2 ^ 37
    let mk := fun (i : Nat) (bs : List Byte) => (⟨9, 1, s.globalTile c.tile, dst, s.jobTag c.tile c.part, addr, bs.length, i, c.tag, bs,
      if own then 0 else s.routeTo c.tile dst⟩ : Packet)
    some (pieces.zipIdx.foldl (fun s x => if own then s.midSend c.tile 0 (mk x.2 x.1) else s.emit c.tile (s.pinnedPort c.tile dst) (mk x.2 x.1)) s)

/-- R261: the participant ends: its record, last_status and done_flag; a closing barrier that completed closes the step (R63). -/
def State.collEnd (s : State) (c : Coll) (status : Nat) : State :=
  let s := (s.putFab { s.fab with
                                        colls := s.fab.colls.filter (fun d => !sameColl c d),
                                        held := s.fab.held.filter (fun m => !(m.tile == c.tile && m.part == c.part && m.tag == c.tag && m.inst == c.inst)) })
  let bc := c.bc.getD 0
  let amin := if cClosing c.ctx then min c.amin (2 ^ 32 - 1) else 0
  let (_, s) := s.corePut c.core (cResult c.ctx) (leBytes 8 (status + amin * 2 ^ 16) ++ leBytes 8 bc)
  let s := s.wr MIDWAY.COLL_STATUS.active (s.rd MIDWAY.COLL_STATUS.active c.tile - 1) c.tile
  let s := s.wr MIDWAY.COLL_STATUS.last_status status c.tile
  let s :=
    if cClosing c.ctx ∧ status = 0 then
      let s := s.setPart c.part { s.part c.part with barrier := some bc }
      (s.putFab { s.fab with closes := Assoc.put (0, none) s.fab.closes (16 * c.tile + c.part) (c.sentBeat, some (bc, amin)) })
    else s
  s.addFlag c.core (cFlag c.ctx) 1 uCE 0

/-- A collective fails: status 3 FAULT (or another) and the step's fault code (R244, R245, R257). -/
def State.collFail (s : State) (c : Coll) (status code : Nat) : State := (s.collEnd c status).partFault c.part code (coreAddr c.core (cResult c.ctx))

/-- The own closing contribution leaves now (R265). -/
def Coll.sentNow (c : Coll) (s : State) : Coll :=
  let off := s.beat.count - (s.part c.part).startBeat
  { c with sentBeat := s.beat.count, amin := min c.amin off }

/-- A whole message of a rank and round, for this launch. -/
def State.collMsg (s : State) (c : Coll) (rank round : Nat) : Option CollMsg :=
  s.fab.held.find? (fun m => m.tile == c.tile && m.part == c.part && m.tag == c.tag && m.inst == c.inst && m.rank == rank && m.round == round && m.whole)
/-- DEDUCED assumption 68. -/
def State.takeMsg (s : State) (m : CollMsg) : State := (s.putFab { s.fab with held := s.fab.held.filter (fun x => !(x == m)) })

/-- Combine a message's blocks with the own ones; `own` first, or the message first. (DEDUCED, assumption 69) -/
def Coll.merge (c : Coll) (own : Bool) (m : CollMsg) : Coll :=
  let x := c.ctx
  { c with
    amin := min c.amin m.amin
    blocks := (m.blocks x).foldl (fun b y =>
      match b.find? (fun z => z.1 == y.1) with
      | none => Assoc.put [] b y.1 y.2
      | some (_, mine) => Assoc.put [] b y.1 ((mine.zip y.2).map fun p => if own then collCombine x p.1 p.2 else collCombine x p.2 p.1)) c.blocks }

/-- A message brings raw words of another grid (R137). -/
def Coll.gridsDiffer (c : Coll) (m : CollMsg) : Bool :=
  collForm c.ctx == .raw && (m.blocks c.ctx).any fun y => match c.blocks.find? (fun z => z.1 == y.1) with
    | none => false
    | some (_, mine) => (mine.zip y.2).any fun p => rawGrid p.1 != rawGrid p.2

/-- A child's contribution is combined in arrival order; children of one clock in ascending rank (R259). -/
def Coll.mergeChild (c : Coll) (m : CollMsg) : Coll :=
  let same := c.batch.any (·.arrived == m.arrived)
  let base := if same then c.base else c.blocks
  let batch := if same then c.batch.takeWhile (·.rank < m.rank) ++ m :: c.batch.dropWhile (·.rank < m.rank) else [m]
  { (batch.foldl (fun c m => c.merge true m) { c with blocks := base }) with base := base, batch := batch }

/-- Replace the own blocks by a message's. -/
def Coll.place (c : Coll) (at_ : Nat → Nat) (m : CollMsg) : Coll :=
  { c with blocks := (m.blocks c.ctx).foldl (fun b y => Assoc.put [] b (at_ y.1) y.2) c.blocks }

/-- Send to several ranks. -/
def State.collSends (s : State) (c : Coll) : List (Nat × Nat) → Option State
  | [] => some s
  | (rank, round) :: xs => match s.collSend c rank round (c.blocks.map (·.1)) with
    | some s => State.collSends s c xs
    | none => none

/-- Results to the children of every level (R259). -/
def treeDown (x : Nat) : List (Nat × Nat) :=
  (List.range (treeTop x (cRank x))).reverse.flatMap fun l => (treeChildren x (cRank x) l).map fun r => (r, 2 * treeLevels x - l)

/-- The child whose contribution came first, of one clock the lowest rank. (DESIGN CHOICE, assumption 67) -/
def State.firstChild (s : State) (c : Coll) (left : List Nat) : Option CollMsg :=
  (left.filterMap fun r => s.collMsg c r (c.rcvd + 1)).foldl (fun b m => match b with | some x => if m.arrived < x.arrived then some m else b | none => some m) none

/-- One move of a TREE collective; none where it waits; a fault code where it fails. -/
def State.treeMove (s : State) (c : Coll) (fixed : Bool) : Option (Except Nat (State × Coll)) :=
  let x := c.ctx
  let top := treeTop x (cRank x)
  if c.climbing then
    if c.rcvd < top then
      let left := (treeChildren x (cRank x) c.rcvd).filter (fun r => !c.got.contains r)
      match left with
      | [] => some (.ok (s, { c with rcvd := c.rcvd + 1, got := [], batch := [] }))
      | r :: _ =>
        match (if fixed then s.collMsg c r (c.rcvd + 1) else s.firstChild c left) with
        | some m =>
          if c.gridsDiffer m then some (.error fDESC_FAULT)
          else some (.ok (s.takeMsg m, { (if fixed then c.merge true m else c.mergeChild m) with got := m.rank :: c.got }))
        | none => none
    else if cRank x = 0 then
      let c := { (c.sentNow s) with climbing := false, bc := some s.beat.count }
      match s.collSends c (treeDown x) with
      | some s => some (.ok (s, { c with complete := true }))
      | none => some (.error fROUTE_FAULT)
    else
      let c := { (c.sentNow s) with climbing := false }
      match s.collSend c (treeParent x (cRank x)) (top + 1) (c.blocks.map (·.1)) with
      | some s => some (.ok (s, c))
      | none => some (.error fROUTE_FAULT)
  else
    match s.collMsg c (treeParent x (cRank x)) (2 * treeLevels x - top) with
    | some m =>
      let c := { (c.place id m) with bc := m.bc, amin := m.amin }
      match (s.takeMsg m).collSends c (treeDown x) with
      | some s => some (.ok (s, { c with complete := true }))
      | none => some (.error fROUTE_FAULT)
    | none => none

/-- One move of a RING, HALVING or DIRECT collective; none where it waits; a fault code where it fails (R259, R261). -/
def State.ringMove (s : State) (c : Coll) : Option (Except Nat (State × Coll)) :=
  let x := c.ctx
  if c.rcvd ≥ allRounds x ∧ c.sent ≥ allRounds x then some (.ok (s, { c with complete := true }))
  else if c.sent ≤ c.rcvd ∧ c.sent < allRounds x then
    let r := c.sent + 1
    if cRound x ≠ 0 ∧ s.beat.count < c.launch + r * cRound x then none
    else
      let (dst, blocks, _) := roundPlan x r
      let c := if c.sent = 0 then c.sentNow s else c
      match s.collSend c dst r blocks with
      | some s => some (.ok (s, { c with sent := r }))
      | none => some (.error fROUTE_FAULT)
  else
    let r := c.rcvd + 1
    let (_, _, src) := roundPlan x r
    match s.collMsg c src r with
    | none => none
    | some m =>
      if r ≤ redRounds x && c.gridsDiffer m then some (.error fDESC_FAULT) else
      let c := if r ≤ redRounds x then c.merge (cAlg x == 2) m else if cAlg x = 3 then c.place (fun _ => cN x + src) m else c.place id m
      let c := { c with rcvd := r, amin := min c.amin m.amin, bc := if c.bc.isSome then c.bc else m.bc }
      let last := if cKind x = 1 ∨ cAlg x = 3 ∨ cKind x = 2 then allRounds x else redRounds x
      some (.ok (s.takeMsg m, if cRank x = 0 ∧ r = last then { c with bc := some s.beat.count } else c))

/-- A message does not match a running launch (R257): the tag's, of another instance; or of another tag, from a participant, when no collective of
that tag runs and no slot is armed to launch one. (DEDUCED, assumption 68) -/
def State.collStray (s : State) (c : Coll) (m : CollMsg) : Bool :=
  m.tile == c.tile && m.part == c.part &&
    (if m.tag = c.tag then m.inst != c.inst
     else c.list.contains m.src && !(s.fab.colls.any fun d => d.tile == c.tile && d.part == c.part && d.tag == m.tag) &&
       !((List.range 96).any fun n => s.armed n && s.slotAction n == actCollLaunch && s.rd SCHED.SLOT_CTL.owner_kind 0 n == 2 && s.slotOwner n == c.part &&
         s.slotParam1 n % 2 ^ 16 == m.tag))

/-- The collective goes on as far as it can (R257, R259). An arrival that does not match is COLL_FAULT (R257). (DEDUCED, assumption 70) -/
def State.collRun (s : State) (c : Coll) : Nat → State
  | 0 => s.setColl c
  | fuel + 1 =>
    if c.complete then s.setColl c
    else if s.fab.held.any (s.collStray c) then s.collFail c 3 fCOLL_FAULT
    else
      match (if cAlg c.ctx = 0 then s.treeMove c (cFixed c.ctx || (s.part c.part).repeatable) else s.ringMove c) with
      | none =>
        let s := if cClosing c.ctx ∧ c.sentBeat ≠ 0 then
            (s.putFab { s.fab with closes := Assoc.put (0, none) s.fab.closes (16 * c.tile + c.part) (c.sentBeat, none) }) else s
        s.setColl c
      | some (.ok (s, c)) => State.collRun s c fuel
      | some (.error code) => s.collFail c 3 code

/-- Enough moves for every round and child. -/
def collFuel (x : Nat) : Nat := 2 * allRounds x + 2 * cN x + 64

/-- Every running collective of a tile goes on. -/
def State.collsGo (s : State) (t : Nat) : State :=
  (s.fab.colls.filter (fun c => c.tile == t)).foldl (fun s c => s.collRun c (collFuel c.ctx)) s

/-- R257: a launch on one tile. (DEDUCED, assumption 68) -/
def State.collLaunchOn (s : State) (t p off cc tag : Nat) : State :=
  let core := 64 * t + cc
  let key := core * 2 ^ 22 + off
  let inst := Assoc.get 0 s.fab.launches key % 512
  match s.coreRead core off 64 with
  | none => s.partFault p fSRAM_UE (coreAddr core off)
  | some bs =>
    let x := leNat bs
    let s := (s.putFab { s.fab with launches := Assoc.put 0 s.fab.launches key ((inst + 1) % 512) })
    if collMalformed x || s.isRemote t (cList x) then s.partFault p fCOLL_FAULT (coreAddr core off)
    else if cSrc x + collBytes x (collSrcCount x) > 2 ^ 22 ∨ cDst x + collBytes x (collDstCount x) > 2 ^ 22 then s.partFault p fADDR_FAULT (coreAddr core (cSrc x))
    else
      match s.memRead p (cList x % 2 ^ 46) (4 * cN x) .tile with
      | (.error (code, a), s) => s.partFault p code a
      | (.ok lb, s) =>
        let list := (List.range (cN x)).map fun i => leNat ((lb.drop (4 * i)).take 4)
        if list.getD (cRank x) 0 ≠ s.globalTile t then s.partFault p fCOLL_FAULT (coreAddr core off)
        else
          match s.coreRead core (cSrc x) (collBytes x (collSrcCount x)) with
          | none => s.partFault p fSRAM_UE (coreAddr core (cSrc x))
          | some src =>
            let es := (collUnpack x src (collSrcCount x)).map (collIn x)
            let c : Coll := ⟨t, core, p, x, list, tag, inst, s.beat.count, 0, 0, [], true, startBlocks x es, none, noBeat, 0, false, [], []⟩
            let s := (s.add MIDWAY.COLL_STATUS.active 1 t)
            let s := if cClosing x then
                let leaves := list.any (fun g => g / 8 != s.ownModule t)
                let s := s.setPart p { s.part p with closing := some leaves }
                (s.putFab { s.fab with trees := Assoc.put ([], []) s.fab.trees (16 * t + p) ((treeNeighbours x (cRank x)).map (fun r => list.getD r 0), list) })
              else s
            let s := (s.putFab { s.fab with colls := s.fab.colls.filter (fun d => !sameColl c d) ++ [c] })
            s.collRun c (collFuel x)

/-- COLL_LAUNCH (R257): the slot fires; every tile on which the partition holds the named core launches. -/
def State.collLaunch (s : State) (n : Nat) : State :=
  let p := s.slotOwner n
  let p0 := s.slotParam0 n
  let p1 := s.slotParam1 n
  let s := s.slotFire n
  if !s.running p then s
  else
    let tiles := (List.range 8).filter fun t => s.holds p ((64 * t + bits p0 29 24) / 32) && s.corePresent (64 * t + bits p0 29 24) && s.tileUp t
    if tiles.isEmpty then s.partFault p fCOLL_FAULT 0
    else tiles.foldl (fun s t => s.collLaunchOn t p (p0 % 2 ^ 22) (bits p0 29 24) (p1 % 2 ^ 16)) s

def execCollLaunch (n : SlotId) (s : State) : Host.Outcome State Fault Refusal :=
  .next (if s.dueAlone n actCollLaunch then s.collLaunch n else s)

/-- Contributions held before their launch fill at most the credits of TC1 (R261, R241): what goes beyond them is not sent; over Midway the spec
gives no number. (DEDUCED, assumption 68) -/
def State.collFits (s : State) (t via : Nat) (p : Packet) : Bool :=
  let units := fun (n : Nat) => (32 + n + 63) / 64
  let cr := (s.portSt (8 * t + via)).credits
  let waits := s.fab.held.filter fun m => m.tile == t && !(s.fab.colls.any fun d => d.tile == t && d.part == m.part && d.tag == m.tag)
  via ≥ 8 || (waits.map fun m => units m.data.length).sum + units p.payload.length ≤ (if cr = 0 then 2048 else cr / 2 ^ 16 % 2 ^ 16)

/-- R289: the primary of a pair in force forwards a collective's arrival in the class of the pair; it is not acknowledged. (DEDUCED, assumption 64) -/
def State.forwardColl (s : State) (t n : Nat) (p : Packet) : State :=
  let dst := s.pairTile n t
  if s.leading n && s.edpenReady t && s.routeOk t dst then
    s.emit t (s.pinnedPort t dst) { p with tc := s.rd MOD.PAIR_CFG.tc 0 n, src := s.globalTile t, dst := dst, route := s.routeTo t dst }
  else s

/-- A COLL packet arrives at a tile (R251, R257, R261): refused, or held for its launch and round. -/
def State.collArrive (s : State) (t via : Nat) (p : Packet) : State :=
  match (List.range 16).find? (fun n => s.holdsTile n t && s.is MIDWAY.JOB_TAG.valid t n && s.jobTag t n == p.job) with
  | none => (s.refused t 1 p).sendBack t via (nackOf (s.globalTile t) 1 p)
  | some n =>
    if !s.running n then (s.refused t 4 p).sendBack t via (nackOf (s.globalTile t) 4 p)
    else if !s.collFits t via p then s
    else
      let s := s.forwardColl t n p
      let rank := p.addr % 2 ^ 18
      let round := p.addr / 2 ^ 18 % 2 ^ 19
      let inst := p.addr / 2 ^ 37 % 2 ^ 9
      let same := fun (m : CollMsg) => m.tile == t && m.part == n && m.tag == p.aux && m.rank == rank && m.round == round && m.inst == inst && !m.whole
      let held := match s.fab.held.find? same with
        | some m => s.fab.held.map (fun x => if x = m then { m with data := m.data ++ p.payload, arrived := s.now } else x)
        | none => s.fab.held ++ [CollMsg.mk t n p.aux rank round inst p.payload p.src s.now]
      (s.putFab { s.fab with held := held }).collsGo t

/-- COLL (R257). -/
def execColl (t : TileId) (rx : Rx) (h : Head) (rank : BitVec 18) (round : BitVec 19) (inst : Fin 512) (tag : BitVec 16) (data : List Byte)
    (s : State) : Host.Outcome State Fault Refusal :=
  .next (s.arrive t rx data.length fun s =>
    s.collArrive t rx.port (reqPacket s t 9 h.cls rx h (rank.toNat + round.toNat * 2 ^ 18 + inst.val * 2 ^ 37) data.length tag.toNat data))

/-- COLL_ROUND (R261): timetabled rounds of a tile whose moment has come. -/
def execCollRound (t : TileId) (s : State) : Host.Outcome State Fault Refusal := .next (s.collsGo t)

/-- R261: a participant that is not complete in time: its dst is undefined, each byte a free value. -/
def State.collTimeout (s : State) (c : Coll) : State :=
  let (v, s) := s.fresh
  (s.corePut c.core (cDst c.ctx) (leBytes (collBytes c.ctx (collDstCount c.ctx)) v)).2.collFail c 1 fCOLL_TIMEOUT

/-- COLL_DEADLINE (R261): of the collective numbered i. -/
def execCollDeadline (i : BitVec 6) (s : State) : Host.Outcome State Fault Refusal :=
  .next (match s.fab.colls[i.toNat]? with
    | some c => if !c.complete ∧ s.counting ∧ c.launch + cDeadline c.ctx ≤ s.beat.count then s.collTimeout c else s
    | none => s)

/-- COLL_DONE (R261): a complete collective writes its result and record. Where no message carried B_c it is open. (DEDUCED, assumption 70) -/
def execCollDone (i : BitVec 6) (s : State) : Host.Outcome State Fault Refusal :=
  .next (match s.fab.colls[i.toNat]? with
    | some c =>
      if c.complete then
        let (c, s) := match c.bc with
          | some _ => (c, s)
          | none => let (v, s) := s.fresh; ({ c with bc := some (v % 2 ^ 64) }, s)
        let (_, s) := s.corePut c.core (cDst c.ctx) (collPack c.ctx ((resultOf c.ctx c.blocks).map (collOut c.ctx)))
        s.collEnd c 0
      else s
    | none => s)

/-- R251 for collectives: a NACK of class 1 ends those that hold its source (status 4 REFUSED). -/
def State.collRefused (s : State) (t src : Nat) : State :=
  (s.fab.colls.filter (fun c => c.tile == t && c.list.contains src && !c.complete)).foldl (fun s c => s.collFail c 4 fEDPEN_REFUSED) s

/-- NACK (R251). -/
def execNack (t : TileId) (rx : Rx) (src : BitVec 18) (cls : Fin 8) (seq : BitVec 16) (_reason : Fin 16) (s : State) : Host.Outcome State Fault Refusal :=
  .next (s.arrive t rx 0 fun s => s.gotNack t src.toNat cls seq.toNat (fun s => s.collRefused t src.toNat))

/-! Parking of partners (R266). -/

/-- A management packet from a tile to a global tile, for a partition where there is one (R290): over Midway inside the module, else on a port if one
is UP and a route leads there (R244, R263). -/
def State.sendMgmt (s : State) (who : Option Nat) (t type dst addr aux : Nat) (data : List Byte) : State :=
  let own := dst / 8 == s.ownModule t
  let p : Packet := ⟨type, 0, s.globalTile t, dst, 0, addr, data.length, 0, aux, data, if own then 0 else s.routeTo t dst⟩
  if s.suppressed who t dst then s
  else if own then s.midSend t 2 p
  else if (s.upPorts t).isEmpty || !s.routeOk t dst then s else s.emit t (s.pinnedPort t dst) p

/-- R266: a parked partition's tiles send PARTNER_PARKED along the tree of its closing context. (DEDUCED, assumption 68) -/
def State.sendParked (s : State) (p : Nat) : State :=
  (List.range 8).foldl (fun s t =>
    if s.holdsTile p t then
      (Assoc.get ([], []) s.fab.trees (16 * t + p)).1.foldl (fun s g => s.sendMgmt (some p) t 0x13 g (s.globalTile t) 0 []) s
    else s) s

/-- PARTNER_PARKED at a tile (R266): `who` has parked, the message came from `src`. -/
def State.partnerParked (s : State) (t src who : Nat) : State :=
  let s := (s.fab.colls.filter (fun c => c.tile == t && c.list.contains who && !c.complete)).foldl (fun s c => s.collEnd c 2) s
  let s := s.raise Ev.PARTNER_PARKED t [who]
  (List.range 16).foldl (fun s p =>
    let (near, list) := Assoc.get ([], []) s.fab.trees (16 * t + p)
    if s.holdsTile p t && list.contains who then
      (near.filter (fun g => g != src)).foldl (fun s g => s.sendMgmt (some p) t 0x13 g who 0 []) s
    else s) s

/-- PARTNER_PARKED (R266). (DEDUCED, assumption 68) -/
def execPartnerParked (t : TileId) (rx : Rx) (src who : BitVec 18) (s : State) : Host.Outcome State Fault Refusal :=
  .next (if s.portReceives t rx then (s.rxCount t rx 0).partnerParked t src.toNat who.toNat else s)

end Sys2Proof.Machine
end

