-- ==== Sys2Proof/Machine/Funcs.lean ====
section
/-! DEFINITION. The function operations EXP, LOG, RECIP, RSQRT, TANH and SIGMOID (R132): what the real function gives, in fixed point, and the
FP32 results that lie within the rule's bound of it. Numbers here are integers in units of 2^-240. -/

namespace Sys2Proof.Machine

/-- The fixed point's unit is 2^-fxP. -/
def fxP : Nat := 240
def fxOne : Nat := 2 ^ fxP

/-- Sum of the first n terms of a series whose next term follows from the last. -/
def fxSeries (next : Nat → Nat → Nat) : Nat → Nat → Nat → Nat
  | 0, _, _ => 0
  | n + 1, i, t => t + fxSeries next n (i + 1) (next i t)

/-- ln 2, as the sum of 1 / (n 2^n). -/
def fxLn2 : Nat := ((List.range fxP).map fun i => fxOne / ((i + 1) * 2 ^ (i + 1))).sum
/-- e^r for 0 ≤ r < 1. -/
def fxExp1 (r : Nat) : Nat := fxSeries (fun i t => t * r / fxOne / (i + 1)) 64 0 fxOne
/-- e^x and e^-x for x ≥ 0. -/
def fxExp (x : Nat) : Nat := fxExp1 (x % fxLn2) * 2 ^ (x / fxLn2)
def fxExpNeg (x : Nat) : Nat := if x > 200 * fxOne then 0 else fxOne * fxOne / fxExp x
/-- The natural logarithm of y / 2^k for a y in [2^k, 2^(k+1)), as 2 artanh z with z = (y - 2^k) / (y + 2^k). -/
def fxLogM (y k : Nat) : Nat :=
  let z := (y - 2 ^ k) * fxOne / (y + 2 ^ k)
  let z2 := z * z / fxOne
  2 * ((List.range 80).foldl (fun (a : Nat × Nat) i => (a.1 + a.2 / (2 * i + 1), a.2 * z2 / fxOne)) (0, z)).1
/-- The integer square root, found from the top bit down. -/
def fxSqrt (n : Nat) : Nat :=
  (List.range 400).foldl (fun r i => let t := r + 2 ^ (399 - i); if t * t ≤ n then t else r) 0

/-- The value of function n (0 EXP, 1 LOG, 2 RECIP, 3 RSQRT, 4 TANH, 5 SIGMOID) at ± m 2^e, in units of 2^-fxP; none where it has none, or lies
beyond FP32. -/
def realFun (n : Nat) (neg : Bool) (m : Nat) (e : Int) : Option Int :=
  let big : Bool := m != 0 && (Nat.log2 m : Int) + e ≥ 8
  let x : Nat := if e ≥ 0 then m * 2 ^ e.toNat * fxOne else m * fxOne / 2 ^ (-e).toNat
  let sign : Nat → Int := fun v => if neg then -(v : Int) else v
  if n = 0 then
    (if neg then some (if big then 0 else (fxExpNeg x : Int)) else if big then none else some (fxExp x : Int))
  else if n = 1 then
    (if m = 0 ∨ neg then none else let k := Nat.log2 m; some ((fxLogM m k : Int) + ((k : Int) + e) * fxLn2))
  else if n = 2 then
    (if m = 0 then none else some (sign (if e ≥ 0 then fxOne / (m * 2 ^ e.toNat) else fxOne * 2 ^ (-e).toNat / m)))
  else if n = 3 then
    (if m = 0 ∨ neg then none else some (fxSqrt (if e ≥ 0 then fxOne * fxOne / (m * 2 ^ e.toNat) else fxOne * fxOne * 2 ^ (-e).toNat / m) : Int))
  else if n = 4 then
    (let t := if big then 0 else fxExpNeg (2 * x); some (sign ((fxOne - t) * fxOne / (fxOne + t))))
  else
    let t := if big then 0 else fxExpNeg x
    some ((if neg then t * fxOne / (fxOne + t) else fxOne * fxOne / (fxOne + t) : Nat) : Int)

/-- The bound of R132 in units of the last FP32 place. -/
def funUlp (n : Nat) : Nat := if n = 2 ∨ n = 3 then 1 else if n ≤ 1 then 2 else 3

/-- A finite FP32 value lies within k units of the last FP32 place of a real value q. -/
def withinUlp (k : Nat) (q : Int) : Num → Bool
  | .fin neg m e =>
    let v : Int := scaled neg m e (-(fxP : Int))
    let place : Int := max (((Nat.log2 q.natAbs : Nat) : Int) - fxP - 23) (-149)
    decide ((v - q).natAbs ≤ k * 2 ^ (place + fxP).toNat + 1)
  | _ => false

/-- An FP32 result of function n at a value: the module's own fixed choice, which lies within the bound wherever the function has a value at a
finite input; the nearest value stands for a choice that would not (R132). Elsewhere the result is open. (DESIGN CHOICE, assumption 140) -/
def fp32Result (n : Nat) (x : Num) : Num :=
  let own := fp32.decode (Config.fp32Fun n (fp32.encode .near x) % 2 ^ 32)
  match x with
  | .fin neg m e => match realFun n neg m e with
    | some q =>
      let near := Num.fp32 (.fin (q < 0) q.natAbs (-(fxP : Int)))
      match near with
      | .fin _ _ _ => if withinUlp (funUlp n) q own then own else near
      | _ => own
    | none => own
  | _ => own

end Sys2Proof.Machine
end

