-- ==== Sys2Proof/Machine/Matrix.lean ====
section
/-! DEFINITION. Matrix engines (R90, R92 to R95, R100, R121 to R130, R142) and the completion of engine commands. -/

namespace Sys2Proof.Machine

/-- The head that engine e starts on this clock, after the units served before it (R95, R77). -/
def State.pickHead (s : State) (c e : Nat) : Option EngCmd := s.engineHead c e (s.engServed c e)

def State.setEngCmd (s : State) (c : Nat) (k : EngCmd) : State :=
  s.setCore c { s.core c with cmds := (s.core c).cmds.map (fun j => if j.id = k.id then k else j) }

/-- R104: an engine command stops by a fault. -/
def State.cmdFault (s : State) (c : Nat) (k : EngCmd) (code off : Nat) : State :=
  (s.coreFaultAt c (uME k.on) k.stream code off).setEngCmd c { k with phase := 1, fault := true }

/-- R100: what a residue check of a running command finds: 0 nothing, 1 a repeat that passes, 2 a repeat that fails, after which the command runs
on the next working engine of its kind. -/
def State.residue (s : State) (c : Nat) (k : EngCmd) (r : Nat) : EngCmd × State :=
  if r = 1 then (k, s.add CORE.RETRIES.passed 1 c)
  else if r = 2 then
    let s := s.engineFails c k.on k.stream
    let k := { k with on := (s.servedBy c k.engine).getD k.on }
    (k, s.setEngCmd c k)
  else (k, s)

/-- An operation of Table 3.11, or of Table 3.13. -/
def knownOp (e op : Nat) : Bool :=
  if e < 4 then 1 ≤ op && op ≤ 6
  else op ≤ 0x15 || (0x30 ≤ op && op ≤ 0x37) || (0x40 ≤ op && op ≤ 0x42) || (0x50 ≤ op && op ≤ 0x53) || op == 0x60 || op == 0x61 ||
    op == 0x70 || op == 0x71

/-- The engine starts the oldest ready head if it is a command of this operation, or of none at all, which is malformed: its counts are taken
(R76, R95, R104). -/
def State.startCmd (s : State) (c e : Nat) (isOp : Nat → Bool) (act : State → EngCmd → State) : State :=
  match s.pickHead c e with
  | some k =>
    if (isOp (bits k.words 7 0) ∨ knownOp e (bits k.words 7 0) = false) ∧ s.corePresent c then
      let k := { k with phase := 1, on := e }
      let s := s.takeFlags c (cmdWaits k.words)
      let s := s.setCore c { s.core c with cmds := (s.core c).cmds.filter (fun j => j.id != k.id) ++ [k] }
      if knownOp e (bits k.words 7 0) then s.raced c fun s => act s k else s.cmdFault c k fDESC_FAULT 0
    else s
  | none => s

/-- Malformed wait counts and reserved bits of the words both engine kinds share (Engine formats, R76). -/
def sharedBad (w : Nat) : Bool :=
  cmdField w 6 31 20 != 0 || (cmdWaits w).any (fun x => x.2 == 0) || (List.range 3).any fun i => cmdField w (1 + i) 31 22 != 0

/-! Fields of Table 3.11. -/
def mFa (w : Nat) : Nat := bits w 12 8
def mFb (w : Nat) : Nat := bits w 17 13
def mOut (w : Nat) : Nat := bits w 22 18
def mAlg (w : Nat) : Nat := bits w 25 23
def mExact (w : Nat) : Bool := bits w 26 26 = 1
def mRound (w : Nat) : Nat := bits w 28 27
def mAt (w : Nat) : Nat := bits w 31 29
def mK (w : Nat) : Nat := cmdField w 4 15 0

/-- Bytes of one stored row of C. -/
def cRow (w : Nat) (out : Fmt) : Nat := if mExact w && out == .int 64 then 256 else out.area 16
/-- Bytes of one operand row: elements, then scale bytes (R93). -/
def opRow (f : Fmt) (k : Nat) : Nat := f.area k + (if f.isBlock then k / 32 else 0)

/-- The checks of R90, R92 to R94, R112, R124, R125 and R142 that answer DESC_FAULT. -/
def matrixBad (repeatable : Bool) (w : Nat) : Bool :=
  let op := bits w 7 0
  let mma := op = 1 ∨ op = 2 ∨ op = 6
  let io := op = 3 ∨ op = 4 ∨ op = 6
  sharedBad w || mRound w = 3 || (Fmt.ofCode (mFb w)).isNone || (Fmt.ofCode (mOut w)).isNone ||
    (match rate8 (mAlg w) (mFa w) with
     | none => true
     | some (_, rx) => mExact w && (rx == 0 || mAt w % 2 == 1)) ||
    (mma && ((mFb w != mFa w && !((mFa w = 11 && mFb w = 12) || (mFa w = 12 && mFb w = 11))) || mK w = 0 ||
      ((Fmt.ofCode (mFa w)).elim true Fmt.isBlock && mK w % 32 != 0) || cmdField w 1 5 0 != 0 || cmdField w 2 5 0 != 0 ||
      (repeatable && mAlg w = 0 && !mExact w && (mFa w = 11 || mFa w = 12 || mFa w = 13 || mFa w = 14)))) ||
    (io && (match Fmt.ofCode (mOut w) with
      | none => true
      | some o => o.isBlock || (o == .bool && mAlg w != 4) || cmdField w 3 5 0 != 0 || 64 * cmdField w 7 31 16 < cRow w o))

/-- Areas that cross the end of the core store: ADDR_FAULT (DEDUCED, assumption 40). -/
def matrixCross (w : Nat) : Bool :=
  let op := bits w 7 0
  let mma := op = 1 ∨ op = 2 ∨ op = 6
  let io := op = 3 ∨ op = 4 ∨ op = 6
  let past : Nat → Nat → Option Fmt → (Fmt → Nat) → Bool := fun off ld f len => f.elim false fun f => off + 960 * ld + len f > 2 ^ 22
  (mma && (past (cmdField w 1 21 0) (cmdField w 4 31 16) (Fmt.ofCode (mFa w)) (opRow · (mK w)) ||
    past (cmdField w 2 21 0) (cmdField w 7 15 0) (Fmt.ofCode (mFb w)) (opRow · (mK w)))) ||
  (io && past (cmdField w 3 21 0) (cmdField w 7 31 16) (Fmt.ofCode (mOut w)) (cRow w))

/-- A row of operand values (R93, R107, R112). -/
def rowValues (f : Fmt) (k : Nat) (bs : List Byte) : List Num :=
  let es := unpack f bs k
  if f.isBlock then
    let scales := bs.drop (f.area k)
    es.zipIdx.map fun x => (f.decode x.1).mul (scaleOf (scales.getD (x.2 / 32) 0).toNat)
  else es.map f.decode

/-- The areas of an operand's 16 rows: offset and length. -/
def rowAreas (off ld n : Nat) : List (Nat × Nat) := (List.range 16).map fun i => (off + 64 * ld * i, n)
/-- The offset of the first uncorrectable word of a list of areas. -/
def State.badArea (s : State) (c : Nat) (as : List (Nat × Nat)) : Option Nat :=
  (as.find? fun a => (s.coreRead c a.1 a.2).isNone).map fun a => s.badOff c a.1 a.2
/-- Areas are read: corrected words are counted. -/
def State.seeAreas (s : State) (c : Nat) (as : List (Nat × Nat)) : State := as.foldl (fun s a => s.coreSee c a.1 a.2) s

/-- 16 rows of an operand. -/
def State.operandRows (s : State) (c : Nat) (f : Fmt) (off ld k : Nat) : Option (List (List Num)) :=
  (rowAreas off ld (opRow f k)).mapM fun a => (s.coreRead c a.1 a.2).map (rowValues f k)

/-! Accumulator tiles (R121). -/

def accKey (e at_ i : Nat) : Nat := (e * 8 + at_) * 256 + i
def State.accElem (s : State) (c e at_ : Nat) (exact : Bool) (i : Nat) : Nat :=
  let x := (s.core c).acc
  Assoc.get 0 x (accKey e at_ i) + (if exact then 2 ^ 64 * Assoc.get 0 x (accKey e (at_ + 1) i) else 0)
def State.setAcc (s : State) (c e at_ : Nat) (exact : Bool) (vs : List Nat) : State :=
  let acc := vs.zipIdx.foldl (fun (m : Assoc Nat) v =>
    let m := Assoc.put 0 m (accKey e at_ v.2) (v.1 % 2 ^ 64)
    if exact then Assoc.put 0 m (accKey e (at_ + 1) v.2) (v.1 / 2 ^ 64 % 2 ^ 64) else m) (s.core c).acc
  s.setCore c { s.core c with acc := acc }

/-- R135: an exact command on a tile pair of the other grid. -/
def State.gridBad (s : State) (c e : Nat) (w : Nat) : Bool :=
  match Fmt.ofCode (mFa w) with
  | some fa => mExact w && (List.range 256).any fun i => some (rawGrid (s.accElem c e (mAt w) true i)) != gridOf fa
  | none => true

/-- The clocks an MMA occupies (R95). -/
def mmaClocks (w : Nat) : Nat :=
  match rate8 (mAlg w) (mFa w) with
  | some (r, rx) => let q := if mExact w then rx else r; (8 * mK w + q - 1) / max q 1
  | none => 0

/-- R93, R122 to R130: the product, on top of the tile (`init` false) or of the ⊕ identity. Tiles belong to the engine the command is meant
for (R120). -/
def State.mma (s : State) (c : Nat) (k : EngCmd) (init : Bool) : State :=
  let w := k.words
  let e := k.engine
  match Fmt.ofCode (mFa w), Fmt.ofCode (mFb w) with
  | some fa, some fb =>
    if !init ∧ s.gridBad c e w then s.cmdFault c k fDESC_FAULT 0
    else
      let areas := rowAreas (cmdField w 1 21 0) (cmdField w 4 31 16) (opRow fa (mK w)) ++
        rowAreas (cmdField w 2 21 0) (cmdField w 7 15 0) (opRow fb (mK w))
      match s.operandRows c fa (cmdField w 1 21 0) (cmdField w 4 31 16) (mK w), s.operandRows c fb (cmdField w 2 21 0) (cmdField w 7 15 0) (mK w) with
      | some a, some b =>
        let vs := (List.range 256).map fun i =>
          let cur := if init then identity (mAlg w) fa (mExact w) else s.accElem c e (mAt w) (mExact w) i
          mmaElem (mAlg w) fa (mExact w) cur (a.getD (i / 16) []) (b.getD (i % 16) [])
        ((s.seeAreas c areas).setAcc c e (mAt w) (mExact w) vs).add CORE.PERF.count (mmaClocks w) c 1
      | _, _ => s.cmdFault c k fSRAM_UE ((s.badArea c areas).getD 0)
  | _, _ => s.cmdFault c k fDESC_FAULT 0

/-- Write rows until one meets an uncorrectable word; answers whether all are written (R104). -/
def State.putRows (s : State) (c : Nat) : List (Nat × List Byte) → Bool × State
  | [] => (true, s)
  | r :: rs => match s.corePut c r.1 r.2 with
    | (true, s) => State.putRows s c rs
    | (false, s) => (false, s)

/-- The rounding mode that draws: where nothing is rounded nothing is drawn (R116 and R130: outputs in BOOL, and elements that (max,min) and
(or,and) write in their own format). (DESIGN CHOICE, assumption 150) -/
def drawMode (w : Nat) (o : Fmt) (r : Nat) : Nat := if o == .bool || ((mAlg w == 3 || mAlg w == 4) && mOut w == mFa w) then 0 else r

/-- R124, R125, R138: the tile written to c_at in out_fmt; answers whether every row was written. -/
def State.storeAcc (s : State) (c : Nat) (k : EngCmd) : Bool × State :=
  let w := k.words
  let e := k.engine
  match Fmt.ofCode (mFa w), Fmt.ofCode (mOut w) with
  | some fa, some o =>
    let es := (List.range 256).map fun i => s.accElem c e (mAt w) (mExact w) i
    let gen := e * 4 + k.stream
    let raw := mExact w && o == .int 64
    let (ps, g) :=
      if raw then (es, Assoc.get 1 (s.core c).gens gen)
      else encodeAll (fun rnd x => if mExact w then encodeRaw o rnd x else o.encode rnd (elemNum (mAlg w) fa x)) (drawMode w o (mRound w))
        (Assoc.get 1 (s.core c).gens gen) es
    let s := s.setCore c { s.core c with gens := Assoc.put 1 (s.core c).gens gen g }
    s.putRows c ((List.range 16).map fun i =>
      let row := (ps.drop (16 * i)).take 16
      (cmdField w 3 21 0 + 64 * cmdField w 7 31 16 * i, if raw then row.flatMap (leBytes 16) else pack o row))
  | _, _ => (false, s)
/-- The areas of a result tile. -/
def cAreas (w : Nat) : List (Nat × Nat) := rowAreas (cmdField w 3 21 0) (cmdField w 7 31 16) ((Fmt.ofCode (mOut w)).elim 0 (cRow w))

/-- R124, R125, R128, R136: the tile read from c_at in out_fmt. -/
def State.loadAcc (s : State) (c : Nat) (k : EngCmd) : State :=
  let w := k.words
  match Fmt.ofCode (mFa w), Fmt.ofCode (mOut w) with
  | some fa, some o =>
    match (cAreas w).mapM fun a => s.coreRead c a.1 a.2 with
    | some rows =>
      let vs := rows.flatMap fun bs =>
        if mExact w && o == .int 64 then (List.range 16).map fun j => leNat ((bs.drop (16 * j)).take 16)
        else (unpack o bs 16).map fun p => elemOfNum (mAlg w) fa (mExact w) (loadNum (mAlg w) o p)
      (s.seeAreas c (cAreas w)).setAcc c k.engine (mAt w) (mExact w) vs
    | none => s.cmdFault c k fSRAM_UE ((s.badArea c (cAreas w)).getD 0)
  | _, _ => s.cmdFault c k fDESC_FAULT 0

/-- Start a matrix command of an operation, checked. -/
def State.matrixCmd (s : State) (c e op : Nat) (act : State → EngCmd → State) : State :=
  s.startCmd c e (· == op) fun s k =>
    let rep : Bool := match s.partOfCore c with | some p => (s.part p).repeatable | none => false
    if matrixBad rep k.words then s.cmdFault c k fDESC_FAULT 0
    else if matrixCross k.words then s.cmdFault c k fADDR_FAULT (cmdField k.words 1 21 0)
    else act s k

/-- MMA (R93). -/
def execMma (c : CoreId) (e : MeId) (residue : Fin 3) (s : State) : Host.Outcome State Fault Refusal :=
  .next (s.matrixCmd c e 1 fun s k => let (k, s) := s.residue c k residue; s.mma c k false)
/-- MMA_INIT (R93, R124). -/
def execMmaInit (c : CoreId) (e : MeId) (residue : Fin 3) (s : State) : Host.Outcome State Fault Refusal :=
  .next (s.matrixCmd c e 2 fun s k => let (k, s) := s.residue c k residue; s.mma c k true)
/-- LOAD_ACC (R124). -/
def execLoadAcc (c : CoreId) (e : MeId) (s : State) : Host.Outcome State Fault Refusal :=
  .next (s.matrixCmd c e 3 fun s k => (s.loadAcc c k).add CORE.PERF.count 8 c 1)
/-- STORE_ACC (R124). -/
def execStoreAcc (c : CoreId) (e : MeId) (s : State) : Host.Outcome State Fault Refusal :=
  .next (s.matrixCmd c e 4 fun s k =>
    if s.gridBad c k.engine k.words then s.cmdFault c k fDESC_FAULT 0
    else
      let (ok, s) := s.storeAcc c k
      if ok then s.add CORE.PERF.count 8 c 1 else s.cmdFault c k fSRAM_UE ((s.badArea c (cAreas k.words)).getD 0))
/-- ZERO_ACC (R124). -/
def execZeroAcc (c : CoreId) (e : MeId) (s : State) : Host.Outcome State Fault Refusal :=
  .next (s.matrixCmd c e 5 fun s k =>
    match Fmt.ofCode (mFa k.words) with
    | some fa =>
      (s.setAcc c k.engine (mAt k.words) (mExact k.words) (List.replicate 256 (identity (mAlg k.words) fa (mExact k.words)))).add CORE.PERF.count 1 c 1
    | none => s)
/-- MMA_STORE (R95): the MMA part. -/
def execMmaStore (c : CoreId) (e : MeId) (residue : Fin 3) (s : State) : Host.Outcome State Fault Refusal :=
  .next (s.matrixCmd c e 6 fun s k => let (k, s) := s.residue c k residue; s.mma c k true)

/-- A command leaves its engine: it signals unless it stopped by a fault (R76, R104). -/
def State.finishCmd (s : State) (c : Nat) (k : EngCmd) : State :=
  let s := s.setCore c { s.core c with cmds := (s.core c).cmds.filter (fun j => j.id != k.id) }
  if k.fault then s else (cmdSigs k.words).foldl (fun s f => s.addFlag c f 1 (uME k.on) k.stream) s

/-- MMA_STORE_STORE_PART (R95): the store part runs and the command completes. -/
def execMmaStoreStorePart (c : CoreId) (e : MeId) (s : State) : Host.Outcome State Fault Refusal :=
  .next (match (s.core c).cmds.find? (fun k => k.on == e.val && k.phase == 2) with
    | some k =>
      let (ok, s) := s.storeAcc c k
      let s := s.add CORE.PERF.count 8 c 1
      if ok then s.finishCmd c k
      else (s.cmdFault c k fSRAM_UE ((s.badArea c (cAreas k.words)).getD 0)).finishCmd c { k with fault := true }
    | none => s)

/-- ENGINE_CMD_COMPLETE (R95, R76): the oldest running command's results are in place; an MMA_STORE then waits for its store part. -/
def execEngineCmdComplete (c : CoreId) (e : Fin 6) (residue : Fin 3) (s : State) : Host.Outcome State Fault Refusal :=
  .next (match (s.core c).cmds.find? (fun k => k.on == e.val && k.phase == 1) with
    | some k =>
      let (k, s) := s.residue c k residue
      if e.val < 4 ∧ bits k.words 7 0 = 6 ∧ k.fault = false then s.setEngCmd c { k with phase := 2 } else s.finishCmd c k
    | none => s)

end Sys2Proof.Machine
end

