-- ==== Sys2Proof/Machine/Vector.lean ====
section
/-! DEFINITION. Vector engines (R90, R92, R96, R97, R113, R116, R131 to R133, R140, R142). -/

namespace Sys2Proof.Machine

/-! Fields of Table 3.14. -/
def vIn (w : Nat) : Nat := bits w 12 8
def vOut (w : Nat) : Nat := bits w 17 13
def vRound (w : Nat) : Nat := bits w 19 18
def vAcc (w : Nat) : Bool := bits w 20 20 = 1
def vExact (w : Nat) : Bool := bits w 21 21 = 1
def vSrc0 (w : Nat) : Nat := cmdField w 1 21 0
def vSrc1 (w : Nat) : Nat := cmdField w 2 21 0
def vDst (w : Nat) : Nat := cmdField w 3 21 0
def vCount (w : Nat) : Nat := cmdField w 4 23 0
def vAux (w : Nat) : Nat := cmdField w 7 31 0
def vSum (op : Nat) : Bool := op == 0x30 || op == 0x33 || op == 0x40

/-- What word 2 is for: nothing, an area, or the compare value. -/
inductive Src1 where | none | two | value
deriving DecidableEq, Repr

/-- The checks that answer DESC_FAULT (R90, R92, R97, R112, R113, R140, R142). (DEDUCED, assumption 40) -/
def vectorBad (repeatable : Bool) (use : Src1) (w : Nat) : Bool :=
  let op := bits w 7 0
  bits w 31 22 != 0 || cmdField w 4 31 24 != 0 || cmdField w 6 31 20 != 0 || (cmdWaits w).any (fun x => x.2 == 0) ||
    cmdField w 1 31 22 != 0 || cmdField w 3 31 22 != 0 || vRound w == 3 || vCount w == 0 ||
    vSrc0 w % 64 != 0 || vDst w % 64 != 0 ||
    (match use with
     | .none => cmdField w 2 31 0 != 0
     | .two => cmdField w 2 31 22 != 0 || vSrc1 w % 64 != 0
     | .value => false) ||
    (op == 0x71 && vSrc0 w != 0) ||
    (match Fmt.ofCode (vIn w), Fmt.ofCode (vOut w) with
     | some i, some o =>
       i.isBlock || (o.isBlock && (op != 0x0E || vAux w == 0 || vAux w % 32 != 0 || vCount w % max 1 (vAux w) != 0)) ||
         (vSum op && vExact w && i != .int 64 && (gridOf i).isNone) ||
         (repeatable && vSum op && !vExact w && (gridOf i).isSome)
     | _, _ => true) ||
    ((op == 0x30 || op == 0x31 || op == 0x32) && vAux w == 0) ||
    ((op == 0x08 || op == 0x60 || op == 0x61) && vAux w % 8 > 5) ||
    ((op == 0x50 || op == 0x51) && !(64 ≤ vCount w && vCount w ≤ 4096 && 2 ^ Nat.log2 (vCount w) == vCount w)) ||
    ((op == 0x52 || op == 0x53) && (vCount w > 1048576 || vAux w == 0 || vAux w > 256))

/-- Bytes of n elements; raw exact words take 16 bytes each (R140). -/
def vecBytes (raw : Bool) (f : Fmt) (n : Nat) : Nat := if raw then 16 * n else f.area n

/-- Read n elements; the fault and its core-store offset where the area crosses the store or a word is uncorrectable. -/
def State.elems (s : State) (c : Nat) (raw : Bool) (f : Fmt) (off n : Nat) : Except (Nat × Nat) (List Nat) :=
  let b := vecBytes raw f n
  if off + b > 2 ^ 22 then .error (fADDR_FAULT, off)
  else match s.coreRead c off b with
    | some bs => .ok (if raw then (List.range n).map (fun i => leNat ((bs.drop (16 * i)).take 16)) else unpack f bs n)
    | none => .error (fSRAM_UE, s.badOff c off b)

/-- Write bytes of results, or stop with the fault. -/
def State.putBytes (s : State) (c : Nat) (k : EngCmd) (off : Nat) (bs : List Byte) : State :=
  if off + bs.length > 2 ^ 22 then s.cmdFault c k fADDR_FAULT off
  else
    let (ok, s) := s.corePut c off bs
    if ok then s else s.cmdFault c k fSRAM_UE (s.badOff c off bs.length)
/-- Write packed elements. -/
def State.putElems (s : State) (c : Nat) (k : EngCmd) (raw : Bool) (f : Fmt) (off : Nat) (es : List Nat) : State :=
  s.putBytes c k off (if raw then es.flatMap (leBytes 16) else pack f es)

/-- A pattern as an engine writes it: a NaN is the canonical one (R110). -/
def Fmt.canon (f : Fmt) (p : Nat) : Nat := if (f.decode p).isNan then f.encode .near .nan else p
/-- Write patterns that are moved or combined in their own format: nothing is rounded, and nothing is drawn in mode 2
(DESIGN CHOICE, assumption 150). -/
def State.putPats (s : State) (c : Nat) (k : EngCmd) (f : Fmt) (off : Nat) (es : List Nat) : State :=
  s.putElems c k false f off (es.map f.canon)

/-- Write results under the round field, drawing random values in mode 2 (R114, R119). Outputs in BOOL are not rounded (R116) and draw nothing;
every other output draws, exact or not. (DESIGN CHOICE, assumption 150) -/
def State.putRounded (s : State) (c : Nat) (k : EngCmd) (f : Fmt) (enc : Rnd → α → Nat) (off : Nat) (vs : List α) : State :=
  let gen := k.engine * 4 + k.stream
  let (ps, g) := encodeAll enc (if f == .bool then 0 else vRound k.words) (Assoc.get 1 (s.core c).gens gen) vs
  let s := s.setCore c { s.core c with gens := Assoc.put 1 (s.core c).gens gen g }
  s.putElems c k false f off ps

def State.putNums (s : State) (c : Nat) (k : EngCmd) (vs : List Num) : State :=
  match Fmt.ofCode (vOut k.words) with
  | some o => s.putRounded c k o o.encode (vDst k.words) vs
  | none => s.cmdFault c k fDESC_FAULT 0

/-- With elements of an area as values. -/
def State.withElems (s : State) (c : Nat) (k : EngCmd) (fmt off n : Nat) (act : State → Fmt → List Nat → State) : State :=
  match Fmt.ofCode fmt with
  | some f => match s.elems c false f off n with
    | .ok es => act (s.coreSee c off (f.area n)) f es
    | .error e => s.cmdFault c k e.1 e.2
  | none => s.cmdFault c k fDESC_FAULT 0

def State.src0 (s : State) (c : Nat) (k : EngCmd) (act : State → Fmt → List Nat → State) : State :=
  s.withElems c k (vIn k.words) (vSrc0 k.words) (vCount k.words) act
def State.src1 (s : State) (c : Nat) (k : EngCmd) (act : State → Fmt → List Nat → State) : State :=
  s.withElems c k (vIn k.words) (vSrc1 k.words) (vCount k.words) act

/-- Two sources, computed exactly and rounded once (R131, R133). -/
def State.binNum (op : Num → Num → Num) (s : State) (c : Nat) (k : EngCmd) : State :=
  s.src0 c k fun s f xs => s.src1 c k fun s _ ys => s.putNums c k ((List.zip xs ys).map fun p => op (f.decode p.1) (f.decode p.2))

/-- One source. -/
def State.unNum (op : Num → Num) (s : State) (c : Nat) (k : EngCmd) : State :=
  s.src0 c k fun s f xs => s.putNums c k (xs.map fun x => op (f.decode x))

/-- FMA (R131): src0 × src1 + dst. -/
def State.veFma (s : State) (c : Nat) (k : EngCmd) : State :=
  s.src0 c k fun s f xs => s.src1 c k fun s _ ys => s.withElems c k (vOut k.words) (vDst k.words) (vCount k.words) fun s o ds =>
    s.putNums c k ((List.zip (List.zip xs ys) ds).map fun p => ((f.decode p.1.1).mul (f.decode p.1.2)).add (o.decode p.2))

/-- CMP (R97, R133): a mask against the value in word 2. -/
def State.veCmp (s : State) (c : Nat) (k : EngCmd) : State :=
  s.src0 c k fun s f xs =>
    let v := f.decode (cmdField k.words 2 31 0 % 2 ^ f.bits)
    s.putNums c k (xs.map fun x => .fin false (if (compareNum (vAux k.words % 8) (f.decode x) v).getD false then 1 else 0) 0)

/-- Two sources as patterns; the result in in_fmt, converted if out_fmt differs. -/
def State.binPat (op : Fmt → Nat → Nat → Nat) (s : State) (c : Nat) (k : EngCmd) : State :=
  s.src0 c k fun s f xs => s.src1 c k fun s _ ys =>
    let rs := (List.zip xs ys).map fun p => op f p.1 p.2 % 2 ^ f.bits
    if vIn k.words = vOut k.words then s.putPats c k f (vDst k.words) rs else s.putNums c k (rs.map f.decode)
/-- PRESUMED assumption 47. -/
def shlPat (_f : Fmt) (x n : Nat) : Nat := if n ≥ 64 then 0 else x * 2 ^ n
def shrPat (f : Fmt) (x n : Nat) : Nat :=
  match f with
  | .int w => toPat w (sext w x / 2 ^ min n 64)
  | _ => if n ≥ 64 then 0 else x / 2 ^ n

/-- The scale and the elements of a block (R113). -/
def blockOf (emax : Int) (xs : List Num) : Nat × List Num :=
  let ys := xs.map Num.fp32
  if ys.any (fun y => match y with | .fin _ _ _ => false | _ => true) then (255, xs.map fun _ => .fin false 0 0)
  else
    let mags := ys.filterMap (fun y => match y with | .fin _ m e => if m = 0 then none else some ((Nat.log2 m : Int) + e) | _ => none)
    match mags with
    | [] => (0, xs)
    | e :: es =>
      let sc := max (-127) (min 127 (es.foldl max e - emax))
      ((sc + 127).toNat, xs.map fun x => x.mul (.fin false 1 (-sc)))

/-- CVT to a block-scaled format: rows of L elements, their scales, zeros up to the next 64-byte boundary (R113). -/
def State.cvtBlock (s : State) (c : Nat) (k : EngCmd) (o : Fmt) (f : Fmt) (xs : List Nat) : State :=
  let l := vAux k.words
  let emax : Int := match o with | .flt 3 _ _ _ => 4 | _ => 2
  let blocks := (groups 32 xs.length xs).map fun g => blockOf emax (g.map f.decode)
  let gen := k.engine * 4 + k.stream
  let (ps, g) := encodeAll o.encode (vRound k.words) (Assoc.get 1 (s.core c).gens gen) (blocks.flatMap (·.2))
  let s := s.setCore c { s.core c with gens := Assoc.put 1 (s.core c).gens gen g }
  let rowLen := o.area l + l / 32
  let bytes := (List.range (xs.length / l)).flatMap fun r =>
    pack o ((ps.drop (r * l)).take l) ++ (((blocks.drop (r * (l / 32))).take (l / 32)).map fun b => BitVec.ofNat 8 b.1) ++
      List.replicate ((64 - rowLen % 64) % 64) 0
  s.putBytes c k (vDst k.words) bytes

/-- CVT (R113 to R117). -/
def State.veCvt (s : State) (c : Nat) (k : EngCmd) : State :=
  s.src0 c k fun s f xs =>
    match Fmt.ofCode (vOut k.words) with
    | some o => if o.isBlock then s.cvtBlock c k o f xs else s.putNums c k (xs.map f.decode)
    | none => s.cmdFault c k fDESC_FAULT 0

/-- SEL: where the packed mask at src1 holds 1, dst takes src0; elsewhere it stays (PRESUMED, assumption 47). -/
def State.veSel (s : State) (c : Nat) (k : EngCmd) : State :=
  s.src0 c k fun s f xs => s.withElems c k 0x10 (vSrc1 k.words) (vCount k.words) fun s _ ms =>
    s.withElems c k (vOut k.words) (vDst k.words) (vCount k.words) fun s o ds =>
      s.putRounded c k o (fun rnd (p : Nat × Nat × Nat) => if p.2.1 = 1 then o.encode rnd (f.decode p.1) else p.2.2) (vDst k.words)
        (List.zip xs (List.zip ms ds))

/-- The function operations (R132): the input rounded to FP32, the function, the output rounded. (DESIGN CHOICE, assumption 140) -/
def State.veFun (n : Nat) (s : State) (c : Nat) (k : EngCmd) : State :=
  s.unNum (fun x => fp32Result n x.fp32) c k

/-! Reductions and scans (R96, R140). -/

/-- The non-exact sum: integers exactly, floating values in the engine's fixed order (DEDUCED, assumption 48). -/
def plainSum (f : Fmt) (xs : List Num) : Num :=
  if f.isFloat then
    match xs with
    | [x] => x
    | _ => fp32.decode (Config.floatSum (xs.map (fp32.encode .near)) % 2 ^ 32)
  else intNum (xs.foldl (fun a x => a + x.toInt) 0)

/-- Raw words of one grid combined in order from a zero of theirs; none where grids differ (R137). -/
def combineAll : List Nat → Option Nat
  | [] => none
  | x :: xs => xs.foldl (fun a y => a.bind fun a => if rawGrid a = rawGrid y then some (combineRaw a y) else none) (some x)

/-- A reduction's inputs, by group of elements that make one output, and the old dst values that take part. In exact mode the words of one group
must be of one grid (R137). -/
def State.reduce (s : State) (c : Nat) (k : EngCmd) (grp : List Nat → List (List Nat)) (sum : Bool) (pick : Num → Num → Num) : State :=
  let w := k.words
  let exact := sum && vExact w
  match Fmt.ofCode (vIn w), Fmt.ofCode (vOut w) with
  | some f, some o =>
    let rawIn := exact && f == .int 64
    let rawOut := exact && o == .int 64
    match s.elems c rawIn f (vSrc0 w) (vCount w) with
    | .error e => s.cmdFault c k e.1 e.2
    | .ok xs =>
      let gs := grp xs
      let s := s.coreSee c (vSrc0 w) (vecBytes rawIn f (vCount w))
      match (if vAcc w then s.elems c rawOut o (vDst w) gs.length else .ok []) with
      | .error e => s.cmdFault c k e.1 e.2
      | .ok olds =>
        let s := if vAcc w then s.coreSee c (vDst w) (vecBytes rawOut o gs.length) else s
        if exact then
          let rs := gs.zipIdx.map fun g =>
            let ts := g.1.map fun x => if rawIn then x else place ((gridOf f).getD 0) true (f.decode x)
            let grid := rawGrid (ts.headD 0)
            let old := if rawOut then olds.getD g.2 (rawZero grid) else place grid true (o.decode (olds.getD g.2 0))
            combineAll (ts ++ if vAcc w then [old] else [])
          match rs.mapM id with
          | some rs => if rawOut then s.putElems c k true o (vDst w) rs else s.putRounded c k o (encodeRaw o) (vDst w) rs
          | none => s.cmdFault c k fDESC_FAULT 0
        else
          let rs := gs.zipIdx.map fun g =>
            let vs := g.1.map f.decode ++ (if vAcc w then [o.decode (olds.getD g.2 0)] else [])
            if sum then plainSum f vs else match vs with | v :: vs => vs.foldl pick v | [] => .fin false 0 0
          s.putNums c k rs
  | _, _ => s.cmdFault c k fDESC_FAULT 0

/-- Columns of rows of a width; prefixes. -/
def columns (width : Nat) (xs : List Nat) : List (List Nat) :=
  (List.range (min width xs.length)).map fun j => ((List.range ((xs.length - j + width - 1) / width)).map fun r => xs.getD (r * width + j) 0)
def prefixes (xs : List Nat) : List (List Nat) := (List.range xs.length).map fun i => xs.take (i + 1)

/-- DEDUCED assumption 48. -/
def State.veRowSum (s : State) (c : Nat) (k : EngCmd) : State := s.reduce c k (columns (vAux k.words)) true Num.add
def State.veRowPick (op : Num → Num → Num) (s : State) (c : Nat) (k : EngCmd) : State := s.reduce c k (columns (vAux k.words)) false op
/-- DEDUCED assumption 48. -/
def State.veSum (s : State) (c : Nat) (k : EngCmd) : State := s.reduce c k (fun xs => [xs]) true Num.add
def State.vePick (op : Num → Num → Num) (s : State) (c : Nat) (k : EngCmd) : State := s.reduce c k (fun xs => [xs]) false op
def State.veScanAdd (s : State) (c : Nat) (k : EngCmd) : State := s.reduce c k prefixes true Num.add
def State.veScanPick (op : Num → Num → Num) (s : State) (c : Nat) (k : EngCmd) : State := s.reduce c k prefixes false op

/-- What dst holds, as far as it can be read: an operand of results that combine with it. -/
def State.coreOld (s : State) (c : Nat) (k : EngCmd) : List Nat :=
  match Fmt.ofCode (vOut k.words) with
  | some o => match s.elems c false o (vDst k.words) 1 with | .ok es => es | .error _ => []
  | none => []

/-- ARGMIN and ARGMAX (R133): the lowest position of the extreme; combining it with dst has no stated value. -/
def State.veArg (less : Num → Num → Bool) (s : State) (c : Nat) (k : EngCmd) : State :=
  s.src0 c k fun s f xs =>
    let best := (xs.map f.decode).zipIdx.foldl (fun (b : Option (Num × Nat)) x => match b with
      | some y => if less x.1 y.1 then some x else some y
      | none => some x) none
    if vAcc k.words then s.putNums c k [intNum (Config.openValue (bits k.words 7 0) (xs ++ s.coreOld c k) : Nat)]
    else s.putNums c k [intNum ((best.map (·.2)).getD 0 : Nat)]

/-! Sort, select, compact, move (R97). -/

/-- Keys with positions in the total order, stably; ascending, or descending for the top. -/
def sortKeys (f : Fmt) (desc : Bool) (xs : List Nat) : List (Nat × Nat) :=
  xs.zipIdx.mergeSort fun a b => if desc then !(f.decode a.1).tlt (f.decode b.1) else !(f.decode b.1).tlt (f.decode a.1)

/-- The command has stopped by a fault: it moves nothing more (R104). -/
def State.cmdStopped (s : State) (c id : Nat) : Bool := (s.core c).cmds.any fun j => j.id == id && j.fault

/-- Write sorted keys at dst and, with payloads, these at the next 64-byte boundary (PRESUMED, assumption 47). -/
def State.putSorted (s : State) (c : Nat) (k : EngCmd) (kv : Bool) (f : Fmt) (ks : List (Nat × Nat)) : State :=
  match Fmt.ofCode (vOut k.words) with
  | some o =>
    let s' := if vIn k.words = vOut k.words then s.putPats c k f (vDst k.words) (ks.map (·.1)) else s.putNums c k (ks.map fun x => f.decode x.1)
    if kv && !s'.cmdStopped c k.id then
      s'.withElems c k 3 (vSrc1 k.words) (vCount k.words) fun s' p ps =>
        s'.putElems c k false p ((vDst k.words + o.area ks.length + 63) / 64 * 64) (ks.map fun x => ps.getD x.2 0)
    else s'
  | none => s.cmdFault c k fDESC_FAULT 0

def State.veSort (kv : Bool) (s : State) (c : Nat) (k : EngCmd) : State :=
  s.src0 c k fun s f xs => s.putSorted c k kv f (sortKeys f false xs)
/-- PRESUMED assumption 47. -/
def State.veTopk (kv : Bool) (s : State) (c : Nat) (k : EngCmd) : State :=
  s.src0 c k fun s f xs => s.putSorted c k kv f ((sortKeys f true xs).take (vAux k.words))

/-- COMPACT and COMPACT_IDX: the compare value has no stated place, since word 2 names the count (PRESUMED, assumption 47). -/
def State.veCompact (idx : Bool) (s : State) (c : Nat) (k : EngCmd) : State :=
  s.src0 c k fun s f xs =>
    let cv := f.decode (Config.openValue (bits k.words 7 0) (k.words :: xs) % 2 ^ f.bits)
    let hit := xs.zipIdx.filter fun x => (compareNum (vAux k.words % 8) (f.decode x.1) cv).getD false
    let s := s.putElems c k false (.int 32) (vSrc1 k.words) [hit.length]
    if s.cmdStopped c k.id then s
    else if idx then s.putNums c k (hit.map fun x => intNum x.2)
    else if vIn k.words = vOut k.words then s.putPats c k f (vDst k.words) (hit.map (·.1))
    else s.putNums c k (hit.map fun x => f.decode x.1)

/-- PERMUTE: dst[k] ← src0[index[k]], 32-bit indices at src1. (PRESUMED, assumption 47) -/
def State.vePermute (s : State) (c : Nat) (k : EngCmd) : State :=
  s.withElems c k 3 (vSrc1 k.words) (vCount k.words) fun s _ is =>
    s.withElems c k (vIn k.words) (vSrc0 k.words) (is.foldl max 0 + 1) fun s f xs =>
      let rs := is.map fun i => xs.getD i 0
      if vIn k.words = vOut k.words then s.putPats c k f (vDst k.words) rs else s.putNums c k (rs.map f.decode)

/-- FILL: the immediate in aux. (PRESUMED, assumption 47) -/
def State.veFill (s : State) (c : Nat) (k : EngCmd) : State :=
  match Fmt.ofCode (vOut k.words) with
  | some o => s.putPats c k o (vDst k.words) (List.replicate (vCount k.words) (vAux k.words % 2 ^ o.bits))
  | none => s.cmdFault c k fDESC_FAULT 0

/-- The clocks a vector command occupies (R96, R97). -/
def vecClocks (w : Nat) : Nat :=
  let op := bits w 7 0
  let b := max (((Fmt.ofCode (vIn w)).map Fmt.bits).getD 8) (((Fmt.ofCode (vOut w)).map Fmt.bits).getD 8)
  let e := if b ≤ 8 then 256 else if b ≤ 16 then 128 else if b ≤ 32 then 64 else 32
  let n := vCount w
  if 0x10 ≤ op ∧ op ≤ 0x15 then (n + 15) / 16 + 12
  else if op = 0x50 ∨ op = 0x51 then n / 64 * (Nat.log2 n * (Nat.log2 n + 1) / 2) + 12
  else if op = 0x52 ∨ op = 0x53 then (n + 63) / 64 * (1 + (if vAux w ≤ 1 then 0 else Nat.log2 (vAux w - 1) + 1)) + 64
  else
    let e := if vSum op && vExact w then
        (let i := ((Fmt.ofCode (vIn w)).map Fmt.bits).getD 8; (if i ≤ 8 then 256 else if i ≤ 16 then 128 else if i ≤ 32 then 64 else 32) / 2)
      else if 0x40 ≤ op ∧ op ≤ 0x42 then e / 2 else e
    (n + e - 1) / e + 12

/-- Start a vector command of an operation, checked. -/
def State.vecCmd (s : State) (c e op : Nat) (use : Src1) (residue : Nat) (act : State → Nat → EngCmd → State) : State :=
  s.startCmd c (4 + e) (· == op) fun s k =>
    let rep : Bool := match s.partOfCore c with | some p => (s.part p).repeatable | none => false
    if vectorBad rep use k.words then s.cmdFault c k fDESC_FAULT 0
    else
      let (k, s) := s.residue c k residue
      (act s c k).add CORE.PERF.count (vecClocks k.words) c 2

/-- VE_ADD (R131, Table 3.13). -/
def execVeAdd (c : CoreId) (e : VeId) (residue : Fin 3) (s : State) : Host.Outcome State Fault Refusal :=
  .next (s.vecCmd c e 0x0 .two residue (State.binNum Num.add))
/-- VE_SUB (R131, Table 3.13). -/
def execVeSub (c : CoreId) (e : VeId) (residue : Fin 3) (s : State) : Host.Outcome State Fault Refusal :=
  .next (s.vecCmd c e 0x1 .two residue (State.binNum fun x y => x.add y.neg))
/-- VE_MUL (R131, Table 3.13). -/
def execVeMul (c : CoreId) (e : VeId) (residue : Fin 3) (s : State) : Host.Outcome State Fault Refusal :=
  .next (s.vecCmd c e 0x2 .two residue (State.binNum Num.mul))
/-- VE_FMA (R131, Table 3.13). -/
def execVeFma (c : CoreId) (e : VeId) (residue : Fin 3) (s : State) : Host.Outcome State Fault Refusal :=
  .next (s.vecCmd c e 0x3 .two residue (State.veFma))
/-- VE_MIN (R133, Table 3.13). -/
def execVeMin (c : CoreId) (e : VeId) (residue : Fin 3) (s : State) : Host.Outcome State Fault Refusal :=
  .next (s.vecCmd c e 0x4 .two residue (State.binNum Num.min))
/-- VE_MAX (R133, Table 3.13). -/
def execVeMax (c : CoreId) (e : VeId) (residue : Fin 3) (s : State) : Host.Outcome State Fault Refusal :=
  .next (s.vecCmd c e 0x5 .two residue (State.binNum Num.max))
/-- VE_ABS (R96, Table 3.13). -/
def execVeAbs (c : CoreId) (e : VeId) (residue : Fin 3) (s : State) : Host.Outcome State Fault Refusal :=
  .next (s.vecCmd c e 0x6 .none residue (State.unNum Num.abs))
/-- VE_NEG (R96, Table 3.13). -/
def execVeNeg (c : CoreId) (e : VeId) (residue : Fin 3) (s : State) : Host.Outcome State Fault Refusal :=
  .next (s.vecCmd c e 0x7 .none residue (State.unNum Num.neg))
/-- VE_CMP (R133, R97, Table 3.13). -/
def execVeCmp (c : CoreId) (e : VeId) (residue : Fin 3) (s : State) : Host.Outcome State Fault Refusal :=
  .next (s.vecCmd c e 0x8 .value residue (State.veCmp))
/-- VE_AND (R96, Table 3.13). -/
def execVeAnd (c : CoreId) (e : VeId) (residue : Fin 3) (s : State) : Host.Outcome State Fault Refusal :=
  .next (s.vecCmd c e 0x9 .two residue (State.binPat fun _ x y => x &&& y))
/-- VE_OR (R96, Table 3.13). -/
def execVeOr (c : CoreId) (e : VeId) (residue : Fin 3) (s : State) : Host.Outcome State Fault Refusal :=
  .next (s.vecCmd c e 0xa .two residue (State.binPat fun _ x y => x ||| y))
/-- VE_XOR (R96, Table 3.13). -/
def execVeXor (c : CoreId) (e : VeId) (residue : Fin 3) (s : State) : Host.Outcome State Fault Refusal :=
  .next (s.vecCmd c e 0xb .two residue (State.binPat fun _ x y => x ^^^ y))
/-- VE_SHL (R131, Table 3.13). -/
def execVeShl (c : CoreId) (e : VeId) (residue : Fin 3) (s : State) : Host.Outcome State Fault Refusal :=
  .next (s.vecCmd c e 0xc .two residue (State.binPat shlPat))
/-- VE_SHR (R131, Table 3.13). -/
def execVeShr (c : CoreId) (e : VeId) (residue : Fin 3) (s : State) : Host.Outcome State Fault Refusal :=
  .next (s.vecCmd c e 0xd .two residue (State.binPat shrPat))
/-- VE_CVT (R113 to R117, Table 3.13). -/
def execVeCvt (c : CoreId) (e : VeId) (residue : Fin 3) (s : State) : Host.Outcome State Fault Refusal :=
  .next (s.vecCmd c e 0xe .none residue (State.veCvt))
/-- VE_SEL (R96, Table 3.13). -/
def execVeSel (c : CoreId) (e : VeId) (residue : Fin 3) (s : State) : Host.Outcome State Fault Refusal :=
  .next (s.vecCmd c e 0xf .two residue (State.veSel))
/-- VE_EXP (R132, Table 3.13). -/
def execVeExp (c : CoreId) (e : VeId) (residue : Fin 3) (s : State) : Host.Outcome State Fault Refusal :=
  .next (s.vecCmd c e 0x10 .none residue (State.veFun 0))
/-- VE_LOG (R132, Table 3.13). -/
def execVeLog (c : CoreId) (e : VeId) (residue : Fin 3) (s : State) : Host.Outcome State Fault Refusal :=
  .next (s.vecCmd c e 0x11 .none residue (State.veFun 1))
/-- VE_RECIP (R132, Table 3.13). -/
def execVeRecip (c : CoreId) (e : VeId) (residue : Fin 3) (s : State) : Host.Outcome State Fault Refusal :=
  .next (s.vecCmd c e 0x12 .none residue (State.veFun 2))
/-- VE_RSQRT (R132, Table 3.13). -/
def execVeRsqrt (c : CoreId) (e : VeId) (residue : Fin 3) (s : State) : Host.Outcome State Fault Refusal :=
  .next (s.vecCmd c e 0x13 .none residue (State.veFun 3))
/-- VE_TANH (R132, Table 3.13). -/
def execVeTanh (c : CoreId) (e : VeId) (residue : Fin 3) (s : State) : Host.Outcome State Fault Refusal :=
  .next (s.vecCmd c e 0x14 .none residue (State.veFun 4))
/-- VE_SIGMOID (R132, Table 3.13). -/
def execVeSigmoid (c : CoreId) (e : VeId) (residue : Fin 3) (s : State) : Host.Outcome State Fault Refusal :=
  .next (s.vecCmd c e 0x15 .none residue (State.veFun 5))
/-- VE_ROWSUM (R140, Table 3.13). -/
def execVeRowsum (c : CoreId) (e : VeId) (residue : Fin 3) (s : State) : Host.Outcome State Fault Refusal :=
  .next (s.vecCmd c e 0x30 .none residue (State.veRowSum))
/-- VE_ROWMIN (R96, Table 3.13). -/
def execVeRowmin (c : CoreId) (e : VeId) (residue : Fin 3) (s : State) : Host.Outcome State Fault Refusal :=
  .next (s.vecCmd c e 0x31 .none residue (State.veRowPick Num.min))
/-- VE_ROWMAX (R96, Table 3.13). -/
def execVeRowmax (c : CoreId) (e : VeId) (residue : Fin 3) (s : State) : Host.Outcome State Fault Refusal :=
  .next (s.vecCmd c e 0x32 .none residue (State.veRowPick Num.max))
/-- VE_SUM (R140, Table 3.13). -/
def execVeSum (c : CoreId) (e : VeId) (residue : Fin 3) (s : State) : Host.Outcome State Fault Refusal :=
  .next (s.vecCmd c e 0x33 .none residue (State.veSum))
/-- VE_RED_MIN (R96, Table 3.13). -/
def execVeRedMin (c : CoreId) (e : VeId) (residue : Fin 3) (s : State) : Host.Outcome State Fault Refusal :=
  .next (s.vecCmd c e 0x34 .none residue (State.vePick Num.min))
/-- VE_RED_MAX (R96, Table 3.13). -/
def execVeRedMax (c : CoreId) (e : VeId) (residue : Fin 3) (s : State) : Host.Outcome State Fault Refusal :=
  .next (s.vecCmd c e 0x35 .none residue (State.vePick Num.max))
/-- VE_ARGMIN (R133, Table 3.13). -/
def execVeArgmin (c : CoreId) (e : VeId) (residue : Fin 3) (s : State) : Host.Outcome State Fault Refusal :=
  .next (s.vecCmd c e 0x36 .none residue (State.veArg fun x y => x.tlt y))
/-- VE_ARGMAX (R133, Table 3.13). -/
def execVeArgmax (c : CoreId) (e : VeId) (residue : Fin 3) (s : State) : Host.Outcome State Fault Refusal :=
  .next (s.vecCmd c e 0x37 .none residue (State.veArg fun x y => y.tlt x))
/-- VE_SCAN_ADD (R140, Table 3.13). -/
def execVeScanAdd (c : CoreId) (e : VeId) (residue : Fin 3) (s : State) : Host.Outcome State Fault Refusal :=
  .next (s.vecCmd c e 0x40 .none residue (State.veScanAdd))
/-- VE_SCAN_MIN (R96, Table 3.13). -/
def execVeScanMin (c : CoreId) (e : VeId) (residue : Fin 3) (s : State) : Host.Outcome State Fault Refusal :=
  .next (s.vecCmd c e 0x41 .none residue (State.veScanPick Num.min))
/-- VE_SCAN_MAX (R96, Table 3.13). -/
def execVeScanMax (c : CoreId) (e : VeId) (residue : Fin 3) (s : State) : Host.Outcome State Fault Refusal :=
  .next (s.vecCmd c e 0x42 .none residue (State.veScanPick Num.max))
/-- VE_SORT (R97, Table 3.13). -/
def execVeSort (c : CoreId) (e : VeId) (residue : Fin 3) (s : State) : Host.Outcome State Fault Refusal :=
  .next (s.vecCmd c e 0x50 .none residue (State.veSort false))
/-- VE_SORT_KV (R97, Table 3.13). -/
def execVeSortKv (c : CoreId) (e : VeId) (residue : Fin 3) (s : State) : Host.Outcome State Fault Refusal :=
  .next (s.vecCmd c e 0x51 .two residue (State.veSort true))
/-- VE_TOPK (R97, Table 3.13). -/
def execVeTopk (c : CoreId) (e : VeId) (residue : Fin 3) (s : State) : Host.Outcome State Fault Refusal :=
  .next (s.vecCmd c e 0x52 .none residue (State.veTopk false))
/-- VE_TOPK_KV (R97, Table 3.13). -/
def execVeTopkKv (c : CoreId) (e : VeId) (residue : Fin 3) (s : State) : Host.Outcome State Fault Refusal :=
  .next (s.vecCmd c e 0x53 .two residue (State.veTopk true))
/-- VE_COMPACT (R96, Table 3.13). -/
def execVeCompact (c : CoreId) (e : VeId) (residue : Fin 3) (s : State) : Host.Outcome State Fault Refusal :=
  .next (s.vecCmd c e 0x60 .two residue (State.veCompact false))
/-- VE_COMPACT_IDX (R96, Table 3.13). -/
def execVeCompactIdx (c : CoreId) (e : VeId) (residue : Fin 3) (s : State) : Host.Outcome State Fault Refusal :=
  .next (s.vecCmd c e 0x61 .two residue (State.veCompact true))
/-- VE_PERMUTE (R96, Table 3.13). -/
def execVePermute (c : CoreId) (e : VeId) (residue : Fin 3) (s : State) : Host.Outcome State Fault Refusal :=
  .next (s.vecCmd c e 0x70 .two residue (State.vePermute))
/-- VE_FILL (R96, Table 3.13). -/
def execVeFill (c : CoreId) (e : VeId) (residue : Fin 3) (s : State) : Host.Outcome State Fault Refusal :=
  .next (s.vecCmd c e 0x71 .none residue (State.veFill))

end Sys2Proof.Machine
end

