-- ==== Sys2Proof/Machine/Ibu.lean ====
section
/-! DEFINITION. In-bank units: lists and the dispatcher (R184 to R188), commands (R175 to R183, R189 to R196), tokens (R200, R201), aborts and
discards (R204), failed units (R205 to R207). -/

namespace Sys2Proof.Machine

/-! Token statuses (Table 6.7). -/
def ibOK : Nat := 0
def ibUE : Nat := 1
def ibABORTED : Nat := 2
def ibCMD : Nat := 3
def ibBOUNDS : Nat := 4
def ibFAULT : Nat := 5

/-! Units and the fallback executor (R205 to R207). -/

def State.unit (s : State) (k u : Nat) : UnitState := Assoc.get UnitState.reset s.ibu.units (1024 * k + u)
def State.setUnit (s : State) (k u : Nat) (x : UnitState) : State :=
  (s.putIbu { s.ibu with units := Assoc.put UnitState.reset s.ibu.units (1024 * k + u) x })
def State.outUnits (s : State) (k : Nat) : List Nat :=
  (s.ibu.units.filter (fun x => x.1 / 1024 == k && x.2.state != 0)).map (fun x => x.1 % 1024)
def State.servedUnits (s : State) (k : Nat) : List Nat := Assoc.get [] s.ibu.served k

/-- The registers that show the units (Table 6.11). -/
def State.showUnits (s : State) (k : Nat) : State :=
  let out := s.outUnits k
  let s := (s.wr IBU.STATUS.out_of_service out.length k).wr IBU.STATUS.served (s.servedUnits k).length k
  (List.range 32).foldl (fun s w =>
    let bits_ := fun (p : Nat → Bool) => (out.filter (fun u => u / 32 == w && p u)).foldl (fun a u => a + 2 ^ (u % 32)) 0
    (s.wr IBU.OUT.out (bits_ fun _ => true) k w).wr IBU.FAILED.failed (bits_ fun u => (s.unit k u).state == 2) k w) s

/-- A unit leaves service: the fallback executor serves it if it serves fewer than 16 (R206). -/
def State.unitOut (s : State) (k u st : Nat) : State :=
  let was := (s.unit k u).state
  let s := s.setUnit k u { s.unit k u with state := st }
  let s :=
    if was ≠ 0 then s
    else if (s.servedUnits k).length < 16 then
      (s.putIbu { s.ibu with served := Assoc.put [] s.ibu.served k (s.servedUnits k ++ [u]) })
    else s.raise Ev.IBU_FALLBACK_FULL k
  s.showUnits k

/-- A unit returns to service; one that waited takes its place at the fallback executor (R206). -/
def State.unitBack (s : State) (k u : Nat) : State :=
  let s := s.setUnit k u { s.unit k u with state := 0 }
  let served := (s.servedUnits k).filter (· != u)
  let waiting := (s.outUnits k).filter (fun v => !served.contains v)
  let s := (s.putIbu { s.ibu with served := Assoc.put [] s.ibu.served k (served ++ waiting.take (16 - served.length)) })
  s.showUnits k

/-- A unit fails (R205): FAILED, IBU_FAILED, recorded in the keep store. -/
def State.unitFails (s : State) (k u cause : Nat) : State :=
  let (_, s) := s.keepTouch (0x280 + k)
  let s := s.setUnit k u { s.unit k u with needPass := true }
  let s := s.unitOut k u 2
  let s := ((s.wr IBU.LAST_FAIL.unit u k).wr IBU.LAST_FAIL.cause cause k).wr IBU.LAST_FAIL.valid 1 k
  s.raise Ev.IBU_FAILED k

/-! Lists and unit queues (R184 to R188). -/

def State.listsOf (s : State) (k : Nat) : List IbuList := s.ibu.lists.filter (fun l => l.stack == k)
def State.setList (s : State) (l : IbuList) : State :=
  (s.putIbu { s.ibu with lists := s.ibu.lists.map (fun m => if m.id = l.id then l else m) })

/-- The queue of a unit: list and list index of each entry, at most 16. -/
def State.unitQueue (s : State) (k u : Nat) : List (Nat × Nat) := Assoc.get [] s.ibu.queues (1024 * k + u)
def State.setUnitQueue (s : State) (k u : Nat) (q : List (Nat × Nat)) : State :=
  (s.putIbu { s.ibu with queues := Assoc.put [] s.ibu.queues (1024 * k + u) q })

/-- An entry has nothing left to do: it is done, if it ran and did not fail. -/
def IbuList.settle (l : IbuList) (beat : Nat) : IbuList :=
  let ended := l.entries.filter fun e => e.rest.isEmpty
  let ok := ended.filter fun e => e.ran && !l.failed.any (·.1 == e.idx)
  { l with
    entries := l.entries.filter (fun e => !e.rest.isEmpty)
    done := l.done + (ok.map (·.span)).sum
    fallback := l.fallback + (ended.filter (·.fb)).length
    beat := if ended.isEmpty then l.beat else beat }

/-- A failure at list index idx: the list's later entries for the units are skipped (R201). -/
def IbuList.skip (l : IbuList) (idx status addr : Nat) (us : List Nat) : IbuList :=
  { l with
    failed := l.failed ++ [(idx, status, addr)]
    skipped := us ++ l.skipped
    entries := l.entries.map fun (e : IbuEntry) => if e.idx < idx then e else { e with rest := e.rest.filter (!us.contains ·) } }

/-- The dispatcher reads the next entry of a list, if it can: an entry that no unit can take fails here, a command goes to its unit's queue if
that holds fewer than 16, and a payload to the queues of those pseudo-channels whose named units all have room (R184 to R186). None where the
list waits. (DEDUCED, assumption 49) -/
def State.readEntry (s : State) (k : Nat) (l : IbuList) : Option State :=
  match l.entries.find? (fun e => l.next ≤ e.idx) with
  | none => none
  | some e =>
    if e.bad ≠ 0 then some (s.setList (({ l with next := e.idx + 1 }.skip e.idx e.bad 0 e.rest).settle s.beat.count))
    else
      let us := e.rest.filter (!l.skipped.contains ·)
      let l := { l with entries := l.entries.map fun (f : IbuEntry) => if f.idx = e.idx then { f with rest := us } else f }
      let todo := us.filter fun u => !(s.unitQueue k u).contains (l.id, e.idx)
      let put := todo.filter fun u => todo.all fun v => v / 16 != u / 16 || (s.unitQueue k v).length < 16
      if put.isEmpty && !todo.isEmpty then none
      else
        let l := if put.length = todo.length then { l with next := e.idx + 1 } else l
        some (put.foldl (fun s u => s.setUnitQueue k u (s.unitQueue k u ++ [(l.id, e.idx)])) (s.setList (l.settle s.beat.count)))

/-- The dispatcher reads entries, one of each list in turn, until every list has to wait (R186; DESIGN CHOICE, assumption 162). -/
def State.dispatch (s : State) (k : Nat) : Nat → State
  | 0 => s
  | fuel + 1 =>
    let ls := (s.listsOf k).filter (·.arrived)
    let last := Assoc.get 0 s.ibu.lastRead k
    match ((ls.filter fun l => last < l.id) ++ ls.filter fun l => l.id ≤ last).findSome? (fun l => (s.readEntry k l).map fun t => (l.id, t)) with
    | some (id, t) => State.dispatch (t.putIbu { t.ibu with lastRead := Assoc.put 0 t.ibu.lastRead k id }) k fuel
    | none => s

/-- Readings that can still take place: one for an entry, or one for each pseudo-channel of a payload. -/
def State.dispatchAll (s : State) (k : Nat) : State :=
  s.dispatch k (65 * ((s.listsOf k).map fun l => (l.entries.filter fun e => l.next ≤ e.idx).length).sum + 1)

/-- The queues keep the entries of lists that are still there. -/
def State.trimQueues (s : State) : State :=
  let q := s.ibu.queues.map fun x => (x.1, x.2.filter fun e => s.ibu.lists.any fun l => l.id == e.1 && l.entries.any fun f => f.idx == e.2 && f.rest.contains (x.1 % 1024))
  (s.putIbu { s.ibu with queues := q.filter fun x => !x.2.isEmpty })

/-- IBU.STATUS shows the lists in flight. -/
def State.showLists (s : State) : State := (List.range 16).foldl (fun s k => s.wr IBU.STATUS.lists (s.listsOf k).length k) s

/-- Lists leave the dispatcher; the unit queues are filled again. -/
def State.removeLists (s : State) (p : IbuList → Bool) : State :=
  let s := (s.putIbu { s.ibu with lists := s.ibu.lists.filter (fun l => !p l) }).trimQueues
  ((List.range 16).foldl (fun s k => s.dispatchAll k) s).showLists

/-- A list leaves with its token. -/
def State.dropList (s : State) (id : Nat) : State := s.removeLists (·.id == id)

/-- R204: a step error or a reset discards lists without a token. -/
def State.discardLists (s : State) (p : IbuList → Bool) : State := if s.ibu.lists.any p then s.removeLists p else s.showLists

/-- R204: a fence aborts every list of the stack; the token will say ABORTED. -/
def State.abortLists (s : State) (k : Nat) : State :=
  (s.putIbu { s.ibu with
      lists := s.ibu.lists.map fun l =>
      if l.stack = k then
        match l.entries with
        | e :: _ => { l with arrived := true, entries := [], failed := l.failed ++ [(e.idx, ibABORTED, 0)], beat := s.beat.count }
        | [] => if l.arrived then l else { l with arrived := true, failed := [(0, ibABORTED, 0)], beat := s.beat.count }
      else l }).trimQueues

/-- FENCE_DRAIN_END (R164, R204): F + 2,000; running in-bank lists are aborted. (DESIGN CHOICE, assumption 3; DEDUCED, assumption 28) -/
def execFenceDrainEnd (k : StackId) (s : State) : Host.Outcome State Fault Refusal :=
  .next (let t := s.fenceDrainEnd k; if (t.stk k).drained ∧ (s.stk k).drained = false then t.abortLists k else t)

/-- IBU_LIST (R87, R178, R184, R186, R200): the list leaves the core for the dispatcher, if that has room; lists of one stream to one stack leave
in their start order (R187). A stack that is out of service faults under R31. A count of 0, which R184 does not allow, is a malformed descriptor
(DESIGN CHOICE, assumption 161). (DEDUCED, assumption 49) -/
def execIbuList (c : CoreId) (n : StreamId) (i : Fin 64) (s : State) : Host.Outcome State Fault Refusal :=
  .next (s.runDesc c n i 6 fun s p d =>
    let k := dw d.words 4 3 0
    let cnt := dw d.words 5 15 0
    let sent := fun (id : Nat) => s.ibu.lists.any fun l => l.core == c.val && l.desc == id
    let before := (s.core c).descs.any fun e =>
      e.stream == n.val && e.id < d.id && e.phase == 1 && descKind e == 6 && dw e.words 4 3 0 == k && !sent e.id
    if sent d.id ∨ before then s
    else if dw d.words 6 5 0 ≠ 0 then s.descFault c d fDESC_FAULT 0
    else if !s.holds p k ∨ !s.stackServes k then s.descFault c d fADDR_FAULT (k * 2 ^ 37)
    else if cnt = 0 then s.descFault c d fDESC_FAULT 0
    else if !s.is IBU.CTRL.dispatch_en k ∨ (s.listsOf k).length ≥ 64 then s
    else match s.coreRead c (descLocal d) (32 * cnt) with
      | none => s.descFault c d fSRAM_UE (coreAddr c (s.badOff c (descLocal d) (32 * cnt)))
      | some raw =>
        let s := (s.coreSee c (descLocal d) (32 * cnt)).useStack k (some p)
        let l : IbuList :=
          { id := s.ibu.next, stack := k, core := c, stream := n, desc := d.id, part := p, arrived := false, raw := raw, count := cnt, entries := [],
            next := 0, failed := [], skipped := [], done := 0, r0 := 0, r1 := 0, beat := 0, fallback := 0, ce := 0 }
        let s := (s.putIbu { s.ibu with next := s.ibu.next + 1, lists := s.ibu.lists ++ [l] })
        s.wr IBU.STATUS.lists (s.listsOf k).length k)

/-- The status of a payload header (R185): its form before its bounds. -/
def payloadBad (w : Nat) : Nat :=
  if dw w 0 31 18 != 0 || dw w 1 31 10 != 0 || dw w 2 31 14 != 0 || dw w 3 31 0 != 0 || dw w 4 31 10 != 0 || dw w 5 31 0 != 0 ||
    dw w 6 31 0 != 0 || dw w 7 31 0 != 0 || dw w 0 17 8 > dw w 1 9 0 || dw w 2 13 0 % 32 != 0 || dw w 4 9 0 == 0 || dw w 4 9 0 > 512 then ibCMD
  else if dw w 2 13 0 + 32 * dw w 4 9 0 > 16384 then ibBOUNDS
  else 0

/-- Cut a list's bytes into entries, with the status of those that no unit can take (R184, R185). (DEDUCED, assumption 49) -/
def parseList (count : Nat) : Nat → Nat → List Byte → List IbuEntry
  | 0, _, _ => []
  | fuel + 1, idx, bs =>
    if idx ≥ count then []
    else
      let w := leNat (bs.take 32)
      let op := dw w 0 7 0
      let u := dw w 0 17 8
      if op = 0x0F then
        let m := dw w 4 9 0
        let bad := if idx + 1 + m > count then ibCMD else payloadBad w
        { idx := idx, words := w, data := (bs.drop 32).take (32 * m), span := 1 + m, bad := bad,
          rest := (List.range (dw w 1 9 0 + 1)).filter (u ≤ ·), ran := false, fb := false } ::
          parseList count fuel (idx + 1 + m) (bs.drop (32 * (1 + m)))
      else
        { idx := idx, words := w, data := [], span := 1, bad := if op = 0 ∨ op > 9 then ibCMD else 0, rest := [u], ran := false, fb := false } ::
          parseList count fuel (idx + 1) (bs.drop 32)

/-- IBU_LIST_ARRIVAL (R184, R186, R187, R204): the list reaches the dispatcher, after those that its stream posted to the stack before; at or after
a fence it is refused there. (DEDUCED, assumption 49) -/
def execIbuListArrival (k : StackId) (l : Fin 64) (s : State) : Host.Outcome State Fault Refusal :=
  .next (match (s.listsOf k)[l.val]? with
    | some x =>
      if x.arrived ∨ (s.listsOf k).any (fun m => !m.arrived && m.core == x.core && m.stream == x.stream && m.id < x.id) then s
      else if !s.stackServes k then s.setList { x with arrived := true, failed := [(0, ibABORTED, 0)], beat := s.beat.count }
      else (s.setList { x with arrived := true, raw := [], entries := parseList x.count (x.count + 1) 0 x.raw, beat := s.beat.count }).dispatchAll k
    | none => s)

/-! Running one entry. -/

/-- A unit at work: the state, its reach, corrected granules, and the failure that stopped it. -/
structure URun where
  s : State
  stk : Nat
  unit : Nat
  part : Nat
  ce : Nat
  fail : Option (Nat × Nat)

/-- The stack offset of a local address (R176), and the module address. -/
def URun.off (x : URun) (la : Nat) : Nat := la / 2 ^ 24 * 2 ^ 34 + x.unit * 2 ^ 24 + la % 2 ^ 24
def URun.addr (x : URun) (la : Nat) : Nat := x.stk * 2 ^ 37 + x.off la

def URun.stop (x : URun) (status addr : Nat) : URun := if x.fail.isSome then x else { x with fail := some (status, addr) }

/-- R177: n bytes at a local address lie in the share of a BANK region. -/
def URun.inReach (x : URun) (la n : Nat) : Bool := la % 2 ^ 24 + n ≤ 2 ^ 24 && (x.s.rd HS.CTRL.region_mode x.stk).testBit (la / 2 ^ 24)

/-- Granules of a range whose codeword a read corrects. -/
def State.correctable (s : State) (stk off n : Nat) : Nat :=
  ((List.range ((off % 32 + n + 31) / 32)).filter fun i =>
    match decodeMask (Assoc.get 0 s.hbmErr ((s.locOf stk (off / 32 * 32 + 32 * i)).granKey stk)) with
    | .corrected _ _ => true
    | _ => false).length

/-- Read n bytes at a stack offset, granule by granule, up to the first uncorrectable one (R179, R200, R201). -/
def URun.readFrom (x : URun) : Nat → Nat → Nat → List Byte × URun
  | 0, _, _ => ([], x)
  | fuel + 1, o, n =>
    if n = 0 then ([], x)
    else
      let m := min n (32 - o % 32)
      let ce := x.s.correctable x.stk o m
      match (x.s.add IBU.READ.bytes 32 x.stk).readGran x.stk (o / 32 * 32) .ibu (some x.part) with
      | (some g, s) =>
        let (rest, x) := URun.readFrom { x with s := s, ce := x.ce + ce } fuel (o + m) (n - m)
        ((g.drop (o % 32)).take m ++ rest, x)
      | (none, s) => ([], { x with s := s, fail := some (ibUE, granAddr x.stk o) })

/-- Read n bytes at a local address; zeros stand for what a failure left unread. -/
def URun.read (x : URun) (la n : Nat) : List Byte × URun :=
  if x.fail.isSome then (List.replicate n 0, x)
  else
    let (bs, x) := x.readFrom (n / 32 + 2) (x.off la) n
    (bs ++ List.replicate (n - bs.length) 0, x)

/-- Write bytes at a stack offset, granule by granule (R32, R157); a granule written in part is read and may be corrected. -/
def URun.writeFrom (x : URun) : Nat → Nat → List Byte → URun
  | 0, _, _ => x
  | fuel + 1, o, bs =>
    if bs.isEmpty then x
    else
      let m := min bs.length (32 - o % 32)
      let ce := if m = 32 then 0 else x.s.correctable x.stk o m
      match x.s.writeInGran x.stk o (bs.take m) (some x.part) with
      | (true, s) => URun.writeFrom { x with s := s, ce := x.ce + ce } fuel (o + m) (bs.drop m)
      | (false, s) => { x with s := s, fail := some (ibUE, granAddr x.stk o) }

/-- Write bytes at a local address. -/
def URun.write (x : URun) (la : Nat) (bs : List Byte) : URun := if x.fail.isSome then x else x.writeFrom (bs.length / 32 + 2) (x.off la) bs

/-- DEDUCED assumption 49. -/
def State.slateBytes (s : State) (k u off n : Nat) : List Byte :=
  (List.range n).map fun i => Assoc.get 0 s.ibu.slate ((1024 * k + u) * 16384 + off + i)
def State.setSlate (s : State) (k u off : Nat) (bs : List Byte) : State :=
  (s.putIbu { s.ibu with slate := bs.zipIdx.foldl (fun (m : Assoc Byte) b => Assoc.put 0 m ((1024 * k + u) * 16384 + off + b.2) b.1) s.ibu.slate })
def URun.slate (x : URun) (off n : Nat) : List Byte := x.s.slateBytes x.stk x.unit off n
def URun.putSlate (x : URun) (off : Nat) (bs : List Byte) : URun := { x with s := x.s.setSlate x.stk x.unit off bs }

/-- What a command answers: the unit after it and its two results. -/
abbrev UOut := URun × Nat × Nat

/-! Form checks (R180, R181, R189). -/

def ibuFmts (op : Nat) : List Nat :=
  if op = 1 then [1, 2, 0xB, 0xC, 0xD, 0xE] else if op = 2 then [1, 2, 3, 0xB, 0xC, 0xD, 0xE, 0xF]
  else if op = 3 then [1, 2, 3, 0xD, 0xE, 0xF] else if op = 4 then [2, 3, 0xF] else if op = 5 then [1, 2, 3]
  else if op = 6 then [1, 2, 3, 0xD, 0xE, 0xF] else [0]

/-- Bank operands used, and the bits of words 5 to 7 used (Table 6.3). -/
def ibuOperands (op : Nat) : Nat := if op = 4 then 3 else if op = 1 ∨ op = 2 ∨ op = 3 ∨ op = 5 ∨ op = 6 ∨ op = 8 then 2 else 1
def ibuMask (op : Nat) : List Nat :=
  let f := 0xFFFFFFFF
  if op = 1 then [0x3FFF, f, 0x3FFF] else if op = 2 then [0x1FFF, f, 0x3FFF] else if op = 3 then [f, 0, 0]
  else if op = 4 then [0x3FFF, 1, 0] else if op = 5 then [f, 0x1FFF001F, 0x3FFF] else if op = 6 then [f, 7, 0xFFFFFF]
  else if op = 7 then [f, f, 0] else [0, 0, 0]

/-- IBU_CMD: the form of a command (R177, R180, R181, R182, R189 to R191). -/
def ibuMalformed (w : Nat) : Bool :=
  let op := dw w 0 7 0
  let fmt := dw w 0 22 18
  let z := ((Fmt.ofCode fmt).map fun f => f.bits / 8).getD 1
  let nops := ibuOperands op
  !(ibuFmts op).contains fmt || dw w 0 31 27 != 0 || dw w 4 31 24 != 0 || dw w 4 23 0 == 0 ||
    (List.range 3).any (fun i => dw w (1 + i) 31 27 != 0 || dw w (1 + i) 4 0 != 0 || (i ≥ nops && dw w (1 + i) 31 0 != 0)) ||
    (List.range 3).any (fun i => let m := (ibuMask op).getD i 0; (dw w (5 + i) 31 0 &&& m) != dw w (5 + i) 31 0) ||
    (if op = 3 ∨ op = 4 then dw w 0 24 23 > 1 else dw w 0 24 23 != 0) ||
    (dw w 0 25 25 == 1 && !((op == 1 || op == 2) && [0xB, 0xC, 0xD, 0xE].contains fmt)) ||
    (dw w 0 26 26 == 1 && !(op == 1 || op == 2 || op == 5)) ||
    (op == 1 && (dw w 5 13 0 == 0 || dw w 6 31 0 % 32 != 0 || dw w 5 13 0 * z > dw w 6 31 0)) ||
    (op == 2 && (dw w 5 12 0 == 0 || dw w 5 12 0 % 32 != 0 || dw w 6 31 0 % 32 != 0)) ||
    (op == 6 && dw w 6 2 0 > 5)

/-! Fields. -/
def iN (w : Nat) : Nat := dw w 4 23 0
def iFmt (w : Nat) : Fmt := (Fmt.ofCode (dw w 0 22 18)).getD (.int 8)
def iZ (w : Nat) : Nat := (iFmt w).bits / 8
def iExact (w : Nat) : Bool := dw w 0 25 25 = 1
def iAcc (w : Nat) : Bool := dw w 0 26 26 = 1
def iRnd (w : Nat) : Rnd := if dw w 0 24 23 = 1 then .zero else .near
def iLa (w i : Nat) : Nat := dw w (1 + i) 26 0

/-- Elements of bytes as values. -/
def iVals (w : Nat) (bs : List Byte) : List Num := (unpack (iFmt w) bs (bs.length / iZ w)).map (iFmt w).decode

/-- The output form of ROWDOT and GATHERSUM: bytes of one result. -/
def iOut (w : Nat) : Nat := if iExact w then 16 else 4

/-- The old result as the first term: exact word, FP32 value or integer. -/
inductive Run32 where
  | raw (r : Nat)
  | flt (x : Num)
  | int (x : Int)
deriving DecidableEq, Repr

def Run32.start (w : Nat) (old : Option Nat) : Run32 :=
  if iExact w then .raw (old.getD (rawZero ((gridOf (iFmt w)).getD 0)))
  else if (iFmt w).isFloat then .flt (match old with | some o => fp32.decode o | none => .fin false 0 0)
  else .int (match old with | some o => sext 32 o | none => 0)

/-- A group of exact terms added to the running value (R181, R182). -/
def Run32.addGroup (r : Run32) (w : Nat) (single : Bool) (ts : List Num) : Run32 :=
  match r with
  | .raw a => .raw (ts.foldl (fun a t => combineRaw a (place ((gridOf (iFmt w)).getD 0) single t)) a)
  | .flt x => .flt (ts.foldl Num.add x).fp32
  | .int x => .int (ts.foldl (fun a t => a + t.toInt) x)

/-- The result as stored bytes. -/
def Run32.bytes (r : Run32) : List Byte :=
  match r with
  | .raw a => leBytes 16 a
  | .flt x => leBytes 4 (fp32.encode .near x)
  | .int x => leBytes 4 (toPat 32 (limit 32 x))

/-- One granule of ROWDOT results: rows i to i + m - 1 (R190). -/
def URun.dotGranule (x : URun) (w : Nat) (vec : List Num) (i m : Nat) : URun :=
  if x.fail.isSome then x
  else
    let ob := iOut w
    let out := iLa w 1 + ob * i
    let (olds, x) := if iAcc w then x.read out (ob * m) else ([], x)
    let olds := if iAcc w then (List.range m).map fun j => some (leNat ((olds.drop (ob * j)).take ob)) else List.replicate m none
    if iExact w ∧ iAcc w ∧ olds.any (fun o => match o with | some r => some (rawGrid r) != gridOf (iFmt w) | none => false) then x.stop ibCMD 0
    else
      let len := dw w 5 13 0
      let step := fun (acc : List Byte × URun) (j : Nat) =>
        let (bs, y) := acc.2.read (iLa w 0 + (i + j) * dw w 6 31 0) (len * iZ w)
        let ps := (List.zip (iVals w bs) vec).map fun p => p.1.mul p.2
        let r := (groups (32 / iZ w) ps.length ps).foldl (fun (r : Run32) g => r.addGroup w false g) (Run32.start w (olds.getD j none))
        (acc.1 ++ r.bytes, y)
      let (bytes, x) := (List.range m).foldl step ([], x)
      x.write out bytes

/-- ROWDOT (R190). (DEDUCED, assumption 49) -/
def URun.rowdot (x : URun) (w : Nat) : UOut :=
  let len := dw w 5 13 0
  let n := iN w
  if !x.inReach (iLa w 0) ((n - 1) * dw w 6 31 0 + len * iZ w) then (x.stop ibBOUNDS (x.addr (iLa w 0)), 0, 0)
  else if !x.inReach (iLa w 1) (iOut w * n) then (x.stop ibBOUNDS (x.addr (iLa w 1)), 0, 0)
  else if dw w 7 13 0 + len * iZ w > 16384 then (x.stop ibBOUNDS 0, 0, 0)
  else
    let vec := iVals w (x.slate (dw w 7 13 0) (len * iZ w))
    let per := 32 / iOut w
    ((List.range ((n + per - 1) / per)).foldl (fun (x : URun) g => x.dotGranule w vec (g * per) (min per (n - g * per))) x, 0, 0)

/-- GATHERSUM (R191): every index is checked before any data moves (R177). -/
def URun.gathersum (x : URun) (w : Nat) : UOut :=
  let rb := dw w 5 12 0
  let e := rb / iZ w
  let n := iN w
  if e > (if iExact w then 256 else 1024) then (x.stop ibBOUNDS 0, 0, 0)
  else if !x.inReach (iLa w 0) 0 then (x.stop ibBOUNDS (x.addr (iLa w 0)), 0, 0)
  else if !x.inReach (iLa w 1) (iOut w * e) then (x.stop ibBOUNDS (x.addr (iLa w 1)), 0, 0)
  else if dw w 7 13 0 + 4 * n > 16384 then (x.stop ibBOUNDS 0, 0, 0)
  else
    let idx := x.slate (dw w 7 13 0) (4 * n)
    let rows := (List.range n).map fun i => leNat ((idx.drop (4 * i)).take 4) * dw w 6 31 0
    match rows.find? (fun o => iLa w 0 % 2 ^ 24 + o + rb > 2 ^ 24) with
    | some o => (x.stop ibBOUNDS (x.addr (iLa w 0) + o), 0, 0)
    | none =>
      let ob := iOut w
      let (old, x) := if iAcc w then x.read (iLa w 1) (ob * e) else ([], x)
      let olds : List (Option Nat) := if iAcc w then (List.range e).map (fun j => some (leNat ((old.drop (ob * j)).take ob))) else List.replicate e none
      if iExact w ∧ iAcc w ∧ x.fail.isNone ∧ olds.any (fun o => match o with | some r => some (rawGrid r) != gridOf (iFmt w) | none => false) then
        (x.stop ibCMD 0, 0, 0)
      else
        let (rs, x) := rows.foldl (fun (acc : List Run32 × URun) o =>
          let (bs, y) := acc.2.read (iLa w 0 + o) rb
          ((List.zip acc.1 (iVals w bs)).map (fun p => p.1.addGroup w true [p.2]), y)) (olds.map (Run32.start w), x)
        (x.write (iLa w 1) (rs.flatMap Run32.bytes), 0, 0)

/-- AXPY (R192). -/
def URun.axpy (x : URun) (w : Nat) : UOut :=
  let z := iZ w
  let n := iN w
  let y := iLa w 0
  let v := iLa w 1
  if !x.inReach y (n * z) then (x.stop ibBOUNDS (x.addr y), 0, 0)
  else if !x.inReach v (n * z) then (x.stop ibBOUNDS (x.addr v), 0, 0)
  else if y ≠ v ∧ y < v + n * z ∧ v < y + n * z then (x.stop ibBOUNDS (x.addr v), 0, 0)
  else
    let a := if (iFmt w).isFloat then fp32.decode (dw w 5 31 0) else intNum (sext 32 (dw w 5 31 0))
    let per := 32 / z
    ((List.range ((n + per - 1) / per)).foldl (fun (x : URun) g =>
      let m := min per (n - g * per)
      let (xs, x) := x.read (v + 32 * g) (m * z)
      let (ys, x) := x.read (y + 32 * g) (m * z)
      let rs := (List.zip (iVals w xs) (iVals w ys)).map fun p => (iFmt w).encode (iRnd w) ((a.mul p.1).add p.2)
      x.write (y + 32 * g) (pack (iFmt w) rs)) x, 0, 0)

/-- cand < dist[v] in (min,+), and the pattern stored: on patterns of a format (R193, R128, R129). -/
def relax (f : Fmt) (rnd : Rnd) (du w dv : Nat) : Option Nat :=
  match f with
  | .int b =>
    let cand := tropMul i64Max i64Min (infCode b (sext b du)) (infCode b (sext b w))
    if cand < infCode b (sext b dv) then some (toPat b (limit b cand)) else none
  | _ =>
    let a := f.decode du
    let c := f.decode w
    let d := f.decode dv
    let cand := if a.isNan || c.isNan then .nan else if a = .inf false ∨ c = .inf false then .inf false else f.decode (f.encode rnd (a.add c))
    if !cand.isNan && !d.isNan && cand.tlt d then some (f.encode .near cand) else none

/-- Improvements so far, and changed slots, newest first. -/
abbrev Relaxed := URun × Nat × List Nat

/-- One record of MINRELAX, at a local address (R193). -/
def Relaxed.record (acc : Relaxed) (w win la : Nat) (bs : List Byte) : Relaxed :=
  let y := acc.1
  let z := iZ w
  let u := leNat (bs.take 4)
  let v := leNat ((bs.drop 4).take 4)
  if y.fail.isSome then acc
  else if u ≥ win ∨ v ≥ win then (y.stop ibBOUNDS (y.addr la), acc.2)
  else match relax (iFmt w) (iRnd w) (leNat (y.slate (u * z) z)) (leNat ((bs.drop 8).take 8) % 2 ^ (8 * z)) (leNat (y.slate (v * z) z)) with
    | some d => (y.putSlate (v * z) (leBytes z d), acc.2.1 + 1, if acc.2.2.contains v then acc.2.2 else v :: acc.2.2)
    | none => acc

/-- MINRELAX over records, two to a granule (R193). -/
def URun.records (x : URun) (w win : Nat) : Relaxed :=
  (List.range ((iN w + 1) / 2)).foldl (fun (acc : Relaxed) g =>
    let la := iLa w 0 + 32 * g
    let m := min 2 (iN w - 2 * g)
    let (bs, y) := acc.1.read la (16 * m)
    (List.range m).foldl (fun (acc : Relaxed) i => acc.record w win (la + 16 * i) ((bs.drop (16 * i)).take 16)) (y, acc.2)) (x, 0, [])

/-- MINRELAX (R193). (DEDUCED, assumption 49) -/
def URun.minrelax (x : URun) (w : Nat) : UOut :=
  let z := iZ w
  let win := dw w 5 13 0
  let chg := dw w 6 0 0 = 1
  if win = 0 ∨ win > (if z = 2 then 8192 else 4096) then (x.stop ibBOUNDS 0, 0, 0)
  else if !x.inReach (iLa w 0) (16 * iN w) then (x.stop ibBOUNDS (x.addr (iLa w 0)), 0, 0)
  else if !x.inReach (iLa w 1) (win * z) then (x.stop ibBOUNDS (x.addr (iLa w 1)), 0, 0)
  else if chg ∧ !x.inReach (iLa w 2) 32 then (x.stop ibBOUNDS (x.addr (iLa w 2)), 0, 0)
  else
    let (bs, x) := x.read (iLa w 1) (win * z)
    let x := if x.fail.isSome then x else x.putSlate 0 bs
    let (x, imp, slots) := x.records w win
    let sorted := slots.mergeSort (· ≤ ·)
    if x.fail.isSome then (x, imp, sorted.length)
    else if chg ∧ !x.inReach (iLa w 2) (32 + 4 * sorted.length) then (x.stop ibBOUNDS (x.addr (iLa w 2)), imp, sorted.length)
    else
      let grans := (sorted.map fun v => v * z / 32).eraseDups
      let x := grans.foldl (fun (x : URun) g => x.write (iLa w 1 + 32 * g) (x.slate (32 * g) (min 32 (win * z - 32 * g)))) x
      let x := if chg then (x.write (iLa w 2) (leBytes 4 sorted.length)).write (iLa w 2 + 32) (sorted.flatMap (leBytes 4)) else x
      (x, imp, sorted.length)

/-- HIST (R194), granule by granule: counts made before a granule that fails stay in the slate (R201). -/
def URun.hist (x : URun) (w : Nat) : UOut :=
  let bins := dw w 6 28 16
  let so := dw w 7 13 0
  let z := iZ w
  if bins = 0 ∨ bins > 4096 ∨ so + 4 * bins > 16384 then (x.stop ibBOUNDS 0, 0, 0)
  else if !x.inReach (iLa w 0) (iN w * z) then (x.stop ibBOUNDS (x.addr (iLa w 0)), 0, 0)
  else if !x.inReach (iLa w 1) (4 * bins) then (x.stop ibBOUNDS (x.addr (iLa w 1)), 0, 0)
  else
    let (h, x) := if iAcc w then x.read (iLa w 1) (4 * bins) else (List.replicate (4 * bins) 0, x)
    let x := if x.fail.isSome then x else x.putSlate so h
    let per := 32 / z
    let count := fun (acc : URun × Nat) (v : Num) =>
      let b := (v.toInt - sext 32 (dw w 5 31 0)) / (2 ^ dw w 6 4 0 : Nat)
      if 0 ≤ b ∧ b < bins then
        let o := so + 4 * b.toNat
        (acc.1.putSlate o (leBytes 4 (min (leNat (acc.1.slate o 4) + 1) 0xFFFFFFFF)), acc.2 + 1)
      else acc
    let (x, inside) := (List.range ((iN w + per - 1) / per)).foldl (fun (acc : URun × Nat) g =>
      let (bs, y) := acc.1.read (iLa w 0 + 32 * g) (min 32 ((iN w - g * per) * z))
      if y.fail.isSome then (y, acc.2) else (iVals w bs).foldl count (y, acc.2)) (x, 0)
    (x.write (iLa w 1) (x.slate so (4 * bins)), inside, iN w - inside)

/-- Positions of the elements of SELECT's source that match. (DEDUCED, assumption 49) -/
def selectHits (w : Nat) (bs : List Byte) : List Nat :=
  let v := (iFmt w).decode (dw w 5 31 0 % 2 ^ (iFmt w).bits)
  ((iVals w bs).zipIdx.filter fun e => (compareNum (dw w 6 2 0) e.1 v).getD false).map (·.2)
/-- Stored bytes at a local address, as the cells hold them. -/
def URun.peek (x : URun) (la n : Nat) : List Byte :=
  (List.range n).map fun i => let l := x.s.locOf x.stk (x.off la + i); x.s.hbmByte (l.key x.stk)

/-- SELECT (R195). Whether the positions found fit the share is settled before any data moves (R177; DEDUCED, assumption 49). -/
def URun.select (x : URun) (w : Nat) : UOut :=
  let n := iN w * iZ w
  let outLen := fun (bs : List Byte) => 32 + 4 * min (selectHits w bs).length (dw w 7 23 0)
  if !x.inReach (iLa w 0) n then (x.stop ibBOUNDS (x.addr (iLa w 0)), 0, 0)
  else if !x.inReach (iLa w 1) (outLen (x.peek (iLa w 0) n)) then (x.stop ibBOUNDS (x.addr (iLa w 1)), 0, 0)
  else
    let (bs, x) := x.read (iLa w 0) n
    let hits := selectHits w bs
    let out := hits.take (dw w 7 23 0)
    ((x.write (iLa w 1) (leBytes 4 hits.length)).write (iLa w 1 + 32) (out.flatMap (leBytes 4)), hits.length, out.length)

/-- FILL (R196). -/
def URun.fill (x : URun) (w : Nat) : UOut :=
  if !x.inReach (iLa w 0) (32 * iN w) then (x.stop ibBOUNDS (x.addr (iLa w 0)), 0, 0)
  else
    let p := leBytes 8 (dw w 5 63 0)
    let g := p ++ p ++ p ++ p
    ((List.range (iN w)).foldl (fun (x : URun) i => x.write (iLa w 0 + 32 * i) g) x, 0, 0)

/-- COPY (R196): ascending granule order. -/
def URun.copy (x : URun) (w : Nat) : UOut :=
  if !x.inReach (iLa w 0) (32 * iN w) then (x.stop ibBOUNDS (x.addr (iLa w 0)), 0, 0)
  else if !x.inReach (iLa w 1) (32 * iN w) then (x.stop ibBOUNDS (x.addr (iLa w 1)), 0, 0)
  else
    ((List.range (iN w)).foldl (fun (x : URun) i =>
      let (bs, x) := x.read (iLa w 1 + 32 * i) 32
      x.write (iLa w 0 + 32 * i) bs) x, 0, 0)

/-- SCRUB (R196): runs to its end; uncorrectable granules are counted with source 1. -/
def URun.scrub (x : URun) (w : Nat) : UOut :=
  if !x.inReach (iLa w 0) (32 * iN w) then (x.stop ibBOUNDS (x.addr (iLa w 0)), 0, 0)
  else
    (List.range (iN w)).foldl (fun (acc : UOut) i =>
      let x := acc.1
      let o := x.off (iLa w 0) + 32 * i
      let ce := x.s.correctable x.stk o 32
      match x.s.readGran x.stk o .patrol (some x.part) with
      | (some _, s) => ({ x with s := s.add IBU.READ.bytes 32 x.stk, ce := x.ce + ce }, acc.2.1 + ce, acc.2.2)
      | (none, s) => ({ x with s := (s.wr ECC.LAST_UE_SRC.source 1 x.stk).add IBU.READ.bytes 32 x.stk }, acc.2.1, acc.2.2 + 1)) (x, 0, 0)

/-- The next entry of a unit, if it is of list x (R187). -/
def State.unitNext (s : State) (k u : Nat) (x : IbuList) : Option IbuEntry :=
  match s.unitQueue k u with
  | (l, idx) :: _ => if l = x.id then x.entries.find? (·.idx == idx) else none
  | [] => none

/-- Unit u has executed its next entry e of list x, or failed it (R187, R200, R201). -/
def State.unitDone (s : State) (k u : Nat) (x : IbuList) (e : IbuEntry) (fail : Option (Nat × Nat)) (r0 r1 ce : Nat) (fb : Bool) : State :=
  let x := { x with ce := x.ce + ce, entries := x.entries.map fun (f : IbuEntry) =>
    if f.idx = e.idx then { f with rest := f.rest.filter (· != u), ran := true, fb := f.fb || fb } else f }
  let x := match fail with
    | some (st, a) => x.skip e.idx st a [u]
    | none => { x with r0 := x.r0 + r0, r1 := x.r1 + r1 }
  ((s.setList (x.settle s.beat.count)).trimQueues).dispatchAll k

/-- No capacity at the fallback executor, or a slate word found bad: the entry fails with IBU_FAULT and is not run (R205, R206). -/
def State.unitRefuses (s : State) (k u : Nat) : Bool :=
  (s.unit k u).bad || ((s.unit k u).state != 0 && !(s.servedUnits k).contains u)

/-- An entry is about to run, on its unit or on the fallback executor (Table 6.11); `again`: it has been counted. -/
def State.countEntry (s : State) (k u : Nat) (again fbAgain : Bool) : State :=
  let s := if again then s else s.add IBU.CMDS.count 1 k
  if (s.unit k u).state = 0 ∨ fbAgain then s else s.add IBU.FALLBACK.count 1 k

/-- The bad word has been met. -/
def State.clearBad (s : State) (k u : Nat) : State := if (s.unit k u).bad then s.setUnit k u { s.unit k u with bad := false } else s

/-- The next entry of unit u, if it is a command of list `l` with operation `op`, runs whole (R187, R200, R201, R205, R206). (DEDUCED, assumption 49; DESIGN CHOICE, assumption 137) -/
def State.runEntry (s : State) (k l u op : Nat) (act : URun → Nat → UOut) : State :=
  match (s.listsOf k)[l]? with
  | some x =>
    match s.unitNext k u x with
    | some e =>
      if dw e.words 0 7 0 = op ∧ s.stackServes k then
        if s.unitRefuses k u then (s.clearBad k u).unitDone k u x e (some (ibFAULT, 0)) 0 0 0 false
        else
          let start : URun := ⟨s.countEntry k u false false, k, u, x.part, 0, none⟩
          let (y, r0, r1) := if ibuMalformed e.words then (start.stop ibCMD 0, 0, 0) else act start e.words
          y.s.unitDone k u x e y.fail r0 r1 y.ce ((s.unit k u).state != 0)
      else s
    | none => s
  | none => s

/-- A unit that has reached a payload writes its slate. -/
def State.payloadUnit (s : State) (k id idx u : Nat) : State :=
  match s.ibu.lists.find? (·.id == id) with
  | some x =>
    match s.unitNext k u x with
    | some e =>
      if e.idx ≠ idx then s
      else if s.unitRefuses k u then (s.clearBad k u).unitDone k u x e (some (ibFAULT, 0)) 0 0 0 false
      else ((s.countEntry k u e.ran e.fb).setSlate k u (dw e.words 2 13 0) e.data).unitDone k u x e none 0 0 0 ((s.unit k u).state != 0)
    | none => s
  | none => s

/-- PAYLOAD (R185, R187, R205, R206): entry `idx` of list l is written to the slates of those of its units that have reached it. -/
def execPayload (k : StackId) (l : Fin 64) (idx : BitVec 16) (s : State) : Host.Outcome State Fault Refusal :=
  .next (match (s.listsOf k)[l.val]? with
    | some x =>
      match x.entries.find? (·.idx == idx.toNat) with
      | some e =>
        if dw e.words 0 7 0 = 0x0F ∧ s.stackServes k then e.rest.foldl (fun s u => s.payloadUnit k x.id idx.toNat u) s else s
      | none => s
    | none => s)

/-- ROWDOT to SCRUB: the commands of Table 6.2. -/
def execRowdot (k : StackId) (l : Fin 64) (u : Fin 1024) (s : State) : Host.Outcome State Fault Refusal := .next (s.runEntry k l u 1 URun.rowdot)
def execGathersum (k : StackId) (l : Fin 64) (u : Fin 1024) (s : State) : Host.Outcome State Fault Refusal := .next (s.runEntry k l u 2 URun.gathersum)
def execAxpy (k : StackId) (l : Fin 64) (u : Fin 1024) (s : State) : Host.Outcome State Fault Refusal := .next (s.runEntry k l u 3 URun.axpy)
def execMinrelax (k : StackId) (l : Fin 64) (u : Fin 1024) (s : State) : Host.Outcome State Fault Refusal := .next (s.runEntry k l u 4 URun.minrelax)
def execHist (k : StackId) (l : Fin 64) (u : Fin 1024) (s : State) : Host.Outcome State Fault Refusal := .next (s.runEntry k l u 5 URun.hist)
def execSelectIdx (k : StackId) (l : Fin 64) (u : Fin 1024) (s : State) : Host.Outcome State Fault Refusal := .next (s.runEntry k l u 6 URun.select)
def execIbuFill (k : StackId) (l : Fin 64) (u : Fin 1024) (s : State) : Host.Outcome State Fault Refusal := .next (s.runEntry k l u 7 URun.fill)
def execIbuCopy (k : StackId) (l : Fin 64) (u : Fin 1024) (s : State) : Host.Outcome State Fault Refusal := .next (s.runEntry k l u 8 URun.copy)
def execScrub (k : StackId) (l : Fin 64) (u : Fin 1024) (s : State) : Host.Outcome State Fault Refusal := .next (s.runEntry k l u 9 URun.scrub)

/-- The step-ending fault code of a token status (R201). -/
def ibuFaultCode (status : Nat) : Nat :=
  if status = ibUE then fHBM_UE else if status = ibABORTED then fSTACK_FENCED else if status = ibCMD then fIBU_CMD
  else if status = ibBOUNDS then fIBU_BOUNDS else fIBU_FAULT

/-- The token's bytes (Table 6.7). -/
def tokenBytes (l : IbuList) (bad : Option (Nat × Nat × Nat)) : List Byte :=
  let (status, first, addr) := match bad with | some (i, st, a) => (st, i, a) | none => (ibOK, 0xFFFF, 0)
  leBytes 4 (status + first % 2 ^ 16 * 2 ^ 16) ++ leBytes 4 l.done ++ leBytes 8 addr ++ leBytes 8 l.r0 ++ leBytes 8 l.r1 ++ leBytes 8 l.beat ++
    leBytes 4 (l.fallback % 2 ^ 16 + l.ce % 2 ^ 16 * 2 ^ 16) ++ List.replicate 20 0

/-- IBU_TOKEN (R200, R201): every entry has completed or been skipped. -/
def execIbuToken (k : StackId) (l : Fin 64) (s : State) : Host.Outcome State Fault Refusal :=
  .next (match (s.listsOf k)[l.val]? with
    | some x =>
      if x.arrived ∧ x.entries = [] then
        let bad := x.failed.foldl (fun (b : Option (Nat × Nat × Nat)) f => match b with
          | some g => if f.1 < g.1 then some f else some g
          | none => some f) none
        let s := (s.dropList x.id).add IBU.LISTS.count 1 k
        match (s.core x.core).descs.find? (fun d => d.id == x.desc) with
        | some d =>
          let (ok, s) := s.corePut x.core (dw d.words 6 21 0) (tokenBytes x bad)
          let s := if ok then s.setDesc x.core { d with phase := 2 } else s.descFault x.core d fSRAM_UE (coreAddr x.core (dw d.words 6 21 0))
          match bad with
          | some (_, st, a) => s.coreFault x.core uAE x.stream (ibuFaultCode st) a a
          | none => s
        | none => s
      else s
    | none => s)

/-- IBU_RESIDUE_FAIL (R205): a repeat passes, or the unit fails and the fallback executor goes on. -/
def execIbuResidueFail (k : StackId) (u : Fin 1024) (repeatFails : Bool) (s : State) : Host.Outcome State Fault Refusal :=
  .next (if (s.unit k u).state ≠ 0 then s else if repeatFails then s.unitFails k u 1 else s.add IBU.RETRIES.passed 1 k)

/-- IBU_SLATE_UE (R205, R179): a corrected word is counted; an uncorrectable one fails the unit and the entry that meets it. -/
def execIbuSlateUe (k : StackId) (u : Fin 1024) (corrected : Bool) (s : State) : Host.Outcome State Fault Refusal :=
  .next (if (s.unit k u).state ≠ 0 then s
    else if corrected then s.add IBU.RETRIES.slate_ce 1 k
    else let s := s.unitFails k u 2; s.setUnit k u { s.unit k u with bad := true })

/-- A write of IBU.CMD ends (Table 6.11). -/
def State.ibuResult (s : State) (k r : Nat) : State :=
  let s := s.wr IBU.CMD_RESULT.result r k
  if r = 2 then s.raise Ev.IBU_CMD_DONE k else s

/-- IBU_DISABLE (R207). -/
def execIbuDisable (m : MasterId) (k : StackId) (u : Fin 1024) (s : State) : Host.Outcome State Fault Refusal :=
  .next (s.gate m .IBU k 0x040 fun s =>
    let st := (s.unit k u).state
    if st = 0 then (if (s.outUnits k).length < 16 then (s.unitOut k u 1).ibuResult k 2 else s.ibuResult k 3)
    else s.ibuResult k (if st = 3 then 3 else 4))

/-- IBU_ENABLE (R207). -/
def execIbuEnable (m : MasterId) (k : StackId) (u : Fin 1024) (s : State) : Host.Outcome State Fault Refusal :=
  .next (s.gate m .IBU k 0x040 fun s =>
    if (s.unit k u).state = 1 ∧ (s.unit k u).needPass = false then (s.unitBack k u).ibuResult k 2 else s.ibuResult k 4)

/-- IBU_TEST (R207, R519). -/
def execIbuTest (m : MasterId) (k : StackId) (u : Fin 1024) (s : State) : Host.Outcome State Fault Refusal :=
  .next (s.gate m .IBU k 0x040 fun s =>
    let st := (s.unit k u).state
    if st = 0 then s.ibuResult k 4
    else if st = 3 ∨ s.testBusy btUnit (1024 * k.val + u.val) then s.ibuResult k 3
    else (((s.startTest btUnit (1024 * k.val + u.val) 0).unitOut k u 3).ibuResult k 1))

end Sys2Proof.Machine
end

