-- ==== Sys2Proof/Machine/Parts.lean ====
section
/-! DEFINITION. Partitions: steps and their outcomes (R282 to R285), what PART_START and PART_STOP do (R280, R281), the commands of
PART_CMD (R279, Table 9.1), pairs (R288 to R293) and tiles (R297, R299). -/

namespace Sys2Proof.Machine

/-! What the end of a step does to host commands (R38, R285, R316, R418, R320). -/

def State.energyAt (s : State) (k : Nat) : Nat := Assoc.get 0 s.energy k
def State.addEnergy (s : State) (k pj : Nat) : State := (s.putEnergy (Assoc.put 0 s.energy k (s.energyAt k + pj)))
def State.mapCmds (s : State) (f : HostCmd → HostCmd) : State := (s.putHost { s.host with cmds := s.host.cmds.map f })

/-- A PROGRAM or MARK waits for a step of partition p up to `step`. (DEDUCED, assumption 77) -/
def HostCmd.dueIn (c : HostCmd) (p step : Nat) : Bool :=
  c.part == p && c.result.isNone && (match c.step with | some a => a ≤ step | none => false)

/-- A step of partition p ends: its commands take their outcome; its energy is divided among their rings. -/
def State.hostStepEnd (s : State) (p step : Nat) (fault : Option Nat) : State :=
  let rings := ((s.host.cmds.filter (fun c => c.dueIn p step)).map (·.ring)).eraseDups
  let share := (s.energyAt p - (s.part p).stepEnergy) / max 1 rings.length
  let s := rings.foldl (fun s r => s.addEnergy (16 + r) share) s
  let s := (s.putHost { s.host with lastStep := rings.foldl (fun m r => Assoc.put 0 m r step) s.host.lastStep })
  let res := match fault with | some f => (1, f, 0, share / 10 ^ 9) | none => (0, 0, 0, share / 10 ^ 9)
  s.mapCmds fun c => if c.dueIn p step then { c with step := some step, result := some res } else c

/-- R320: commands lost from a flushed host-command queue are FLUSHED. -/
def State.hostFlushed (s : State) (p : Nat) (lost : List (List Byte)) : State :=
  let gone := s.host.cmds.filter fun c => c.part == p && c.opcode == 1 && c.step.isSome && c.result.isNone &&
    lost.any (fun bs => leNat (bs.take 12) == leNat ((leBytes 64 c.entry.toNat).take 8) + (c.step.getD 0) % 2 ^ 32 * 2 ^ 64)
  s.mapCmds fun c => if gone.contains c then { c with result := some (3, 0x5B, 0, 0) } else c

/-- Every command that still waits for a released partition is FLUSHED; how many (R328). (DEDUCED, assumption 76) -/
def State.hostRelease (s : State) (p : Nat) : Nat × State :=
  let waits := fun (c : HostCmd) => c.part == p && c.step.isSome && c.result.isNone
  ((s.host.cmds.filter waits).length, s.mapCmds fun c => if waits c then { c with result := some (3, 0x5B, 0, 0) } else c)

/-! Cores and tiles of a partition. -/

/-- Present logical cores of a half, and of a partition, lowest first (R273). -/
def State.coresOfHalf (s : State) (h : Nat) : List Nat := ((List.range 32).map (32 * h + ·)).filter s.corePresent
def State.coresOf (s : State) (p : Nat) : List Nat := (s.halvesOf p).flatMap s.coresOfHalf
def State.tilesOf (s : State) (p : Nat) : List Nat := (List.range 8).filter (s.holdsTile p)

/-- R277: the program master is the control engine of the lowest present core of the lowest half. -/
def State.masterCore (s : State) (p : Nat) : Option Nat := (s.halvesOf p).head?.bind fun h => (s.coresOfHalf h).head?

/-- R211: HOSTIF configures the host-command queue Q(4080 + n). (DEDUCED, assumption 76) -/
def State.hostQueue (s : State) (p : Nat) : State :=
  match s.masterCore p with
  | some c => s.setDesc128 (4096 * (c / 64) + 4080 + p) (1 + p * 256 + (16 + 16 * 2 ^ 16) * 2 ^ 32)
  | none => s

/-! Steps (R73, R78, R282 to R284). -/

/-- R73, R78: a core's streams return to their entry with the snapshot; flags are 0; posted work is dropped (DEDUCED, assumption 41). -/
def State.coreStepError (s : State) (c : Nat) : State :=
  let x := s.core c
  let streams := (List.range 4).foldl (fun m n =>
    let y := Assoc.get Stream.reset m n
    Assoc.put Stream.reset m n { y with regs := y.snap, fence := none, jug := none }) x.streams
  let s := s.setCore c { x with descs := [], cmds := [], racing := [], streams := streams }
  let s := (List.range 4).foldl (fun s n => (s.wr CORE.PC.pc (s.rd CORE.ENTRY.entry c n) c n).setSn c n snIDLE) s
  let s := s.forEach 256 (fun s f => s.flag c f != 0) (fun s f => s.wr CORE.FLAG.value 0 c f)
  (s.putFab { s.fab with flights := s.fab.flights.filter (fun f => f.core != some c) })

/-- A step of partition p ends in error: with the first fault reported, or the code given where none was (R37). (DEDUCED, assumption 41) -/
def State.stepError (s : State) (p code : Nat) : State :=
  let x := s.part p
  let code := match x.fault with | some (c, _) => c | none => code
  let step := s.rd MOD.PART_STEP.step 0 p
  let s := s.jugStepError p
  let s := (s.coresOf p).foldl State.coreStepError s
  let s := s.discardLists (fun l => l.part == p)
  let s := ((s.add MOD.PART_STATE.errors_run 1 0 p).add MOD.PART_ERRORS.count 1 0 p).wr MOD.PART_LAST_FAULT.code code 0 p
  let s := (s.wr MOD.PART_LAST_FAULT_STEP.step step 0 p).hostStepEnd p step (some code)
  s.setPart p { s.part p with inStep := false, fault := none, stretches := 0, barrier := none, stepEnergy := s.energyAt p }

/-- R282: the step commits. -/
def State.stepCommit (s : State) (p : Nat) : State :=
  let s := (s.add MOD.PART_COMMITS.count 1 0 p).wr MOD.PART_STATE.errors_run 0 0 p
  let s := s.hostStepEnd p (s.rd MOD.PART_STEP.step 0 p) none
  s.setPart p { s.part p with inStep := false, stretches := 0, barrier := none, stepEnergy := s.energyAt p }

/-- R73, R118: each enabled stream of a core starts at its entry; registers are snapshot, generators reloaded with the work number. -/
def State.coreStart (s : State) (p work c : Nat) : State :=
  let x := s.core c
  let gens := (List.range 24).foldl (fun m i =>
    Assoc.put 1 m i (rngSeed (s.rd CORE.SR_SEED.seed c (i / 4)) work (c % 64) (i / 4) (i % 4))) x.gens
  let streams := (List.range 4).foldl (fun m n =>
    let y := Assoc.get Stream.reset m n
    Assoc.put Stream.reset m n { y with snap := y.regs }) x.streams
  let s := s.setCore c { x with gens := gens, streams := streams }
  let dead := s.is CORE.ENGINE_STATE.ce_ae_failed c
  let s := (List.range 4).foldl (fun s n =>
    if (s.rd CORE.CTRL.stream_en c).testBit n then
      (s.wr CORE.PC.pc (s.rd CORE.ENTRY.entry c n) c n).setSn c n (if dead then snSTOP else snREADY)
    else s.setSn c n snIDLE) s
  let s := (s.wr CORE.STATUS.faulted 0 c).setCore c { s.core c with codeSeen := false }
  if dead then s.partFault p fCORE_FAULT (coreAddr c 0) else s

/-- The start part of a firing of slot k on beat `target` (R61, R62, R283): the next step of partition p starts. -/
def State.stepStart (s : State) (p k target : Nat) : State :=
  let step := s.slotParam1 k
  let replay := s.rd MOD.PART_STATE.errors_run 0 p ≠ 0
  let work := if replay then s.rd MOD.PART_WORK.work 0 p else step
  let s := ((s.wr MOD.PART_STEP.step step 0 p).wr MOD.PART_WORK.work work 0 p).wr SCHED.SLOT_PARAM1.param1 ((step + 1) % 2 ^ 32) 0 k
  let s := s.setPart p { s.part p with inStep := true, fault := none, stretches := 0, barrier := none, replay := replay,
                                       startBeat := target }
  let s := (s.putFab { s.fab with closes := s.fab.closes.filter (fun x => x.1 % 16 != p) })
  let s := s.forEach 16 (fun s h => (s.stk h).users.testBit p) (fun s h => s.setStk h { s.stk h with users := (s.stk h).users - 2 ^ p })
  (s.coresOf p).foldl (fun s c => s.coreStart p work c) s

/-- The streams of a partition stop (R281). -/
def State.stopStreams (s : State) (p : Nat) : State :=
  (s.coresOf p).foldl (fun s c => (List.range 4).foldl (fun s n => s.setSn c n snIDLE) s) s

/-- A partition parks: PART_PARKED, and PARTNER_PARKED to its partners (R266, Table 9.1). (DEDUCED, assumption 34) -/
def State.parkNow (s : State) (p : Nat) : State :=
  let s := (s.wr MOD.PART_STATE.state 3 0 p).setPart p { s.part p with parkNext := false }
  (s.postBare 0x0007 [s.rd MOD.PART_STATE.causes 0 p, s.rd MOD.PART_STEP.step 0 p] (some p)).sendParked p

/-- What the primary has forwarded and the standby not acknowledged is dropped, and the answers held for it go out (R289). (DEDUCED, assumption 64) -/
def State.freeCopies (s : State) (p : Nat) : State :=
  (s.fab.flights.filter (fun f => f.part == some p && f.copy)).foldl (fun s f => (s.dropFlight f).freeHeld f) s

/-- The pair has ended: it is no longer in force; held arrivals are acknowledged at once (R289). (DEDUCED, assumption 73) -/
def State.pairEnd (s : State) (p : Nat) : State := (s.wr MOD.PART_STATE.paired 0 0 p).freeCopies p

/-- A partition stops: any running step ends in error with a code; the pair it is in ends on this side. -/
def State.partHalt (s : State) (p code : Nat) : State :=
  let s := if (s.part p).inStep then s.stepError p code else s
  let s := ((s.stopStreams p).wr MOD.PART_STATE.state 1 0 p).pairEnd p
  s.setPart p { s.part p with parkNext := false }

/-- PART_STOP (R281): parks at the next boundary, or abandons the running step. (DEDUCED, assumption 72) -/
def State.partStop (s : State) (p : Nat) (park : Bool) : State :=
  if !s.running p then s
  else if park then s.setCause p 8
  else s.partHalt p fPART_STOPPED

/-- PART_START (R280): a pair comes into force with it (DEDUCED, assumption 73). (DEDUCED, assumption 76) -/
def State.partStart (s : State) (p : Nat) : State :=
  let st := s.partState p
  if st = 3 ∧ s.rd MOD.PART_STATE.causes 0 p ≠ 0 then s.postBare 0x0008 [s.rd MOD.PART_STATE.causes 0 p] (some p)
  else if st = 1 ∨ st = 3 then
    let x := s.part p
    let pair := x.pairEn && x.repeatable && s.is MOD.PAIR_PEER.valid 0 p
    let s := s.setPart p { x with closing := none, parkNext := false, heardAt := s.now, keptAt := s.now,
                                  partnerOutcomes := [], ownOutcomes := [] }
    let s := (s.wr MOD.PART_STATE.paired (if pair then 1 else 0) 0 p).wr MOD.PART_STATE.primary (if pair && !x.standby then 1 else 0) 0 p
    ((s.wr MOD.PART_STATE.state 2 0 p).hostQueue p).newUcode (s.halvesOf p)
  else s

/-! PART_CMD (R279, R280). -/

/-- What a partition reset P restores and ends (R11, R12, R231, R59), its state aside. -/
def State.partResetBody (s : State) (p : Nat) : State :=
  let s := (s.freeCopies p).jugStepError p
  let s := (s.coresOf p).foldl (fun s c => (s.coreStepError c).clearFields (fun f => f.rs.p) c CORE.fields) s
  let s := s.discardLists (fun l => l.part == p)
  let s := s.queues.foldl (fun s x => if (x.2.owner = p ∧ x.1 % 4096 < 4064) ∨ x.1 % 4096 = 4080 + p then
    s.flushWith x.1 (fun s lost => s.hostFlushed p lost) else s) s
  let s := (s.putFab { s.fab with
                                        colls := s.fab.colls.filter (fun c => c.part != p), held := s.fab.held.filter (fun m => m.part != p),
                                        flights := s.fab.flights.filter (fun f => f.part != some p) })
  let s := s.cancelPartSlots p
  let s := [ MOD.PART_STATE.errors_run, MOD.PART_STEP.step, MOD.PART_WORK.work, MOD.PART_COMMITS.count, MOD.PART_ERRORS.count,
    MOD.PART_LAST_FAULT.code, MOD.PART_LAST_FAULT_STEP.step].foldl (fun s f => s.clr f 0 p) s
  s.setPart p { s.part p with inStep := false, fault := none, stretches := 0, barrier := none, owed := none, closing := none,
                              replay := false, parkNext := false, partnerOutcomes := [], ownOutcomes := [], stepEnergy := s.energyAt p }

/-- RESET: a partition reset P; a running step of a partition that is reclaimed ends in error first. -/
def State.partReset (s : State) (p : Nat) : State :=
  let s := if (s.part p).inStep then s.stepError p fPART_STOPPED else s
  ((s.partResetBody p).wr MOD.PART_STATE.state 1 0 p).wr MOD.PART_STATE.paired 0 0 p

/-- TILE.HALVES shows the holder of a half. -/
def State.setHolder (s : State) (h : Nat) (p : Option Nat) : State :=
  let t := h / 2
  let o := p.getD 0
  let v := if p.isSome then 1 else 0
  if h % 2 = 0 then (s.wr TILE.HALVES.owner0 o t).wr TILE.HALVES.valid0 v t else (s.wr TILE.HALVES.owner1 o t).wr TILE.HALVES.valid1 v t

/-- A core that no partition holds is bound to its copied spare at once (DEDUCED, assumption 39). -/
def State.bindFree (s : State) (h : Nat) : State :=
  if (s.holder h).isNone then (List.range 32).foldl (fun s i => if (s.core (32 * h + i)).copied then s.substitute (32 * h + i) else s) s else s

/-- RELEASE (Table 9.1): reset, queues disabled, slots disarmed, halves freed. Answers the commands flushed. -/
def State.partRelease (s : State) (p : Nat) : Nat × State :=
  let before := (s.host.cmds.filter (fun c => c.part == p && c.step.isSome && c.result.isNone)).length
  let s := s.partReset p
  let (_, s) := s.hostRelease p
  let off : Nat × Queue → Nat × Queue := fun x => if (x.2.owner = p ∧ x.1 % 4096 < 4064) ∨ x.1 % 4096 = 4080 + p then (x.1, { x.2 with desc := x.2.desc / 2 * 2 }) else x
  let s := (s.putQueues (s.queues.map off))
  let hs := s.halvesOf p
  let s := hs.foldl (fun s h => (s.setHolder h none).bindFree h) s
  (before, s.wr MOD.PART_STATE.state 0 0 p)

/-- A half can be added to a partition (R274). -/
def State.halfUsable (s : State) (h : Nat) : Bool := s.hsState h == hsIN_SERVICE && !s.tileLost (h / 2) && !(s.coresOfHalf h).isEmpty

/-- CONFIG (R279): the result. -/
def State.configCheck (s : State) (p : Nat) : Nat :=
  let st := s.partState p
  let x := s.part p
  let hs := (List.range 16).filter (s.rd MOD.PART_CFG.halves 0 p).testBit
  let mode := x.repeatable == s.is MOD.PART_CFG.repeatable 0 p && x.pairEn == s.is MOD.PART_CFG.pair_en 0 p &&
    x.standby == s.is MOD.PART_CFG.standby 0 p
  if st = 2 then 4
  else if st = 3 ∧ mode = false then 4
  else if hs.isEmpty then 5
  else if hs.any (fun h => match s.holder h with | some q => q != p | none => !s.halfUsable h) then 5
  else 2

/-- CONFIG takes effect: halves added and dropped, streams of the added ones disabled. -/
def State.configApply (s : State) (p : Nat) : State :=
  let want := (s.rd MOD.PART_CFG.halves 0 p)
  let s := s.forEach 16 (fun s h => s.holds p h && !want.testBit h) (fun s h => (s.setHolder h none).bindFree h)
  let s := s.forEach 16 (fun s h => (s.holder h).isNone && want.testBit h) (fun s h =>
    (List.range 32).foldl (fun s i => s.wr CORE.CTRL.stream_en 0 (32 * h + i)) (s.setHolder h (some p)))
  let s := s.setPart p { s.part p with repeatable := s.is MOD.PART_CFG.repeatable 0 p, pairEn := s.is MOD.PART_CFG.pair_en 0 p,
                                       standby := s.is MOD.PART_CFG.standby 0 p }
  let s := if s.partState p = 0 then s.wr MOD.PART_STATE.state 1 0 p else s
  s.refreshStackCauses

/-- A write of PART_CMD: a result of 2 takes effect. -/
def State.partCmd (s : State) (m p : Nat) (result : State → Nat) (act : State → State) : State :=
  s.gate m .MOD 0 (0x404 + 0x40 * p) fun s =>
    let r := result s
    (if r = 2 then act s else s).wr MOD.PART_RESULT.result r 0 p

/-- STOPPED or PARKED, else refused STATE. -/
def State.idleResult (p : Nat) (s : State) : Nat := if s.partState p = 1 ∨ s.partState p = 3 then 2 else 4

/-- PART_CONFIG (R279). -/
def execPartConfig (m : MasterId) (p : PartId) (s : State) : Host.Outcome State Fault Refusal :=
  .next (s.partCmd m p (fun s => s.configCheck p) (fun s => s.configApply p))

/-- PART_RELEASE (R280). -/
def execPartRelease (m : MasterId) (p : PartId) (s : State) : Host.Outcome State Fault Refusal :=
  .next (s.partCmd m p (State.idleResult p) (fun s => (s.partRelease p).2))

/-- PART_RESET (R280). -/
def execPartReset (m : MasterId) (p : PartId) (s : State) : Host.Outcome State Fault Refusal :=
  .next (s.partCmd m p (State.idleResult p) (fun s => s.partReset p))

/-- PART_PARK (R280). -/
def execPartPark (m : MasterId) (p : PartId) (s : State) : Host.Outcome State Fault Refusal :=
  .next (s.partCmd m p (fun s => if s.running p then 2 else 4) (fun s => s.setCause p 8))

/-- PART_CLEAR (R280): causes 3, 5, 6, 7 and 8. -/
def execPartClear (m : MasterId) (p : PartId) (s : State) : Host.Outcome State Fault Refusal :=
  .next (s.partCmd m p (State.idleResult p) (fun s => [3, 5, 6, 7, 8].foldl (fun s b => s.clearCause p b) s))

/-- QCMD_FLUSH (R215): of the selected queue; it is accepted on a disabled queue, one in ERROR, or of a partition that does not run. (DEDUCED, assumption 52) -/
def execQcmdFlush (m : MasterId) (t : TileId) (s : State) : Host.Outcome State Fault Refusal :=
  .next (s.gate m .JUG t 0x054 fun s =>
    let k := s.selQueue t
    let q := s.queue k
    if 16 ≤ m.val ∧ m.val < 32 ∧ q.owner ≠ m.val - 16 then s.qcmdDone t 5
    else if q.enabled = false ∨ q.error ∨ s.partState q.owner = 1 ∨ s.partState q.owner = 3 then
      let s := (s.flushWith k (fun s lost => s.hostFlushed (k % 4096 - 4080) lost)).serveHeld t
      (s.setQueue k { s.queue k with desc := (s.queue k).desc / 2 * 2 + 1 }).qcmdDone t 2
    else s.qcmdDone t 3)

/-! Pairs (R288 to R293). -/

/-- R293: the survivor's notify flag. -/
def State.pairNotify (s : State) (p : Nat) : State :=
  match s.masterCore p with
  | some c => s.addFlag c (s.rd MOD.PAIR_CFG.notify_flag 0 p) 1 uCE 0
  | none => s

/-- The outcomes of a boundary that both sides have told: its step, the own one, the partner's. (DEDUCED, assumption 73) -/
def State.pairMatch (s : State) (p : Nat) : Option (Nat × Bool × Bool) :=
  let x := s.part p
  x.ownOutcomes.findSome? fun o => (x.partnerOutcomes.find? (·.1 == o.1)).map fun q => (o.1, o.2.1, q.2)

/-- Both outcomes of a boundary are known: Table 9.4. (DEDUCED, assumption 73) -/
def State.pairResolve (s : State) (p : Nat) : State :=
  match s.pairMatch p with
  | some (step, own, other) =>
    let x := s.part p
    let s := s.setPart p { x with ownOutcomes := x.ownOutcomes.filter (·.1 != step), partnerOutcomes := x.partnerOutcomes.filter (·.1 != step) }
    let prim := s.is MOD.PART_STATE.primary 0 p
    if own = other then s
    else
      let (a, b) := if prim then (own, other) else (other, own)
      let s := s.postBare (if a ∧ !b then 0x000B else 0x000A) [step] (some p)
      let s := s.pairEnd p
      if own then (if prim then s else (s.wr MOD.PART_STATE.primary 1 0 p).pairNotify p)
      else (s.wr MOD.PART_STATE.primary 0 0 p).setCause p 7
  | none => s

/-- PAIR_KEEPALIVE (R291): every 250 beats one is sent; `arrived`: one of the partner arrives. -/
def execPairKeepalive (p : PartId) (arrived : Bool) (s : State) : Host.Outcome State Fault Refusal :=
  .next (
    if !s.is MOD.PART_STATE.paired 0 p then s
    else if arrived then (s.wr MOD.PAIR_STATUS.partner_present 1 0 p).setPart p { s.part p with heardAt := s.now }
    else if s.running p ∧ (s.part p).keptAt + 250 ≤ s.now then
      ((s.setPart p { s.part p with keptAt := s.now }).putOutbox (s.outbox ++ [.pair p (s.rd MOD.PART_STEP.step 0 p) none]))
    else s)

/-- PAIR_OUTCOME (R291): the partner's outcome of a boundary, named by its step, arrives. -/
def execPairOutcome (p : PartId) (o : StepOutcome) (s : State) : Host.Outcome State Fault Refusal :=
  .next (
    if s.is MOD.PART_STATE.paired 0 p then
      let x := s.part p
      ((s.wr MOD.PAIR_STATUS.partner_present 1 0 p).setPart p { x with
        heardAt := s.now, partnerOutcomes := x.partnerOutcomes.filter (·.1 != o.step.toNat) ++ [(o.step.toNat, o.committed)] }).pairResolve p
    else s)

/-- The partner has been silent for timeout_beats, or has not told the outcome of a boundary within them (R291). (DEDUCED, assumption 73) -/
def State.pairSilent (s : State) (p : Nat) : Bool :=
  let n := s.rd MOD.PAIR_CFG.timeout_beats 0 p
  (s.part p).heardAt + n ≤ s.now || (s.part p).ownOutcomes.any fun o => o.2.2 + n ≤ s.now

/-- PAIR_TIMEOUT (R291): the partner is silent. -/
def execPairTimeout (p : PartId) (s : State) : Host.Outcome State Fault Refusal :=
  .next (
    if s.is MOD.PART_STATE.paired 0 p ∧ s.running p ∧ s.pairSilent p then
      let s := (s.wr MOD.PAIR_STATUS.partner_present 0 0 p).postBare 0x000C [s.rd MOD.PART_STEP.step 0 p] (some p)
      (((s.pairEnd p).wr MOD.PART_STATE.primary 1 0 p).setPart p { s.part p with ownOutcomes := [], partnerOutcomes := [] }).pairNotify p
    else s)

/-! Tiles (R297, R299). -/

def State.tile (s : State) (t : Nat) : TileState := Assoc.get TileState.reset s.tiles t
def State.setTile (s : State) (t : Nat) (x : TileState) : State := (s.putTiles (Assoc.put TileState.reset s.tiles t x))

/-- A tile command ends. -/
def State.tileResult (s : State) (t r : Nat) : State :=
  let s := s.wr TILE.CMD_RESULT.result r t
  if r = 2 ∨ r = 5 then s.raise Ev.TILE_CMD_DONE t else s

/-- Partitions that hold a half of a tile. -/
def State.partsOfTile (s : State) (t : Nat) : List Nat := (List.range 16).filter (fun p => s.holdsTile p t)

/-- The compute domain of a tile stops (Table 9.7): its streams, its running collectives. -/
def State.tileStop (s : State) (t cause : Nat) : State :=
  let before := s.idTile
  let s := (s.wr TILE.STATUS.state 1 t).wr TILE.STATUS.cause cause t
  ((s.setTile t TileState.reset).raise Ev.TILE_FENCED t).recheckIds before

/-- The ports of a fenced tile go to FENCED with it; one that is FENCED or TESTING stays as it is (R269, R299). (DEDUCED, assumption 75) -/
def State.portsFence (s : State) (t : Nat) : State :=
  s.forEach 8 (fun s i => !s.portKept (8 * t + i)) (fun s i =>
    let s := s.portFence (8 * t + i)
    s.setPort (8 * t + i) { s.portSt (8 * t + i) with byTile := true })

/-- The ports of a tile that is lost go DOWN (R268, R297), except those that are FENCED or TESTING (Table 8.12). -/
def State.portsDown (s : State) (t : Nat) : State := s.forEach 8 (fun s i => !s.portKept (8 * t + i)) (fun s i => s.portLeaves (8 * t + i) pDOWN)

/-- The compute domain restarts: its ports train, those fenced with the tile too, unless a test since then did not pass (R269, R299). One fenced by
EDPEN.CMD leaves FENCED only by its own UNFENCE. (DEDUCED, assumption 75) -/
def State.portsRestart (s : State) (t : Nat) : State :=
  s.forEach 8 (fun s i => let x := s.portSt (8 * t + i); !s.portKept (8 * t + i) || (s.pState (8 * t + i) == pFENCED && x.byTile && (x.passed || !x.tested)))
    (fun s i => if s.is EDPEN.CTRL.enable (8 * t + i) then s.portTrain (8 * t + i) else s.wr EDPEN.STATUS.state pDOWN (8 * t + i))

/-- The gate of TILE.CMD: refused BUSY while a RESET or a TEST runs (DEDUCED, assumption 74). -/
def State.tileCmd (s : State) (m t : Nat) (act : State → State) : State :=
  s.gate m .TILE t 0x040 fun s =>
    if s.rd TILE.STATUS.state t = 2 ∨ (s.tile t).resetAt.isSome then s.tileResult t 3 else act s

/-- TILE_FENCE (R299). -/
def execTileFence (m : MasterId) (t : TileId) (s : State) : Host.Outcome State Fault Refusal :=
  .next (s.tileCmd m t fun s =>
    if s.rd TILE.STATUS.state t ≠ 0 then s.tileResult t 4
    else if (s.partsOfTile t).any s.running then s.tileResult t 3
    else ((s.portsFence t).tileStop t 1).tileResult t 2)

/-- TILE_UNFENCE (R299): after a RESET and a complete PASS, or with cause 1 and nothing run since FENCE. -/
def execTileUnfence (m : MasterId) (t : TileId) (s : State) : Host.Outcome State Fault Refusal :=
  .next (s.tileCmd m t fun s =>
    let x := s.tile t
    if s.rd TILE.STATUS.state t = 1 ∧ ((x.wasReset ∧ x.passed) ∨ (s.rd TILE.STATUS.cause t = 1 ∧ x.touched = false)) then
      let s' := ((s.wr TILE.STATUS.state 0 t).wr TILE.STATUS.cause 0 t).setTile t TileState.reset
      ((s'.portsRestart t).recheckIds s.idTile).tileResult t 2
    else s.tileResult t 4)

/-- Fields of a page kind's instance restored where the reset letters say so, and its header. -/
def State.pageReset (s : State) (pg : Page) (i : Nat) (fs : List Fld) (p : Fld → Bool) : State :=
  s.clearFields p i (hdrFields pg ++ fs)

/-- The compute domain of a tile resets: its UP ports go DOWN (R268); a port that is FENCED or TESTING is FENCED, and what is known of its tests stays
(Table 8.12). Answers the ports so kept. (DEDUCED, assumption 75) -/
def State.portsReset (s : State) (t : Nat) : List Nat × State :=
  let ps := (List.range 8).map (8 * t + ·)
  let up := ps.filter fun i => s.pState i = pUP4 ∨ s.pState i = pUP3
  (ps.filter s.portKept, up.foldl (fun s i => ((s.wr EDPEN.STATUS.state pDOWN i).add EDPEN.DOWNS.ports 1 i).raise Ev.PORT_DOWN i) s)

/-- The compute-domain pages of a tile go back to their cold-reset values: their storage has lost power (R12, R534). (DEDUCED, assumption 75) -/
def State.clearCompute (s : State) (t : Nat) : State :=
  let all : Fld → Bool := fun _ => true
  let (kept, s) := s.portsReset t
  let s := (s.newUcode [2 * t, 2 * t + 1]).altBank t false
  let s := s.pageReset .JUG t JUG.fields all
  let s := (List.range 8).foldl (fun s i => s.pageReset .EDPEN (8 * t + i) EDPEN.fields all) s
  let s := kept.foldl (fun s i => s.wr EDPEN.STATUS.state pFENCED i) s
  let s := (List.range 64).foldl (fun s i => s.pageReset .CORE (64 * t + i) CORE.fields all) s
  ((s.putCores (s.cores.filter (fun x => x.1 / 64 != t))).putFab { s.fab with
                               ports := s.fab.ports.filter (fun x => x.1 / 8 != t || kept.contains x.1), flights := s.fab.flights.filter (fun f => f.tile != t),
                               flows := s.fab.flows.filter (fun x => x.1 / 8 / 2 ^ 18 != t), seqOut := s.fab.seqOut.filter (fun x => x.1 / 8 / 2 ^ 18 != t),
                               colls := s.fab.colls.filter (fun c => c.tile != t), held := s.fab.held.filter (fun c => c.tile != t),
                               launches := s.fab.launches.filter (fun x => x.1 / 2 ^ 22 / 64 != t),
                               trees := s.fab.trees.filter (fun x => x.1 / 16 != t), closes := s.fab.closes.filter (fun x => x.1 / 16 != t) })

/-- Tile reset T (R12, R59, R231, R268, R269): everything of the tile's compute domain, with a partition reset of every partition that uses it. (DEDUCED, assumption 75) -/
def State.tileReset (s : State) (t : Nat) : State :=
  let s := (s.partsOfTile t).foldl State.partResetBody s
  let s := s.queues.foldl (fun s x => if x.1 / 4096 = t ∧ x.1 % 4096 ≥ 4080 then s.flushWith x.1 (fun s l => s.hostFlushed (x.1 % 4096 - 4080) l) else s) s
  let s := (s.jugReset t).cancelTileSlots t
  let s := s.discardLists (fun l => l.core / 64 == t)
  let s := s.cutTests (fun r => r.onTile t) 5
  let s := s.pageReset .TILE t TILE.fields (fun f => f.rs.t)
  let s := s.pageReset .MIDWAY t MIDWAY.fields (fun f => f.rs.t)
  let s := s.pageReset .SPARE t SPARE.fields (fun f => f.rs.t)
  s.clearCompute t

/-- The SRAM of a tile is initialised: every word 0 and readable (R573). (DEDUCED, assumption 75) -/
def State.sramInit (s : State) (t : Nat) : State :=
  ((s.putSram (s.sram.filter (fun x => x.1 / 2 ^ 30 != t))).putSramBad (s.sramBad.filter (fun x => x.1 / 2 ^ 27 != t)))

/-- State that the SPARE page shows on the CORE pages: a core that is not present reads absent (R102). -/
def State.showAbsent (s : State) (t : Nat) : State :=
  s.forEach 64 (fun s l => !s.is SPARE.MAP.present t l) (fun s l => s.wr CORE.STATUS.state 0 (64 * t + l))

/-- The compute domain of a tile is powered again: pools, fabric queues (R226, R254, R573). (DEDUCED, assumption 115) -/
def State.tileUpAgain (s : State) (t : Nat) : State :=
  let refill := s.rd JUG.SPILL_CFG.refill_cells t
  let s := ((s.sramInit t).wr JUG.STATUS.general_free (65536 - refill) t).wr JUG.RESERVED_SUM.cells refill t
  let s := (s.fabricQueues t).showAbsent t
  if s.runs 7 then s.altBank t true else s

/-- TILE_RESET (R299, R391): the compute rails go off for 2 ms; refused while one of the tile's rails is latched off (Table 14.2). -/
def execTileReset (m : MasterId) (t : TileId) (s : State) : Host.Outcome State Fault Refusal :=
  .next (s.tileCmd m t fun s =>
    if s.rd TILE.STATUS.state t ≠ 1 ∨ s.railCutBit (4 * t) ∨ s.railCutBit (4 * t + 1) ∨ s.railCutBit (4 * t + 3) then s.tileResult t 4
    else
      let s := s.tileReset t
      let s := (s.wr RAIL.STATUS.state 0 (4 * t / 8) (4 * t % 8)).wr RAIL.STATUS.state 0 ((4 * t + 1) / 8) ((4 * t + 1) % 8)
      (s.setTile t ⟨true, false, false, some s.now⟩).tileResult t 1)

/-- TILE_RESET_DONE (R391, R573): the rails are good again, the SRAM is initialised, the active microcode is loaded. (DEDUCED, assumption 75) -/
def execTileResetDone (t : TileId) (s : State) : Host.Outcome State Fault Refusal :=
  .next (match (s.tile t).resetAt with
    | some t0 =>
      if t0 + 2000000 ≤ s.now ∧ s.rd TILE.STATUS.state t = 1 then
        let s := (s.wr RAIL.STATUS.state 2 (4 * t / 8) (4 * t % 8)).wr RAIL.STATUS.state 2 ((4 * t + 1) / 8) ((4 * t + 1) % 8)
        ((s.tileUpAgain t).setTile t ⟨true, true, false, none⟩).tileResult t 2
      else s
    | none => s)

/-- TILE_TEST (R299, R519): cores, Juggler and ports of a fenced tile. -/
def execTileTest (m : MasterId) (t : TileId) (s : State) : Host.Outcome State Fault Refusal :=
  .next (s.tileCmd m t fun s =>
    if s.rd TILE.STATUS.state t ≠ 1 then s.tileResult t (if s.rd TILE.STATUS.state t = 0 then 3 else 4)
    else if s.testBusy btTile t then s.tileResult t 3
    else (((s.startTest btTile t 0).wr TILE.STATUS.state 2 t).setTile t { s.tile t with touched := true }).tileResult t 1)

/-- TILE_LOST (R297): a self-check fails, or the management link stays silent for 1 ms. (DEDUCED, assumption 74) -/
def State.tileLoss (s : State) (t : Nat) : State :=
  let s := (s.partsOfTile t).foldl (fun s p =>
    let s := s.partFault p fTILE_LOST (coreAddr (64 * t) 0)
    if s.running p || s.partState p == 3 then s.setCause p 6 else s) s
  ((s.portsDown t).tileStop t 2).raise Ev.TILE_LOST t
def execTileLost (t : TileId) (s : State) : Host.Outcome State Fault Refusal :=
  .next (if s.rd TILE.STATUS.state t = 0 ∧ s.railGood (4 * t) ∧ s.railGood (4 * t + 1) then s.tileLoss t else s)

end Sys2Proof.Machine
end

