-- ==== Sys2Proof/Machine/Host.lean ====
section
/-! DEFINITION. HOSTIF and the endpoint: command rings (R310 to R320), ring memory (R309, R321), completions (R38, R313, R332), the driver's
life (R324 to R328). -/

namespace Sys2Proof.Machine

/-! Rings. Ring n lies in block n mod 8 of HOSTQ page n / 8. -/

def State.ring (s : State) (f : Fld) (n : Nat) : Nat := s.rd f (n / 8) (n % 8)
def State.setRing (s : State) (f : Fld) (n v : Nat) : State := s.wr f v (n / 8) (n % 8)
def State.cmdSize (s : State) (n : Nat) : Nat := 2 ^ s.ring HOSTQ.CMD_SIZE.log2 n
def State.cmpSize (s : State) (n : Nat) : Nat := 2 ^ s.ring HOSTQ.CMP_SIZE.log2 n

/-- R310: a base and size are valid: s from 4 to 16, and the ring lies in the region. -/
def ringValid (base log2 : Nat) : Bool := 4 ≤ log2 && log2 ≤ 16 && base * 4096 + 64 * 2 ^ log2 ≤ 2 ^ 30

/-- Entries of a completion ring not yet consumed, and free ones (one stays unused, DESIGN CHOICE, assumption 13). -/
def State.unconsumed (s : State) (n : Nat) : Nat :=
  (s.ring HOSTQ.CMP_TAIL.tail n + s.cmpSize n - s.ring HOSTQ.CMP_HEAD.head n % s.cmpSize n) % s.cmpSize n
/-- DESIGN CHOICE assumption 13. -/
def State.cmpFree (s : State) (n : Nat) : Nat := s.cmpSize n - 1 - s.unconsumed n

/-- A ring that HOSTIF reads next: enabled, served, not empty, none of its entries checked but unplaced, room for its completion (R312, R314). (DEDUCED, assumption 71) -/
def HostCmd.unplaced (c : HostCmd) : Bool := c.step.isNone && c.copy.isNone && c.result.isNone
/-- DEDUCED assumption 71. -/
def State.ringReady (s : State) (n : Nat) : Bool :=
  s.ring HOSTQ.RCTRL.enable n == 1 && s.ring HOSTQ.CMD_HEAD.head n != s.ring HOSTQ.CMD_TAIL.tail n &&
    !s.host.cmds.any (fun c => c.ring == n && c.unplaced) && s.ring HOSTQ.OUTSTANDING.count n < s.cmpFree n

/-- R315: the next ring in round-robin order after the one served last. -/
def State.nextRing (s : State) : Option Nat := ((List.range 64).map fun i => (s.host.rrLast + 1 + i) % 64).find? s.ringReady

/-- A ring stops: it is read no more (R312, R326). -/
def State.ringOff (s : State) (n : Nat) : State := (s.setRing HOSTQ.RCTRL.enable n 0).setRing HOSTQ.RSTATUS.reading n 0

/-- A tail out of range stops the ring (R312). -/
def State.checkTail (s : State) (n : Nat) : State :=
  if s.ring HOSTQ.CMD_TAIL.tail n ≥ s.cmdSize n then
    ((s.ringOff n).setRing HOSTQ.RSTATUS.fault n 1).raise Ev.RING_FAULT (n / 8) [n, 1]
  else s

/-- DOORBELL (R312): a write of CMD_TAIL. -/
def execDoorbell (m : MasterId) (n : RingId) (tail : BitVec 16) (s : State) : Host.Outcome State Fault Refusal :=
  .next (s.gate m .HOSTQ (n.val / 8) (0x050 + 0x40 * (n.val % 8)) fun s =>
    let s := s.setRing HOSTQ.CMD_TAIL.tail n tail.toNat
    if s.ring HOSTQ.RCTRL.enable n = 1 then s.checkTail n else s)

/-- Fields of a command entry (Table 10.3). -/
def entryBits (e : Entry64) (off hi lo : Nat) : Nat := bits (e.toNat / 2 ^ (8 * off)) hi lo

/-- R319, R290: what the state of its partition refuses of a command, 0: nothing. (DEDUCED, assumption 79) -/
def State.stateRefusal (s : State) (p op : Nat) : Nat :=
  if s.is MOD.PART_STATE.paired 0 p ∧ s.is MOD.PART_STATE.primary 0 p = false then 0x52
  else if s.partState p = 0 ∨ ((op = 2 ∨ op = 3) ∧ s.partState p = 2) then 0x59
  else 0

/-- R319: the refusal of an entry, 0 where none applies before its body is looked at. (DEDUCED, assumption 79) -/
def State.refusal (s : State) (n : Nat) (e : Entry64) : Nat :=
  let op := entryBits e 0 7 0
  let p := entryBits e 0 11 8
  let copy := op == 2 || op == 3
  let reserved := entryBits e 0 31 13 != 0 || entryBits e 12 31 0 != 0 || (op == 4 && entryBits e 16 383 0 != 0) ||
    (copy && (entryBits e 20 31 0 != 0 || entryBits e 36 223 0 != 0))
  if op = 0 ∨ op > 4 ∨ reserved ∨ p ≠ s.ring HOSTQ.RCTRL.owner n then 0x58
  else s.stateRefusal p op

/-- HOST_CMD_READ (R312, R315, R319, R321): one entry of the next ring; `flip1`, `flip2`: what upsets have done to its two granules. -/
def State.hostRead (s : State) (flip1 flip2 : Nat) : State :=
  match (if s.takesCmds ∧ s.ringsUp then s.nextRing else none) with
  | none => s
  | some n =>
    let head := s.ring HOSTQ.CMD_HEAD.head n
    let off := ringBase + s.ring HOSTQ.CMD_BASE.base n * 4096 + 64 * head
    let flip := fun (s : State) (o f : Nat) => let g := (s.locOf 0 o).granKey 0; (s.putHbmErr (Assoc.put 0 s.hbmErr g (Assoc.get 0 s.hbmErr g ^^^ f)))
    let s := flip (flip s off flip1) (off + 32) flip2
    let s := s.setRing HOSTQ.CMD_HEAD.head n ((head + 1) % s.cmdSize n)
    let s := s.setRing HOSTQ.OUTSTANDING.count n (s.ring HOSTQ.OUTSTANDING.count n + 1)
    let s := (s.putHost { s.host with rrLast := n })
    let (bs, s) := s.ringRead off 64
    let c : HostCmd := match bs with
      | .error _ => ⟨n, 0, 0, 0, none, 0, some (2, 0x5C, 0, 0), none, false, 0⟩
      | .ok bs =>
        let e : Entry64 := BitVec.ofNat 512 (leNat bs)
        let r := s.refusal n e
        ⟨n, entryBits e 0 7 0, entryBits e 0 11 8, entryBits e 4 31 0, none, 0, if r = 0 then none else some (2, r, 0, 0), none, false, e⟩
    (s.putHost { s.host with cmds := s.host.cmds ++ [c] })
def execHostCmdRead (flip1 flip2 : BitVec 288) (s : State) : Host.Outcome State Fault Refusal := .next (s.hostRead flip1.toNat flip2.toNat)

/-- R470: an entry that was read and not placed is in its ring again. (DEDUCED, assumption 111) -/
def State.rereadRings (s : State) : State :=
  let back := s.host.cmds.filter HostCmd.unplaced
  let s := s.putHost { s.host with cmds := s.host.cmds.filter fun c => !c.unplaced }
  back.foldl (fun s c => (s.setRing HOSTQ.CMD_HEAD.head c.ring ((s.ring HOSTQ.CMD_HEAD.head c.ring + s.cmdSize c.ring - 1) % s.cmdSize c.ring)).setRing
    HOSTQ.OUTSTANDING.count c.ring (s.ring HOSTQ.OUTSTANDING.count c.ring - 1)) s

/-- The oldest checked command of a ring that is not yet placed, if it has an opcode. -/
def State.checked (s : State) (n op : Nat) (held : Bool) : Option HostCmd :=
  if s.takesCmds then s.host.cmds.find? (fun c => c.ring == n && c.unplaced && c.opcode == op && c.held == held) else none
/-- That command changes. -/
def State.setCmdOf (s : State) (n : Nat) (f : HostCmd → HostCmd) : State := s.mapCmds fun c => if c.ring = n ∧ c.unplaced then f c else c

/-- A checked command starts; one that the state of its partition refuses by now is refused (DEDUCED, assumption 79). -/
def State.startCmdOf (s : State) (c : HostCmd) (act : State → State) : State :=
  match s.stateRefusal c.part c.opcode with
  | 0 => act s
  | r => s.setCmdOf c.ring (fun c => { c with result := some (2, r, 0, 0) })

/-- The number of the next step of a partition to start (R62); without a slot, the one after the last. (DEDUCED, assumption 77) -/
def State.nextStep (s : State) (p : Nat) : Nat :=
  match s.boundarySlot p with
  | some k => s.slotParam1 k
  | none =>
    let ran := (s.part p).inStep || s.rd MOD.PART_COMMITS.count 0 p != 0 || s.rd MOD.PART_ERRORS.count 0 p != 0
    if ran then (s.rd MOD.PART_STEP.step 0 p + 1) % 2 ^ 32 else s.rd MOD.PART_STEP.step 0 p

/-- R316: the applied step. (DEDUCED, assumption 77) -/
def State.applyStep (s : State) (c : HostCmd) : Nat :=
  let named := if entryBits c.entry 0 12 12 = 1 then entryBits c.entry 8 31 0 else 0
  let prev := (s.host.cmds.filter (fun d => d.ring == c.ring)).foldl (fun a d => max a (d.step.getD 0)) (Assoc.get 0 s.host.lastStep c.ring)
  max named (max (s.nextStep c.part) prev)

/-- R289: a pair's primary forwards the command it places, as an ENQ to its partner's host-command queue. -/
def State.forwardCmd (s : State) (t p : Nat) (bs : List Byte) : State :=
  if s.is MOD.PART_STATE.paired 0 p ∧ s.is MOD.PART_STATE.primary 0 p then
    (s.sendFlow t ⟨some p, none, 0, 0, 0, true⟩ 6 (s.rd MOD.PAIR_CFG.tc 0 p) (s.rd MOD.PAIR_PEER.tile 0 p) (4080 + p) 64 3 bs true).getD s
  else s

/-- R317: place a PROGRAM; where the queue has no cell it is held in its ring. -/
def State.place (s : State) (c : HostCmd) : State :=
  let p := c.part
  let a := s.applyStep c
  let e := c.entry.toNat
  let bs := leBytes 64 (e - entryBits c.entry 8 31 0 * 2 ^ 64 + a % 2 ^ 32 * 2 ^ 64)
  match (s.masterCore p).bind fun k => (s.putWhole (4096 * (k / 64) + 4080 + p) (2 ^ 24 + c.ring) bs).map fun s => (k / 64, s) with
  | some (t, s) => (s.forwardCmd t p bs).setCmdOf c.ring (fun c => { c with step := some a, placed := s.beat.count, held := false })
  | none =>
    let s := s.setCmdOf c.ring (fun c => { c with held := true })
    match s.masterCore p with
    | some k => if (s.queue (4096 * (k / 64) + 4080 + p)).enabled then s.stallOutside (4096 * (k / 64) + 4080 + p) (2 ^ 24 + c.ring) [] else s
    | none => s

/-- PROGRAM (R317). -/
def execProgramCmd (n : RingId) (s : State) : Host.Outcome State Fault Refusal :=
  .next (match s.checked n 1 false with | some c => s.startCmdOf c fun s => s.place c | none => s)

/-- PROGRAM_PLACE (R317): a held PROGRAM, once a cell is free. (DEDUCED, assumption 76) -/
def execProgramPlace (n : RingId) (s : State) : Host.Outcome State Fault Refusal :=
  .next (match s.checked n 1 true with | some c => s.startCmdOf c fun s => s.place c | none => s)

/-- R318: the copy of a LOAD or READBACK is in bounds: whole range in stacks of the partition, staging range in the staging area. (DEDUCED, assumption 78) -/
def State.copyOk (s : State) (p stage addr len : Nat) : Bool :=
  let size := s.rd HOSTQ.STAGE_SIZE.pages * 4096
  1 ≤ len && len ≤ 2 ^ 24 && stage + len ≤ size && s.rd HOSTQ.STAGE_BASE.base * 4096 + size ≤ 2 ^ 30 &&
    addr + len ≤ 2 ^ 41 && s.ownsRange p addr len

/-- LOAD and READBACK start (R318). -/
def State.startCopyCmd (s : State) (n op : Nat) : State :=
  match s.checked n op false with
  | some c =>
    let stage := entryBits c.entry 16 31 0
    let addr := entryBits c.entry 24 63 0
    let len := entryBits c.entry 32 31 0
    s.startCmdOf c fun s =>
      if s.copyOk c.part stage addr len then s.setCmdOf n (fun c => { c with copy := some (stage, addr, len), placed := s.beat.count })
      else s.setCmdOf n (fun c => { c with result := some (2, 0x5A, 0, 0) })
  | none => s

/-- LOAD (R318). -/
def execLoadCmd (n : RingId) (s : State) : Host.Outcome State Fault Refusal := .next (s.startCopyCmd n 2)
/-- READBACK (R318). -/
def execReadbackCmd (n : RingId) (s : State) : Host.Outcome State Fault Refusal := .next (s.startCopyCmd n 3)

/-- MARK (R316, R317): places nothing; it waits for its applied step. -/
def execMarkCmd (n : RingId) (s : State) : Host.Outcome State Fault Refusal :=
  .next (match s.checked n 4 false with
    | some c => s.startCmdOf c fun s => let a := s.applyStep c; s.setCmdOf n (fun c => { c with step := some a, placed := s.beat.count })
    | none => s)

/-- COPY_DONE (R318): the copy of the ring's oldest LOAD or READBACK ends. A granule that cannot be read refuses the command (DEDUCED, assumption 78). -/
def State.copyDone (s : State) (n : Nat) : State :=
  match s.host.cmds.find? (fun c => c.ring == n && c.copy.isSome && c.result.isNone) with
  | some c =>
    let (stage, addr, len) := c.copy.getD (0, 0, 0)
    let ring := ringBase + s.rd HOSTQ.STAGE_BASE.base * 4096 + stage
    let done := fun (s : State) (r : Nat × Nat × Nat × Nat) => s.mapCmds fun d => if d = c then { d with result := some r } else d
    if !s.ringsUp then s
    else if !s.copyOk c.part stage addr len then done s (2, 0x5A, 0, 0)
    else if c.opcode = 2 then
      match s.ringRead ring len with
      | (.ok bs, s) =>
        match s.memWrite c.part addr bs with
        | (.ok _, s) => done s (0, 0, len, 0)
        | (.error (code, _), s) => done s (2, code, 0, 0)
      | (.error _, s) => done s (2, 0x5C, 0, 0)
    else
      match s.memRead c.part addr len .tile with
      | (.ok bs, s) => let (bad, s) := s.ringStore ring bs; done s (if bad.isNone then (0, 0, len, 0) else (2, 0x5C, 0, 0))
      | (.error (code, _), s) => done s (2, code, 0, 0)
  | none => s
/-- DEDUCED assumption 78. -/
def execCopyDone (n : RingId) (s : State) : Host.Outcome State Fault Refusal := .next (s.copyDone n)

/-- The 64 bytes of a completion entry (Table 10.5). -/
def completionBytes (c : HostCmd) (r : Nat × Nat × Nat × Nat) (beat : Nat) (phase : Bool) : List Byte :=
  leBytes 4 (r.1 + r.2.1 * 2 ^ 8 + c.part * 2 ^ 16 + c.opcode * 2 ^ 24) ++ leBytes 4 c.cmdId ++ leBytes 4 (c.step.getD 0xFFFFFFFF) ++ leBytes 4 0 ++
  leBytes 8 r.2.2.2 ++ leBytes 8 c.placed ++ leBytes 8 beat ++ leBytes 8 r.2.2.1 ++ leBytes 12 0 ++ leBytes 4 (if phase then 2 ^ 31 else 0)

/-- R313: 64 bytes written as two granules, at a BAR2 offset. -/
def State.ringWrite (s : State) (off : Nat) (bs : List Byte) : State := s.ringPut (ringBase + off) bs

/-- The indices, counts and phase of completion ring n go on by one entry. -/
def State.cmpAdvance (s : State) (n tail : Nat) : State :=
  let phase := Assoc.get true s.host.phase n
  let next := (tail + 1) % s.cmpSize n
  let s := s.setRing HOSTQ.CMP_TAIL.tail n next
  let s := (s.setRing HOSTQ.OUTSTANDING.count n (s.ring HOSTQ.OUTSTANDING.count n - 1)).add HOSTQ.DONE.count 1 (n / 8) (n % 8)
  (s.putHost { s.host with phase := Assoc.put true s.host.phase n (if next = 0 then !phase else phase) })

/-- R332: a completion has been written: the ring's vector, paced. -/
def State.cmpSignal (s : State) (n : Nat) : State :=
  if s.ring HOSTQ.RCTRL.irq_en n = 1 then
    let p := (Assoc.get RingIrq.reset s.host.irq n).signal s.now (s.ring HOSTQ.RCTRL.coalesce_us n)
    let s := (s.putHost { s.host with irq := Assoc.put RingIrq.reset s.host.irq n p.1 })
    if p.2 then s.sendMsix (s.ring HOSTQ.RCTRL.vector n) else s
  else s

/-- The oldest decided command of a ring is completed. -/
def State.complete (s : State) (n : Nat) (c : HostCmd) : State :=
  let tail := s.ring HOSTQ.CMP_TAIL.tail n % s.cmpSize n
  let bs := completionBytes c (c.result.getD (0, 0, 0, 0)) s.beat.count (Assoc.get true s.host.phase n)
  let s := (s.ringWrite (s.ring HOSTQ.CMP_BASE.base n * 4096 + 64 * tail) bs).cmpAdvance n tail
  (s.putHost { s.host with cmds := s.host.cmds.erase c }).cmpSignal n

/-- COMPLETION_WRITE (R38, R313, R332): the oldest decided command of a ring. -/
def State.completionWrite (s : State) (n : Nat) : State :=
  match (if s.runs 5 ∧ s.ringsUp then s.host.cmds.find? (fun c => c.ring == n && c.result.isSome) else none) with
  | some c => s.complete n c
  | none => s
def execCompletionWrite (n : RingId) (s : State) : Host.Outcome State Fault Refusal := .next (s.completionWrite n)

/-- MSIX_COALESCE (R332): ring n below 64, else the event ring: the end of its interval. -/
def State.coalesce (s : State) (n : Nat) : State :=
  if n < 64 then
    let i := Assoc.get RingIrq.reset s.host.irq n
    if i.owed ∧ i.sentAt + s.ring HOSTQ.RCTRL.coalesce_us n * 1000 ≤ s.now then
      let send := s.unconsumed n ≠ 0
      let s := (s.putHost { s.host with irq := Assoc.put RingIrq.reset s.host.irq n (if send then ⟨s.now, true, false⟩ else { i with owed := false }) })
      if send then s.sendMsix (s.ring HOSTQ.RCTRL.vector n) else s
    else s
  else
    let i := s.host.evtIrq
    if i.owed ∧ i.sentAt + s.rd HOSTQ.EVT_CTRL.coalesce_us * 1000 ≤ s.now then
      let send := s.rd HOSTQ.EVT_TAIL.tail ≠ s.rd HOSTQ.EVT_HEAD.head
      let s := (s.putHost { s.host with evtIrq := if send then ⟨s.now, true, false⟩ else { i with owed := false } })
      if send then s.sendMsix (s.rd HOSTQ.EVT_CTRL.vector) else s
    else s
def execMsixCoalesce (n : Fin 65) (s : State) : Host.Outcome State Fault Refusal := .next (s.coalesce n)

/-! Enabling and resetting a ring (R310, R327). -/

/-- RCTRL.enable = 1: serve the ring, or fault 2. (DEDUCED, assumption 71; DEDUCED, assumption 79) -/
def State.ringEnable (s : State) (n : Nat) : State :=
  if s.is MOD.STATUS.rings_lost then s.ringOff n
  else if ringValid (s.ring HOSTQ.CMD_BASE.base n) (s.ring HOSTQ.CMD_SIZE.log2 n) && ringValid (s.ring HOSTQ.CMP_BASE.base n) (s.ring HOSTQ.CMP_SIZE.log2 n) then
    (((s.setRing HOSTQ.RCTRL.enable n 1).setRing HOSTQ.RSTATUS.reading n 1).setRing HOSTQ.RSTATUS.fault n 0).checkTail n
  else (s.ringOff n).setRing HOSTQ.RSTATUS.fault n 2

/-- RCTRL.reset: accepted only with enable = 0 and nothing outstanding. (DEDUCED, assumption 79) -/
def State.ringReset (s : State) (n : Nat) : State :=
  if s.ring HOSTQ.RCTRL.enable n = 0 ∧ s.ring HOSTQ.OUTSTANDING.count n = 0 then
    let s := (((s.setRing HOSTQ.CMD_TAIL.tail n 0).setRing HOSTQ.CMD_HEAD.head n 0).setRing HOSTQ.CMP_TAIL.tail n 0).setRing HOSTQ.CMP_HEAD.head n 0
    (s.putHost { s.host with phase := Assoc.put true s.host.phase n true })
  else s

/-- The other fields of a written RCTRL. -/
def State.rctrlFields (s : State) (n v : Nat) : State :=
  let s := (s.setRing HOSTQ.RCTRL.owner n (bits v 5 2)).setRing HOSTQ.RCTRL.irq_en n (bits v 6 6)
  (s.setRing HOSTQ.RCTRL.vector n (bits v 12 7)).setRing HOSTQ.RCTRL.coalesce_us n (bits v 27 16)

/-- A write of RCTRL (R310, R327): its reset bit acts with the enable it writes. -/
def State.rctrlWrite (s : State) (n v : Nat) : State :=
  let s := s.rctrlFields n v
  if v.testBit 0 then s.ringEnable n
  else
    let s := s.ringOff n
    if v.testBit 1 then s.ringReset n else s

def State.ringGate (s : State) (m n : Nat) (act : State → State) : State := s.gate m .HOSTQ (n / 8) (0x040 + 0x40 * (n % 8)) act

/-- RING_ENABLE (R310): a write of RCTRL with enable = 1. -/
def execRingEnable (m : MasterId) (n : RingId) (v : Word) (s : State) : Host.Outcome State Fault Refusal :=
  .next (s.ringGate m n fun s => s.rctrlWrite n (v.toNat ||| 1))
/-- RING_RESET (R327): a write of RCTRL with reset = 1 and enable = 0. -/
def execRingReset (m : MasterId) (n : RingId) (v : Word) (s : State) : Host.Outcome State Fault Refusal :=
  .next (s.ringGate m n fun s => s.rctrlWrite n (v.toNat / 4 * 4 + 2))

/-! The endpoint (R308, R309, R321, R324). -/

/-- BAR0_ACCESS_BAD (R308): wrong size or alignment. (DESIGN CHOICE, assumption 80) -/
def execBar0AccessBad (offset : BitVec 26) (size : Fin 4097) (s : State) : Host.Outcome State Fault Refusal :=
  .next (if (size.val = 4 ∨ size.val = 8) ∧ offset.toNat % size.val = 0 then s else (s.putOutbox (s.outbox ++ [.unsupportedRequest])))

/-- BAR2_READ (R309, R321). (DESIGN CHOICE, assumption 80) -/
def execBar2Read (offset : BitVec 30) (size : Fin 4097) (s : State) : Host.Outcome State Fault Refusal :=
  .next (
    let abort : State → State := fun s => (s.putOutbox (s.outbox ++ [.completerAbort]))
    if !s.ringsUp then abort s
    else match s.ringRead (ringBase + offset.toNat) (min size.val (2 ^ 30 - offset.toNat)) with
      | (.ok bs, s) => (s.putOutbox (s.outbox ++ [.bytes bs]))
      | (.error a, s) => abort ((s.wr MOD.RING_UE.addr a).raise Ev.RING_UE 0 [a]))

/-- BAR2_WRITE (R309). (DESIGN CHOICE, assumption 80) -/
def execBar2Write (offset : BitVec 30) (data : List Byte) (s : State) : Host.Outcome State Fault Refusal :=
  .next (if s.ringsUp then (s.ringStore (ringBase + offset.toNat) (data.take (2 ^ 30 - offset.toNat))).2 else s)

/-! The driver (R324 to R328). -/

/-- Time since a moment, the pause of a warm reset left out. (DEDUCED, assumption 134) -/
def State.since (s : State) (t : Nat) : Nat := (match s.host.pausedAt with | some p => p | none => s.now) - t

def State.driver (s : State) : Nat := s.rd MOD.STATUS.driver

/-- R326: the loss actions. -/
def State.driverLoss (s : State) (cause : Nat) : State :=
  let s := (List.range 64).foldl State.ringOff s
  let s := if s.is MOD.CTRL.park_on_loss then s.forParts (fun s n => s.running n || s.partState n == 3) (fun s n => s.setCause n 2) else s
  let s := ((s.wr MOD.STATUS.driver 2).wr MOD.LOSS_CAUSE.cause cause).raise Ev.HEARTBEAT_LOST 0 [cause]
  (s.putHost { s.host with lostAt := s.now })

/-- DRIVER_ATTACH (R324, R325): a write with go = 1. -/
def execDriverAttach (m : MasterId) (version : BitVec 16) (s : State) : Host.Outcome State Fault Refusal :=
  .next (s.gate m .MOD 0 0x048 fun s =>
    let s := if s.driver = 2 then s.forParts (fun _ _ => true) (fun s n => s.clearCause n 2) else s
    let s := (((s.wr MOD.DRIVER_VER.version version.toNat).wr MOD.STATUS.driver 1).putHost { s.host with hbAt := s.now })
    s.raise Ev.DRIVER_ATTACHED 0 [version.toNat])

/-- DRIVER_DETACH (R324). -/
def execDriverDetach (m : MasterId) (s : State) : Host.Outcome State Fault Refusal :=
  .next (s.gate m .MOD 0 0x048 fun s => if s.driver = 1 then s.driverLoss 2 else s)

/-- HEARTBEAT (R324). -/
def execHeartbeat (m : MasterId) (s : State) : Host.Outcome State Fault Refusal :=
  .next (s.gate m .MOD 0 0x050 fun s => if s.driver = 1 then (s.putHost { s.host with hbAt := s.now }) else s)

/-- HEARTBEAT_LOST (R326). -/
def execHeartbeatLost (s : State) : Host.Outcome State Fault Refusal :=
  .next (if s.driver = 1 ∧ s.since s.host.hbAt ≥ 1000000000 then s.driverLoss 1 else s)

/-- ENDPOINT_RESET (R324): configuration space, BARs and MSI-X table. (DESIGN CHOICE, assumption 80) -/
def execEndpointReset (s : State) : Host.Outcome State Fault Refusal :=
  .next (
    let s := (s.putHost { s.host with msix := [], pba := 0 })
    if s.driver = 1 then s.driverLoss 3 else s)

/-- RECLAIM (R328): 600 s after the loss. -/
def execReclaim (s : State) : Host.Outcome State Fault Refusal :=
  .next (
    if s.driver = 2 ∧ s.is MOD.CTRL.reclaim_en ∧ s.since s.host.lostAt ≥ 600000000000 then
      (s.forParts (fun s n => (s.rd MOD.PART_STATE.causes 0 n).testBit 2 && s.partState n != 0) (fun s n =>
        let (k, s) := s.partRelease n
        s.postBare 0x0009 [k] (some n))).wr MOD.STATUS.driver 0
    else s)

end Sys2Proof.Machine
end

