-- ==== Sys2Proof/Machine/Settings.lean ====
section
/-! DEFINITION. The configuration areas (R340 to R345), the flash slots (R352), images and their checks (R346, R347, R351), and the places
that firmware commands read from and write to. -/

namespace Sys2Proof.Machine

/-! Configuration areas (R340 to R345). -/

/-- DEDUCED assumption 85. -/
def leAt (bs : List Byte) (off n : Nat) : Nat := leNat ((bs.drop off).take n)
def zeros (bs : List Byte) : Bool := bs.all (· == 0)

/-- The sections of a body: id and data; none where the body is no sequence of sections (R340). (DEDUCED, assumption 85) -/
def sectionsOf : Nat → List Byte → Option (List (Nat × List Byte))
  | _, [] => some []
  | 0, _ => none
  | fuel + 1, bs =>
    let len := leAt bs 4 4
    if bs.length < 8 ∨ len % 8 ≠ 0 ∨ bs.length < 8 + len then none
    else (sectionsOf fuel (bs.drop (8 + len))).map fun rest => (leAt bs 0 2, (bs.drop 8).take len) :: rest

/-- Section 0x0002 (R450): temperature, pump and blower values, or none where it breaks the rules. (DEDUCED, assumption 85) -/
def coolSection (d : List Byte) : Option (List (Int × Nat × Nat)) :=
  let n := leAt d 0 8
  let es := (List.range n).map fun i => d.drop (8 + 8 * i)
  let t := es.map fun e => ((sext 16 (leAt e 0 2), leAt e 2 2, leAt e 4 2) : Int × Nat × Nat)
  if n < 2 ∨ n > 16 ∨ d.length < 8 + 8 * n ∨ es.any (fun e => leAt e 6 2 != 0) ∨ t.any (fun e => e.2.1 > 1000 || e.2.2 > 1000) ∨
    (t.zip t.tail).any (fun p => !(decide (p.1.1 < p.2.1))) then none
  else some t

/-- R377: an access table that WRITE refuses with RULE, against the present one. -/
def aclRuleBad (pg : Page) (old new : Nat) (unlocked : Bool) : Bool :=
  aclEntryOf old 3 != aclEntryOf new 3 || aclEntryOf new 7 != 0 || (List.range 31).any (fun i => aclEntryOf new (32 + i) != 0) ||
    (!unlocked && aclEntryOf new 63 != 0) || ((pg == .FW || pg == .SEC) && (aclEntryOf new 1 < 2 || aclEntryOf new 2 < 2))

/-- Section 0x0006 (R547): page numbers and tables, or none where it makes the area invalid. (DEDUCED, assumption 85) -/
def aclSection (d : List Byte) : Option (List (Nat × Nat)) :=
  let n := leAt d 0 8
  let es := (List.range n).map fun i => d.drop (8 + 24 * i)
  let t := es.map fun e => (leAt e 0 2, leAt e 8 16)
  let ok := fun (e : Nat × Nat) => match pageOf e.1 with
    | some (pg, i) => !aclRuleBad pg (aclDefaultTable pg i) e.2 false
    | none => false
  if n > 710 ∨ d.length < 8 + 24 * n ∨ es.any (fun e => leAt e 2 6 != 0) ∨ !t.all ok ∨ (t.map (·.1)).eraseDups.length ≠ n then none
  else some t

/-- R487: a two-wire address that no device may use. -/
def twAddrBad (a : Nat) : Bool := a == 0x0D || a < 8 || 0x78 ≤ a

/-- A section whose own rules make its area invalid (R450, R547, R487). (DEDUCED, assumption 85) -/
def sectionBad (x : Nat × List Byte) : Bool :=
  (x.1 == 2 && (coolSection x.2).isNone) || (x.1 == 6 && (aclSection x.2).isNone) ||
    (x.1 == 1 && (List.range 52).any (fun n => twAddrBad (leAt x.2 (8 + 16 * n) 1 % 128))) ||
    (x.1 == 5 && [48, 50, 52].any (fun o => twAddrBad (leAt x.2 o 1 % 128)))

/-- R343, R345: why an area or blob is not valid: 1 CRC or format, 3 base section missing; 0: it is valid. -/
def blobReason (h body : List Byte) : Nat :=
  let len := leAt h 0x0C 2
  if leAt h 0 4 ≠ 0x53584346 ∨ leAt h 6 1 ≠ 1 ∨ leAt h 7 1 ≠ 0 ∨ len > 65472 ∨ leAt h 0x0E 2 ≠ 0 ∨ !zeros ((h.drop 0x14).take 0x28) ∨
    leAt h 0x3C 4 ≠ crc32c (h.take 0x3C ++ leBytes 4 0 ++ body.take len) then 1
  else match sectionsOf (len / 8 + 1) (body.take len) with
    | none => 1
    | some ss =>
      if ss.any sectionBad then 1
      else if [1, 2, 5, 6, 8].any (fun i => !ss.any (fun x => x.1 == i)) then 3 else 0

/-- Where configuration area a begins in the keep store (Table 11.13). -/
def areaBase (a : Nat) : Nat := 0x8000 + 0x10000 * a
def State.areaHeader (s : State) (a : Nat) : List Byte := s.keepBytes (areaBase a) 64
def State.areaBody (s : State) (a : Nat) : List Byte := s.keepBytes (areaBase a + 64) (leAt (s.areaHeader a) 0x0C 2)
def State.areaValid (s : State) (a : Nat) : Bool := blobReason (s.areaHeader a) (s.areaBody a) == 0
def State.areaVersion (s : State) (a : Nat) : Nat := leAt (s.areaHeader a) 4 2
def State.areaGen (s : State) (a : Nat) : Nat := leAt (s.areaHeader a) 8 4

/-- R343: generation g is the higher one, in serial-number arithmetic modulo 2^32. (DEDUCED, assumption 124) -/
def genAfter (g h : Nat) : Bool := let d := (g + 2 ^ 32 - h) % 2 ^ 32; d != 0 && d < 2 ^ 31

/-- Of the areas that answer, the one of the highest generation. (DEDUCED, assumption 124) -/
def State.pickArea (s : State) (p : Nat → Bool) : Option Nat :=
  match p 0, p 1 with
  | true, true => some (if genAfter (s.areaGen 1) (s.areaGen 0) then 1 else 0)
  | true, false => some 0
  | false, true => some 1
  | false, false => none

/-- A section of an area. -/
def State.areaSection (s : State) (a id : Nat) : Option (List Byte) :=
  let body := s.areaBody a
  ((sectionsOf (body.length / 8 + 1) body).bind fun ss => ss.find? (fun x => x.1 == id)).map (·.2)

/-- R345: body, then header, then the crc word last, into area a. -/
def State.areaWrite (s : State) (a version gen writer : Nat) (body : List Byte) : State :=
  let h := leBytes 4 0x53584346 ++ leBytes 4 (version % 2 ^ 16 + 2 ^ 16) ++ leBytes 4 (gen % 2 ^ 32) ++ leBytes 4 body.length ++ leBytes 4 writer ++
    leBytes 40 0
  let crc := crc32c (h ++ leBytes 4 0 ++ body)
  ((s.keepWriteAll (areaBase a + 64) body).keepWriteAll (areaBase a) h).keepWriteAll (areaBase a + 0x3C) (leBytes 4 crc)

/-! Flash (R352). -/

def State.flash (s : State) (slot : Nat) : FlashPart := if slot = 0 then s.fw.slotA else s.fw.slotB
def State.setFlash (s : State) (slot : Nat) (p : FlashPart) : State :=
  (s.putFw (if slot = 0 then { s.fw with slotA := p } else { s.fw with slotB := p }))
/-- What an unlisted byte of a part reads as: the erased state, or what it left the factory with. -/
def FlashPart.unlisted (p : FlashPart) (slot off : Nat) : Byte := if p.erased then 0xFF else Config.factoryFlash slot off
def State.flashByte (s : State) (slot off : Nat) : Byte := let p := s.flash slot; Assoc.get (p.unlisted slot off) p.bytes off
def State.flashBytes (s : State) (slot off n : Nat) : List Byte := (List.range n).map fun i => s.flashByte slot (off + i)
def FlashPart.setList (p : FlashPart) (slot off : Nat) : List Byte → FlashPart
  | [] => p
  | b :: bs => FlashPart.setList { p with bytes := Assoc.put (p.unlisted slot off) p.bytes off b } slot (off + 1) bs
/-- DESIGN CHOICE assumption 84. -/
def State.flashWrite (s : State) (slot off : Nat) (bs : List Byte) : State := s.setFlash slot ((s.flash slot).setList slot off bs)
def State.flashErase (s : State) (slot : Nat) : State := s.setFlash slot ⟨true, []⟩

/-- Offset and size of a type's region in its flash part (Table 11.6). -/
def regionBase (type : Nat) : Nat := [0, 0, 0x100000, 0x1500000].getD type 0
def regionSize (type : Nat) : Nat := if type = 1 then 0x100000 else 0x1400000

/-- States of the slots (Table 11.15). -/
def slEMPTY : Nat := 0
def slWRITING : Nat := 1
def slSTAGED : Nat := 2
def slTRIAL : Nat := 3
def slCONFIRMED : Nat := 4
def slINVALID : Nat := 5
def State.slot (s : State) (k : Nat) : Nat := if k = 0 then s.rd FW.SLOTS.a_state else s.rd FW.SLOTS.b_state
def State.setSlot (s : State) (k v : Nat) : State := if k = 0 then s.wr FW.SLOTS.a_state v else s.wr FW.SLOTS.b_state v
def State.verified (s : State) (k : Nat) : Bool := if k = 0 then s.is FW.SLOTS.a_verified else s.is FW.SLOTS.b_verified
def State.setVerified (s : State) (k v : Nat) : State := if k = 0 then s.wr FW.SLOTS.a_verified v else s.wr FW.SLOTS.b_verified v
def State.bootSlot (s : State) : Nat := s.rd FW.STATUS.boot_slot

/-! Images (R346, R347). -/

/-- The parts of an image that its checks read. -/
structure Image where
  hdr : List Byte
  sig : List Byte
  payload : List Byte
  source : Nat

def payloadMax (type : Nat) : Nat := if type = 1 then 2 ^ 20 else 2 ^ 24

/-- What the header says (Table 11.4). -/
def Image.img (x : Image) : Img :=
  let h := x.hdr
  { type := leAt h 5 1, svn := leAt h 8 4, release := leAt h 0x0C 4, length := leAt h 0x10 4, setVer := leAt h 0x14 2, setMin := leAt h 0x16 2,
    iface := leAt h 0x18 2, hVer := leAt h 0x1A 1, hMin := leAt h 0x1B 1, uMin := leAt h 0x1C 4, uMax := leAt h 0x20 4,
    hash := leAt h 0x40 32, source := x.source }

/-- Check 1 (FORMAT): magic, header version, zero fields, length within its type's maximum and within what is there. -/
def Image.format (x : Image) (type : Nat) : Bool :=
  let h := x.hdr
  let t := if 1 ≤ leAt h 5 1 ∧ leAt h 5 1 ≤ 3 then leAt h 5 1 else type
  leAt h 0 4 == 0x5358494D && leAt h 4 1 == 1 && leAt h 6 1 < 8 && leAt h 7 1 == 0 && zeros ((h.drop 0x24).take 0x1C) &&
    zeros ((h.drop 0xA4).take 0x5C) && (t == 2 || zeros ((h.drop 0x14).take 0x10)) && leAt h 0x10 4 ≤ payloadMax t &&
    x.payload.length == leAt h 0x10 4

/-- The root key hash in ROM (check 4). -/
def rootHash : Nat := (List.range 8).foldl (fun a j => a + Config.rootHashWord j % 2 ^ 32 * 2 ^ (32 * j)) 0

/-- Bit of a stepping in an image header (Table 11.4): A0, A1, B0 (Table 0.1). -/
def steppingBit (stepping : Nat) : Nat := if stepping = 0x10 then 2 else stepping % 2

/-- Checks 1 to 11 of Table 11.5. -/
def State.imageCheck (s : State) (x : Image) (type : Nat) (k : Nat) : Bool :=
  let i := x.img
  match k with
  | 1 => x.format type
  | 2 => i.type == type
  | 3 => (leAt x.hdr 6 1).testBit (steppingBit (s.rd MOD.DEVICE_ID.stepping))
  | 4 => Config.shake256 ((x.hdr.drop 0x60).take 68) == rootHash
  | 5 => Config.xmssValid ((x.hdr.drop 0x60).take 68) (x.hdr.take 0x100) x.sig
  | 6 => Config.shake256 x.payload == i.hash
  | 7 => i.svn ≥ s.rd FW.FLOOR.floor 0 (type - 1)
  | 8 => i.svn ≥ s.rd FW.SVN.svn 0 (type - 1)
  | 9 => match s.fw.main with | some m => i.hMin ≤ m.hVer && m.hVer ≤ i.hVer | none => true
  | 10 => i.iface / 256 == s.rd MOD.IFACE_VER.version / 256
  | 11 => match s.fw.main with | some m => m.uMin ≤ i.release && i.release ≤ m.uMax | none => true
  | _ => true

/-- R347: the reason of the first check that fails, in order; 0: verified. -/
def State.imageReason (s : State) (x : Image) (type : Nat) (checks : List Nat) : Nat := (checks.find? (fun k => !s.imageCheck x type k)).getD 0

/-- The image of a type in a slot. -/
def State.flashImage (s : State) (slot type : Nat) : Image :=
  let b := regionBase type
  let h := s.flashBytes slot b 256
  ⟨h, s.flashBytes slot (b + 0x100) 2820, s.flashBytes slot (b + 0x1000) (min (leAt h 0x10 4) (payloadMax type)), 0⟩

/-- An image in bytes that were pushed or lie in the buffer. (DESIGN CHOICE, assumption 84) -/
def imageOf (bs : List Byte) : Image := ⟨bs.take 256, (bs.drop 0x100).take 2820, (bs.drop 0x1000).take (leAt bs 0x10 4), 1⟩

/-! Sources and destinations of firmware commands: the staging area or the 1 MiB buffer. -/

def State.stageBase (s : State) : Nat := ringBase + s.rd HOSTQ.STAGE_BASE.base * 4096
def State.stageOk (s : State) (off n : Nat) : Bool := off + n ≤ s.rd HOSTQ.STAGE_SIZE.pages * 4096 && s.stageBase + off + n ≤ 2 ^ 37 && s.ringsUp

def bufferSize : Nat := 2 ^ 20
def State.bufRead (s : State) (off n : Nat) : List Byte := (List.range n).map fun i => Assoc.get 0 s.fw.buffer (off + i)
def bufSet (m : List Host.Cell) (off : Nat) : List Byte → List Host.Cell
  | [] => m
  | b :: bs => bufSet (Assoc.put 0 m off b) (off + 1) bs

/-- Read from the staging area (0) or the buffer (1); none where the range is outside it or a codeword is uncorrectable. (DESIGN CHOICE, assumption 84) -/
def State.readSrc (s : State) (src off n : Nat) : Option (List Byte) × State :=
  if src = 1 then (if off + n ≤ bufferSize then some (s.bufRead off n) else none, s)
  else if s.stageOk off n then
    match s.ringRead (s.stageBase + off) n with
    | (.ok bs, s) => (some bs, s)
    | (.error _, s) => (none, s)
  else (none, s)

/-- Write to the staging area (0) or the buffer (1). -/
def State.writeDst (s : State) (dst off : Nat) (bs : List Byte) : Bool × State :=
  if dst = 1 then
    if off + bs.length ≤ bufferSize then (true, (s.putFw { s.fw with buffer := bufSet s.fw.buffer off bs })) else (false, s)
  else if s.stageOk off bs.length then let (bad, s) := s.ringStore (s.stageBase + off) bs; (bad.isNone, s)
  else (false, s)

end Sys2Proof.Machine
end

