-- ==== Sys2Proof/Machine/Protect.lean ====
section
/-! DEFINITION. Rails and what their loss does (R385, R464 to R466, Table 14.2, R17), the safety functions' bookkeeping (R462, R463), the
management pair's restarts (R339, R469 to R474) and the stages of a start that other blocks move (R335). -/

namespace Sys2Proof.Machine

/-! Rails. -/

def State.rail (s : State) (n : Nat) : RailState := Assoc.get RailState.reset s.power.rails n
def State.setRail (s : State) (n : Nat) (x : RailState) : State :=
  (s.putPower { s.power with rails := Assoc.put RailState.reset s.power.rails n x })
def State.railRd (s : State) (f : Fld) (n : Nat) : Nat := s.rd f (n / 8) (n % 8)
def State.railWr (s : State) (f : Fld) (n v : Nat) : State := s.wr f v (n / 8) (n % 8)
def State.tpow (s : State) (t : Nat) : TilePower := Assoc.get TilePower.reset s.power.tiles t
def State.setTpow (s : State) (t : Nat) (x : TilePower) : State :=
  (s.putPower { s.power with tiles := Assoc.put TilePower.reset s.power.tiles t x })

/-- PWR.STATUS.state (Table 12.3). -/
def pSTANDBY : Nat := 0
def pSEQ_UP : Nat := 1
def pON : Nat := 2
def pSEQ_DOWN : Nat := 3
def pHELD : Nat := 4
def pCUT : Nat := 5
def State.pwr (s : State) : Nat := s.rd PWR.STATUS.state

def State.setCutBit (s : State) (n : Nat) (v : Bool) : State :=
  if n < 32 then s.setBit SAFE.RAIL_CUT0.rails n v else s.setBit SAFE.RAIL_CUT1.rails (n - 32) v

/-- A tile's compute domain has lost power: what it held is gone (R12, R534). -/
def State.computeDown (s : State) (t : Nat) : State := ((s.jugReset t).discardLists (fun l => l.core / 64 == t)).clearCompute t

/-- A stack has lost power: its contents are gone (R149); a retired one stays retired. (DEDUCED, assumption 86) -/
def State.stackDown (s : State) (k : Nat) : State :=
  if s.hsState k = hsRETIRED then s
  else
    let s := (s.discardLists (fun l => l.stack == k)).loseStack k
    let s := s.setStk k { s.stk k with fencing := none, fenceBeat := none, hostFence := false, drained := false, copying := [], patrolDone := false }
    (s.wr HS.STATUS.state hsOFF k).wr ECC.STATUS.patrol_active 0 k

/-- A rail's enable drops; the state its block shows from now on. -/
def State.railOff (s : State) (n next : Nat) : State :=
  let was := s.railState n
  let s := if was = next then s else s.cutTests (fun r => r.fedBy n) 4
  let s := (s.setRail n { s.rail n with enabledAt := none, goodAt := none, fast := false, slowAt := none, excess := 0 }).railWr RAIL.STATUS.state n next
  if was = 0 ∨ was = 3 ∨ was = 4 then s
  else if n < 32 ∧ (n % 4 = 0 ∨ n % 4 = 1) then s.computeDown (n / 4)
  else if 32 ≤ n ∧ n < 48 then s.stackDown (n - 32)
  else s

/-- A rail's enable is raised: it ramps toward its target. -/
def State.railEnable (s : State) (n : Nat) : State :=
  ((s.cutTests (fun r => r.fedBy n) 4).setRail n { s.rail n with enabledAt := some s.now, goodAt := none }).railWr RAIL.STATUS.state n 1

/-! Loss of a tile's memory domain (R17, R237, R322). -/

/-- The tile whose memory domain a global address of this module goes through. -/
def State.memTile (s : State) (t addr : Nat) : Option Nat := if s.isRemote t addr then none else (targetOf (addr % 2 ^ 46)).tile

/-- R237: requests of other tiles that the lost tile held get no response (DEDUCED, assumption 81). -/
def State.loseRequests (s : State) (t : Nat) : State :=
  s.cores.foldl (fun s x =>
    if x.1 / 64 = t then s
    else x.2.descs.foldl (fun s d =>
      let listTile := if s.ibu.lists.any (fun l => l.core == x.1 && l.desc == d.id) then some (dw d.words 4 3 0 / 2) else none
      if d.phase = 1 ∧ (if descKind d = 6 then listTile else s.memTile (x.1 / 64) (descRemote d)) = some t then
        let p : Packet := ⟨2, 3, s.globalTile (x.1 / 64), s.globalTile t, 0, descRemote d % 2 ^ 46, 0, 0, 0, [], 0⟩
        let f : Flight := ⟨x.1 / 64, 8, p, s.now, 0, s.partOfCore x.1, some x.1, d.stream, d.id, 0, none, false⟩
        let s := s.setDesc x.1 { d with phase := 3 }
        (s.putFab { s.fab with flights := s.fab.flights ++ [f] })
      else s) s) s

/-- R322: the ring region is lost with CT0's memory domain. -/
def State.ringsLost (s : State) : State :=
  let s := (List.range 64).foldl State.ringOff s
  let s := (((s.wr MOD.STATUS.rings_lost 1)).putHost { s.host with cmds := [] })
  let (_, s) := s.setEvtBit .MOD 0 1
  s.sendMsix (s.rd (hdrVector .MOD))

/-- R17, Table 9.7: the tile and both its stacks are out of service. -/
def State.memoryLoss (s : State) (t : Nat) : State :=
  if s.tileLost t then s
  else
    let s := (s.partsOfTile t).foldl (fun s p =>
      let s := s.partFault p fTILE_LOST (coreAddr (64 * t) 0)
      if s.running p || s.partState p == 3 then s.setCause p 6 else s) s
    let s := s.loseRequests t
    let s := (List.range 3).foldl (fun s d => if s.linkUp t d then s.linkDown t d else s) s
    let s := (s.putFab { s.fab with midway := s.fab.midway.filter (fun m => m.at_ != t && m.dst != t) })
    let before := s.idTile
    let s := s.portsDown t
    let s := ((s.wr TILE.STATUS.state 3 t).wr TILE.STATUS.cause 2 t).setTile t TileState.reset
    let s := ((s.raise Ev.TILE_LOST t).computeDown t).recheckIds before
    let s := (s.stackDown (2 * t)).stackDown (2 * t + 1)
    if t = 0 then s.ringsLost else s

/-- MEMORY_DOMAIN_FAULT (R17). -/
def execMemoryDomainFault (t : TileId) (s : State) : Host.Outcome State Fault Refusal := .next (s.memoryLoss t)

/-- A cause of TW4.ATTN is set; a newly set enabled one makes the target ask for attention (R501). -/
def State.attn (s : State) (bit : Nat) : State :=
  let old := s.rd TW.ATTN.causes 4
  let s := s.setBit TW.ATTN.causes bit true 4
  if old.testBit bit = false ∧ (s.rd TW.ATTN_EN.enable 4).testBit bit then (s.putTw { s.tw with attnDue := true }) else s

/-- R370, R371, R384: an entry of the log ring; the 10,001st of a component in a second, and what follows, is dropped and counted. A second begins
with the first entry after the last one's end. (DESIGN CHOICE, assumption 100) -/
def State.logEntry (s : State) (component level point code : Nat) (params : List Nat) : State :=
  let base := s.rd HOSTQ.LOG_BASE.base
  if !s.is TRACE.CTRL.log_en || base == 0 || !s.ringsUp then s
  else
    let (n, since) := Assoc.get (0, 0) s.fw.logged component
    let anew := n = 0 ∨ since + 10 ^ 9 ≤ s.now
    let seq := s.rd TRACE.SEQ.seq
    let s := (s.putFw { s.fw with logged := Assoc.put (0, 0) s.fw.logged component (if anew then (1, s.now) else (n + 1, since)) }).wr TRACE.SEQ.seq (seq + 1)
    if ¬anew ∧ n ≥ 10000 then
      let s := if s.rd TRACE.DROPPED.count = 0 then s.raise Ev.LOG_DROPPED else s
      s.add TRACE.DROPPED.count 1
    else
      let off := s.rd HOSTQ.LOG_TAIL.offset
      let head := component + level * 2 ^ 8 + point * 2 ^ 16 + s.rd FW.STATUS.master * 2 ^ 24
      let bs := leBytes 8 s.beat.count ++ leBytes 4 seq ++ leBytes 4 head ++ leBytes 4 (code % 2 ^ 32) ++
        ((List.range 3).map fun i => leBytes 4 (params.getD i 0 % 2 ^ 32)).flatten
      let s := (s.ringPut (ringBase + base * 2 ^ 20 + off) bs).wr HOSTQ.LOG_TAIL.offset (off + 32)
      if off + 32 = 2 ^ 20 then s.add HOSTQ.LOG_WRAPS.count 1 else s

/-- R370: a line whose code, level and parameters the spec leaves to the release: they are free values. (DESIGN CHOICE, assumption 100) -/
def State.logLine (s : State) (component : Nat) (params : List Nat) : State :=
  let (code, s) := s.fresh
  let (level, s) := s.fresh
  if level % 3 > s.rd TRACE.CTRL.level then s else s.logEntry component (level % 3) 0 code params

/-! Safety functions (R462, R463, R468, R481). -/

def sfOC : Nat := 0
def sfOT : Nat := 1
def sfLK : Nat := 2
def sfCF : Nat := 3
def sfSQ : Nat := 4
def sfMW : Nat := 5
def sfSN : Nat := 6
def fSAFETY_CUT : Nat := 0x68

def State.sfActive (s : State) (f : Nat) : Bool := (s.rd SAFE.STATUS.active).testBit f

/-- Greatest detection and reaction times, ns (Table 14.1). (DEDUCED, assumption 83) -/
def sfDetect (f : Nat) : Nat := [2000, 1000000, 5000000, 1000000000, 100000, 50000000, 10000000].getD f 0
/-- DEDUCED assumption 83. -/
def sfReact (f : Nat) : Nat := [20000, 1000000, 10000000, 0, 20000, 10000000, 0].getD f 0

/-- A safety function acts: it is active, latched where it has a latch, and recorded. The times it took are free within their bounds. (DEDUCED, assumption 83) -/
def State.sfActs (s : State) (f param : Nat) : State :=
  let (a, s) := s.fresh
  let (b, s) := s.fresh
  let detect := a % (sfDetect f + 1)
  let s := s.setBit SAFE.STATUS.active f true
  let s := if f = sfOT ∨ f = sfLK ∨ f = sfCF then s.cutTests (fun _ => true) 3 else s
  let s := if f = sfOC ∨ f = sfOT ∨ f = sfLK ∨ f = sfSQ then s.setBit SAFE.LATCHED.latched f true else s
  let s := if s.is SAFE.FIRST.valid then s else ((s.wr SAFE.FIRST.function f).wr SAFE.FIRST.valid 1).wr SAFE.FIRST_BEAT.beat s.beat.count
  let s := (s.wr SAFE.DETECT_NS.ns detect).wr SAFE.REACT_NS.ns (detect + b % (sfReact f + 1))
  (s.attn 0).raise Ev.SAFETY_ACTIVE 0 [f, detect, param]

/-- It is no longer active. -/
def State.sfEnds (s : State) (f : Nat) : State :=
  if s.sfActive f then
    let s := (s.setBit SAFE.STATUS.active f false).setBit SAFE.LATCHED.latched f false
    let s := if s.rd SAFE.STATUS.active = 0 ∧ s.rd SAFE.LATCHED.latched = 0 then s.wr SAFE.FIRST.valid 0 else s
    s.raise Ev.SAFETY_CLEARED 0 [f]
  else s

/-! Loss of power of the whole module (R392, R464, R466). -/

/-- Every partition is STOPPED; running steps end in error with a code (R392, R466). (DEDUCED, assumption 72) -/
def State.stopAll (s : State) (code : Nat) : State :=
  s.forParts (fun s p => s.partState p == 2 || s.partState p == 3) (fun s p => s.partHalt p code)

/-- A sequence that PWR.CMD started ends (Table 12.3). -/
def State.sequenceEnds (s : State) (r : Nat) : State :=
  if s.power.byCmd then (s.putPower { s.power with byCmd := false }).wr PWR.CMD_RESULT.result r else s
/-- PWR.CMD starts a sequence. -/
def State.sequenceStarts (s : State) : State := (s.putPower { s.power with byCmd := true }).wr PWR.CMD_RESULT.result 1

/-- The enables of groups 7 to 1 drop: all rails but RAIL51. -/
def State.dropAll (s : State) : State :=
  (List.range 51).foldl (fun s n => if s.railState n = 4 then s else s.railOff n 0) ((s.putPower { s.power with seq := none, rackAt := none }).sequenceEnds 5)

/-- R466: the module enters CUT. (DEDUCED, assumption 109) -/
def State.enterCut (s : State) : State :=
  let s := s.stopAll fSAFETY_CUT
  let s := s.cutTests (fun _ => true) 4
  ((s.wr PWR.STATUS.state pCUT).wr SAFE.STATUS.cut 1).attn 1

/-- R464: emergency lowering, and CUT; a second one coinciding happens once (R468); from STANDBY there is nothing to lower (Table 12.3). -/
def State.emergencyLowering (s : State) : State :=
  if s.pwr = pSTANDBY then s
  else if s.pwr = pCUT then (if s.power.seq.isSome then s.dropAll else s)
  else s.dropAll.enterCut

/-! Cuts of single rails (R465, Table 14.2). -/

/-- R297 as a rail cut brings it. (DEDUCED, assumption 81) -/
def State.tileCut (s : State) (t : Nat) : State :=
  let s := if s.rd TILE.STATUS.state t = 0 ∨ s.rd TILE.STATUS.state t = 2 then s.tileLoss t else s
  s.railOff (4 * t) (if s.railCutBit (4 * t) then 4 else 0)
    |>.railOff (4 * t + 1) (if s.railCutBit (4 * t + 1) then 4 else 0) |>.railOff (4 * t + 3) (if s.railCutBit (4 * t + 3) then 4 else 0)

/-- A stack's own rail is cut: FENCED with cause 5, its contents lost. -/
def State.stackCut (s : State) (k : Nat) : State :=
  if s.hsState k = hsRETIRED then s
  else
    let s := s.fenceParts k
    let s := (s.discardLists (fun l => l.stack == k)).loseStack k
    let s := s.setStk k { s.stk k with fencing := none, fenceBeat := none, hostFence := false, drained := false, touched := true, passed := false, users := 0, copying := [] }
    let s := ((s.wr HS.STATUS.state hsFENCED k).wr HS.FENCE_INFO.cause 5 k).wr ECC.STATUS.patrol_active 0 k
    s.raise Ev.STACK_FENCED k [5, s.rd HS.FENCE_INFO.partitions k]

/-- R339: the pages that a cut of RAIL51 clears; slots keep firing (R474), so the SCHED page's fields stay (DEDUCED, assumption 82). -/
def mgmtPages : List Page := [.MOD, .HOSTQ, .FW, .SEC, .KEEP, .ACL, .TW, .RECORD, .BIST, .AGE, .TRACE]
/-- Fields that the keep store holds, of those pages, among those that a cold reset restores (Table 0.5: "record"). -/
def recordFields : List Fld :=
  [ MOD.HBM.gib, FW.STATUS.trial, FW.STATUS.boot_slot, FW.SLOTS.a_state, FW.SLOTS.b_state, FW.SLOTS.a_verified, FW.SLOTS.b_verified,
   SEC.STATUS.identity, SEC.LEAF_NEXT.leaf, SEC.LEAVES_LEFT.count, KEEP.MAX_WEAR.count, KEEP.MAX_WEAR.block, KEEP.WORN.blocks, AGE.STATUS.alarms,
   AGE.STATUS.limits, AGE.DAY.day, AGE.ALARMED.alarmed]
def isRecord (f : Fld) : Bool := recordFields.any (fun g => g.key 0 0 == f.key 0 0)
/-- What the recorder's always-on banks hold (R523): their periods and the state of the closed ones. (DEDUCED, assumption 82) -/
def isBankField (f : Fld) : Bool := [RECORD.PERIOD.s, RECORD.STATUS.pending, RECORD.STATUS.overfull].any (fun g => g.key 0 0 == f.key 0 0)
def isPartBlock (f : Fld) : Bool := f.pg == .MOD && 0x400 ≤ f.off && f.off < 0x800

/-- The management die stops: trial minutes stop too (R355). -/
def State.trialPause (s : State) : State :=
  s.putFw { s.fw with trialNs := s.fw.trialNs + (match s.fw.trialAt with | some t => s.now - t | none => 0), trialAt := none }

/-- The management cores stop: nothing of the firmware runs (R339, R469). -/
def State.firmwareStops (s : State) : State :=
  let s := (s.wr FW.STATUS.stage 0).wr FW.COMPONENTS.running 0
  ((s.putFw { s.fw with
                              main := none, prep := none, prepFailed := 0, op := none, handover := none, faults := [], quote := none, votes := [], closed := none,
                              lastVote := false }).putHost { s.host with pausedAt := some (s.host.pausedAt.getD s.now) })

/-- Fields that a warm reset restores (R11): every field whose letters hold W. -/
def warmFields : List Fld := (MOD.fields ++ FW.fields ++ TRACE.fields).filter (fun f => f.rs.w)

/-- W: the management die restarts (R339); its registers keep their values but those marked W. (DEDUCED, assumption 82) -/
def State.warmReset (s : State) : State :=
  let slot := s.bootSlot
  let s := s.firmwareStops
  let s := warmFields.foldl (fun s f => (List.range f.n).foldl (fun s j => s.clr f 0 j) s) s
  let s := s.wr FW.STATUS.boot_slot slot
  let s := ((s.putFw { s.fw with restart := true }).putSafety { s.safety with outA := false, outB := false })
  s.cutTests (fun r => r.type == btLink || r.type == btConverter || r.type == btMeter) 5

/-- R339: RAIL51 is cut: the management domain loses what it held, but records, persistent fields and partition blocks. (DEDUCED, assumption 82) -/
def State.mgmtDown (s : State) : State :=
  let s := s.firmwareStops
  let s := mgmtPages.foldl (fun s pg =>
    (List.range pg.count).foldl (fun s i =>
      if pg == .TW && i == 4 then s
      else s.clearFields (fun f => f.rs.c && !isPartBlock f && !isRecord f && !isBankField f) i (hdrFields pg ++ pg.fields)) s) s
  (((s.trialPause).putHost { HostState.reset with
                                          evtSeq := s.host.evtSeq, hbAt := s.host.hbAt, lostAt := s.host.lostAt, pausedAt := s.host.pausedAt,
                                          deferred := s.host.deferred }).putFw { s.fw with restart := false, buffer := [] })

/-- R472: no management core is left: supervision NONE, and the staged actions of R474 count from now. -/
def State.enterNone (s : State) (cause : Nat) : State :=
  let s := ((s.wr SAFE.STATUS.supervision 2).wr SAFE.STATUS.master 0).firmwareStops.trialPause
  let s := (s.putSafety { s.safety with aliveA := false, aliveB := false, noneAt := some s.now, restartAt := none })
  (((s.wr SAFE.RESTARTS.attempts 0).sfActs sfMW cause).attn 5).raise Ev.MC_BOTH_LOST 0 [cause]

end Sys2Proof.Machine
end

