-- ==== Sys2Proof/Machine/SelfTest.lean ====
section
/-! DEFINITION. Offline tests and start-up tests: how a slice ends, what a march repairs, how each block leaves its test (R103, R166, R207,
R269, R299, R509 to R519), the meters' checks and the scan port (R519 to R521). -/

namespace Sys2Proof.Machine

/-! Sensor converters (Table 13.1): tile t has 2t and 2t + 1, stack s has 16 + s, the management die 32 (DESIGN CHOICE, assumption 92). -/

/-- The sensors of a converter, in index order. (DESIGN CHOICE, assumption 92) -/
def convSensors (c : Nat) : List Nat :=
  if c < 16 then (List.range 4).map (fun i => 4 * c + i)
  else if c < 32 then [64 + 2 * (c - 16), 65 + 2 * (c - 16)]
  else [96, 97, 98, 99]
def State.sens (s : State) (n : Nat) : SensorState := Assoc.get SensorState.reset s.therm.sensors n
def State.setSens (s : State) (n : Nat) (x : SensorState) : State :=
  (s.putTherm { s.therm with sensors := Assoc.put SensorState.reset s.therm.sensors n x })
def State.conv (s : State) (c : Nat) : ConvState := Assoc.get ConvState.reset s.therm.convs c
def State.setConv (s : State) (c : Nat) (x : ConvState) : State :=
  (s.putTherm { s.therm with convs := Assoc.put ConvState.reset s.therm.convs c x })
/-- Trust of a sensor: 0 trusted, 1 pending, 2 failed (R429, R430). -/
def ssTRUSTED : Nat := 0
def ssPENDING : Nat := 1
def ssFAILED : Nat := 2

/-- Neither sensor of a stack is trusted any more: band 3 from the next refresh interval on (R161, R162). -/
def State.bandUntrusted (s : State) (k : Nat) : State :=
  let x := s.stk k
  let was := s.is BAND.STATUS.trusted k
  let s := s.setStk k { x with dwellAt := none, bandUp := if x.measured = 3 then none else some 3 }
  let s := s.wr BAND.STATUS.trusted 0 k
  if was then s.raise Ev.BAND_UNTRUSTED k else s

/-- SF-SN is active while a sensor is failed (R462); the sensor shows in THERM.FAILED. `reason`: 1 disagreement, 2 implausible, 3 converter. -/
def State.sensorFails (s : State) (n reason : Nat) : State :=
  if (s.sens n).state = ssFAILED then s
  else
    let s := s.setSens n { s.sens n with state := ssFAILED, goods := 0, bads := 0, restoring := false }
    let s := (s.setBit THERM.FAILED.failed (n % 32) true 0 (n / 32)).sfActs sfSN n
    let s := s.raise Ev.SENSOR_FAILED 0 [n, reason]
    if 64 ≤ n ∧ n < 96 ∧ (s.sens (n ^^^ 1)).state ≠ ssTRUSTED then s.bandUntrusted ((n - 64) / 2) else s

/-- R428: a converter has failed, and with it its sensors. -/
def State.convFails (s : State) (c : Nat) : State :=
  (convSensors c).foldl (fun s n => s.sensorFails n 3) (s.setConv c { s.conv c with failed := true, refBad := 0 })

/-! Rail meters (R519). -/

def State.meterFailed (s : State) (n : Nat) : Bool :=
  if n < 32 then (s.rd BIST.METER_FAILED0.rails).testBit n else (s.rd BIST.METER_FAILED1.rails).testBit (n - 32)
def State.setMeter (s : State) (n : Nat) (v : Bool) : State :=
  if n < 32 then s.setBit BIST.METER_FAILED0.rails n v else s.setBit BIST.METER_FAILED1.rails (n - 32) v
def State.meterFault (s : State) (n : Nat) : State := (s.setMeter n true).raise Ev.METER_FAULT 0 [n]

/-! The fail log and repairs (R517, R518). -/

/-- A failing bit of an in-bank unit in a stack's test (R207). -/
def foundUnit (f : Found) (r : TestRun) : Bool := r.type == btStack && (f.memory == 4 || f.memory == 5 || f.memory == 7)
/-- One failing bit: in which memory, on which physical core in a tile's test or in-bank unit in a stack's, where. (DEDUCED, assumption 97) -/
def foundBlock (f : Found) (r : TestRun) : Nat × Nat :=
  if r.type = btTile ∧ f.memory = 0 then (btCore, 68 * r.inst + f.sub)
  else if foundUnit f r then (btUnit, 1024 * r.inst + f.sub)
  else (r.type, r.inst)
/-- The row a failing bit lies in: 1 KiB of an SRAM. -/
def foundRow (f : Found) : Nat := f.address.toNat / 1024
/-- The line: 64 bytes of an SRAM, a granule of DRAM. -/
def foundLine (f : Found) : Nat := if f.memory = 3 then f.address.toNat else f.address.toNat / 64

def State.logFail (s : State) (b : Nat × Nat) (f : Found) (action : Nat) : State :=
  let e := (b.1 + b.2 % 2 ^ 16 * 256 + f.memory.val * 2 ^ 24, f.address.toNat, f.bit.toNat + action * 2 ^ 16, s.beat.count % 2 ^ 32)
  (s.putFailLog ((e :: s.failLog).take 64)).add BIST.FLOG_COUNT.count 1

/-- A failing row is mapped to a spare where one is free: 4 of each 128 KiB bank of a core store or the tile pool, a stack's remap table. Answers
the entry's action: 1 spare row, 3 remapped, 2 not repairable. -/
def State.repairRow (s : State) (b : Nat × Nat) (f : Found) : Nat × State :=
  if f.memory.val < 2 then
    let used := s.keep.repairs.filter fun r => r.1 == b.1 && r.2.1 == b.2 && r.2.2.1 == f.memory.val && r.2.2.2 / 128 == foundRow f / 128
    if used.length < 4 then
      let (_, s) := s.keepTouch (0x290 + (if b.1 = btCore then b.2 / 68 else b.2))
      let s := (s.putKeep { s.keep with repairs := s.keep.repairs ++ [(b.1, b.2, f.memory.val, foundRow f)] })
      (1, s.raise Ev.REPAIR 0 [b.1 * 2 ^ 16 + b.2, f.memory, f.address.toNat])
    else (2, s)
  else if f.memory = 3 ∧ b.1 = btStack then
    let l := s.locOf b.2 (f.address.toNat * 32)
    let x := s.stk b.2
    if x.remaps.length ≥ 256 ∨ (x.remaps.filter (fun r => r.1 == l.pc && r.2.1 == l.bank)).length ≥ 8 then (2, s.raise Ev.SPARE_ROWS_EXHAUSTED b.2)
    else
      let (_, s) := s.keepTouch (0x280 + b.2)
      let s := s.setStk b.2 { s.stk b.2 with remaps := x.remaps ++ [(l.pc, l.bank, l.row)] }
      (3, s.raise Ev.REPAIR 0 [b.1 * 2 ^ 16 + b.2, f.memory, f.address.toNat])
  else (2, s)

/-- What has been met of a march's failing bits: blocks, memories, rows and lines, and each row's action. -/
structure March where
  s : State
  /-- Block, memory and row; action; lines logged. -/
  rows : List ((Nat × Nat × Nat × Nat) × Nat × List Nat)
  bad : Bool

/-- R517, R518: a failing bit: its row is repaired once; the lowest failing bit of each line is logged, up to 8 lines of a row. -/
def March.meet (r : TestRun) (m : March) (f : Found) : March :=
  let b := foundBlock f r
  let row := if f.memory = 3 then let l := m.s.locOf b.2 (f.address.toNat * 32); (l.pc * 32 + l.bank) * 65536 + l.row else foundRow f
  let key := (b.1, b.2, f.memory.val, row)
  match m.rows.find? (fun x => x.1 == key) with
  | some x =>
    if x.2.2.contains (foundLine f) || x.2.2.length ≥ 8 then m
    else { m with s := m.s.logFail b f x.2.1, rows := m.rows.map fun y => if y.1 == key then (key, x.2.1, foundLine f :: x.2.2) else y }
  | none =>
    let (a, s) := m.s.repairRow b f
    { s := s.logFail b f a, rows := m.rows ++ [(key, a, [foundLine f])], bad := m.bad || (a == 2 && !foundUnit f r) }

/-- Failing bits, lowest bit of each line first. -/
def State.march (s : State) (r : TestRun) (found : List Found) : March :=
  ((found.filter (·.memory != 7)).mergeSort (fun f g => f.address.toNat * 65536 + f.bit.toNat ≤ g.address.toNat * 65536 + g.bit.toNat)).foldl (March.meet r) ⟨s, [], false⟩

/-! Physical cores that fail (R103, R516, R517). -/

/-- A physical core is retired in field; a spare takes its logical number at once, or the number is absent (R102). Its tile is out of service. -/
def State.retirePhys (s : State) (t p : Nat) : State :=
  let st := s.rd SPARE.PSTATE.state t p
  if st = 3 ∨ st = 5 then s
  else
    let (_, s) := s.keepTouch (0x290 + t)
    let logical := (List.range 64).find? fun l => st == 0 && s.is SPARE.MAP.present t l && s.rd SPARE.MAP.phys t l == p
    match logical with
    | none => ((s.wr SPARE.PSTATE.state 3 t p).add SPARE.RETIRED_COUNT.count 1 t).countSpares t
    | some l =>
      match s.spareList t with
      | q :: _ =>
        let s := ((s.wr SPARE.PSTATE.state 3 t p).wr SPARE.PSTATE.state 0 t q).wr SPARE.MAP.phys q t l
        ((s.add SPARE.RETIRED_COUNT.count 1 t).countSpares t).raise Ev.SUBSTITUTED t
      | [] => s.coreAbsent (64 * t + l)

/-! Slices (R510 to R513). -/

/-- R510: 2 PASS, 3 FAIL, 4 INCOMPLETE. -/
def sliceOutcome (bad : Bool) (count expect : Nat) (sig : Bool) : Nat :=
  if bad ∨ count > expect then 3 else if count < expect then 4 else if sig then 2 else 3

/-- A core-store row that cannot be repaired retires its core (R517). -/
def State.retireRows (s : State) (r : TestRun) (rows : List ((Nat × Nat × Nat × Nat) × Nat × List Nat)) : State :=
  rows.foldl (fun s x => if r.type = btTile ∧ x.1.1 = btCore ∧ x.2.1 = 2 then s.retirePhys (x.1.2.1 / 68) (x.1.2.1 % 68) else s) s

/-- A slice ends or is cut: its failing rows are repaired or logged, its outcome decided (R510, R511, R517). -/
def State.endSlice (s : State) (r : TestRun) (count expect : Nat) (sig bad : Bool) (found : List Found) : State :=
  let m := s.march r found
  let r := { r with units := ((found.filter (foundUnit · r)).map fun f => f.sub.val) ++ r.units }
  let o := sliceOutcome (bad || m.bad) count expect sig
  let s := m.s.retireRows r m.rows
  if o = 2 then
    if r.done + 1 = r.total then s.setTest { r with done := r.done + 1, result := 2 }
    else if r.cut ≠ 0 then s.setTest { r with done := r.done + 1, result := 4 }
    else s.setTest { r with done := r.done + 1, sliceAt := s.now }
  else s.setTest { r with result := o, count := count, expect := expect, sig := sig }

/-- SLICE_END (R510): the engine's count and E, whether the signature matches, whether a compare, window or residue check failed beside the
failing memory bits found. -/
def execSliceEnd (type : Fin 16) (inst : BitVec 16) (count expect : Word) (sig bad : Bool) (found : List Found) (s : State) :
    Host.Outcome State Fault Refusal :=
  .next (match s.testOf type inst.toNat with
    | some r => if r.result = 0 ∧ r.cut = 0 then s.endSlice r count.toNat expect.toNat sig bad found else s
    | none => s)

/-- SLICE_CUT (R512): for the reason noted, or because the slice's budget is used up. (DEDUCED, assumption 97) -/
def execSliceCut (type : Fin 16) (inst : BitVec 16) (count expect : Word) (sig bad : Bool) (found : List Found) (s : State) :
    Host.Outcome State Fault Refusal :=
  .next (match s.testOf type inst.toNat with
    | some r =>
      let above := decide (r.sliceAt + s.rd BIST.CTRL.slice_ms * 1000000 ≤ s.now)
      if r.result = 0 ∧ (r.cut ≠ 0 ∨ above) then
        s.endSlice { r with cut := if r.cut = 0 then 1 else r.cut } count.toNat expect.toNat sig bad found
      else s
    | none => s)

/-! How a block leaves its test (R511, R515). -/

/-- A physical core (R103): a spare that fails is retired (R517); one cut short stays a spare (DEDUCED, assumption 96). -/
def State.coreTested (s : State) (r : TestRun) : State :=
  let t := r.inst / 68
  let p := r.inst % 68
  let s := s.wr SPARE.TEST_RESULT.result r.result t
  let s := if r.prior = 1 ∧ r.result = 3 then (s.wr SPARE.PSTATE.state 1 t p).retirePhys t p else s.wr SPARE.PSTATE.state r.prior t p
  (s.countSpares t).serveSpares t

/-- A tile (R299): its compute domain is re-initialised; PASS counts if a RESET came before. -/
def State.tileTested (s : State) (r : TestRun) : State :=
  let t := r.inst
  let up := s.railGood (4 * t) && s.railGood (4 * t + 1)
  let s := if up then (s.clearCompute t).tileUpAgain t else s
  let s := if s.rd TILE.STATUS.state t = 2 then s.wr TILE.STATUS.state 1 t else s
  let s := s.setTile t { s.tile t with touched := true, passed := decide (r.result = 2) && (s.tile t).wasReset }
  (s.wr TILE.CMD_RESULT.test r.result t).tileResult t 2

/-- The record of an in-bank unit is cleared by a complete PASS (Table 6.8): a FAILED one is DISABLED from then on. -/
def State.unitPasses (s : State) (k u : Nat) : State :=
  let x := s.unit k u
  s.setUnit k u { x with state := if x.state = 0 then 0 else 1, needPass := false, bad := false }

/-- A stack's test has tested its units too (R207): those that failed are FAILED; those of a complete PASS are recorded so; of a test that ended
otherwise no other unit's record changes (DESIGN CHOICE, assumption 152). -/
def State.stackUnitsTested (s : State) (r : TestRun) : State :=
  let k := r.inst
  let s := (s.putIbu { s.ibu with slate := s.ibu.slate.filter (fun x => x.1 / 16384 / 1024 != k) })
  let s := r.units.eraseDups.foldl (fun s u => if (s.unit k u).state = 3 then s else s.unitFails k u 3) s
  if r.result = 2 then
    let (_, s) := s.keepTouch (0x280 + k)
    ((((s.ibu.units.filter fun x => x.1 / 1024 == k && x.2.state != 3).map fun x => x.1 % 1024).filter (!r.units.contains ·)).foldl
      (fun s u => s.unitPasses k u) s).showUnits k
  else s

/-- A stack (R166, R167): it holds valid codewords of unspecified data. -/
def State.stackTested (s : State) (r : TestRun) : State :=
  let k := r.inst
  let s := (s.loseStack k).stackUnitsTested r
  let s := s.setStk k { s.stk k with passed := decide (r.result = 2), touched := true }
  let s := if s.hsState k = hsTESTING then s.wr HS.STATUS.state hsFENCED k else s
  ((s.wr HS.CMD_RESULT.test r.result k).wr HS.CMD_RESULT.result 2 k).raise Ev.HS_CMD_DONE k

/-- An in-bank unit (R207): DISABLED after a complete PASS, else FAILED. -/
def State.unitTested (s : State) (r : TestRun) : State :=
  let k := r.inst / 1024
  let u := r.inst % 1024
  let s := (s.putIbu { s.ibu with slate := s.ibu.slate.filter (fun x => x.1 / 16384 != r.inst) })
  let s :=
    if r.result = 2 then
      let (_, s) := s.keepTouch (0x280 + k)
      (s.unitPasses k u).showUnits k
    else s.unitFails k u 3
  (s.wr IBU.CMD_RESULT.test r.result k).ibuResult k 2

/-- A port (R269): it stays FENCED. -/
def State.portTested (s : State) (r : TestRun) : State :=
  let i := r.inst
  let s := s.setPort i { s.portSt i with tested := true, passed := decide (r.result = 2) }
  ((s.wr EDPEN.STATUS.state pFENCED i).wr EDPEN.CMD_RESULT.test r.result i).portResult i 2

/-- A Midway link, converter or rail meter (R428, R519): a converter or meter is trusted again only after a complete PASS. -/
def State.bistTested (s : State) (r : TestRun) : State :=
  let s := if r.type = btConverter ∧ r.result = 2 then s.setConv r.inst { s.conv r.inst with failed := false, refBad := 0 } else s
  let s := if r.type = btMeter ∧ r.result = 2 then s.setMeter r.inst false else s
  (s.wr BIST.CMD_RESULT.test r.result).wr BIST.CMD_RESULT.result 2

/-- REINIT_DONE (R515): the block is re-initialised, the result is shown, logged and posted. -/
def execReinitDone (type : Fin 16) (inst : BitVec 16) (s : State) : Host.Outcome State Fault Refusal :=
  .next (match s.testOf type inst.toNat with
    | some r =>
      if r.result = 0 then s
      else
        let s := s.logTest r
        if r.type = btCore then s.coreTested r
        else if r.type = btTile then s.tileTested r
        else if r.type = btStack then s.stackTested r
        else if r.type = btUnit then s.unitTested r
        else if r.type = btPort then s.portTested r
        else s.bistTested r
    | none => s)

/-! Commands of the BIST page (R511, R512, R519). -/

/-- HS_TEST (R166, R519). (DEDUCED, assumption 154) -/
def execHsTest (m : MasterId) (k : StackId) (s : State) : Host.Outcome State Fault Refusal :=
  .next (s.hsCmd m k (fun s => s.hsState k == hsFENCED) fun s =>
    if s.testBusy btStack k then s.wr HS.CMD_RESULT.result 3 k
    else
      let s := s.setStk k { s.stk k with touched := true, passed := false }
      ((s.startTest btStack k 0).wr HS.STATUS.state hsTESTING k).wr HS.CMD_RESULT.result 1 k)

/-- A block that BIST.CMD TEST may name is out of service (R428, R509, R519). -/
def State.bistIdle (s : State) (type inst : Nat) : Bool :=
  if type = btLink then (Assoc.get none s.fab.links (linkKey (inst / 3) (inst % 3))).isSome
  else if type = btConverter then (convSensors inst).all (fun n => (s.sens n).state == ssFAILED)
  else s.railDown inst || s.meterFailed inst
/-- The named block exists. -/
def bistNames (type inst : Nat) : Bool := (type == btLink && inst < 24) || (type == btConverter && inst < 33) || (type == btMeter && inst < 52)
/-- The other name of a link, from its other end. -/
def otherEnd (inst : Nat) : Nat := 3 * (inst / 3 ^^^ 2 ^ (inst % 3)) + inst % 3

/-- BIST_TEST (R519); a name that no block has is refused STATE (DEDUCED, assumption 97). (DEDUCED, assumption 154) -/
def execBistTest (m : MasterId) (type : Fin 16) (inst : BitVec 16) (s : State) : Host.Outcome State Fault Refusal :=
  .next (s.gate m .BIST 0 0x040 fun s =>
    let i := inst.toNat
    if !bistNames type i then s.wr BIST.CMD_RESULT.result 4
    else if !s.bistIdle type i || s.testBusy type i || (type.val == btLink && s.testBusy type (otherEnd i)) then s.wr BIST.CMD_RESULT.result 3
    else (s.startTest type i 0).wr BIST.CMD_RESULT.result 1)

/-- BIST_CANCEL (R512): any type; with no slice of the block running it is refused STATE (DEDUCED, assumption 97). -/
def execBistCancel (m : MasterId) (type : Fin 16) (inst : BitVec 16) (s : State) : Host.Outcome State Fault Refusal :=
  .next (s.gate m .BIST 0 0x040 fun s =>
    match s.testOf type inst.toNat with
    | some r => if r.result = 0 then (s.cutTest type inst.toNat 2).wr BIST.CMD_RESULT.result 2 else s.wr BIST.CMD_RESULT.result 4
    | none => s.wr BIST.CMD_RESULT.result 4)

/-- METER_CHECK (R519): `bad`: more than 1 % of full scale from the fused value. -/
def execMeterCheck (n : RailId) (bad : Bool) (s : State) : Host.Outcome State Fault Refusal :=
  .next (
    let x := s.rail n
    let s := s.setRail n { x with refBad := bad && !x.refBad }
    if bad && x.refBad && !s.meterFailed n then s.meterFault n else s)

/-! Start-up tests (R516, Table 16.2). -/

/-- A start-up test that did not end in a complete PASS. -/
def State.startFails (s : State) (b : StartBlock) (incomplete : Bool) : State :=
  let r := if incomplete then 4 else 3
  let tell := fun (s : State) (type inst : Nat) => s.raise Ev.START_TEST_FAIL 0 [type * 2 ^ 16 + inst, r]
  match b with
  | .core t p => tell (s.retirePhys t p) btCore (68 * t + p)
  | .tile t => tell (s.tileStop t 2) btTile t
  | .memory t => tell (s.memoryLoss t) btTile t
  | .unit k u => tell (s.unitFails k u 3) btUnit (1024 * k + u)
  | .port i => tell ((s.wr EDPEN.STATUS.state pFENCED i).setPort i { s.portSt i with tested := true, passed := false }) btPort i
  | .link t d => tell (if s.linkUp t d then s.linkDown t d else s) btLink (3 * t + d)
  | .converter c => tell (s.convFails c) btConverter c
  | .meter n => tell (s.meterFault n) btMeter n

/-- The outcomes of the tiles' start-up tests, and of what is tested with them; BIST.START_TILES records the tiles'. -/
def State.startOutcomes (s : State) (fails : List (StartBlock × Bool)) : State :=
  let s := fails.foldl (fun s f => s.startFails f.1 f.2) s
  let s := s.wr BIST.START_TILES.pass ((List.range 8).foldl (fun a t => if s.rd TILE.STATUS.state t = 0 then a + 2 ^ t else a) 0)
  s.wr BIST.START_TILES.not_pass ((List.range 8).foldl (fun a t => if s.rd TILE.STATUS.state t = 0 then a else a + 2 ^ t) 0)

/-! The scan port (R520, R521). -/

/-- Power states in which the port accepts EXTEST and SCAN_UNLOCK. -/
def State.scanAllowed (s : State) : Bool := s.pwr == pSTANDBY || s.pwr == pHELD || s.pwr == pCUT

/-- R521: secrets go first, then the management cores, then scan opens. `by_`: 1 the port's instruction, 2 HOST, 3 TRAY. -/
def State.scanUnlock (s : State) (by_ : Nat) : State :=
  if !s.scanAllowed then s
  else
    let s := (s.wr SEC.STATUS.zeroized 1).firmwareStops
    let s := (s.putFw { s.fw with buffer := [], restart := false })
    (s.wr BIST.SCAN.unlocked 1).raise Ev.SCAN_UNLOCKED 0 [by_]

/-- SCAN_CMD (R521): from HOST or TRAY. -/
def execScanCmd (m : MasterId) (s : State) : Host.Outcome State Fault Refusal :=
  .next (s.gate m .BIST 0 0x090 fun s => if m = 0 then s.scanUnlock 2 else if m.val = TRAY then s.scanUnlock 3 else s)

/-- SCAN_UNLOCK_INSTR (R521): the port's instruction. -/
def execScanUnlockInstr (s : State) : Host.Outcome State Fault Refusal := .next (if s.scanAllowed then ((s.scanUnlock 1).putScanIr 2) else s)

/-- EXTEST (R520): accepted only in STANDBY, HELD and CUT. -/
def execExtest (s : State) : Host.Outcome State Fault Refusal := .next (if s.scanAllowed then (s.putScanIr 1) else s)

end Sys2Proof.Machine
end

