-- ==== Sys2Proof/Machine/TwoWire.lean ====
section
/-! DEFINITION. The controller ports of the two-wire buses: transactions, arbitration, stretching, hang cures, attention reads, host
transfers and status polls (R485 to R494, R502 to R505, R508). -/

namespace Sys2Proof.Machine

def twOFF : Nat := 0
def twIDLE : Nat := 1
def twBUSY : Nat := 2
def twSTUCK : Nat := 3
def twSLEEP : Nat := 4

def State.twp (s : State) (n : Nat) : TwPort := Assoc.get TwPort.reset s.tw.ports n
def State.setTwp (s : State) (n : Nat) (x : TwPort) : State := (s.putTw { s.tw with ports := Assoc.put TwPort.reset s.tw.ports n x })
def State.twState (s : State) (n : Nat) : Nat := s.rd TW.STATUS.state n
/-- A port goes IDLE: its lines are released, and the bus is free from now on. -/
def State.twIdle (s : State) (n : Nat) : State :=
  (((s.wr TW.STATUS.state twIDLE n).wr TW.STATUS.scl 1 n).wr TW.STATUS.sda 1 n).setTwp n { s.twp n with active := none, freeAt := s.now }

/-- The SMBus packet error code: CRC-8 of x^8 + x^2 + x + 1 (PRESUMED from SMBus, assumption 88). -/
def pec8 (bs : List Byte) : Byte :=
  BitVec.ofNat 8 (bs.foldl (fun c b => (List.range 8).foldl (fun c _ => if c ≥ 128 then (2 * c) % 256 ^^^ 7 else 2 * c) (c ^^^ b.toNat)) 0)

/-- R502: VOUT_COMMAND's value of a voltage under a VOUT_MODE exponent field. (PRESUMED, assumption 88; PRESUMED, assumption 91) -/
def voutWord (mv exp5 : Nat) : Nat :=
  let e := sext 5 exp5
  if e < 0 then (2 * mv * 2 ^ e.natAbs + 1000) / 2000 else (2 * mv + 1000 * 2 ^ e.natAbs) / (2000 * 2 ^ e.natAbs)

/-- Queue a transaction; a port that is OFF takes none. -/
def State.twQueue (s : State) (n : Nat) (x : Tx) : State :=
  if s.twState n = twOFF then s else s.setTwp n { s.twp n with queue := (s.twp n).queue ++ [x] }

/-- A transaction of a rail's regulator on its port, address and page (R386, R387). -/
def State.pmbus (s : State) (n kind : Nat) (wr : List Byte) (rd : Nat) : State :=
  let port := s.railRd RAIL.CFG.port n
  s.twQueue port ⟨kind, n, s.railRd RAIL.CFG.address n, some (s.railRd RAIL.CFG.page n), wr, rd, s.is TW.CTRL.pec_en port, 0, 0⟩

/-- R399: the new voltage of VCORE_t goes out. (PRESUMED, assumption 91) -/
def State.voutWrite (s : State) (t mv : Nat) : State := s.pmbus (4 * t) 0 (0x21 :: leBytes 2 (voutWord mv (Assoc.get 0x14 s.tw.exps (4 * t)))) 0

/-- R502: bring-up of a rail begins with a read of VOUT_MODE. (DESIGN CHOICE, assumption 90) -/
def State.bringUp (s : State) (n : Nat) : State := s.pmbus n 2 [0x20] 1

/-- A transaction fails with a reason (R494). -/
def State.twFails (s : State) (n : Nat) (x : Tx) (reason : Nat) : State :=
  let s := if x.kind = 4 then (s.wr TW.XFER_RESULT.result 5 n).wr TW.XFER_RESULT.reason reason n else s
  s.raise Ev.TW_XFER_FAIL n [n, x.addr, reason]

/-- Every transaction fails, the one in progress first (R488). -/
def State.twFailAll (s : State) (n reason : Nat) : State :=
  let q := (s.twp n).active.toList ++ (s.twp n).queue
  q.foldl (fun s x => s.twFails n x reason) (s.setTwp n { s.twp n with queue := [], active := none })

/-- A transaction that did not complete is retried twice, then fails (R494). -/
def State.twRetry (s : State) (n : Nat) (x : Tx) (reason : Nat) : State :=
  if x.tries < 2 then s.setTwp n { s.twp n with queue := { x with tries := x.tries + 1 } :: (s.twp n).queue } else s.twFails n x reason

/-- R494: the first transaction of the highest priority. -/
def nextTx (q : List Tx) : Option Tx := (List.range 5).findSome? fun k => q.find? (fun x => x.kind == k)

/-- R490 to R492: the transaction lost arbitration. -/
def State.twLost (s : State) (n : Nat) (x : Tx) : State :=
  let s := (s.add TW.ARB_LOST.count 1 n).twIdle n
  let s := s.setTwp n { s.twp n with waitStop := true }
  if x.losses + 1 ≥ 16 then s.twFails n x 2 else s.setTwp n { s.twp n with queue := { x with losses := x.losses + 1 } :: (s.twp n).queue }

/-- What goes out on the lines: a PAGE write first where the address's last page differs (Table 15.5). -/
def State.twSend (s : State) (n : Nat) (x : Tx) : State :=
  let p := s.twp n
  let s := match x.page with
    | some g =>
      if Assoc.get none p.pages x.addr = some g then s
      else ((s.setTwp n { p with pages := Assoc.put none p.pages x.addr (some g) }).putOutbox (s.outbox ++ [Out.twoWire n x.addr [0x00, BitVec.ofNat 8 g] 0]))
    | none => s
  let wr := if x.pec ∧ x.rd = 0 then x.wr ++ [pec8 (BitVec.ofNat 8 (2 * x.addr) :: x.wr)] else x.wr
  (s.putOutbox (s.outbox ++ [Out.twoWire n x.addr wr x.rd]))

/-- TW_START (R488, R490, R494): `lost`: another controller wins it. -/
def State.twStart (s : State) (n : Nat) (lost : Bool) : State :=
  let p := s.twp n
  if s.twState n = twIDLE ∧ p.waitStop = false ∧ p.freeAt + 1000 ≤ s.now then
    match nextTx p.queue with
    | some x =>
      let s := (s.wr TW.STATUS.state twBUSY n).setTwp n { p with queue := p.queue.erase x, active := some x }
      if lost then s.twLost n x else s.twSend n x
    | none => s
  else s
def execTwStart (n : TwId) (lost : Bool) (s : State) : Host.Outcome State Fault Refusal := .next (if n.val = 4 then s else s.twStart n lost)

/-- An attention read (R493): answered with an address, or not. -/
def State.attention (s : State) (n : Nat) (x : Tx) (answer : Option Nat) : State :=
  let p := s.twp n
  match answer with
  | some b =>
    let s := (s.wr TW.BARKER.last_addr (b / 2) n).raise Ev.TW_BARKER n [n, b / 2 % 128]
    if p.reads + 1 < 16 then s.setTwp n { s.twp n with reads := p.reads + 1, queue := x :: (s.twp n).queue } else s.setTwp n { s.twp n with reads := 0 }
  | none =>
    let s := if p.reads = 0 then s.add TW.BARKER.spurious 1 n else s
    s.setTwp n { s.twp n with reads := 0 }

/-- What a completed transaction does (R502, R508). -/
def State.twEffect (s : State) (n : Nat) (x : Tx) (data : List Byte) : State :=
  if x.kind = 2 ∧ x.rd = 1 then
    let m := (data.headD 0).toNat
    if m / 32 = 0 then (s.putTw { s.tw with exps := Assoc.put 0x14 s.tw.exps x.rail (m % 32) }).pmbus x.rail 2 [0x01, 0x80] 0
    else let (v, s) := s.fresh; s.twFails n x (v % 8)
  else if x.kind = 2 ∧ x.wr = [0x01, 0x80] then
    if (s.railState x.rail = 0 ∨ s.railState x.rail = 3) ∧ s.pwr = pSEQ_UP ∧ s.railCutBit x.rail = false then s.railEnable x.rail else s
  else if x.kind = 4 then
    let bs := (data ++ List.replicate 32 0).take x.rd
    let s := (List.range ((x.rd + 3) / 4)).foldl (fun s j =>
      let old := leBytes 4 (s.rd TW.XFER_DATA.data n j)
      let new := (bs.drop (4 * j)).take 4
      s.wr TW.XFER_DATA.data (leNat (new ++ old.drop new.length)) n j) s
    (s.wr TW.XFER_RESULT.result 2 n).wr TW.XFER_RESULT.reason 0 n
  else s

/-- TW_STOP (R488, R494): what the transaction brought: a NACK, a bad PEC, the bytes read. On an IDLE port it is the STOP of another controller, from
which on the bus is free (R492; DEDUCED, assumption 90). -/
def State.twStop (s : State) (n : Nat) (nack badPec : Bool) (data : List Byte) : State :=
  if s.twState n = twIDLE then s.setTwp n { s.twp n with waitStop := false, freeAt := s.now }
  else if s.twState n ≠ twBUSY then s
  else match (s.twp n).active with
    | some x =>
      let s := s.twIdle n
      if x.kind = 1 then
        let s := s.add TW.XFERS.count (if nack then 0 else 1) n
        (if nack then s.add TW.NACKS.count 1 n else s).attention n x (if nack then none else some (data.headD 0).toNat)
      else if nack then (s.add TW.NACKS.count 1 n).twRetry n x 1
      else if badPec && x.pec then (s.add TW.PEC_ERR.count 1 n).twRetry n x 4
      else (s.add TW.XFERS.count 1 n).twEffect n x data
    | none => s.twIdle n
def execTwStop (n : TwId) (nack badPec : Bool) (data : List Byte) (s : State) : Host.Outcome State Fault Refusal :=
  .next (if n.val = 4 then
      (if s.twState 4 = twBUSY ∧ s.tw.wptr.isNone then (((s.add TW.XFERS.count 1 4).twIdle 4).putTw { ((s.add TW.XFERS.count 1 4).twIdle 4).tw with lastAt := s.now }) else s)
    else s.twStop n nack badPec data)

/-- STRETCH_TIMEOUT (R488, R489): `sdaLow`: SDA is low when the lines are released. On TW4 the pending write is discarded whole. -/
def execStretchTimeout (n : TwId) (sdaLow : Bool) (s : State) : Host.Outcome State Fault Refusal :=
  .next (if s.twState n ≠ twBUSY then s
    else
      let x := (s.twp n).active
      let s := (s.add TW.STRETCH_TO.count 1 n).twIdle n
      let s := match x with | some x => s.twRetry n x 3 | none => s
      let s := if n.val = 4 then (s.putTw { s.tw with buf := [], wptr := none, lastAt := s.now }) else s
      if sdaLow ∧ n.val ≠ 4 then ((s.wr TW.STATUS.state twSTUCK n).wr TW.STATUS.sda 0 n).setTwp n { s.twp n with cureAt := s.now, cureFailed := false, attempts := 1 }
      else s)

/-- BUS_STUCK (R488, R489): a hang cure begins. -/
def execBusStuck (n : TwId) (s : State) : Host.Outcome State Fault Refusal :=
  .next (if s.twState n = twIDLE ∧ n.val ≠ 4 then
      ((s.wr TW.STATUS.state twSTUCK n).wr TW.STATUS.sda 0 n).setTwp n { s.twp n with cureAt := s.now, cureFailed := false, attempts := 1 }
    else s)

/-- TW_FREED (R489): SDA is high after a number of cure clocks. -/
def execTwFreed (n : TwId) (clocks : Fin 10) (s : State) : Host.Outcome State Fault Refusal :=
  .next (if s.twState n = twSTUCK ∧ (s.twp n).cureFailed = false then
      ((s.add TW.HANG_CURES.cures 1 n).twIdle n).raise Ev.TW_FREED n [n, clocks]
    else s)

/-- TW_STUCK (R488): nine cure clocks and SDA still low. -/
def execTwStuck (n : TwId) (s : State) : Host.Outcome State Fault Refusal :=
  .next (if s.twState n = twSTUCK ∧ (s.twp n).cureFailed = false then
      let a := (s.twp n).attempts
      let s := ((s.add TW.HANG_CURES.failed 1 n).twFailAll n 5).raise Ev.TW_STUCK n [n, a]
      s.setTwp n { s.twp n with cureFailed := true, cureAt := s.now }
    else s)

/-- CURE_RETRY (R488): 1 s after a failed cure. -/
def execCureRetry (n : TwId) (s : State) : Host.Outcome State Fault Refusal :=
  .next (let p := s.twp n
    if s.twState n = twSTUCK ∧ p.cureFailed ∧ p.cureAt + 1000000000 ≤ s.now then
      s.setTwp n { p with cureFailed := false, cureAt := s.now, attempts := p.attempts + 1 }
    else s)

/-- A protocol error is counted, and posted at most once per second (R507). -/
def State.protoErr (s : State) (n : Nat) : State :=
  let s := s.add TW.PROTO_ERR.count 1 n
  match (s.twp n).protoAt with
  | some t => if s.now < t + 1000000000 then (s.setEvtBit .TW n 4).2 else (s.setTwp n { s.twp n with protoAt := some s.now }).raise Ev.TW_PROTO n [n, s.rd TW.PROTO_ERR.count n]
  | none => (s.setTwp n { s.twp n with protoAt := some s.now }).raise Ev.TW_PROTO n [n, s.rd TW.PROTO_ERR.count n]

/-- BARKER_REQUEST (R493): SDA is low on an idle bus for `width` in units of 0.1 µs. -/
def execBarkerRequest (n : TwId) (width : BitVec 10) (s : State) : Host.Outcome State Fault Refusal :=
  .next (if s.twState n ≠ twIDLE ∨ n.val = 4 then s
    else if width.toNat > 200 then s.protoErr n
    else if width.toNat ≥ 20 ∧ s.is TW.CTRL.barker_en n then
      ((s.add TW.BARKER.count 1 n).setTwp n { s.twp n with reads := 0, freeAt := s.now }).twQueue n ⟨1, 0, 0x0D, none, [], 1, false, 0, 0⟩
    else s)

/-- A host transfer waits or is under way. -/
def State.xferRuns (s : State) (n : Nat) : Bool := ((s.twp n).active.toList ++ (s.twp n).queue).any fun x => x.kind == 4

/-- XFER (R508): a write of XFER_CTRL with go. (DEDUCED, assumption 89) -/
def State.xfer (s : State) (m n v : Nat) : State :=
  let wr := bits v 12 8
  let rd := bits v 20 16
  let pec := v.testBit 29
  let refuse := fun (s : State) (r : Nat) => s.wr TW.XFER_RESULT.result r n
  if !(m == HOST || m == 1 || m == 2) || v.testBit 31 = false then s
  else if n = 4 ∨ s.twState n = twOFF ∨ s.twState n = twSTUCK ∨ (n < 2 ∧ wr + rd + (if pec then 1 else 0) > 4) then refuse s 4
  else if s.xferRuns n then refuse s 3
  else
    let bs := (List.range 8).flatMap fun j => leBytes 4 (s.rd TW.XFER_DATA.data n j)
    ((s.wr TW.XFER_RESULT.result 1 n).wr TW.XFER_RESULT.reason 0 n).twQueue n ⟨4, 0, v % 128, none, bs.take wr, rd, pec, 0, 0⟩
/-- DEDUCED assumption 89. -/
def execXfer (m : MasterId) (n : TwId) (v : Word) (s : State) : Host.Outcome State Fault Refusal :=
  .next (s.gate m .TW n 0x060 fun s => s.xfer m n v.toNat)

/-- Every bit of a STATUS_WORD was posted for the rail within the last second (R504). -/
def State.phaseTold (s : State) (n w : Nat) : Bool :=
  (List.range 16).all fun b => !w.testBit b ||
    (match Assoc.get none s.tw.postedAt (16 * n + b) with | some t => decide (s.now < t + 1000000000) | none => false)
/-- The bits of a word that a phase fault shows now. -/
def State.setPosted (s : State) (n w : Nat) : State :=
  s.putTw { s.tw with postedAt := (List.range 16).foldl (fun m b => if w.testBit b then Assoc.put none m (16 * n + b) (some s.now) else m) s.tw.postedAt }

/-- STATUS_POLL (R502, R504): a rail's STATUS_WORD, or none where the poll failed. (DESIGN CHOICE, assumption 90) -/
def State.statusPoll (s : State) (n : Nat) (answer : Option Nat) : State :=
  let port := s.railRd RAIL.CFG.port n
  if s.runs 2 = false ∨ s.twState port = twOFF ∨ s.twState port = twSTUCK then s
  else match answer with
    | none =>
      let k := Assoc.get 0 s.tw.pollFails n + 1
      let s := (s.putTw { s.tw with pollFails := Assoc.put 0 s.tw.pollFails n (k % 3) })
      if k ≥ 3 then let (v, s) := s.fresh; s.raise Ev.TW_XFER_FAIL port [port, s.railRd RAIL.CFG.address n, v % 8] else s
    | some w =>
      let s := ((s.putTw { s.tw with pollFails := Assoc.put 0 s.tw.pollFails n 0 })).add TW.XFERS.count 1 port
      if w = 0 then s
      else
        let s := if s.phaseTold n w then s else (s.setPosted n w).raise Ev.PHASE_FAULT 0 [n, w]
        s.pmbus n 3 [0x03] 0
def execStatusPoll (n : RailId) (answer : Option (BitVec 16)) (s : State) : Host.Outcome State Fault Refusal :=
  .next (s.statusPoll n (answer.map BitVec.toNat))

/-- A write of TW.CTRL.enable (Table 15.2). The reason with which transactions fail in OFF is open (DESIGN CHOICE, assumption 89), and a write to the TW4
target that did not end is discarded. -/
def State.twEnable (s : State) (n : Nat) : State :=
  if s.is TW.CTRL.enable n then (if s.twState n = twOFF then s.twIdle n else s)
  else if s.twState n = twOFF then s
  else
    let (v, s) := s.fresh
    let s := ((s.twFailAll n (v % 8)).twIdle n).wr TW.STATUS.state twOFF n
    let s := s.setTwp n { s.twp n with waitStop := false }
    if n = 4 then s.putTw { s.tw with buf := [], wptr := none } else s

end Sys2Proof.Machine
end

