-- ==== Sys2Proof/Machine/Power.lean ====
section
/-! DEFINITION. Caps, budgets, issue fractions and throttle reasons, operating points (R394 to R413), as the always-on hardware holds them;
what POWER adds each millisecond (R402, R403, R414). -/

namespace Sys2Proof.Machine

/-! Operating points (Table 12.5). -/

def psMv (p : Nat) : Nat := [850, 815, 785, 750, 720, 690, 655, 620].getD p 620
/-- Full-load power, 0.1 W. -/
def psPower (p : Nat) : Nat := [3800, 3328, 2933, 2544, 2222, 1930, 1651, 1407].getD p 1407
def State.point (s : State) (t : Nat) : Nat := s.rd PWR.TILE_PS.ps 0 t
def State.ceiling (s : State) (t : Nat) : Nat := s.rd PWR.TILE_PS.ceiling 0 t
/-- A tile runs at the locked point (R401). -/
def State.locked (s : State) (t : Nat) : Bool := (s.partsOfTile t).any fun p => (s.part p).repeatable

/-- The point that is granted: the slowest of R400; PS7 while Safety Net holds it (R467, R474). -/
def State.grant (s : State) (t : Nat) : Nat :=
  if s.is SAFE.STATUS.safe_floor then 7
  else if s.locked t then s.rd PWR.LOCK.ps
  else max (s.ceiling t) (max (s.tpow t).psPower (s.tpow t).psBw)

/-- R399: a tile moves toward its granted point: down the clock switches at once; up it waits for the voltage. `write`: the voltage is written. -/
def State.movePoint (s : State) (t : Nat) (write : Bool) : State :=
  let g := s.grant t
  let cur := s.point t
  let x := s.tpow t
  let there : Bool := match x.move with | some m => m.1 == g | none => g == cur && (x.volt == g || !write)
  if there then s
  else
    let s := if g > cur then s.wr PWR.TILE_PS.ps g 0 t else s
    if write then (s.setTpow t { x with move := some (g, s.now), volt := g }).voutWrite t (psMv g) else s.setTpow t { x with move := none }

/-! Power of the rails over the last millisecond. -/

def winSum (h : List (Nat × Nat)) (n : Nat) : Nat := ((h.take n).map (·.1)).foldl (· + ·) 0
/-- Sum of mA times mV of the samples of a millisecond. -/
def RailState.raw (r : RailState) : Nat := ((r.hist.take 4000).map (fun x => x.1 * x.2)).foldl (· + ·) 0
/-- 1 ms average power of rails, mW. -/
def State.mwOf (s : State) (rails : List Nat) : Nat := ((rails.map fun n => (s.rail n).raw).foldl (· + ·) 0) / 4000000
def tileRails (t : Nat) : List Nat := [4 * t, 4 * t + 1, 4 * t + 3]
/-- P̄ of a tile, P_nontile and the module's power (R408). -/
def State.tileMw (s : State) (t : Nat) : Nat := s.mwOf (tileRails t)
def State.nontileMw (s : State) : Nat := s.mwOf ((List.range 20).map (32 + ·) ++ (List.range 8).map (4 * · + 2))
def State.moduleMw (s : State) : Nat := s.mwOf (List.range 52)

/-! Budgets (R406 to R409). -/

/-- pool for an effective cap, mW; nothing where the rest of the module takes it all. -/
def State.pool (s : State) (capW : Nat) : Nat := capW * 1000 - s.nontileMw - s.rd PWR.GUARD.guard_w * 1000
def State.inService (s : State) : List Nat := (List.range 8).filter fun t => s.rd TILE.STATUS.state t == 0
def State.setBudget (s : State) (t mw : Nat) : State :=
  (s.setTpow t { s.tpow t with budget := mw }).wr PWR.TILE_BUDGET.w (min (mw / 1000) 65535) 0 t

/-- The issue fraction of an excess in 1/65536 (R395). -/
def State.issueOf (s : State) (e : Nat) : Nat := max (s.rd PWR.GAIN.u_min * 4096) (65536 - min 65536 (s.rd PWR.GAIN.gain * e / 16))
def State.uMin (s : State) : Nat := s.rd PWR.GAIN.u_min * 4096
/-- (x - l) / l in 1/65536, 0 where x does not exceed l. (DEDUCED, assumption 95) -/
def excessOf (x l : Nat) : Nat := if x ≤ l then 0 else if l = 0 then 2 ^ 32 else (x - l) * 65536 / l

/-- R408: budgets from pool and the shifts in force, whose mean is taken off so that they sum to pool; 80 W each at least, the rest then
falling on the stacks. (DESIGN CHOICE, assumption 15) -/
def State.budgets (s : State) : State :=
  let ts := s.inService
  let pool := s.pool (s.rd PWR.CAP_MODULE.limit_w)
  if ts.isEmpty then s
  else
    let share := pool / ts.length
    if share < 80000 then
      let s := ts.foldl (fun s t => s.setBudget t 80000) s
      let used := (ts.map s.tileMw).foldl (· + ·) 0
      (s.putPower { s.power with uStacks := s.issueOf (excessOf used pool) })
    else
      let mean : Int := (ts.map fun t => (s.tpow t).shift).foldl (· + ·) 0 / ts.length
      let s := ts.foldl (fun s t =>
        let sh := (s.tpow t).shift - mean
        let s := s.setTpow t { s.tpow t with shift := sh }
        (s.wr PWR.TILE_TR.shift_w (toPat 16 (sh / 1000)) 0 t).setBudget t ((share : Int) + sh).toNat) s
      (s.putPower { s.power with uStacks := 65536 })

/-! Throttle reasons (R412, R413). -/

def rCAP_THERMAL : Nat := 2
def emergencyReasons : Nat := 0b11011100

/-- Rails whose fast limits show as RAIL_FAST on a tile: its own, its stacks', the shared ones of the stacks. (DEDUCED, assumption 94) -/
def fastRails (t : Nat) : List Nat := [4 * t, 4 * t + 1, 4 * t + 2, 32 + 2 * t, 33 + 2 * t, 48, 49]

/-- The thermal fraction of a tile, and what it issues at. -/
def State.uThermal (s : State) (t : Nat) : Nat := Assoc.get 65536 s.therm.uTile t
def State.uTile (s : State) (t : Nat) : Nat := min (s.tpow t).u (s.uThermal t)

/-- The reasons present (Table 12.7). (DEDUCED, assumption 94) -/
def State.reasonsOf (s : State) (t : Nat) : Nat :=
  let x := s.tpow t
  let bit := fun (n : Nat) (b : Bool) => if b then 2 ^ n else 0
  let slow := fun (n : Nat) => (s.rail n).slowAt.isSome
  let hot := s.uThermal t < 65536 || Assoc.get 65536 s.therm.uStack (2 * t) < 65536 || Assoc.get 65536 s.therm.uStack (2 * t + 1) < 65536
  let others := bit 4 ((fastRails t).any fun n => (s.rail n).fast) + bit 5 (slow (4 * t) || slow (4 * t + 1) || x.railLow || (fastRails t).any s.meterFailed) + bit 6 hot +
    bit 7 (s.is SAFE.STATUS.safe_floor)
  let skips := s.rd PWR.TILE_PS.duty 0 t < 15 && others == 0
  let budget := x.uBudget < 65536 || (x.held && !x.railLow && x.psPower > s.ceiling t) || skips
  bit (s.rd PWR.CAP_MODULE.source) budget + others + bit 8 (x.psBw > s.ceiling t && !s.locked t)

/-- Reason bits with, at bit 9, whether some reason other than BW_BOUND is present (quantity 0x13 of R522). -/
def reasonBits (r : Nat) : Nat := r % 512 + (if r % 256 = 0 then 0 else 512)
/-- R412: times of the reasons that end are added up, and those that begin are noted. (DEDUCED, assumption 94) -/
def noteReasons (x : TilePower) (now was is_ : Nat) : TilePower :=
  let old := reasonBits was
  let new := reasonBits is_
  (List.range 10).foldl (fun x b =>
    if old.testBit b && !new.testBit b then
      { x with thr := Assoc.put 0 x.thr b (Assoc.get 0 x.thr b + (now - Assoc.get 0 x.thrAt b)), thrAt := Assoc.put 0 x.thrAt b 0 }
    else if !old.testBit b && new.testBit b then { x with thrAt := Assoc.put 0 x.thrAt b now }
    else x) x

/-- R361, R412: emergency-class reasons of any tile withdraw READY until 10 s after they clear. -/
def State.noteEmergency (s : State) : State :=
  let any := (List.range 8).any fun t => (s.rd PWR.TILE_REASONS.reasons 0 t &&& emergencyReasons) != 0
  let s := if s.fw.emergency && !any then (s.putFw { s.fw with emergencyAt := some s.now }) else s
  (s.putFw { s.fw with emergency := any })

/-- The reasons of a tile are brought up to date; THROTTLE_START when they go from none to some outside an episode (R413). -/
def State.updateReasons (s : State) (t : Nat) : State :=
  let old := s.rd PWR.TILE_REASONS.reasons 0 t
  let new := s.reasonsOf t
  if old = new then s
  else
    let s := (s.setTpow t (noteReasons (s.tpow t) s.now old new)).wr PWR.TILE_REASONS.reasons new 0 t
    let some_ := new % 256
    let x := s.tpow t
    let s :=
      match x.episodeAt with
      | none =>
        if some_ = 0 then s
        else
          let s := s.setTpow t { x with episodeAt := some s.now, seen := some_, freeAt := none, episodes := min (x.episodes + 1) (2 ^ 32 - 1) }
          (s.raise Ev.THROTTLE_START 0 [t, some_]).logLine 2 [t, some_]
      | some _ =>
        s.setTpow t { x with seen := x.seen ||| some_, freeAt := if some_ ≠ 0 then none else (match x.freeAt with | some f => some f | none => some s.now) }
    let throttling := (List.range 8).any fun t => s.rd PWR.TILE_REASONS.reasons 0 t % 256 != 0
    (s.wr PWR.STATUS.throttling (if throttling then 1 else 0)).noteEmergency

/-- THROTTLE_END (R413): 100 ms free of reasons. (DEDUCED, assumption 95) -/
def execThrottleEnd (t : TileId) (s : State) : Host.Outcome State Fault Refusal :=
  .next (
    let x := s.tpow t
    match x.episodeAt, x.freeAt with
    | some a, some f =>
      if f + 100000000 ≤ s.now then
        ((s.setTpow t { x with episodeAt := none, freeAt := none, seen := 0 }).raise Ev.THROTTLE_END 0 [t, x.seen, (f - a) / 1000]).logLine 2 [t, x.seen]
      else s
    | _, _ => s)

/-- CAP_UNREACHABLE holds every setting at its floor (R411). (DEDUCED, assumption 94) -/
def State.capHeld (s : State) : Bool := s.is PWR.STATUS.cap_unreachable

/-- The tile limiter (R395, R408, R404): u from its rails and its budget, what it issues at, and since when that is the floor. A budget that
POWER has not set yet limits nothing (DESIGN CHOICE, assumption 93). -/
def State.tileLimit (s : State) (t : Nat) : State :=
  let x := s.tpow t
  let failed := s.meterFailed (4 * t) || s.meterFailed (4 * t + 1)
  let uRail := if failed then s.uMin else s.issueOf (max (s.rail (4 * t)).excess (s.rail (4 * t + 1)).excess)
  let uBudget := if s.capHeld then s.uMin else if x.budget = 0 then 65536 else s.issueOf (excessOf (s.tileMw t) x.budget)
  let u := min uRail uBudget
  let s := s.setTpow t { x with u := u, uBudget := uBudget, uHigh := x.uHigh || decide (u ≥ 49152) }
  let all := s.uTile t
  let s := s.wr PWR.TILE_PS.issue (all / 4096 - 1) 0 t
  let s := s.setTpow t { s.tpow t with floorAt := if all ≤ s.uMin then (match x.floorAt with | some f => some f | none => some s.now) else none }
  (s.wr PWR.TILE_POWER.avg_w (min (s.tileMw t / 1000) 65535) 0 t).updateReasons t

/-- The issue fraction of a stack, and of Midway (R395, R408, R435); a failed meter holds it at u_min (R519). -/
def State.stackIssue (s : State) (k : Nat) : Nat :=
  let rails := [32 + k, 4 * (k / 2) + 2, 48, 49]
  let u := if rails.any s.meterFailed then s.uMin else s.issueOf ((rails.map fun n => (s.rail n).excess).foldl max 0)
  min (min u (if s.capHeld then s.uMin else s.power.uStacks)) (Assoc.get 65536 s.therm.uStack k)
def State.midwayIssue (s : State) : Nat := if s.meterFailed 50 then s.uMin else s.issueOf (s.rail 50).excess

/-! Caps (R406, R407, R409). -/

/-- The smallest of the four caps, and the lowest-listed one that binds. -/
def State.capNow (s : State) : Nat × Nat :=
  let caps := [s.rd PWR.CAP_RACK.limit_w, s.rd PWR.CAP_HOST.limit_w, s.rd PWR.CAP_THERMAL.limit_w, s.rd PWR.CAP_SAFETY.limit_w]
  caps.zipIdx.foldl (fun best c => if c.1 ≤ best.1 then c else best) (caps.headD 0, 0)

/-- R406, R409: the effective cap is recomputed; when it falls, every budget is scaled at once; POWER recomputes while it runs. -/
def State.capChanged (s : State) : State :=
  let (new, src) := s.capNow
  let old := s.rd PWR.CAP_MODULE.limit_w
  if new = old ∧ src = s.rd PWR.CAP_MODULE.source then s
  else
    let p0 := s.pool old
    let s := (s.wr PWR.CAP_MODULE.limit_w new).wr PWR.CAP_MODULE.source src
    let p1 := s.pool new
    let s := if new < old then
        (List.range 8).foldl (fun s t =>
          let x := s.tpow t
          let s := s.setTpow t { x with shift := if p0 = 0 then 0 else x.shift * p1 / p0 }
          s.setBudget t (if p0 = 0 then x.budget else x.budget * p1 / p0)) s
      else s
    let s := if s.runs 2 then s.budgets else s
    let s := (List.range 8).foldl (fun s t => s.tileLimit t) s
    s.raise Ev.CAP_CHANGED 0 [new, src]

/-- A written cap is clamped to its range. -/
def capClamp (v : Nat) : Nat := max 1500 (min 4800 v)
def State.setCap (s : State) (f : Fld) (v : Nat) : State := (s.wr f (capClamp v)).capChanged

/-- R393: what no table grants to a master is counted. -/
def State.rackOnly (s : State) (m : Nat) (act : State → State) : State := if m = TRAY ∨ m = SAFENET then act s else s.countDenied m .PWR 0

/-- CAP_WRITE (R406, R393): a write of CAP_RACK or CAP_HOST. -/
def State.capWrite (s : State) (m : Nat) (rack : Bool) (v : Nat) : State :=
  if rack then s.rackOnly m fun s => s.setCap PWR.CAP_RACK.limit_w v else s.setCap PWR.CAP_HOST.limit_w v
def execCapWrite (m : MasterId) (rack : Bool) (v : BitVec 16) (s : State) : Host.Outcome State Fault Refusal :=
  .next (s.gate m .PWR 0 (if rack then 0x040 else 0x044) fun s => s.capWrite m rack v.toNat)

/-- What CAP_CHANGE does at its beat (R407). -/
def State.capChange (s : State) (n : Nat) : State := s.setCap PWR.CAP_HOST.limit_w (s.slotParam0 n % 65536)

/-- What POWER_SHIFT does at its beat (R407, R409): the set's budgets, scaled to pool where they exceed it. -/
def State.powerShift (s : State) (n : Nat) : State :=
  let k := s.slotParam0 n % 4
  let ts := s.inService
  let want := fun t => s.rd PWR.SET.w 0 (8 * k + t) * 1000
  let sum := (ts.map want).foldl (· + ·) 0
  let pool := s.pool (s.rd PWR.CAP_MODULE.limit_w)
  let share := pool / max 1 ts.length
  let s := ts.foldl (fun s t =>
    let b := if sum > pool then want t * pool / sum else want t
    (s.setTpow t { s.tpow t with shift := (b : Int) - share }).setBudget t b |>.wr PWR.TILE_TR.shift_w (toPat 16 (((b : Int) - share) / 1000)) 0 t) s
  ts.foldl (fun s t => s.tileLimit t) s

/-- What PS_CHANGE does at its beat (R400). -/
def State.psChange (s : State) (n : Nat) : State :=
  let t := s.slotOwner n % 8
  ((s.wr PWR.TILE_PS.ceiling (s.slotParam0 n % 8) 0 t).movePoint t true).updateReasons t

/-! Clock skipping and gating (R404, R405). -/

/-- SKIP_TICK (R404): one clock in 16 less while u stays at its floor for a millisecond, one more while the power is below 90 % of the budget. -/
def State.skipTick (s : State) (t : Nat) : State :=
  let x := s.tpow t
  let duty := s.rd PWR.TILE_PS.duty 0 t
  if s.now < x.skipAt + 1000000 then s
  else
    let atFloor : Bool := match x.floorAt with | some f => decide (f + 1000000 ≤ s.now) | none => false
    let next := if atFloor then duty - 1 else if s.capHeld then duty else if s.tileMw t * 10 < x.budget * 9 ∨ x.budget = 0 then min 15 (duty + 1) else duty
    let s := (s.setTpow t { x with skipAt := s.now }).wr PWR.TILE_PS.duty next 0 t
    let skipping := (List.range 8).any fun t => s.rd PWR.TILE_PS.duty 0 t < 15
    (s.wr PWR.STATUS.skipping (if skipping then 1 else 0)).updateReasons t
def execSkipTick (t : TileId) (s : State) : Host.Outcome State Fault Refusal := .next (s.skipTick t)

/-- A core has nothing to do (R405): streams idle, at step end or waiting for a flag or a beat; no engine busy; no descriptor. -/
def State.coreIdle (s : State) (c : Nat) : Bool :=
  (List.range 4).all (fun n => let x := s.sn c n; x == snIDLE || x == snEND || x == snFLAG || x == snBEAT) &&
    (s.core c).cmds.isEmpty && (s.core c).descs.isEmpty
/-- Its engine clocks are gated; they come back when it wakes. -/
def State.isGated (s : State) (c : Nat) : Bool := Assoc.get false s.power.gated c && s.coreIdle c
/-- A tile whose present cores are all gated is barrier-idle. -/
def State.barrierIdle (s : State) (t : Nat) : Bool := (List.range 64).all fun l => !s.corePresent (64 * t + l) || s.isGated (64 * t + l)
/-- CORE_GATE (R405). -/
def execCoreGate (c : CoreId) (s : State) : Host.Outcome State Fault Refusal :=
  .next (
    let s := (s.putPower { s.power with gated := s.power.gated.filter fun x => s.coreIdle x.1 })
    if s.corePresent c && s.coreIdle c then (s.putPower { s.power with gated := Assoc.put false s.power.gated c true }) else s)

/-! What POWER does each millisecond (R396, R402, R403, R414). -/

def State.activeMw (s : State) (t : Nat) : Nat := let x := s.tpow t; x.actE / max 1 x.actN / 1000
/-- Power at the next point up, from what was measured at this one. -/
def State.nextMw (s : State) (t : Nat) : Nat :=
  let g := s.point t
  s.activeMw t * psPower (g - 1) / psPower g

/-- Part i of an amount divided in proportion to weights, by their running sums. -/
def shareOf (amount total before own : Nat) : Nat := if total = 0 then 0 else amount * (before + own) / total - amount * before / total

/-- A Tightrope pass (R414). -/
def State.tightrope (s : State) : State :=
  let ts := s.inService
  let late := fun t => let x := s.tpow t; if x.lateN = 0 then 0 else 1000 * x.lateSum / (x.lateDen * x.lateN)
  let s := (List.range 8).foldl (fun s t => s.wr PWR.TILE_LATE.late (min (late t) 65535) 0 t) s
  let recv := ts.filter fun t => let x := s.tpow t; x.lateN != 0 && decide (1000 * x.lateSum > s.rd PWR.TR_CFG.thresh * x.lateDen * x.lateN)
  let maxMw := s.rd PWR.TR_MAX.tile_max_w * 1000
  let step := s.rd PWR.TR_CFG.shift_w * 1000
  let cap := fun t => s.rd PWR.TILE_REASONS.reasons 0 t % 16 != 0
  let top := fun t => s.locked t || s.point t ≤ s.ceiling t
  let need := fun t =>
    let b := (s.tpow t).budget
    min (min (if top t then (if cap t then step else 0) else s.nextMw t - b) step) (maxMw - b)
  let donors := ts.filter fun t => !recv.contains t
  let avail := fun t => (s.tpow t).budget - s.tileMw t * (100 + s.rd PWR.TR_CFG.margin) / 100
  let sumOf := fun (l : List Nat) (f : Nat → Nat) => (l.map f).foldl (· + ·) 0
  let moved := min (sumOf recv need) (sumOf donors avail)
  let give := fun (l : List Nat) (f : Nat → Nat) (t : Nat) => shareOf moved (sumOf l f) (sumOf (l.takeWhile (· != t)) f) (f t)
  let delta := fun t => if recv.contains t then ((give recv need t : Nat) : Int) else if donors.contains t then -((give donors avail t : Nat) : Int) else 0
  let s := (List.range 8).foldl (fun s t =>
    let s := s.setTpow t { s.tpow t with shift := (s.tpow t).shift + delta t }
    let s := (s.wr PWR.TILE_TR.receiver (if recv.contains t then 1 else 0) 0 t).wr PWR.TILE_TR.donor (if donors.contains t && avail t > 0 then 1 else 0) 0 t
    let limit := recv.contains t && ((s.tpow t).budget ≥ maxMw || top t)
    let s := s.wr PWR.TILE_TR.at_limit (if limit then 1 else 0) 0 t
    let told := (s.tpow t).limitTold
    let s := s.setTpow t { s.tpow t with limitTold := limit || (told && recv.contains t) }
    if limit && !told then s.raise Ev.TIGHTROPE_LIMIT 0 [t, (s.tpow t).budget / 1000] else s) s
  let relax := if recv.isEmpty then s.power.relax + 1 else 0
  let s := (s.putPower { s.power with relax := relax })
  if relax < 1000 then s
  else ts.foldl (fun s t =>
    let x := s.tpow t
    s.setTpow t { x with shift := if x.shift > 1000 then x.shift - 1000 else if x.shift < -1000 then x.shift + 1000 else 0 }) s

/-- R396, R403: the point that POWER chooses for a tile moves by one at most. -/
def State.choosePower (s : State) (t : Nat) : State :=
  let x := s.tpow t
  let g := s.point t
  let slow := fun (n : Nat) => match (s.rail n).slowAt with | some a => decide (a + 1000000 ≤ s.now) | none => false
  let above := slow (4 * t) || slow (4 * t + 1)
  let clear := (s.rail (4 * t)).slowAt.isNone && (s.rail (4 * t + 1)).slowAt.isNone
  let x := { x with railLow := x.railLow && !clear, held := decide (g > 0) && decide (s.nextMw t > x.budget) && decide (x.budget ≠ 0) }
  let s := s.setTpow t x
  if above then s.setTpow t { x with psPower := min 7 (max x.psPower g + 1), railLow := true }
  else if x.uHigh = false then s.setTpow t { x with psPower := min 7 (max x.psPower g + 1) }
  else if x.psPower > 0 ∧ x.psPower ≥ g ∧ x.held = false ∧ s.reasonsOf t % 256 = 0 then s.setTpow t { x with psPower := x.psPower - 1 }
  else s

/-- R402: the bandwidth-bound point, from how busy engines and request slots were, in percent. -/
def State.chooseBw (s : State) (t busy slots : Nat) : State :=
  let x := s.tpow t
  let g := s.point t
  let k := s.rd PWR.BW_CFG.slots
  if !s.is PWR.CTRL.bw_en then s.setTpow t { x with psBw := x.psBw - 1 }
  else if busy < s.rd PWR.BW_CFG.busy_low ∧ slots ≥ k then s.setTpow t { x with psBw := min 7 (max x.psBw g + 1) }
  else if busy ≥ s.rd PWR.BW_CFG.busy_high ∨ slots + 10 ≤ k then s.setTpow t { x with psBw := x.psBw - 1 }
  else s

/-- What POWER measured since its last pass starts again. -/
def TilePower.restart (x : TilePower) : TilePower := { x with actE := 0, actN := 0, uHigh := false, lateSum := 0, lateDen := 1, lateN := 0 }

/-- R474: the main firmware's POWER releases SAFE_FLOOR, unless a cooling failure holds it (R467); tiles rise one point per pass. -/
def State.releaseFloor (s : State) : State :=
  if s.is SAFE.STATUS.safe_floor ∧ s.sfActive sfCF = false then
    let s := (List.range 8).foldl (fun s t => s.setTpow t { s.tpow t with psPower := 7 }) s
    (s.wr SAFE.STATUS.safe_floor 0).raise Ev.SAFE_FLOOR 0 [0]
  else s

/-- POWER_TICK (R402, R403, R408, R414): `busy` and `slots`, by tile, in percent of the last millisecond. -/
def State.powerTick (s : State) (busy slots : List (Fin 101)) : State :=
  if s.runs 2 = false ∨ s.pwr ≠ pON ∨ s.now < s.power.tickAt + 1000000 then s
  else
    let s := (s.putPower { s.power with tickAt := s.now }).releaseFloor
    let s := (List.range 8).foldl (fun s t => s.wr PWR.TILE_POWER.active_w (min (s.activeMw t / 1000) 65535) 0 t) s
    let s := if s.is PWR.CTRL.tr_en then s.tightrope else s
    let s := s.budgets
    let s := s.inService.foldl (fun s t =>
      let s := if s.locked t || s.is SAFE.STATUS.safe_floor || s.capHeld then s else (s.choosePower t).chooseBw t (busy.getD t 0).val (slots.getD t 0).val
      s.movePoint t true) s
    (List.range 8).foldl (fun s t => (s.setTpow t (s.tpow t).restart).tileLimit t) s
def execPowerTick (busy slots : List (Fin 101)) (s : State) : Host.Outcome State Fault Refusal := .next (s.powerTick busy slots)

/-- The voltage a rail is to have: VCORE_t follows its operating point (R388, R399). -/
def State.railTarget (s : State) (n : Nat) : Nat :=
  if n < 32 ∧ n % 4 = 0 then psMv (s.tpow (n / 4)).volt
  else s.railRd RAIL.NOMINAL.mv n
/-- Within 3 % of it (R388). -/
def nearTarget (target mv : Nat) : Bool := 97 * target ≤ 100 * mv && 100 * mv ≤ 103 * target

/-- PS_CHANGE_DONE (R399): the new voltage is power-good; going up, the clock switches now. -/
def execPsChangeDone (t : TileId) (s : State) : Host.Outcome State Fault Refusal :=
  .next (match (s.tpow t).move with
    | some m =>
      if nearTarget (psMv m.1) (((s.rail (4 * t)).hist.headD (0, 0)).2) then
        (((s.setTpow t { s.tpow t with move := none }).wr PWR.TILE_PS.ps m.1 0 t).movePoint t true).updateReasons t
      else s
    | none => s)

/-- Every tile and stack is at its floor (R411). -/
def State.allFloor (s : State) : Bool :=
  s.inService.all (fun t => s.point t == 7 && s.rd PWR.TILE_PS.duty 0 t == 0 && s.uTile t ≤ s.uMin) &&
    (List.range 16).all (fun k => s.hsState k != hsIN_SERVICE || s.stackIssue k ≤ s.uMin)

/-- Since when the module's 1 ms average exceeds the cap with every setting at its floor, and since when it does not exceed it (R411). -/
def State.capWatch (s : State) : State :=
  let above := s.moduleMw > s.rd PWR.CAP_MODULE.limit_w * 1000
  s.putPower { s.power with overAt := if above && s.allFloor then some (s.power.overAt.getD s.now) else none,
                            underAt := if above then none else some (s.power.underAt.getD s.now) }

/-- A moment lies a span back at least. -/
def past (at_ : Option Nat) (ns now : Nat) : Bool := match at_ with | some a => decide (a + ns ≤ now) | none => false

/-- CAP_UNREACHABLE (R411): 10 ms over the cap at every floor; it is cleared after 100 ms under it. -/
def State.capReach (s : State) : State :=
  let s := s.capWatch
  if past s.power.overAt 10000000 s.now ∧ s.is PWR.STATUS.cap_unreachable = false then
    let s := s.inService.foldl (fun s t => s.setTpow t { s.tpow t with psPower := 7 }) s
    ((s.wr PWR.STATUS.cap_unreachable 1).attn 4).raise Ev.CAP_UNREACHABLE 0 [s.rd PWR.CAP_MODULE.limit_w, s.moduleMw / 1000]
  else if past s.power.underAt 100000000 s.now then s.wr PWR.STATUS.cap_unreachable 0
  else s
def execCapUnreachable (s : State) : Host.Outcome State Fault Refusal := .next s.capReach

end Sys2Proof.Machine
end

