-- ==== Sys2Proof/Machine/Rails.lean ====
section
/-! DEFINITION. The rails: sequencing up and down (R385 to R391), a rack power-off (R392), limits (R394), samples, cuts and energy (R386,
R395, R397, R417, R465). -/

namespace Sys2Proof.Machine

/-! Groups. -/

/-- A rail that a sequence raises: it is not latched off, and no retired stack's (R385, R465). -/
def State.railWanted (s : State) (n : Nat) : Bool := !s.railCutBit n && !(32 ≤ n && n < 48 && s.hsState (n - 32) == hsRETIRED)
def State.groupRails (s : State) (g : Nat) : List Nat := (List.range 51).filter fun n => s.railRd RAIL.CFG.group n == g
def State.railMv (s : State) (n : Nat) : Nat := ((s.rail n).hist.headD (0, 0)).2

/-- A group is enabled: each of its rails is brought up over PMBus (R386, R502). (DEDUCED, assumption 129) -/
def State.enableGroup (s : State) (g : Nat) : State :=
  let s := (s.putPower { s.power with seq := some (true, g, s.now) })
  ((s.groupRails g).filter s.railWanted).foldl State.bringUp s

/-- A group is disabled. (DEDUCED, assumption 129) -/
def State.disableGroup (s : State) (g : Nat) : State :=
  let s := (s.putPower { s.power with seq := some (false, g, s.now) })
  (s.groupRails g).foldl (fun s n => if s.railState n = 0 ∨ s.railState n = 4 then s else (s.pmbus n 3 [0x01, 0x00] 0).railOff n (if s.railState n = 3 then 3 else 0)) s

/-- R389: the rails are lowered from a group down. -/
def State.startLowering (s : State) (g : Nat) : State :=
  let s := (s.putPower { s.power with rackAt := none })
  ((s.cutTests (fun _ => true) 4).wr PWR.STATUS.state pSEQ_DOWN).disableGroup g

/-- The rails are down (Table 12.3). -/
def State.lowered (s : State) : State :=
  let s := (s.putPower { s.power with seq := none })
  let s := s.sequenceEnds 2
  if s.pwr = pCUT then s else s.wr PWR.STATUS.state (if s.is PWR.RACK.hold then pHELD else pSTANDBY)

/-- R337: a configuration area has been selected, a pump has answered; R461: Safety Net's shared paths have passed. -/
def State.mayRaise (s : State) : Bool :=
  s.fw.area.isSome && (s.rd COOL.DRIVE.state 0 0 == 3 || s.rd COOL.DRIVE.state 0 1 == 3) && s.is SAFE.STATUS.selftest_ok

/-- Groups 1 to 7 are raised (R388); VCORE comes up at PS7. -/
def State.powerUp (s : State) : State :=
  let s := (List.range 8).foldl (fun s t => (s.setTpow t { s.tpow t with move := none, volt := 7, psPower := 7 }).wr PWR.TILE_PS.ps 7 0 t) s
  (s.wr PWR.STATUS.state pSEQ_UP).enableGroup 1

/-- The boot passes to WAIT_MAIN once the rails are up and no stack trains any more (Table 11.1). -/
def State.bootAdvance (s : State) : State :=
  if s.rd FW.STATUS.stage = 2 ∧ s.pwr = pON ∧ (List.range 16).all (fun k => s.hsState k != hsTRAINING) then
    ((s.wr FW.STATUS.stage 4).putFw { s.fw with stageAt := s.now })
  else s

/-- STACK_TRAINING_COMPLETE (R166, R516). -/
def execStackTrainingComplete (k : StackId) (trained pass : Bool) (lanes : BitVec 64) (s : State) : Host.Outcome State Fault Refusal :=
  .next (s.trainingComplete k trained pass lanes.toNat).bootAdvance

/-- What follows a raised group: after group 4 the memory domains, Midway and the stacks' training (Table 11.1, R166, R235). (DEDUCED, assumption 86) -/
def State.memoryUp (s : State) : State :=
  let s := (List.range 8).foldl (fun s t =>
    if s.tileLost t then s
    else (List.range 3).foldl (fun s d =>
      if s.tileLost (t ^^^ 2 ^ d) || (Assoc.get none s.fab.links (linkKey t d)).isSome then s else s.setLink t d true) (s.wr MIDWAY.STATUS.mgmt_up 1 t)) s
  (List.range 16).foldl (fun s k => if s.hsState k = hsOFF ∧ s.tileLost (k / 2) = false then s.wr HS.STATUS.state hsTRAINING k else s) s

/-- After group 7 the tiles are powered; at a cold start their start-up tests end with the outcomes given (R516, R573). -/
def State.tilesUp (s : State) (fails : List (StartBlock × Bool)) : State :=
  let s := (List.range 8).foldl (fun s t =>
    if s.tileLost t || !s.railGood (4 * t) || !s.railGood (4 * t + 1) then s
    else s.tileUpAgain t) s
  if s.rd FW.STATUS.stage = 2 then s.startOutcomes fails else s

/-- RAIL_GROUP_GOOD (R388): the group has been power-good for the group gap. (DEDUCED, assumption 102) -/
def State.groupGood (s : State) (fails : List (StartBlock × Bool)) : State :=
  match s.power.seq with
  | some (true, g, at_) =>
    let rs := (s.groupRails g).filter s.railWanted
    let last := rs.foldl (fun a n => max a ((s.rail n).goodAt.getD 0)) at_
    if s.pwr = pSEQ_UP ∧ rs.all s.railGood ∧ last + s.power.gap * 1000 ≤ s.now then
      let s := if g = 4 then s.memoryUp else s
      if g < 7 then s.enableGroup (g + 1)
      else
        let s := (s.putPower { s.power with seq := none })
        let s := (s.wr PWR.STATUS.state pON).tilesUp fails
        (s.sequenceEnds 2).bootAdvance
    else s
  | _ => s
def execRailGroupGood (fails : List (StartBlock × Bool)) (s : State) : Host.Outcome State Fault Refusal := .next (s.groupGood fails)

/-- A rail's event bit (R423). -/
def railEvent (n : Nat) : Ev := ⟨.RAIL, n % 8, 1⟩

/-- RAIL_WINDOW_MISSED (R390). -/
def State.windowMissed (s : State) (n : Nat) : State :=
  match s.power.seq with
  | some (true, g, at_) =>
    let due := ((s.rail n).enabledAt.getD at_) + Assoc.get 20 s.power.windows n * 100000
    if s.pwr = pSEQ_UP ∧ s.railRd RAIL.CFG.group n = g ∧ s.railWanted n ∧ s.railGood n = false ∧ due ≤ s.now then
      let s := ((s.railOff n 3).raise (railEvent n) (n / 8)).raise Ev.SEQ_FAULT 0 [n, g]
      let s := s.sequenceEnds 5
      s.startLowering g
    else s
  | _ => s
/-- DEDUCED assumption 98, DEDUCED assumption 102, DEDUCED assumption 129. -/
def execRailWindowMissed (n : RailId) (s : State) : Host.Outcome State Fault Refusal := .next (if n.val < 51 then s.windowMissed n else s)

/-- Rails of a group that are not below 10 % of their targets (R389). -/
def State.notDown (s : State) (g : Nat) : List Nat := (s.groupRails g).filter fun n => s.railMv n * 10 ≥ s.railTarget n && s.railTarget n != 0 && s.railWanted n
def State.nextDown (s : State) (g : Nat) : State := if g ≤ 1 then s.lowered else s.disableGroup (g - 1)

/-- RAIL_GROUP_DOWN (R389). -/
def execRailGroupDown (s : State) : Host.Outcome State Fault Refusal :=
  .next (match s.power.seq with
    | some (false, g, _) => if (s.notDown g).isEmpty then s.nextDown g else s
    | _ => s)

/-- SEQ_DOWN_TIMEOUT (R389). -/
def execSeqDownTimeout (s : State) : Host.Outcome State Fault Refusal :=
  .next (match s.power.seq with
    | some (false, g, at_) =>
      if at_ + s.power.downT * 100000 ≤ s.now then
        match s.notDown g with
        | n :: _ => (s.raise Ev.SEQ_FAULT 0 [n, g]).nextDown g
        | [] => s
      else s
    | _ => s)

/-! PWR.CMD and the rack's orders (R391 to R393). -/

/-- PWR_UP (Table 12.3): refused STATE unless STANDBY with the hold clear and R337 met, BUSY while a sequence runs (DEDUCED, assumption 98). -/
def execPwrUp (m : MasterId) (s : State) : Host.Outcome State Fault Refusal :=
  .next (s.gate m .PWR 0 0x068 fun s =>
    if s.pwr = pSEQ_UP ∨ s.pwr = pSEQ_DOWN then s.wr PWR.CMD_RESULT.result 3
    else if s.pwr = pSTANDBY ∧ s.is PWR.RACK.hold = false ∧ s.mayRaise then s.sequenceStarts.powerUp
    else s.wr PWR.CMD_RESULT.result 4)

/-- PWR_DOWN (Table 12.3). (DEDUCED, assumption 98) -/
def execPwrDown (m : MasterId) (s : State) : Host.Outcome State Fault Refusal :=
  .next (s.gate m .PWR 0 0x068 fun s =>
    if s.pwr = pON then
      if (List.range 16).any s.running then s.wr PWR.CMD_RESULT.result 3 else s.sequenceStarts.startLowering 7
    else s.wr PWR.CMD_RESULT.result (if s.pwr = pSEQ_UP ∨ s.pwr = pSEQ_DOWN then 3 else 4))

/-- R392: every partition is STOPPED, and the rails go down. (DEDUCED, assumption 99) -/
def State.rackLower (s : State) : State := (s.stopAll fPOWER_OFF).startLowering 7
/-- They do once no partition runs any more. -/
def State.rackCheck (s : State) : State :=
  if s.power.rackAt.isSome ∧ s.pwr = pON ∧ (List.range 16).any s.running = false then s.rackLower else s

/-- A rack power-off order (R392); in CUT it only sets the hold (R468); during SEQ_UP it lowers what is up (DEDUCED, assumption 99). -/
def State.rackOff (s : State) (grace : Nat) : State :=
  let s := ((s.wr PWR.RACK.hold 1).wr PWR.RACK.grace_ms (min grace 60000)).raise Ev.RACK_OFF 0 [min grace 60000]
  if s.pwr = pON then
    let s := s.forParts State.running (fun s p => s.setCause p 8)
    (s.putPower { s.power with rackAt := some s.now }).rackCheck
  else if s.pwr = pSEQ_UP then
    match s.power.seq with
    | some (true, g, _) => (s.sequenceEnds 5).startLowering g
    | _ => s
  else s
def execRackOff (m : MasterId) (grace : BitVec 16) (s : State) : Host.Outcome State Fault Refusal :=
  .next (s.gate m .PWR 0 0x064 fun s => s.rackOnly m fun s => s.rackOff grace.toNat)

/-- RACK_GRACE_EXPIRE (R392). -/
def execRackGraceExpire (s : State) : Host.Outcome State Fault Refusal :=
  .next (match s.power.rackAt with
    | some a => if s.pwr = pON ∧ a + s.rd PWR.RACK.grace_ms * 1000000 ≤ s.now then s.rackLower else s
    | none => s)

/-- RACK_RELEASE (Table 12.3). (DEDUCED, assumption 99) -/
def State.rackRelease (s : State) : State := let s := s.wr PWR.RACK.hold 0; if s.pwr = pHELD then s.wr PWR.STATUS.state pSTANDBY else s
def execRackRelease (m : MasterId) (s : State) : Host.Outcome State Fault Refusal :=
  .next (s.gate m .PWR 0 0x064 fun s => s.rackOnly m State.rackRelease)

/-! Limits (R394). -/

def limitsOk (l1 l20 l2 full : Nat) : Bool := l1 ≤ l20 && l20 ≤ l2 && 10 * l2 ≤ 14 * l1 && 14 * l1 ≤ 10 * full

/-- A limit is stored, or ignored: `which`: 0 LIM_1MS, 1 LIM_20US, 2 LIM_2US. -/
def State.limitWrite (s : State) (n which v : Nat) : State :=
  let l := fun (k : Nat) (f : Fld) => if which = k then v else s.railRd f n
  if limitsOk (l 0 RAIL.LIM_1MS.a10) (l 1 RAIL.LIM_20US.a10) (l 2 RAIL.LIM_2US.a10) (s.railRd RAIL.FULL_SCALE.a10 n) then
    s.railWr (if which = 0 then RAIL.LIM_1MS.a10 else if which = 1 then RAIL.LIM_20US.a10 else RAIL.LIM_2US.a10) n v
  else s
/-- LIMIT_WRITE (R394). -/
def execLimitWrite (m : MasterId) (n : RailId) (which : Fin 3) (v : BitVec 16) (s : State) : Host.Outcome State Fault Refusal :=
  .next (s.gate m .RAIL (n.val / 8) (0x040 + 0x40 * (n.val % 8) + 4 * which.val) fun s => s.limitWrite n which v.toNat)

/-! Energy (R417). -/

/-- An amount divided in proportion to weights; where they are all 0 the spec gives no division: it is free. (DEDUCED, assumption 101) -/
def State.divide (s : State) (e : Nat) (ws : List (Nat × Nat)) : List (Nat × Nat) × State :=
  let total := (ws.map (·.2)).foldl (· + ·) 0
  if total = 0 then
    let r := ws.foldl (fun (a : List (Nat × Nat) × Nat × State) w =>
      let (f, s) := a.2.2.fresh
      let x := f % (a.2.1 + 1)
      (a.1 ++ [(w.1, x)], a.2.1 - x, s)) ([], e, s)
    (match r.1 with | h :: t => (h.1, h.2 + r.2.1) :: t | [] => [], r.2.2)
  else
    ((ws.foldl (fun (a : List (Nat × Nat) × Nat) w => (a.1 ++ [(w.1, shareOf e total a.2 w.2)], a.2 + w.2)) ([], 0)).1, s)

/-- A half's energy goes to the partition that holds it, or to UNATTRIB. (DEDUCED, assumption 101) -/
def State.halfEnergy (s : State) (x : Nat × Nat) : State :=
  match s.holder x.1 with | some p => s.addEnergy p x.2 | none => s.addEnergy 81 x.2

/-- R417: the energy of a sample of rail n; `w`: by half, activity counts or bytes of that sample. (DEDUCED, assumption 101) -/
def State.attribute (s : State) (n e : Nat) (w : List Nat) : State :=
  let s := (s.setRail n { s.rail n with energy := (s.rail n).energy + e }).addEnergy 80 e
  if n < 32 then
    let t := n / 4
    let (parts, s) := s.divide e [(2 * t, w.getD (2 * t) 0), (2 * t + 1, w.getD (2 * t + 1) 0)]
    parts.foldl State.halfEnergy (s.addEnergy (82 + t) e)
  else if n < 48 then (s.addEnergy (90 + (n - 32)) e).halfEnergy (n - 32, e)
  else if n = 48 ∨ n = 49 then
    let moved := w.any (· != 0)
    let ws := (List.range 16).map fun h => (h, if moved then w.getD h 0 else if s.hsState h = hsIN_SERVICE then 1 else 0)
    let (parts, s) := s.divide e ws
    parts.foldl (fun s x => (s.addEnergy (90 + x.1) x.2).halfEnergy x) s
  else if n = 50 then
    let (parts, s) := s.divide e ((List.range 16).map fun h => (h, w.getD h 0))
    parts.foldl State.halfEnergy s
  else s.addEnergy 81 e

/-! Samples (R386, R394, R395, R412). -/

/-- Window averages, peaks and what exceeds a limit. -/
def State.railWindows (s : State) (n : Nat) : State :=
  let r := s.rail n
  let s8 := winSum r.hist 8
  let s80 := winSum r.hist 80
  let s4000 := winSum r.hist 4000
  let e2 := excessOf s8 (800 * s.railRd RAIL.LIM_2US.a10 n)
  let e20 := excessOf s80 (8000 * s.railRd RAIL.LIM_20US.a10 n)
  let e1 := excessOf s4000 (400000 * s.railRd RAIL.LIM_1MS.a10 n)
  let fast := e2 > 0 || e20 > 0
  let s := s.railWr RAIL.I_PEAK.a10 n (max (s.railRd RAIL.I_PEAK.a10 n) (min (s8 / 800) 65535))
  let s := (s.railWr RAIL.I.a10 n (min (s4000 / 400000) 65535)).railWr RAIL.V.mv n (((r.hist.take 4000).map (·.2)).foldl (· + ·) 0 / 4000)
  let s := s.railWr RAIL.STATUS.limiting n (if fast || e1 > 0 then 1 else 0)
  let s := if fast && !r.fast then s.add RAIL.LIMIT_EVENTS.fast 1 (n / 8) (n % 8) else s
  let s := if e1 > 0 ∧ r.slowAt.isNone then s.add RAIL.LIMIT_EVENTS.slow 1 (n / 8) (n % 8) else s
  s.setRail n { r with fast := fast, slowAt := if e1 > 0 then (match r.slowAt with | some a => some a | none => some s.now) else none,
                       excess := max e2 (max e20 e1) }

/-- The scope of a rail cut (Table 14.2). -/
def State.cutScope (s : State) (n : Nat) : State :=
  if n < 32 then
    if n % 4 = 2 then (List.range 4).foldl (fun s i => if s.railCutBit (n - 2 + i) then s.railOff (n - 2 + i) 4 else s.railOff (n - 2 + i) 0) (s.memoryLoss (n / 4))
    else s.tileCut (n / 4)
  else if n < 48 then s.stackCut (n - 32)
  else if n < 51 then s.emergencyLowering
  else s.mgmtDown.enterNone 5

/-- R397, R465: a rail is cut by SF-OC or SF-SQ and latched off. -/
def State.railCut (s : State) (n f : Nat) : State :=
  if s.railCutBit n then s
  else
    let i := winSum (s.rail n).hist 8 / 800
    let s := (((s.setRail n { s.rail n with cutBy := f }).setCutBit n true)).railOff n 4
    let s := ((s.raise (railEvent n) (n / 8)).raise Ev.RAIL_CUT 0 [n, i]).sfActs f n
    s.cutScope n

/-- A rail that is not part of a sequence is good again after RAIL_ON (Table 14.2): a tile's compute domain, the management die. -/
def State.railBack (s : State) (n : Nat) : State :=
  if n = 51 then (s.putFw { s.fw with restart := true })
  else if n < 32 ∧ n % 4 < 2 ∧ s.pwr = pON ∧ (s.tile (n / 4)).resetAt.isNone then
    let t := n / 4
    if s.railGood (4 * t) && s.railGood (4 * t + 1) && !s.tileLost t then s.tileUpAgain t else s
  else s

/-- A rail comes within 3 % of its target, or leaves it: while ON, that is SF-SQ (R388, R462). (DEDUCED, assumption 95) -/
def State.railWatch (s : State) (n mv : Nat) : State :=
  let near := nearTarget (s.railTarget n) mv
  let moving := n < 32 && n % 4 == 0 && (s.tpow (n / 4)).move.isSome
  if s.railState n = 1 ∧ (s.rail n).enabledAt.isSome then
    if near then
      let s := (s.setRail n { s.rail n with goodAt := some s.now }).railWr RAIL.STATUS.state n 2
      if s.pwr = pSEQ_UP then s else s.railBack n
    else s
  else if s.railState n = 2 ∧ near = false ∧ moving = false then
    if s.pwr = pON then s.railCut n sfSQ
    else if s.pwr = pSEQ_UP ∧ n < 51 then (s.setRail n { s.rail n with goodAt := none }).railWr RAIL.STATUS.state n 1
    else s
  else s

/-- Tiles whose limiter a rail's sample concerns. -/
def railTiles (n : Nat) : List Nat := if n < 32 then [n / 4] else if n < 48 then [(n - 32) / 2] else if n < 50 then List.range 8 else []

/-- The energy of the tile's rails while some core is not barrier-idle (R403). -/
def State.noteActive (s : State) (n : Nat) : State :=
  if n < 32 ∧ n % 4 = 0 ∧ s.barrierIdle (n / 4) = false then
    let p := ((tileRails (n / 4)).map fun k => let x := (s.rail k).hist.headD (0, 0); x.1 * x.2).foldl (· + ·) 0
    s.setTpow (n / 4) { s.tpow (n / 4) with actE := (s.tpow (n / 4)).actE + p, actN := (s.tpow (n / 4)).actN + 1 }
  else s

/-- RAIL_SAMPLE (R386): one sample of a rail, every 250 ns. -/
def State.railSample (s : State) (n mA mV : Nat) (w : List Nat) : State :=
  let s := s.setRail n { s.rail n with hist := ((mA, mV) :: (s.rail n).hist).take 4000 }
  let s := ((s.attribute n (mA * mV / 4) w).railWindows n).noteActive n
  let on := !s.railDown n
  let s := if on && 2 * winSum (s.rail n).hist 8 > 2400 * s.railRd RAIL.LIM_1MS.a10 n then s.railCut n sfOC else s.railWatch n mV
  ((railTiles n).foldl State.tileLimit s).capWatch
def execRailSample (n : RailId) (mA : BitVec 20) (mV : BitVec 12) (w : List (BitVec 32)) (s : State) : Host.Outcome State Fault Refusal :=
  .next (s.railSample n mA.toNat mV.toNat (w.map BitVec.toNat))

end Sys2Proof.Machine
end

