-- ==== Sys2Proof/Machine/Thermal.lean ====
section
/-! DEFINITION. Sensors, demands and trust (R425 to R433), what follows temperature (R161, R162, R435), the thermal cap (R437) and the trip
comparators (R439 to R441). Temperatures are in 0.125 °C. -/

namespace Sys2Proof.Machine

/-! Readings in use (R430, R432). -/

/-- The neighbours of a sensor (R430). -/
def neighbours (n : Nat) : List Nat :=
  if n < 64 then ((List.range 8).map (8 * (n / 8) + ·)).filter (· != n)
  else if n < 96 then
    let k := (n - 64) / 2
    [64 + 2 * k, 65 + 2 * k, 64 + 2 * (k ^^^ 1), 65 + 2 * (k ^^^ 1)].filter (· != n)
  else [96, 97, 98, 99].filter (· != n)

/-- The median; of an even number of values the mean of the middle two, rounded down (DEDUCED, assumption 104). -/
def median (l : List Int) : Int :=
  let m := l.mergeSort (· ≤ ·)
  let k := m.length
  if k % 2 = 1 then m.getD (k / 2) 0 else (m.getD (k / 2 - 1) 0 + m.getD (k / 2) 0) / 2

def State.trustedTemps (s : State) (l : List Nat) : List Int := (l.filter fun n => (s.sens n).state == ssTRUSTED).map fun n => (s.sens n).temp
/-- The trip threshold. -/
def State.tripC (s : State) : Nat := s.rd THERM.TRIP.threshold_c
/-- The hottest plausible value for a tile (R432). -/
def State.hotTile (s : State) : Int := 8 * ((s.tripC : Int) - 5)

/-- The reading in use of a sensor; none where it is pending, or failed with no trusted neighbour. -/
def State.inUse (s : State) (n : Nat) : Option Int :=
  let x := s.sens n
  if x.state = ssTRUSTED then some x.temp
  else if x.state = ssFAILED then (let l := s.trustedTemps (neighbours n); if l.isEmpty then none else some (median l))
  else none

/-- T_t of R435. -/
def State.tileTemp (s : State) (t : Nat) : Int := ((List.range 8).map fun i => (s.inUse (8 * t + i)).getD s.hotTile).foldl max (-32768)
/-- A tile with fewer than two trusted sensors is untrusted (R432). -/
def State.tileTrusted (s : State) (t : Nat) : Bool := (s.trustedTemps ((List.range 8).map (8 * t + ·))).length ≥ 2
/-- The hotter reading in use of a stack, none where neither of its sensors is trusted (R162). -/
def State.stackTemp (s : State) (k : Nat) : Option Int :=
  let own := [64 + 2 * k, 65 + 2 * k]
  if (s.trustedTemps own).isEmpty then none else some ((own.filterMap s.inUse).foldl max (-32768))

/-! Demands (R425, R426). -/

/-- Sensors of the groups of a demand, in index order (Table 13.1). -/
def groupSensors (g : Nat) : List Nat :=
  (if g.testBit 0 then List.range 64 else []) ++ (if g.testBit 1 then (List.range 32).map (64 + ·) else []) ++
    (if g.testBit 2 then [96, 97, 98, 99] else [])

/-- A demand waits behind those that run and those of higher or equal priority (DEDUCED, assumption 103). -/
def demandInsert (running : Nat) (d : Nat × Nat) : List (Nat × Nat) → List (Nat × Nat)
  | [] => [d]
  | e :: es => if d.1 < e.1 ∧ (e.2 &&& running) ≠ 0 then d :: e :: es else e :: demandInsert (running ||| e.2) d es
/-- DEDUCED assumption 103. -/
def State.demand (s : State) (source groups : Nat) : State :=
  (s.putTherm { s.therm with demands := demandInsert 0 (source, groups) s.therm.demands })

/-- SENSOR_DEMAND (R427): action 0x09 of a slot. -/
def execSensorDemand (n : SlotId) (s : State) : Host.Outcome State Fault Refusal :=
  .next (if s.dueAlone n actSensorDemand then (s.slotFire n).demand 1 (s.slotParam0 n % 8) else s)
/-- SAFETY_NET_DEMAND (R427). -/
def execSafetyNetDemand (s : State) : Host.Outcome State Fault Refusal := .next (s.demand 0 7)
/-- DEMAND (R425); refused BUSY while one of the host's runs. -/
def execSensorDemandCmd (m : MasterId) (groups : Fin 8) (s : State) : Host.Outcome State Fault Refusal :=
  .next (s.gate m .THERM 0 0x050 fun s =>
    if s.therm.demands.any (fun d => d.1 == 3) then s.wr THERM.CMD_RESULT.result 3 else (s.wr THERM.CMD_RESULT.result 1).demand 3 groups)

/-! Trust (R429 to R431). -/

/-- A reading is taken: recorded, and a trusted sensor that gives an implausible one fails. (DEDUCED, assumption 104) -/
def State.takeReading (s : State) (source : Nat) (x : Nat × Reading) : State :=
  let n := x.1
  let t := sext 16 x.2.temp.toNat
  let conv := if n < 64 then n / 4 else if n < 96 then 16 + (n - 64) / 2 else 32
  let ok := !x.2.late && decide (-160 ≤ t) && decide (t ≤ 1200) && !(s.conv conv).failed
  let y := s.sens n
  let s := s.setSens n { y with temp := if ok then t else y.temp, plausible := ok, source := source, goods := if ok then y.goods else 0 }
  if y.state = ssTRUSTED ∧ ok = false then s.sensorFails n 2 else s

/-- SF-SN ends when no sensor is failed any more (Table 14.1). -/
def State.snCleared (s : State) : State := if (List.range 100).any (fun n => (s.sens n).state == ssFAILED) then s else s.sfEnds sfSN

/-- The cross-check of a plausible reading; ten in a row that pass make a pending sensor trusted. (DEDUCED, assumption 104) -/
def State.crossCheck (s : State) (n : Nat) : State :=
  let x := s.sens n
  if x.plausible = false ∨ x.state = ssFAILED then s
  else
    let l := s.trustedTemps (neighbours n)
    let differs := s.is THERM.CTRL.xcheck_en && l.length ≥ 3 && (x.temp - median l).natAbs > 8 * s.rd THERM.XCHECK.disagree_c
    if differs then
      let s := s.setSens n { x with bads := x.bads + 1, goods := 0 }
      if x.bads + 1 ≥ s.rd THERM.XCHECK.count then s.sensorFails n 1 else s
    else
      let s := s.setSens n { x with bads := 0, goods := min 10 (x.goods + 1) }
      if x.state = ssPENDING ∧ x.goods + 1 ≥ 10 then
        let s := s.setSens n { s.sens n with state := ssTRUSTED, restoring := false }
        if x.restoring then s.raise Ev.SENSOR_RESTORED 0 [n] else s
      else s

/-- RESTORE (R431): of a failed sensor; refused STATE otherwise. -/
def execSensorRestore (m : MasterId) (n : Fin 128) (s : State) : Host.Outcome State Fault Refusal :=
  .next (s.gate m .THERM 0 0x050 fun s =>
    if n.val < 100 ∧ (s.sens n).state = ssFAILED then
      let s := s.setSens n { s.sens n with state := ssPENDING, goods := 0, bads := 0, restoring := true }
      ((s.setBit THERM.FAILED.failed (n.val % 32) false 0 (n.val / 32)).wr THERM.CMD_RESULT.result 2).snCleared
    else s.wr THERM.CMD_RESULT.result 4)

/-! Thermal issue fractions (R435, R432). -/

/-- u_T of a reading above or below a limit. (DEDUCED, assumption 108) -/
def State.uOfTemp (s : State) (t : Int) (limitC : Nat) : Nat :=
  let above := (t - 8 * limitC).toNat
  max s.uMin (65536 - min 65536 (s.rd THERM.GAIN.k * above * 32))
def State.setUTile (s : State) (t u : Nat) : State :=
  let s := (s.putTherm { s.therm with uTile := Assoc.put 65536 s.therm.uTile t u })
  (s.wr THERM.TILE.u_t (u / 4096 - 1) 0 t).tileLimit t

/-- Trust of the tiles: an untrusted one is held at u_min. (DEDUCED, assumption 104) -/
def State.tileTrust (s : State) : State :=
  (List.range 8).foldl (fun s t =>
    let was := (s.rd THERM.STATUS.tile_untrusted).testBit t
    if s.tileTrusted t then s.setBit THERM.STATUS.tile_untrusted t false
    else
      let s := (s.setBit THERM.STATUS.tile_untrusted t true).setUTile t s.uMin
      if was then s else s.raise Ev.TILE_UNTRUSTED 0 [t]) s

/-- The thermal loop's reading of a tile. -/
def State.loopTile (s : State) (t : Nat) : State :=
  let temp := s.tileTemp t
  let s := s.wr THERM.TILE.hottest (toPat 16 temp) 0 t
  if !s.tileTrusted t then s
  else s.setUTile t (if s.is THERM.CTRL.loop_en then s.uOfTemp temp (s.rd THERM.LIMITS.tile_c) else 65536)
/-- And of a stack; untrusted, the representative temperature of band 3 stands for it (R432, R433). -/
def State.loopStack (s : State) (k : Nat) : State :=
  let temp := (s.stackTemp k).getD 920
  let u := if s.is THERM.CTRL.loop_en then s.uOfTemp temp (s.rd THERM.LIMITS.stack_c) else 65536
  (s.putTherm { s.therm with uStack := Assoc.put 65536 s.therm.uStack k u })

/-- R433: some circuit uses a fall-back trim. -/
def State.fallback (s : State) : Bool :=
  (s.inUse 96).isNone || (List.range 8).any (fun t => (s.inUse (8 * t)).isNone || !s.tileTrusted t) || (List.range 16).any (fun k => (s.stackTemp k).isNone)

/-- What each completed demand of the loop sets (R433, R435). -/
def State.thermalLoop (s : State) : State :=
  let s := (List.range 16).foldl State.loopStack s
  let s := (List.range 8).foldl State.loopTile s
  s.wr THERM.STATUS.fallback (if s.fallback then 1 else 0)

/-! Bands (R161, R162). -/

def bandOf (t : Int) : Nat := if t > 840 then 3 else if t > 760 then 2 else if t > 680 then 1 else 0
/-- The lower bound of a band. -/
def bandLow (b : Nat) : Int := [0, 680, 760, 840].getD b 0

def State.bandRead (s : State) (k : Nat) : State :=
  let x := s.stk k
  match s.stackTemp k with
  | none => s.bandUntrusted k
  | some t =>
    let s := (s.wr BAND.STATUS.trusted 1 k).wr BAND.TEMP.temp (toPat 16 t) k
    let b := bandOf t
    if b > x.measured then s.setStk k { x with dwellAt := none, bandUp := some (max b (x.bandUp.getD 0)) }
    else if x.measured > 0 ∧ x.bandUp.isNone ∧ t ≤ bandLow x.measured - 24 then
      s.setStk k { x with dwellAt := match x.dwellAt with | some a => some a | none => some s.now }
    else s.setStk k { x with dwellAt := none }

/-! Trips (R439 to R441). -/

/-- The trip latch is set; `how`: 1 comparator, 2 conversion. -/
def State.trip (s : State) (site how : Nat) : State :=
  if s.is THERM.TRIP.latched then s
  else
    let s := ((s.wr THERM.TRIP.latched 1).wr THERM.TRIP.site site).wr THERM.STATUS.tripped 1
    let s := (s.wr SAFE.OUTPUTS.thermtrip_n 0).raise Ev.THERMTRIP 0 [site, how]
    (s.sfActs sfOT site).emergencyLowering

/-- A Safety Net conversion at or above the threshold; a failed sensor's reading is replaced (R430, DEDUCED, assumption 106). -/
def State.tripConversion (s : State) (sensors : List Nat) : State :=
  match sensors.find? fun n => let x := s.sens n; x.plausible && x.state != ssFAILED && x.temp ≥ 8 * s.tripC with
  | some n => s.trip n 2
  | none => s

/-- TRIP_COMPARATOR (R439, R440); a site that the self-test marked is covered by the conversions (R461). -/
def execTripComparator (n : Fin 100) (s : State) : Host.Outcome State Fault Refusal :=
  .next (if s.safety.sites.contains n.val then s
    else ((s.setSens n { s.sens n with tripped := true }).wr THERM.TRIP.released 0).trip n 1)

/-- COMPARATOR_RELEASE (R439). -/
def execComparatorRelease (n : Fin 100) (s : State) : Host.Outcome State Fault Refusal :=
  .next (if (s.sens n).tripped then
      let s := s.setSens n { s.sens n with tripped := false }
      if (List.range 100).any (fun k => (s.sens k).tripped) then s
      else ((s.wr THERM.TRIP.released 1).putTherm { s.therm with releasedAt := s.now })
    else s)

/-- TRIP_CLEAR (R441). -/
def State.tripClear (s : State) (m : Nat) : State :=
  if !(m == SAFENET || m == TRAY) then s.wr THERM.CMD_RESULT.result 5
  else if s.is THERM.TRIP.released ∧ s.therm.releasedAt + 10000000000 ≤ s.now then
    let s := ((s.wr THERM.TRIP.latched 0).wr THERM.STATUS.tripped 0).wr SAFE.OUTPUTS.thermtrip_n 1
    ((s.raise Ev.TRIP_CLEARED 0 [m]).sfEnds sfOT).wr THERM.CMD_RESULT.result 2
  else s.wr THERM.CMD_RESULT.result 4
def execTripClear (m : MasterId) (s : State) : Host.Outcome State Fault Refusal := .next (s.gate m .THERM 0 0x050 fun s => s.tripClear m)

/-! The cooling table engine (R450). -/

/-- Linear between the entries, held at the ends, whole millivolts (DEDUCED, assumption 107). -/
def interpolate (table : List (Int × Nat × Nat)) (pick : Nat × Nat → Nat) (t : Int) : Nat :=
  match table.find? (fun e => decide (t < e.1)), (table.filter fun e => decide (e.1 ≤ t)).getLast? with
  | some hi, some lo => ((pick lo.2 : Int) + ((pick hi.2 : Int) - pick lo.2) * (t - lo.1) / (hi.1 - lo.1)).toNat
  | some hi, none => pick hi.2
  | none, some lo => pick lo.2
  | none, none => 0
def State.tableMv (s : State) (c : Nat) (t : Int) : Nat := interpolate s.cool.table (if c < 2 then (·.1) else (·.2)) t

/-- The hottest tile or stack reading, with the substitutions of R432. -/
def State.hottest (s : State) : Int :=
  (((List.range 8).map s.tileTemp) ++ (List.range 16).map fun k => (s.stackTemp k).getD s.hotTile).foldl max (-32768)

/-! Converters' references (R428). -/

/-- REF_CHECK (R428): a converter that has been idle for 25 µs; two bad results in a row mark it failed. -/
def execRefCheck (c : Fin 33) (bad : Bool) (s : State) : Host.Outcome State Fault Refusal :=
  .next (
    let x := s.conv c
    let g := if c.val < 16 then 0 else if c.val < 32 then 1 else 2
    if s.therm.demands.any (fun d => d.2.testBit g) || decide (s.now < x.idleAt + 25000) then s
    else if bad && decide (x.refBad = 1) && !x.failed then
      ((s.setConv c { x with idleAt := s.now }).convFails c).add THERM.REF_FAILS.count 1
    else s.setConv c { x with refBad := if bad then 1 else 0, idleAt := s.now })

/-! The thermal cap (R437). -/

/-- DESIGN CHOICE assumption 15. -/
def cIn (inlet : Int) : Nat :=
  if inlet ≤ 320 then 4800 else if inlet ≤ 360 then (4800 - 300 * (inlet - 320) / 8).toNat else 1500
/-- DESIGN CHOICE assumption 15. -/
def cFlow (flow : Nat) : Nat := if flow ≥ 800 then 4800 else 6 * flow
def State.coolant (s : State) (k : Nat) : CoolantState := Assoc.get CoolantState.reset s.cool.coolant k

/-- THERMAL_CAP_UPDATE (R437). -/
def execThermalCapUpdate (s : State) : Host.Outcome State Fault Refusal :=
  .next (if s.runs 3 = false ∨ s.now < s.therm.capAt + 100000000 then s
    else
      let i := if (s.coolant 0).trusted then cIn (sext 16 (s.rd THERM.COOLANT_T.inlet)) else cIn 360
      let f := if (s.coolant 2).trusted then cFlow (s.rd THERM.FLOW.flow) else 4800
      let s := (s.wr THERM.CAP_TERMS.c_in i).wr THERM.CAP_TERMS.c_flow f
      let new := capClamp (min i f)
      let cur := s.rd PWR.CAP_THERMAL.limit_w
      let s := (s.putTherm { s.therm with capAt := s.now })
      if new ≤ cur then (s.putTherm { s.therm with riseAt := none }).setCap PWR.CAP_THERMAL.limit_w new
      else if new < cur + 100 then (s.putTherm { s.therm with riseAt := none })
      else match s.therm.riseAt with
        | none => (s.putTherm { s.therm with riseAt := some s.now })
        | some a =>
          if a + 10000000000 ≤ s.now then (s.putTherm { s.therm with riseAt := none }).setCap PWR.CAP_THERMAL.limit_w new else s)

end Sys2Proof.Machine
end

