-- ==== Sys2Proof/Machine/Cooling.lean ====
section
/-! DEFINITION. Pumps and blowers (R442 to R450), what a completed demand does (R426), coolant and cooling failure (R449, R467), leaks (R451
to R453). -/

namespace Sys2Proof.Machine

/-! Channels (R442 to R447). -/

def cOFF : Nat := 0
def cKICK : Nat := 1
def cRETRY_WAIT : Nat := 2
def cRUNNING : Nat := 3
def cFAULT_START : Nat := 4
def cFAULT_RUN : Nat := 5
def State.chan (s : State) (c : Nat) : ChanState := Assoc.get ChanState.reset s.cool.chans c
def State.setChan (s : State) (c : Nat) (x : ChanState) : State := (s.putCool { s.cool with chans := Assoc.put ChanState.reset s.cool.chans c x })
def State.chState (s : State) (c : Nat) : Nat := s.rd COOL.DRIVE.state 0 c
/-- DEDUCED assumption 105. -/
def State.inFault (s : State) (c : Nat) : Bool := (s.rd COOL.STATUS.fault).testBit c

/-- COOLING has written the channel's setpoint within the last 2 s. (DEDUCED, assumption 134) -/
def State.setFresh (s : State) (c : Nat) : Bool := match (s.chan c).setAt with | some t => decide (s.now < t + 2000000000) | none => false

/-- The daily probe drives the channel for 2 s (R479). -/
def State.probing (s : State) (c : Nat) : Bool := match (s.chan c).probeAt with | some t => decide (s.now < t + 2000000000) | none => false

/-- R442: the value driven. -/
def State.driveMv (s : State) (c : Nat) : Nat :=
  let x := s.chan c
  let st := s.chState c
  if x.stopped ∨ st = cOFF ∨ st = cRETRY_WAIT ∨ st = cFAULT_START then 0
  else if st = cKICK ∨ x.partner ∨ s.probing c then 1000
  else
    let set_ := s.rd COOL.SET.mv 0 c
    let own := if s.setFresh c ∧ set_ > 0 then max set_ (s.rd COOL.CFG.min_mv 0 c) else 0
    let table := if s.is COOL.CTRL.table_floor || !s.setFresh c then x.table else 0
    min 1000 (max own table)

/-- The drive of a channel is brought up to date, and the time it is driven kept. -/
def State.refreshDrive (s : State) (c : Nat) : State :=
  let mv := s.driveMv c
  let x := s.chan c
  let x := match x.drivenAt with
    | some t => if mv = 0 then { x with drivenNs := x.drivenNs + (s.now - t), drivenAt := none } else x
    | none => if mv = 0 then x else { x with drivenAt := some s.now }
  (s.setChan c x).wr COOL.DRIVE.mv mv 0 c
def State.refreshDrives (s : State) : State := (List.range 4).foldl State.refreshDrive s

/-- R446, R467: CAP_SAFETY. -/
def State.capSafety (s : State) : State :=
  let pump := s.inFault 0 || s.inFault 1
  let v := if s.sfActive sfCF then 1500 else if s.inFault 2 && s.inFault 3 then 2400 else if pump then 3600 else 4800
  if v = s.rd PWR.CAP_SAFETY.limit_w then s else s.setCap PWR.CAP_SAFETY.limit_w v

/-- What cooling failure looks at: since when the coolant has been too hot, and since when it is calm with a pump RUNNING (R449, R467). -/
def State.deltaT (s : State) : Int := sext 16 (s.rd THERM.COOLANT_T.outlet) - sext 16 (s.rd THERM.COOLANT_T.inlet)
def State.coolWatch (s : State) : State :=
  let known := (s.coolant 0).trusted && (s.coolant 1).trusted
  let dt : Int := 8 * s.rd COOL.CF.dt_c
  let hot := known && decide (s.deltaT > dt)
  let calm := known && decide (s.deltaT < dt) && (s.chState 0 == cRUNNING || s.chState 1 == cRUNNING)
  let since := fun (b : Bool) (o : Option Nat) => if b then (match o with | some t => some t | none => some s.now) else none
  (s.putCool { s.cool with hotAt := since hot s.cool.hotAt, calmAt := since calm s.cool.calmAt })

def State.setChState (s : State) (c st : Nat) : State := ((s.wr COOL.DRIVE.state st 0 c).coolWatch).refreshDrives

/-- A kick begins. (DEDUCED, assumption 87) -/
def State.kick (s : State) (c attempt : Nat) : State :=
  ((s.wr COOL.DRIVE.attempt attempt 0 c).setChan c { s.chan c with kickAt := s.now }).setChState c cKICK

/-- R446: a channel enters a fault: `how`: 1 start, 2 running. -/
def State.chanFault (s : State) (c how : Nat) : State :=
  let s := (s.setBit COOL.STATUS.fault c true).setChan (c ^^^ 1) { s.chan (c ^^^ 1) with partner := true }
  let s := s.setChState c (if how = 1 then cFAULT_START else cFAULT_RUN)
  let s := (s.attn 6).raise (if c < 2 then Ev.PUMP_FAULT else Ev.BLOWER_FAULT) 0 [c, how]
  s.capSafety

/-- R447: its fault ends. -/
def State.chanCleared (s : State) (c : Nat) : State :=
  let s := (s.setBit COOL.STATUS.fault c false).setChan (c ^^^ 1) { s.chan (c ^^^ 1) with partner := false }
  (s.refreshDrives.raise Ev.COOL_CLEARED 0 [c]).capSafety

/-- A tachometer reading (R443): 0 where no edge has come. (DEDUCED, assumption 138) -/
def State.noteTach (s : State) (c rpm : Nat) : State :=
  let below := rpm < s.rd COOL.CFG.limit_rpm 0 c
  let x := s.chan c
  let since := fun (b : Bool) (o : Option Nat) => if b then (match o with | some t => some t | none => some s.now) else none
  ((s.setChan c { x with aboveAt := since (!below) x.aboveAt, belowAt := since below x.belowAt }).wr COOL.TACH.rpm rpm 0 c).wr
    COOL.TACH.below (if below then 1 else 0) 0 c
/-- It has been above, or below, its limit for a time. -/
def State.aboveFor (s : State) (c from_ ns : Nat) : Bool := match (s.chan c).aboveAt with | some t => decide (max t from_ + ns ≤ s.now) | none => false
def State.belowFor (s : State) (c ns : Nat) : Bool := match (s.chan c).belowAt with | some t => decide (t + ns ≤ s.now) | none => false

/-- COOL_KICK (Table 13.5): from OFF; a pump that a leak stopped stays so until the latch clears. (DEDUCED, assumption 108) -/
def execCoolKick (m : MasterId) (c : Fin 4) (s : State) : Host.Outcome State Fault Refusal :=
  .next (s.gate m .COOL 0 0x090 fun s =>
    if s.chState c = cOFF ∧ (s.chan c).stopped = false then (s.kick c 1).wr COOL.CMD_RESULT.result 2 else s.wr COOL.CMD_RESULT.result 4)

/-- A pump has answered: the loader raises the rails it waits with (R337, Table 11.1). -/
def State.pumpAnswered (s : State) (before : Bool) : State :=
  if !before && s.mayRaise && s.rd FW.STATUS.stage == 2 && s.pwr == pSTANDBY && !s.is PWR.RACK.hold then s.powerUp else s

/-- KICK_ANSWERED (R443, Table 13.5): a tachometer reading; above the limit for 100 ms, a kicked channel runs. (DEDUCED, assumption 108; DEDUCED, assumption 138) -/
def execKickAnswered (c : Fin 4) (rpm : BitVec 16) (s : State) : Host.Outcome State Fault Refusal :=
  .next (
    let before := s.mayRaise
    let s := s.noteTach c rpm.toNat
    if s.chState c = cKICK ∧ s.aboveFor c (s.chan c).kickAt 100000000 then
      let s := s.setChState c cRUNNING
      (if s.inFault c then s.chanCleared c else s).pumpAnswered before
    else s)

/-- KICK_TIMEOUT (Table 13.5). -/
def execKickTimeout (c : Fin 4) (s : State) : Host.Outcome State Fault Refusal :=
  .next (if s.chState c = cKICK ∧ (s.chan c).kickAt + 3000000000 ≤ s.now then
      if s.rd COOL.DRIVE.attempt 0 c < 3 then s.setChState c cRETRY_WAIT else s.chanFault c 1
    else s)

/-- KICK_RETRY (Table 13.5). -/
def execKickRetry (c : Fin 4) (s : State) : Host.Outcome State Fault Refusal :=
  .next (if s.chState c = cRETRY_WAIT ∧ (s.chan c).kickAt + 5000000000 ≤ s.now then s.kick c (s.rd COOL.DRIVE.attempt 0 c + 1) else s)

/-- CHANNEL_BELOW_LIMIT (R443, R446): a tachometer reading; below the limit for 1 s, a running channel is in fault. (DEDUCED, assumption 108) -/
def execChannelBelowLimit (c : Fin 4) (rpm : BitVec 16) (s : State) : Host.Outcome State Fault Refusal :=
  .next (
    let s := s.noteTach c rpm.toNat
    if s.chState c = cRUNNING ∧ s.belowFor c 1000000000 then s.chanFault c 2 else s)

/-- COOL_CLEAR (Table 13.5). -/
def execCoolClear (m : MasterId) (c : Fin 4) (s : State) : Host.Outcome State Fault Refusal :=
  .next (s.gate m .COOL 0 0x090 fun s =>
    if s.chState c = cFAULT_START then (s.kick c 1).wr COOL.CMD_RESULT.result 2
    else if s.chState c = cFAULT_RUN ∧ s.aboveFor c 0 10000000000 then ((s.setChState c cRUNNING).chanCleared c).wr COOL.CMD_RESULT.result 2
    else s.wr COOL.CMD_RESULT.result 4)

/-! Setpoints and the table (R448, R450). -/

/-- The table engine's values follow Safety Net's readings. -/
def State.tableRun (s : State) : State :=
  if s.rd COOL.STATUS.mode = 0 then s
  else ((List.range 4).foldl (fun s c => s.setChan c { s.chan c with table := s.tableMv c s.hottest }) s).refreshDrives

/-- COOLING writes a setpoint: the mode is FIRMWARE again. (DEDUCED, assumption 134) -/
def State.coolSet (s : State) (c mv : Nat) : State :=
  let s := ((s.wr COOL.SET.mv (min mv 1000) 0 c).setChan c { s.chan c with setAt := some s.now })
  let s := if s.rd COOL.STATUS.mode = 1 then (s.wr COOL.STATUS.mode 2).raise Ev.TABLE_MODE 0 [0] else s
  s.refreshDrive c

/-- The hottest reading in use of any die (R448). -/
def State.hottestDie (s : State) : Int := ((List.range 4).map fun i => (s.inUse (96 + i)).getD s.hotTile).foldl max s.hottest

/-- COOLING_PI (R448): proportional and integral parts in mV; the integral is not bounded (DEDUCED, assumption 107). -/
def execCoolingPi (s : State) : Host.Outcome State Fault Refusal :=
  .next (
    let early : Bool := match (s.chan 0).setAt with | some t => decide (s.now < t + 100000000) | none => false
    if s.runs 4 = false ∨ early then s
    else
      let t := s.hottestDie
      let e : Int := t - 8 * s.rd COOL.TARGET.t_c
      let s := (List.range 2).foldl (fun s c =>
        let i := (s.chan c).integral + s.rd COOL.PI.ki * e
        let out := (10 * s.rd COOL.PI.kp * e + i) / 80
        (s.setChan c { s.chan c with integral := i }).coolSet c (max (s.rd COOL.CFG.min_mv 0 c) (min 1000 out.toNat))) s
      (List.range 2).foldl (fun s c => s.coolSet (2 + c) (s.tableMv (2 + c) t)) s)

/-- TABLE_MODE (R450): COOLING has written no setpoint for 2 s. -/
def execTableMode (s : State) : Host.Outcome State Fault Refusal :=
  .next (if s.rd COOL.STATUS.mode = 2 ∧ (List.range 4).all (fun c => !s.setFresh c) then
      ((s.wr COOL.STATUS.mode 1).raise Ev.TABLE_MODE 0 [1]).refreshDrives
    else s)

/-- The cooling row of Table 11.1: the table engine starts and every channel is kicked (DEDUCED, assumption 87). -/
def State.coolStart (s : State) : State :=
  let s := (s.wr COOL.STATUS.mode 1).raise Ev.TABLE_MODE 0 [1]
  (List.range 4).foldl (fun s c => if s.chState c = cOFF then s.kick c 1 else s) s.tableRun

/-! A completed demand (R426). -/

/-- A demand is served: its readings in index order; a conversion that is missing was not made in time. (DEDUCED, assumption 103) -/
def State.demandDone (s : State) (source groups : Nat) (readings : List Reading) : State :=
  let ns := groupSensors groups
  let s := s.add THERM.DEMANDS.count 1
  let s := (ns.zipIdx.map fun x => (x.1, readings.getD x.2 ⟨0, true⟩)).foldl (State.takeReading · source ·) s
  let s := (ns.foldl State.crossCheck s).tileTrust
  let s := if source = 1 ∧ groups.testBit 1 then (List.range 16).foldl State.bandRead s else s
  let s := (List.range 33).foldl (fun s c => if groups.testBit (if c < 16 then 0 else if c < 32 then 1 else 2) then s.setConv c { s.conv c with idleAt := s.now } else s) s
  let s := if source = 1 then s.thermalLoop else s
  let s := if source = 0 then (s.tripConversion ns).tableRun else s
  if source = 3 then s.wr THERM.CMD_RESULT.result 2 else s

/-- DEMAND_COMPLETE (R426): the first demand of a source, if no earlier one holds any of its converters (DEDUCED, assumption 103). -/
def execDemandComplete (source : Fin 4) (readings : List Reading) (s : State) : Host.Outcome State Fault Refusal :=
  .next (
    let ds := s.therm.demands
    match ds.find? (fun d => d.1 == source.val) with
    | some d =>
      if (ds.takeWhile (· != d)).any (fun e => (e.2 &&& d.2) != 0) then s
      else (s.putTherm { s.therm with demands := ds.erase d }).demandDone source d.2 readings
    | none => s)

/-! The coolant (R449, R505). -/

/-- DEDUCED assumption 107. -/
def State.setCoolant (s : State) (k : Nat) (x : CoolantState) : State :=
  (s.putCool { s.cool with coolant := Assoc.put CoolantState.reset s.cool.coolant k x })
/-- One poll of a device: 0 inlet, 1 outlet, 2 flow. (DESIGN CHOICE, assumption 90) -/
def State.pollCoolant (s : State) (k : Nat) (v : Option Nat) : State :=
  let x := s.coolant k
  match v with
  | some v =>
    let s := s.setCoolant k ⟨x.trusted || decide (x.goods + 1 ≥ 10), 0, min 10 (x.goods + 1)⟩
    let half := toPat 16 (sext 16 v / 2)
    let s := if k = 0 then s.wr THERM.COOLANT_T.inlet half else if k = 1 then s.wr THERM.COOLANT_T.outlet half else s.wr THERM.FLOW.flow v
    s.add TW.XFERS.count 1 5
  | none =>
    let s := s.setCoolant k ⟨x.trusted && decide (x.fails + 1 < 3), min 3 (x.fails + 1), 0⟩
    if x.fails = 2 then s.raise Ev.COOLANT_UNTRUSTED 0 [k] else s

/-- COOLANT_POLL (R449, R505): the two bytes that each device gave, or none; a port that is off or stuck gives none. -/
def execCoolantPoll (inlet outlet flow : Option (BitVec 16)) (s : State) : Host.Outcome State Fault Refusal :=
  .next (
    let dead := s.twState 5 = twOFF ∨ s.twState 5 = twSTUCK
    let get := fun (v : Option (BitVec 16)) => if dead then none else v.map BitVec.toNat
    let s := ((s.pollCoolant 0 (get inlet)).pollCoolant 1 (get outlet)).pollCoolant 2 (get flow)
    (s.wr THERM.STATUS.coolant_ok (if (List.range 3).all (fun k => (s.coolant k).trusted) then 1 else 0)).coolWatch)

/-- Safety Net holds every tile at PS7 (R467, R474). -/
def State.floorOn (s : State) (write : Bool) : State :=
  if s.is SAFE.STATUS.safe_floor then s
  else
    let s := s.wr SAFE.STATUS.safe_floor 1
    let s := (List.range 8).foldl (fun s t => ((s.setTpow t { s.tpow t with psPower := 7 }).movePoint t write).updateReasons t) s
    s.raise Ev.SAFE_FLOOR 0 [1]

/-- The tachometers' failure: both pumps below their limits for 1 s while power is up, or both in fault (R446, DEDUCED, assumption 105). -/
def State.tachFailure (s : State) : Bool :=
  (s.inFault 0 && s.inFault 1) || (s.pwr != pSTANDBY && s.pwr != pHELD && s.belowFor 0 1000000000 && s.belowFor 1 1000000000)
/-- The coolant's: too hot for 500 ms. -/
def State.hotFailure (s : State) : Bool := match s.cool.hotAt with | some t => decide (t + 500000000 ≤ s.now) | none => false

/-- COOLING_FAILURE (R449, R467 first stage). -/
def execCoolingFailure (s : State) : Host.Outcome State Fault Refusal :=
  .next (if s.sfActive sfCF || !(s.tachFailure || s.hotFailure) then s
    else
      let how := if s.tachFailure then 1 else 2
      let s := s.raise Ev.COOLING_FAILURE 0 [how, toPat 64 s.deltaT]
      let s := ((s.putCool { s.cool with failed := true }).putSafety { s.safety with cfAt := some s.now })
      ((s.sfActs sfCF 0).capSafety).floorOn (s.runs 2))

/-! Leaks (R451 to R453). -/

def State.leak (s : State) (n : Nat) : LeakState := Assoc.get LeakState.reset s.safety.leaks n
def State.setLeak (s : State) (n : Nat) (x : LeakState) : State :=
  (s.putSafety { s.safety with leaks := Assoc.put LeakState.reset s.safety.leaks n x })
def State.leakEnabled (s : State) (n : Nat) : Bool := s.safety.leakEn.testBit n

/-- One input's sample: 0 dry, 1 wet, 2 open. -/
def State.leakInput (s : State) (n v : Nat) : State :=
  let x := s.leak n
  let old := s.rd LEAK.STATUS.input
  let s := s.wr LEAK.STATUS.input (old - old / 4 ^ n % 4 * 4 ^ n + v * 4 ^ n)
  let first := v = 1 ∧ x.wet = 0
  let s := s.setLeak n { wet := if v = 1 then min 50 (x.wet + 1) else 0, onset := if first then s.beat.count else x.onset,
                         onsetAt := if first then s.now else x.onsetAt,
                         openAt := if v = 2 then (match x.openAt with | some t => some t | none => some s.now) else none,
                         openTold := x.openTold && decide (v = 2),
                         dryAt := if v = 0 then (match x.dryAt with | some t => some t | none => some s.now) else none }
  if first ∧ s.leakEnabled n ∧ s.is LEAK.STATUS.latched = false then s.wr LEAK.ONSET.beat s.beat.count else s

/-- LEAK_SAMPLE (R451): none while Safety Net restarts (R460). -/
def execLeakSample (i0 i1 i2 i3 : Fin 3) (s : State) : Host.Outcome State Fault Refusal :=
  .next (if s.safety.paused then s else (((s.leakInput 0 i0).leakInput 1 i1).leakInput 2 i2).leakInput 3 i3)

/-- A leak stops a pump (Table 13.5). -/
def State.stopPump (s : State) (c : Nat) : State := (s.setChan c { s.chan c with stopped := true }).setChState c cOFF

/-- LEAK_DETECTED (R451): 50 wet samples in a row of an enabled input. -/
def execLeakDetected (n : Fin 4) (s : State) : Host.Outcome State Fault Refusal :=
  .next (
    let x := s.leak n
    if s.leakEnabled n = false ∨ x.wet < 50 ∨ (s.rd LEAK.STATUS.wet_seen).testBit n then s
    else
      let s := s.setBit LEAK.STATUS.wet_seen n true
      let s := if s.is LEAK.STATUS.latched then s else (s.wr LEAK.ONSET.beat x.onset).wr LEAK.DELAY.us (min 65535 ((s.now - x.onsetAt) / 1000))
      let s := ((s.wr LEAK.STATUS.latched 1).wr LEAK.STATUS.kill 1).wr SAFE.OUTPUTS.pwr_kill_n 0
      let s := if s.is LEAK.CTRL.pump_stop then (s.stopPump 0).stopPump 1 else s
      ((s.raise Ev.LEAK 0 [n, x.onset]).sfActs sfLK n).emergencyLowering)

/-- LEAK_OPEN (R452). -/
def execLeakOpen (n : Fin 4) (s : State) : Host.Outcome State Fault Refusal :=
  .next (match (s.leak n).openAt with
    | some t =>
      if s.leakEnabled n ∧ t + 100000000 ≤ s.now ∧ (s.leak n).openTold = false then
        ((s.setLeak n { s.leak n with openTold := true }).add LEAK.OPEN_COUNT.count 1).raise Ev.LEAK_OPEN 0 [n]
      else s
    | none => s)

/-- Every enabled input has been dry for 60 s. -/
def State.leaksDry (s : State) : Bool :=
  (List.range 4).all fun n => !s.leakEnabled n || (match (s.leak n).dryAt with | some t => decide (t + 60000000000 ≤ s.now) | none => false)

/-- LEAK_CLEAR (R453). -/
def State.leakClear (s : State) (m : Nat) : State :=
  if !(m == SAFENET || m == TRAY) then s.wr LEAK.CMD_RESULT.result 5
  else if s.leaksDry then
    let s := (((s.wr LEAK.STATUS.latched 0).wr LEAK.STATUS.kill 0).wr LEAK.STATUS.wet_seen 0).wr SAFE.OUTPUTS.pwr_kill_n 1
    let s := (s.setChan 0 { s.chan 0 with stopped := false }).setChan 1 { s.chan 1 with stopped := false }
    (s.sfEnds sfLK).wr LEAK.CMD_RESULT.result 2
  else s.wr LEAK.CMD_RESULT.result 4
def execLeakClear (m : MasterId) (s : State) : Host.Outcome State Fault Refusal := .next (s.gate m .LEAK 0 0x04C fun s => s.leakClear m)

end Sys2Proof.Machine
end

