-- ==== Sys2Proof/Machine/Guard.lean ====
section
/-! DEFINITION. Safety Net's own faults (R460), the ways out of a cut (R465 to R467), the management pair and its loss (R469 to R474). -/

namespace Sys2Proof.Machine

/-! Safety Net (R460). -/

/-- SN_FAULT (R460): a lockstep mismatch, or the oscillator; a second one within 10 s cuts the module (DEDUCED, assumption 109). -/
def execSnFault (oscillator : Bool) (s : State) : Host.Outcome State Fault Refusal :=
  .next (
    let near : Bool := match s.safety.snAt with | some t => decide (s.now < t + 10000000000) | none => false
    let count := if near then s.safety.snCount + 1 else 1
    let s := (s.putSafety { s.safety with snAt := some s.now, snCount := count, snRestart := true, paused := true })
    let s := (s.add SAFE.SN_FAULTS.count 1).raise Ev.SN_FAULT 0 [if oscillator then 2 else 1, count]
    if count ≥ 2 then
      let s := (s.putSafety { s.safety with snCut := true }).emergencyLowering.enterCut
      s.wr SAFE.OUTPUTS.sys_shdn_n 0
    else s)

/-- SN_RESTART_DONE (R460). -/
def execSnRestartDone (s : State) : Host.Outcome State Fault Refusal :=
  .next (if s.safety.snRestart then (s.putSafety { s.safety with snRestart := false, paused := false }) else s)

/-! SAFE_FLOOR (R467, R474). -/

/-- The counts of R474 have reached 30 s: in NONE, or for a held duty (R369). -/
def State.floorDue (s : State) : Bool :=
  let past := fun (o : Option Nat) => match o with | some t => decide (t + 30000000000 ≤ s.now) | none => false
  past s.safety.noneAt || past s.safety.dutyAt
/-- SAFE_FLOOR (R474): the clocks go to PS7, the voltages stay. -/
def execSafeFloor (s : State) : Host.Outcome State Fault Refusal := .next (if s.floorDue then s.floorOn false else s)

/-! Cooling failure (R467). -/

/-- The failure has ended: a pump RUNNING and the coolant calm, both for 10 s. -/
def State.cfEnded (s : State) : Bool := match s.cool.calmAt with | some t => decide (t + 10000000000 ≤ s.now) | none => false
/-- SF-CF ends: its actions are withdrawn. -/
def State.cfEnd (s : State) : State :=
  let s := ((s.putCool { s.cool with failed := false }).putSafety { s.safety with cfAt := none, cfCut := false })
  let s := (s.sfEnds sfCF).capSafety
  if s.is SAFE.STATUS.safe_floor ∧ s.floorDue = false then
    let s := (s.wr SAFE.STATUS.safe_floor 0).raise Ev.SAFE_FLOOR 0 [0]
    (List.range 8).foldl State.updateReasons s
  else s

/-- CF_END (R467): before the cut. -/
def execCfEnd (s : State) : Host.Outcome State Fault Refusal :=
  .next (if s.sfActive sfCF ∧ s.safety.cfCut = false ∧ s.cfEnded then s.cfEnd else s)

/-- CF_CUT (R467): cf_cut_s after detection; there is nothing to cut in STANDBY (Table 12.3). -/
def execCfCut (s : State) : Host.Outcome State Fault Refusal :=
  .next (
    let due : Bool := match s.safety.cfAt with | some t => decide (t + s.rd SAFE.PARAM.word 0 0 % 65536 * 1000000000 ≤ s.now) | none => false
    if s.sfActive sfCF ∧ due ∧ s.safety.cfCut = false ∧ s.cfEnded = false ∧ s.pwr ≠ pSTANDBY ∧ s.pwr ≠ pCUT then
      let s := s.stopAll fSAFETY_CUT
      let s := if s.pwr = pON then s.startLowering 7
        else match s.power.seq with
          | some (true, g, _) => s.startLowering g
          | _ => s
      let s := (s.putSafety { s.safety with cfCut := true }).enterCut
      s.wr SAFE.OUTPUTS.sys_shdn_n 0
    else s)

/-! Ways out (R465, R466). -/

/-- SAFE.CMD is for HOST, TRAY and SAFE (R483). -/
def safeCmdMaster (m : Nat) : Bool := m == HOST || m == TRAY || m == SAFENET

/-- SF-OC and SF-SQ end when no rail is latched off for them. -/
def State.cutsEnd (s : State) (f : Nat) : State :=
  if (List.range 52).any (fun n => s.railCutBit n && (s.rail n).cutBy == f) then s else s.sfEnds f

/-- Rails that come on again with a released one: the tile's other compute rails and VSER, once none of them is latched (Table 14.2). -/
def State.railReturn (s : State) (n : Nat) : State :=
  if n = 51 then s.railEnable 51
  else if s.pwr ≠ pON then s
  else if n < 32 ∧ n % 4 ≠ 2 then
    let trio := tileRails (n / 4)
    if trio.any s.railCutBit || s.tileLost (n / 4) then s
    else trio.foldl (fun s k => if s.railState k = 0 ∨ s.railState k = 3 then s.railEnable k else s) s
  else if 32 ≤ n ∧ n < 48 then s.railEnable n
  else s

/-- RAIL_ON (R465, R483). (DEDUCED, assumption 109) -/
def State.railOn (s : State) (m n : Nat) : State :=
  if !safeCmdMaster m then s.wr SAFE.CMD_RESULT.result 5
  else if n ≥ 52 || !s.railCutBit n then s.wr SAFE.CMD_RESULT.result 4
  else
    let f := (s.rail n).cutBy
    let s := ((s.setCutBit n false).railWr RAIL.STATUS.state n 0).cutsEnd f
    (s.railReturn n).wr SAFE.CMD_RESULT.result 2
def execRailOn (m : MasterId) (n : Fin 64) (s : State) : Host.Outcome State Fault Refusal := .next (s.gate m .SAFE 0 0x064 fun s => s.railOn m n)

/-- CUT_RELEASE (R466). (DEDUCED, assumption 109) -/
def State.cutRelease (s : State) (m : Nat) : State :=
  if !safeCmdMaster m then s.wr SAFE.CMD_RESULT.result 5
  else if s.pwr ≠ pCUT ∨ s.is THERM.TRIP.latched ∨ s.is LEAK.STATUS.latched ∨ s.railCutBit 48 ∨ s.railCutBit 49 ∨ s.railCutBit 50 ∨
    (s.safety.cfCut ∧ s.cfEnded = false) ∨ s.safety.snCut then s.wr SAFE.CMD_RESULT.result 4
  else
    let s := (s.wr PWR.STATUS.state (if s.is PWR.RACK.hold then pHELD else pSTANDBY)).wr SAFE.STATUS.cut 0
    let s := s.wr SAFE.OUTPUTS.sys_shdn_n 1
    let s := if s.safety.cfCut then s.cfEnd else s
    s.wr SAFE.CMD_RESULT.result 2
def execCutRelease (m : MasterId) (s : State) : Host.Outcome State Fault Refusal := .next (s.gate m .SAFE 0 0x064 fun s => s.cutRelease m)

/-! The management pair (R469 to R473). -/

/-- SAFE_KICK (R469, R483): the writing master names the core. -/
def State.safeKick (s : State) (m : Nat) : State :=
  if m = 1 then (s.putSafety { s.safety with kickA := s.now })
  else if m = 2 then (s.putSafety { s.safety with kickB := s.now })
  else s
def execSafeKick (m : MasterId) (s : State) : Host.Outcome State Fault Refusal := .next (s.gate m .SAFE 0 0x058 fun s => s.safeKick m)

def State.alive (s : State) (b : Bool) : Bool := if b then s.safety.aliveB else s.safety.aliveA
def State.kickAt (s : State) (b : Bool) : Nat := if b then s.safety.kickB else s.safety.kickA
/-- DEDUCED assumption 111. -/
def State.isOut (s : State) (b : Bool) : Bool := if b then s.safety.outB else s.safety.outA
/-- The number of a core as master: 1 MC-A, 2 MC-B. -/
def coreNo (b : Bool) : Nat := if b then 2 else 1

/-- A core is lost: when; it stays out if it had rejoined within 60 s (R471). -/
def State.dropCore (s : State) (b : Bool) : State :=
  let again := fun (o : Option Nat) => match o with | some t => decide (s.now < t + 60000000000) | none => false
  let f := s.safety
  (s.putSafety (if b then { f with aliveB := false, lostB := some s.now, outB := f.outB || again f.rejoinB }
                     else { f with aliveA := false, lostA := some s.now, outA := f.outA || again f.rejoinA }))

/-- R470 to R472: a management core is lost; cause as TAKEOVERS.last_cause. The image that a handover loads past its point of no return is
still to come (R471). (DEDUCED, assumption 111; DEDUCED, assumption 114) -/
def State.coreLost (s : State) (b : Bool) (cause : Nat) : State :=
  if !s.alive b then s
  else
    let master := s.rd SAFE.STATUS.master == coreNo b
    let pair := s.rd SAFE.STATUS.supervision == 0
    let s := (s.dropCore b).wr FW.STATUS.mirrored 0
    if s.fw.handover.isSome && (!master || !s.alive (!b)) then
      let keep := s.fw.handover
      let s := s.enterNone cause
      (s.putFw { s.fw with handover := keep })
    else if pair && s.alive (!b) then
      let s := (s.wr SAFE.STATUS.supervision 1).sfActs sfMW (coreNo b)
      if master then
        let s := ((s.wr SAFE.STATUS.master (coreNo (!b))).wr FW.STATUS.master (coreNo (!b))).add SAFE.TAKEOVERS.count 1
        (s.rereadRings.wr SAFE.TAKEOVERS.last_cause cause).raise Ev.MC_TAKEOVER 0 [coreNo (!b), cause]
      else s
    else if master then s.enterNone cause
    else s

/-- MC_REJOIN (R471, Table 14.3): the other core has loaded the running images. (DEDUCED, assumption 111) -/
def execMcRejoin (b : Bool) (s : State) : Host.Outcome State Fault Refusal :=
  .next (if s.rd SAFE.STATUS.supervision = 1 ∧ s.mainRuns ∧ s.alive (!b) ∧ s.alive b = false ∧ s.isOut b = false ∧ s.fw.handover.isNone then
      let s := (s.putSafety (if b then { s.safety with aliveB := true, kickB := s.now, rejoinB := some s.now }
                                  else { s.safety with aliveA := true, kickA := s.now, rejoinA := some s.now }))
      (((s.wr SAFE.STATUS.supervision 0).wr FW.STATUS.mirrored 1).raise Ev.MC_MIRRORED 0 [coreNo b]).sfEnds sfMW
    else s)

/-- NONE_WARM_RESTART (R474): 1 s after NONE was entered, and every 60 s. -/
def execNoneWarmRestart (s : State) : Host.Outcome State Fault Refusal :=
  .next (
    let due : Bool := match s.safety.noneAt, s.safety.restartAt with
      | some _, some r => decide (r + 60000000000 ≤ s.now)
      | some n, none => decide (n + 1000000000 ≤ s.now)
      | none, _ => false
    if due ∧ s.rd SAFE.RESTARTS.attempts < s.rd SAFE.PARAM.word 0 1 % 16 ∧ s.is SAFE.CTRL.restart_en ∧ s.railCutBit 51 = false ∧
      s.is BIST.SCAN.unlocked = false then
      let s := (s.putSafety { s.safety with restartAt := some s.now }).add SAFE.RESTARTS.attempts 1
      s.warmReset
    else s)

/-- The core whose kicks keep WDOG_OUT going: the master, in NONE the one that runs the loader (R473, R474); 0: none. (DEDUCED, assumption 111) -/
def State.wdogCore (s : State) : Nat :=
  let m := s.rd SAFE.STATUS.master
  if m ≠ 0 then m else if s.safety.aliveA then 1 else if s.safety.aliveB then 2 else 0

/-- WDOG_TOGGLE (R473, R338, R474): that core has kicked within 50 ms; 45 ms at least after the last edge. (DEDUCED, assumption 111) -/
def execWdogToggle (s : State) : Host.Outcome State Fault Refusal :=
  .next (
    let m := s.wdogCore
    if m ≠ 0 ∧ s.alive (m == 2) ∧ s.now < s.kickAt (m == 2) + 50000000 ∧ s.rd FW.STATUS.stage ≠ 1 ∧ s.safety.wdogAt + 45000000 ≤ s.now then
      ((s.wr SAFE.OUTPUTS.wdog_out (1 - s.rd SAFE.OUTPUTS.wdog_out)).putSafety { s.safety with wdogAt := s.now })
    else s)

end Sys2Proof.Machine
end

