-- ==== Sys2Proof/Machine/Age.lean ====
section
/-! DEFINITION. Ageing indicators, their predictions and alarms (R478 to R480), and the management-core events of slots (action 0x0A). -/

namespace Sys2Proof.Machine

def State.ageOf (s : State) (i : Nat) : AgeEntry := Assoc.get AgeEntry.reset s.age.entries i
def State.setAge (s : State) (i : Nat) (x : AgeEntry) : State := (s.putAge { s.age with entries := Assoc.put AgeEntry.reset s.age.entries i x })

/-- Limits of Table 14.8. -/
def State.ageLimit (s : State) (i : Nat) : Nat :=
  if i < 8 then 500 else if i < 24 then 100 else if i < 40 then 256 else if i = 40 then 1000000
  else if i < 43 then s.rd SAFE.PARAM.word 0 2 else if i < 47 then 150 else 8
/-- SerDes margins fall toward their limit; everything else rises. -/
def ageFalls (i : Nat) : Bool := 47 ≤ i

/-- The smallest k with n ≤ k², by bits from the top. -/
def ceilSqrtGo (n : Nat) : Nat → Nat → Nat
  | 0, k => if k * k ≥ n then k else k + 1
  | b + 1, k => ceilSqrtGo n b (if (k + 2 ^ b) * (k + 2 ^ b) ≤ n then k + 2 ^ b else k)
def ceilSqrt (n : Nat) : Nat := ceilSqrtGo n 128 0

/-- The prediction of R479 from samples of day and value: eol_days and eol_90. (DESIGN CHOICE, assumption 15; DESIGN CHOICE, assumption 110) -/
def predict (limit today : Nat) (samples : List (Nat × Nat)) : Nat × Nat :=
  if samples.length < 14 then (0xFFFF, 0xFFFF)
  else
    let n : Int := samples.length
    let x := fun (p : Nat × Nat) => (p.1 : Int) - today
    let sx : Int := (samples.map x).foldl (· + ·) 0
    let sy : Int := (samples.map fun p => (p.2 : Int)).foldl (· + ·) 0
    let sxx : Int := (samples.map fun p => x p * x p).foldl (· + ·) 0
    let sxy : Int := (samples.map fun p => x p * p.2).foldl (· + ·) 0
    let d := n * sxx - sx * sx
    let b := n * sxy - sx * sy
    let a := sy * sxx - sx * sxy
    let gap := limit * d - a
    if d = 0 ∨ b = 0 ∨ gap = 0 ∨ decide (0 < b) ≠ decide (0 < gap) then (0xFFFF, 0xFFFF)
    else
      let r : Int := (samples.map fun p => let e := d * p.2 - a - b * x p; e * e).foldl (· + ·) 0
      let q := ceilSqrt ((1643524 * r + 1000000 * n - 1) / (1000000 * n)).toNat
      let days := gap.natAbs / b.natAbs
      let days90 := (gap.natAbs - q) / b.natAbs
      (min days 0xFFFE, min days90 0xFFFE)

/-- The day's value of an indicator; none where it has no reading. `delay`: the worst delay monitor of each tile, `rpm`: the probe's readings. -/
def State.ageValue (s : State) (i : Nat) (delay rpm : List (BitVec 16)) : Option Nat :=
  if i < 8 then (delay[i]?).map BitVec.toNat
  else if i < 24 then
    let l := Assoc.get [] s.age.rates (i - 8)
    let bytes := (l.map (·.2)).foldl (· + ·) 0
    some (if bytes = 0 then 0 else (l.map (·.1)).foldl (· + ·) 0 * 10 ^ 12 / bytes)
  else if i < 40 then some (s.stk (i - 24)).remaps.length
  else if i = 40 then some (s.rd KEEP.MAX_WEAR.count)
  else if i < 43 then
    let x := s.chan (i - 41)
    some ((x.drivenNs + (match x.drivenAt with | some t => s.now - t | none => 0)) / 3600000000000)
  else if i < 47 then
    let e := s.ageOf i
    if s.inFault (i - 43) || e.baseN = 0 then none
    else (rpm[i - 43]?).map fun v => (e.base - v.toNat * e.baseN) * 1000 / max 1 e.base
  else
    let up := (List.range 4).filter fun l => (s.rd EDPEN.STATUS.lanes_up (i - 47)).testBit l
    if up.isEmpty then none else some ((up.map fun l => s.rd EDPEN.LANE_MARGIN.margin (i - 47) / 256 ^ l % 256).foldl min 255)

/-- The drift baseline: the mean rpm of the first seven daily probes (168 h). -/
def State.ageBase (s : State) (i : Nat) (rpm : List (BitVec 16)) : State :=
  let e := s.ageOf i
  match rpm[i - 43]? with
  | some v => if e.baseN < 7 ∧ s.inFault (i - 43) = false then s.setAge i { e with base := e.base + v.toNat, baseN := e.baseN + 1 } else s
  | none => s

/-- The difference of a counter that its readers may clear. (DESIGN CHOICE, assumption 110) -/
def counterStep (now last : Nat) : Nat := if now ≥ last then now - last else now

/-- A day's corrections and bytes read of each stack, for the 7-day mean. -/
def State.ageRates (s : State) : State :=
  (List.range 16).foldl (fun s k =>
    let ce := s.rd ECC.CE_COUNT.count k
    let rd := s.rd HS.READ.bytes k
    let last := Assoc.get (0, 0) s.age.last k
    let d := (counterStep ce last.1, counterStep rd last.2)
    (s.putAge { s.age with last := Assoc.put (0, 0) s.age.last k (ce, rd), rates := Assoc.put [] s.age.rates k ((d :: Assoc.get [] s.age.rates k).take 7) })) s

/-- One indicator's update: sample, prediction, alarm, limit (R479, R480). (DESIGN CHOICE, assumption 110) -/
def State.ageUpdate (s : State) (i day v : Nat) : State :=
  let e := s.ageOf i
  let samples := ((day, v) :: e.samples.filter (fun p => p.1 + 90 > day)).take 90
  let limit := s.ageLimit i
  let (d, d90) := predict limit day samples
  let alarm := !e.alarm && decide (d90 < s.rd AGE.ALARM_DAYS.days)
  let reached := !e.atLimit && (if ageFalls i then decide (v ≤ limit) else decide (v ≥ limit))
  let base := if e.samples.isEmpty ∧ !(43 ≤ i ∧ i < 47) then v else e.base
  let s := s.setAge i { e with samples := samples, base := base, days := d, days90 := d90, alarm := e.alarm || alarm, atLimit := e.atLimit || reached }
  let s := if alarm then
      ((s.setBit AGE.ALARMED.alarmed (i % 32) true 0 (i / 32)).add AGE.STATUS.alarms 1).raise Ev.AGE_ALARM 0 [i, d, d90]
    else s
  if reached then
    let s := (s.add AGE.STATUS.limits 1).raise Ev.AGE_LIMIT 0 [i]
    if i < 8 ∧ s.runs 2 then ((s.wr PWR.TILE_PS.ceiling (min 7 (s.ceiling i + 1)) 0 i).movePoint i true).updateReasons i else s
  else s

/-- R479: each channel that is not in fault is driven at 1,000 mV for 2 s. -/
def State.coolProbe (s : State) : State :=
  ((List.range 4).foldl (fun s c => if s.inFault c then s else s.setChan c { s.chan c with probeAt := some s.now }) s).refreshDrives

/-- RECORDER's daily update (R478, R479). The keep store holds the samples (Table 11.13). (DESIGN CHOICE, assumption 110) -/
def State.ageDay (s : State) (day : Nat) (delay rpm : List (BitVec 16)) : State :=
  let rpm := if s.is AGE.CTRL.probe_en then rpm else []
  let s := if s.is AGE.CTRL.probe_en then s.coolProbe else s
  let s := (List.range 4).foldl (fun s c => s.ageBase (43 + c) rpm) s.ageRates
  let s := s.wr AGE.DAY.day day
  (List.range 111).foldl (fun s i => match s.ageValue i delay rpm with | some v => s.ageUpdate i day v | none => s) s

/-- MC_EVENT (action 0x0A): the slot wakes a component with a tag; RECORDER updates the ageing indicators once per day. -/
def execMcEvent (n : SlotId) (day : BitVec 32) (delay rpm : List (BitVec 16)) (s : State) : Host.Outcome State Fault Refusal :=
  .next (if s.dueAlone n actMcEvent then
      let c := s.slotParam0 n % 16
      let tag := s.slotParam1 n
      let s := s.slotFire n
      let s := (s.putOutbox (s.outbox ++ [Out.wake c tag]))
      if c = 8 ∧ s.runs 8 ∧ s.is AGE.CTRL.en ∧ day.toNat ≠ s.rd AGE.DAY.day then s.ageDay day.toNat delay rpm else s
    else s)

end Sys2Proof.Machine
end

