-- ==== Sys2Proof/Machine/Beat.lean ====
section
/-! DEFINITION. The beat block: acquisition, alignment states, loss of sources, the epoch set, slewing (R41 to R52, R571, R572). -/

namespace Sys2Proof.Machine

/-! BEAT.STATUS.state. -/
def bOFF : Nat := 0
def bACQUIRE : Nat := 1
def bLOCAL : Nat := 2
def bALIGNED : Nat := 3
def bHOLDOVER : Nat := 4
def bFREE_RUN : Nat := 5

def State.beatState (s : State) : Nat := s.rd BEAT.STATUS.state

/-- A 16-bit register as a signed number, and a signed number cut to 16 bits with saturation. (DEDUCED, assumption 18) -/
def signed16 (v : Nat) : Int := if v ≥ 2 ^ 15 then (v : Int) - 2 ^ 16 else v
/-- DEDUCED assumption 18. -/
def sat16 (x : Int) : Nat := ((max (-(2 ^ 15)) (min x (2 ^ 15 - 1))) % 2 ^ 16).toNat

/-- The phase source in force, true for FABRIC: what is written takes effect at the next mark, and at once while no count runs (R45, Table 2.4).
Without marks the next multiple of 2^20 stands for the mark (DEDUCED, assumption 141). -/
def State.source (s : State) : Bool := if s.counting then s.beat.source else s.is BEAT.CTRL.source

/-- The mark sets the phase: it is selected and present, or the other source is absent (R45, R49). -/
def State.phaseByMark (s : State) : Bool :=
  if s.source then !s.is BEAT.STATUS.fabric_present && s.is BEAT.STATUS.mark_present
  else s.is BEAT.STATUS.mark_present || !s.is BEAT.STATUS.fabric_present

/-- R572, R50: the error bound to the alignment root, ns. -/
def State.errBound (s : State) : Nat :=
  let b := s.beatState
  if b = bALIGNED ∨ b = bHOLDOVER then
    if s.rd BEAT.CTRL.role = 1 ∨ s.rd BEAT.CTRL.role = 2 then 0
    else if !s.source then 16
    else min 255 (s.beat.parentBound + 4 + ((signed16 (s.rd BEAT.FABRIC_OFFSET.offset)).natAbs + 3) / 4)
  else if b = bFREE_RUN then min 255 (s.beat.freeRunBound + (s.now - s.beat.freeRunAt) / 10 ^ 7)
  else 255

/-- BEAT.FREE_RUN_TIME, µs. -/
def State.freeRunUs (s : State) : Nat :=
  if s.beatState = bFREE_RUN then min (2 ^ 32 - 1) ((s.now - s.beat.freeRunAt) / 1000) else 0

/-- A correction of at least one nanosecond is in progress (R43). (DEDUCED, assumption 16) -/
def State.slewing (s : State) : Bool := s.beat.slew.natAbs ≥ 4

/-- Entry to a state of Table 2.2; ALIGNED and HOLDOVER clear park cause BEAT (Table 9.2). (DESIGN CHOICE, assumption 17) -/
def State.beatEnter (s : State) (b : Nat) : State :=
  let s := s.wr BEAT.STATUS.state b
  if b = bALIGNED ∨ b = bHOLDOVER then
    (((s.forParts (fun _ _ => true) (fun s n => s.clearCause n 0))).putBeat { s.beat with relockMarks := 0 })
  else s

/-- R49: both phase sources gone in ALIGNED or HOLDOVER: FREE_RUN. -/
def State.phaseCheck (s : State) : State :=
  if (s.beatState = bALIGNED ∨ s.beatState = bHOLDOVER) ∧ s.is BEAT.STATUS.mark_present = false ∧ s.is BEAT.STATUS.fabric_present = false then
    let b := s.errBound
    let s := (s.putBeat { s.beat with freeRunAt := s.now, freeRunBound := b, unaligned := false, slew := 0 })
    (s.beatEnter bFREE_RUN).raise Ev.BEAT_FREE_RUN
  else s

/-- The phase source is back in FREE_RUN (Table 2.2). -/
def State.phaseBack (s : State) : State :=
  if s.beatState = bFREE_RUN then s.beatEnter (if s.is BEAT.STATUS.ref_present then bALIGNED else bHOLDOVER) else s

/-- R45: the two offsets differ by more than disagree_ns while both sources are present. (DEDUCED, assumption 18) -/
def State.checkDisagree (s : State) : State :=
  let d := (signed16 (s.rd BEAT.MARK_OFFSET.offset) - signed16 (s.rd BEAT.FABRIC_OFFSET.offset)).natAbs
  if s.is BEAT.STATUS.mark_present ∧ s.is BEAT.STATUS.fabric_present ∧ d > 4 * s.rd BEAT.CTRL.disagree_ns then s.raise Ev.BEAT_DISAGREE else s

/-- R43, R46: the count takes a value in one step, and the target of every armed slot moves by the same amount. -/
def State.setEpoch (s : State) (v : Nat) : State :=
  let old := s.beat.count
  let s := (s.putBeat { s.beat with count := v % 2 ^ 64, epoch := none, slew := 0 })
  let s := s.forEach 96 State.armed (fun s n => s.wr SCHED.SLOT_TARGET.target ((s.slotTarget n + 2 ^ 64 + v % 2 ^ 64 - old % 2 ^ 64) % 2 ^ 64) 0 n)
  ((s.wr BEAT.STATUS.epoch_valid 1).beatEnter bALIGNED).raise Ev.BEAT_ALIGNED

/-- R571: the count starts at 0. (DESIGN CHOICE, assumption 17) -/
def State.startCount (s : State) : State :=
  (s.putBeat { s.beat with count := 0, slew := 0, slewAge := 0, source := s.is BEAT.CTRL.source }).beatEnter bLOCAL

/-- OFF to ACQUIRE: the lock to BEAT_REF starts, and its edges are present until a loss is seen (R48). (DESIGN CHOICE, assumption 17) -/
def State.lockStart (s : State) : State :=
  ((s.wr BEAT.STATUS.state bACQUIRE).wr BEAT.STATUS.ref_present 1).putBeat { s.beat with lockedAt := some s.now }

/-- Loss of BEAT_MARK (R49). -/
def State.markLost (s : State) : State := (s.wr BEAT.STATUS.mark_present 0).phaseCheck

/-- The offset of a stamp (0.25 ns) from the nearest multiple of 2^20 ns. -/
def markOffset (q : Nat) : Int := if q % 2 ^ 22 ≤ 2 ^ 21 then ((q % 2 ^ 22 : Nat) : Int) else ((q % 2 ^ 22 : Nat) : Int) - 2 ^ 22

/-- R51: three consecutive slips agree within 2 ns with one another. -/
def slipsAgree : List Int → Bool
  | a :: b :: c :: _ => (a - b).natAbs ≤ 8 && (b - c).natAbs ≤ 8 && (a - c).natAbs ≤ 8
  | _ => false

/-- A BEAT_MARK edge: stamped `frac` quarter nanoseconds after the count; `ref`: BEAT_REF edges are present (R48, R51). A single slip is no loss
of BEAT_MARK; a slipped mark counts among the ten marks of the relock (DESIGN CHOICE, assumption 142). -/
def State.markArrival (s : State) (frac : Nat) (ref : Bool) : State :=
  let b := s.beatState
  if b = bOFF then s
  else
    let s := if ref then s.wr BEAT.STATUS.ref_present 1 else s
    let s := (s.putBeat { s.beat with lastSeen := s.now, source := s.is BEAT.CTRL.source })
    if b = bACQUIRE then
      if s.beat.lockedAt.isSome then
        ((s.putBeat { s.beat with lastMark := s.now }).wr BEAT.STATUS.mark_present 1).startCount
      else if ref then (s.putBeat { s.beat with lockedAt := some s.now })
      else s
    else
      let off := markOffset (4 * s.beat.count + frac)
      let s := s.wr BEAT.MARK_OFFSET.offset (sat16 off)
      let s := (s.putBeat { s.beat with relockMarks := if b = bHOLDOVER ∧ ref then s.beat.relockMarks + 1 else 0 })
      if off.natAbs > 32 then
        let s := s.add BEAT.SLIPS.mark_slips 1
        let s := (s.putBeat { s.beat with slips := (off :: s.beat.slips).take 3 })
        if slipsAgree s.beat.slips then (s.raise Ev.MARK_SLIP).markLost else s
      else
        let s := (s.putBeat { s.beat with slips := [], lastMark := s.now }).wr BEAT.STATUS.mark_present 1
        let s := if s.phaseByMark then (s.putBeat { s.beat with slew := -off }) else s
        s.phaseBack.checkDisagree

/-- A partition of a job that spans more than this module (R52). -/
def State.spans (s : State) (n : Nat) : Bool :=
  match s.boundarySlot n with
  | some k => (s.slotParam0 k).testBit 8 && (match (s.part n).closing with | none => true | some leaves => leaves)
  | none => false

/-- R52: BEAT_UNALIGNED parks every partition that spans more than this module. -/
def State.beatUnaligned (s : State) : State :=
  let s := (s.putBeat { s.beat with unaligned := true }).raise Ev.BEAT_UNALIGNED
  s.forParts (fun s n => s.running n && s.spans n) (fun s n => s.setCause n 0)

/-- R46: a written SET_CMD go. -/
def State.setCmd (s : State) : State :=
  let v := s.rd BEAT.SET.set
  if ¬(s.rd BEAT.CTRL.role = 1 ∨ s.rd BEAT.CTRL.role = 2) then s.reject 0xFF 5
  else if s.beatState ≠ bLOCAL then s.reject 0xFF 6
  else if v % 2 ^ 20 ≠ 0 then s.reject 0xFF 7
  else (s.putBeat { s.beat with epoch := some v })

/-- R264, R46, R572: an alignment exchange with the parent ends, stamped in 0.25 ns at own send, parent receive, parent send; the own receive stamp
is the present count. The delay and the offset follow from the four stamps in the manner of IEEE 1588. (PRESUMED, assumption 19) -/
def State.beatAlign (s : State) (t1 t2 t3 : Nat) (epochValid : Bool) (bound root : Nat) : State :=
  if ¬s.counting then s
  else
    let t4 : Int := 4 * s.beat.count
    let delay : Int := ((t4 - t1) - (t3 - t2)) / 2
    let off : Int := (((t2 : Int) - t1) + (t3 - t4)) / 2
    let s := (s.putBeat { s.beat with lastExchange := s.now, parentBound := bound })
    let s := ((s.wr BEAT.STATUS.fabric_present 1).wr BEAT.FABRIC_OFFSET.offset (sat16 off)).wr BEAT.PATH_DELAY.delay_ns ((delay / 4).toNat)
    let s := (s.wr BEAT.ROOT_ID.root_tile root).wr BEAT.ROOT_ID.valid 1
    if s.beatState = bLOCAL then
      if s.rd BEAT.CTRL.role = 0 ∧ epochValid then s.setEpoch (((s.beat.count : Int) + off / 4) % 2 ^ 64).toNat else s
    else
      let s := if s.phaseByMark then s else (s.putBeat { s.beat with slew := off })
      s.phaseBack.checkDisagree

/-- One nanosecond: the clock runs, and the count with it, slewed by at most 1 ns in 20,000 (R43). What `step` does on an empty queue. (DESIGN CHOICE, assumption 1; DEDUCED, assumption 16) -/
def State.tick (s : State) : State :=
  let s := (s.putNow (s.now + 1))
  if s.counting then
    let b := s.beat
    let b := if b.count % 2 ^ 20 = 2 ^ 20 - 1 ∧ s.is BEAT.STATUS.mark_present = false then { b with source := s.is BEAT.CTRL.source } else b
    if b.slew.natAbs ≥ 4 ∧ b.slewAge + 1 ≥ 20000 then
      if b.slew > 0 then (s.putBeat { b with count := (b.count + 2) % 2 ^ 64, slew := b.slew - 4, slewAge := 0 })
      else (s.putBeat { b with slew := b.slew + 4, slewAge := 0 })
    else (s.putBeat { b with count := (b.count + 1) % 2 ^ 64, slewAge := if b.slew.natAbs ≥ 4 then b.slewAge + 1 else 0 })
  else s

/-! The commands. -/

/-- ACQUIRE_MARK_TIMEOUT (R48). Edges of BEAT_REF that come back after a loss are seen by no mark here: the wait then runs from the loss
(DEDUCED, assumption 141). -/
def execAcquireMarkTimeout (s : State) : Host.Outcome State Fault Refusal :=
  .next <|
    if s.beatState = bACQUIRE ∧ s.source ∧ s.beat.lockedAt.getD s.beat.refLostAt + 2097152 ≤ s.now then (s.wr BEAT.STATUS.ref_present 1).startCount
    else s

/-- MARK_ARRIVAL (R51). (DESIGN CHOICE, assumption 17) -/
def execMarkArrival (frac : Fin 4) (ref : Bool) (s : State) : Host.Outcome State Fault Refusal := .next (s.markArrival frac ref)

/-- BEAT_REF_LOST (R49): 100 ns without an edge while edges were present. (DESIGN CHOICE, assumption 3) -/
def execBeatRefLost (s : State) : Host.Outcome State Fault Refusal :=
  .next <|
    if s.is BEAT.STATUS.ref_present then
      let s := (s.wr BEAT.STATUS.ref_present 0).add BEAT.SLIPS.ref_losses 1
      let s := (s.putBeat { s.beat with relockMarks := 0, lockedAt := none, refLostAt := s.now })
      if s.beatState = bALIGNED then (s.beatEnter bHOLDOVER).raise Ev.BEAT_HOLDOVER else s
    else s

/-- BEAT_MARK_LOST (R49): 1,000 ns after a multiple of 2^20 without a mark. -/
def execBeatMarkLost (s : State) : Host.Outcome State Fault Refusal :=
  .next <|
    if s.counting ∧ s.is BEAT.STATUS.mark_present ∧ s.beat.count % 2 ^ 20 ≥ 1000 ∧ s.beat.lastSeen + s.beat.count % 2 ^ 20 + 8 < s.now then s.markLost
    else s

/-- FABRIC_SOURCE_LOST (R49): four mark periods without a valid exchange. -/
def execFabricSourceLost (s : State) : Host.Outcome State Fault Refusal :=
  .next <|
    if s.is BEAT.STATUS.fabric_present ∧ s.beat.lastExchange + 4 * 2 ^ 20 ≤ s.now then (s.wr BEAT.STATUS.fabric_present 0).phaseCheck else s

/-- BEAT_REF has been present for ten consecutive marks, or for ten mark periods where no marks arrive (R48; DEDUCED, assumption 141). -/
def State.refSteady (s : State) : Bool :=
  if s.is BEAT.STATUS.mark_present then s.is BEAT.STATUS.ref_present && decide (s.beat.relockMarks ≥ 10)
  else decide (s.beat.refLostAt + 10 * 2 ^ 20 ≤ s.now)

/-- REF_RELOCK (R48): BEAT_REF present for ten consecutive marks in HOLDOVER. -/
def execRefRelock (s : State) : Host.Outcome State Fault Refusal :=
  .next <| if s.beatState = bHOLDOVER ∧ s.refSteady then (s.wr BEAT.STATUS.ref_present 1).beatEnter bALIGNED else s

/-- BEAT_UNALIGNED (R52): the bound of FREE_RUN exceeds 20 ns. -/
def execBeatUnaligned (s : State) : Host.Outcome State Fault Refusal :=
  .next <| if s.beatState = bFREE_RUN ∧ s.errBound > 20 ∧ s.beat.unaligned = false then s.beatUnaligned else s

/-- SET_CMD (R46): a write of BEAT.SET_CMD with go = 1. -/
def execSetCmd (m : MasterId) (s : State) : Host.Outcome State Fault Refusal := .next (s.gate m .BEAT 0 0x068 State.setCmd)

/-- EPOCH_SET (R46): at the mark, or at a multiple of 2^20 with no mark present. -/
def execEpochSet (s : State) : Host.Outcome State Fault Refusal :=
  .next <| match s.beat.epoch with
    | some v =>
      if s.beatState = bLOCAL ∧ (if s.is BEAT.STATUS.mark_present then s.beat.lastMark = s.now else s.beat.count % 2 ^ 20 = 0) then s.setEpoch v
      else s
    | none => s

end Sys2Proof.Machine
end

