-- ==== Sys2Proof/Machine/Receive.lean ====
section
/-! DEFINITION. Queue commands after which producers that wait go on (R217, R222, R227): JENQ_RESUME, JDEQ, spill and refill, CONFIG. -/

namespace Sys2Proof.Machine

/-- JENQ_RESUME (R217, R222): a stalled JENQ takes a cell in its turn, or one that waits for its release takes effect. (DEDUCED, assumption 50) -/
def execJenqResume (c : CoreId) (n : StreamId) (s : State) : Host.Outcome State Fault Refusal :=
  .next (match (s.strm c n).jug with
    | some w => if s.jenqReady c n w then (s.jenqGo c n w).serveHeld (w.queue / 4096) else s
    | none => s)

/-- A JDEQ issues (R220). -/
def State.jdeq (s : State) (c n : Nat) (ga gq gr : GReg) (flags : BitVec 11) (upset : Nat) : State :=
  s.issue c n fun s =>
    let addr := s.g c n ga % 2 ^ 22
    let qv := s.g c n gq
    let cap := s.g c n gr % 2 ^ 16
    let k := 4096 * (c / 64) + qv % 4096
    let f := flags.toNat
    if f / 8 ≠ 0 ∨ addr % 64 ≠ 0 ∨ qv.testBit 15 ∨ (cap = 0 ∧ f.testBit 1 = false) then s.instrFault c n fDESC_FAULT 0
    else match s.jugRefuses c k true with
      | some code => s.instrFault c n code 0
      | none =>
        let claim := (s.claimOf c n).map (·.1)
        if (f.testBit 1 = false ∧ claim.isSome) ∨ (f.testBit 1 ∧ claim ≠ some k) then s.instrFault c n fPACKET_FAULT 0
        else (s.jdeqTry c n ⟨true, k, gr, addr, cap, f, 0, s.now, s.now * 2048 + 4 * c + n, false, 0⟩ upset).serveHeld (c / 64)

/-- JDEQ (R220). -/
def execJdeq (c : CoreId) (n : StreamId) (ga gq gr : GReg) (flags : BitVec 11) (upset : Fin 4) (s : State) : Host.Outcome State Fault Refusal :=
  .next (s.jdeq c n ga gq gr flags upset)

/-- JDEQ_RESUME (R222): a waiting JDEQ is served in its turn. -/
def execJdeqResume (c : CoreId) (n : StreamId) (upset : Fin 4) (s : State) : Host.Outcome State Fault Refusal :=
  .next (match (s.strm c n).jug with
    | some w => if w.deq ∧ s.sn c n = snJUG ∧ s.jdeqReady c n w then (s.jdeqTry c n w upset).serveHeld (w.queue / 4096) else s
    | none => s)

/-- SPILL_RUN_DONE (R229). -/
def execSpillRunDone (t : TileId) (s : State) : Host.Outcome State Fault Refusal := .next ((s.spillDone t).serveHeld t)

/-- REFILL_DONE (R229, R230). -/
def execRefillDone (t : TileId) (s : State) : Host.Outcome State Fault Refusal := .next ((s.refillDone t).serveHeld t)

/-- QCMD_CONFIG (R213, R214, R275): a write of JUG.QCMD with op 1. (DEDUCED, assumption 52) -/
def execQcmdConfig (m : MasterId) (t : TileId) (s : State) : Host.Outcome State Fault Refusal :=
  .next (s.gate m .JUG t 0x054 fun s =>
    let k := s.selQueue t
    let d := s.qdesc t
    let r := s.configResult m t k d
    (if r = 2 then (s.configure k d).serveHeld t else s).qcmdDone t r)

end Sys2Proof.Machine
end

