-- ==== Sys2Proof/Machine/Sched.lean ====
section
/-! DEFINITION. Event slots: arming, disarming, field writes (R54 to R58) and the HOST_EVENT action. -/

namespace Sys2Proof.Machine

/-- The owner kind an action asks for: 0 module, 1 tile, 2 partition; HOST_EVENT takes module or partition (Table 2.3). (DEDUCED, assumption 22) -/
def actionKindOk (action kind : Nat) : Bool :=
  if action = actStepBoundary ∨ action = actPartStop ∨ action = actPartStart ∨ action = actCollLaunch then kind == 2
  else if action = actPsChange then kind == 1
  else if action = actHostEvent then kind == 0 || kind == 2
  else kind == 0

/-- The actions of Table 2.3. -/
def knownAction (action : Nat) : Bool := 1 ≤ action && action ≤ 0x0B

/-- Bits of PARAM0 and PARAM1 that an action leaves reserved or requires to be 0 (R54, R62, R281, R363, R400, R407, R257, R427, R369, Table 2.3). (DEDUCED, assumption 23) -/
def reservedParams (action : Nat) : Nat × Nat :=
  if action = actStepBoundary then (0x0000FE00, 0)
  else if action = actPartStart then (0xFFFFFFFF, 0xFFFFFFFF)
  else if action = actPartStop then (0xFFFFFFFE, 0xFFFFFFFF)
  else if action = actFwActivate then (0xFFFF0000, 0)
  else if action = actPsChange then (0xFFFFFFF8, 0xFFFFFFFF)
  else if action = actCapChange then (0xFFFF0000, 0xFFFFFFFF)
  else if action = actPowerShift then (0xFFFFFFFC, 0xFFFFFFFF)
  else if action = actCollLaunch then (0xC0C0003F, 0xFFFF0000)
  else if action = actSensorDemand then (0xFFFFFFF8, 0xFFFFFFFF)
  else if action = actMcEvent then (0xFFFFFFF0, 0)
  else (0, 0xFFFFFFFF)

/-- The owner named is in its kind's range (R54). (DEDUCED, assumption 22) -/
def ownerOk (kind owner : Nat) : Bool :=
  if kind = 0 then owner == 0 else if kind = 1 then owner < 8 else if kind = 2 then owner < 16 else false

/-- R58: a program master may write slots that are disarmed or its own; other masters any. -/
def State.slotWritable (s : State) (m n : Nat) : Bool :=
  if 16 ≤ m ∧ m < 32 then !s.armed n || (s.rd SCHED.SLOT_CTL.owner_kind 0 n == 2 && s.slotOwner n == m - 16) else true

/-- Armed slots a partition holds (R58: at most 8). -/
def State.armedOf (s : State) (p : Nat) : Nat :=
  ((List.range 96).filter (fun n => s.armed n && s.rd SCHED.SLOT_CTL.owner_kind 0 n == 2 && s.slotOwner n == p)).length

/-- What a master may write into CTL (R58), and the owner rules under Table 2.6. (DEDUCED, assumption 22) -/
def ctlOwnerOk (m kind owner action : Nat) : Bool :=
  (if 16 ≤ m ∧ m < 32 then
     kind == 2 && owner == m - 16 && (action == actStepBoundary || action == actCollLaunch || action == actHostEvent)
   else action == actStepBoundary || action == actCollLaunch || action == actHostEvent ||
     m == HOST || m == MCA || m == MCB || m == TRAY || m == FLEET) &&
  (!knownAction action || kind == 3 || actionKindOk action kind)

/-- The same for an arm: a partition holds at most 8 armed slots (R58). (DEDUCED, assumption 22) -/
def State.armOwnerOk (s : State) (m n kind owner action : Nat) : Bool :=
  s.slotWritable m n && ctlOwnerOk m kind owner action && (kind != 2 || s.armed n || s.armedOf owner < 8)

/-- R54: the format rules. (DEDUCED, assumption 23) -/
def State.armFormatOk (s : State) (n kind owner action : Nat) : Bool :=
  let period := s.rd SCHED.SLOT_PERIOD.period 0 n
  let (r0, r1) := reservedParams action
  (period == 0 || period ≥ 1000) && knownAction action && (s.slotParam0 n &&& r0) == 0 && (s.slotParam1 n &&& r1) == 0 && ownerOk kind owner

/-- A refusal of a write to slot n: on a disarmed slot an arm's refusal shows in RESULT.state (R54). (DEDUCED, assumption 20) -/
def State.refuseSlot (s : State) (n reason : Nat) (arm : Bool) : State :=
  let s := if arm && !s.armed n then s.wr SCHED.SLOT_RESULT.state reason 0 n else s
  s.reject n reason

/-- A write of CTL with arm = 1 (R54, R55, R58). An arm of a slot that is armed already is refused BUSY, even one that changes no field.
(DEDUCED, assumption 20) -/
def State.slotArm (s : State) (m n ctl : Nat) : State :=
  let kind := bits ctl 5 4
  let owner := bits ctl 15 8
  let action := bits ctl 23 16
  if !s.armOwnerOk m n kind owner action then s.refuseSlot n 5 true
  else if s.armed n then s.refuseSlot n 6 true
  else
    let s := ((s.wr SCHED.SLOT_CTL.owner_kind kind 0 n).wr SCHED.SLOT_CTL.owner owner 0 n).wr SCHED.SLOT_CTL.action action 0 n
    if !s.armFormatOk n kind owner action then s.refuseSlot n 7 true
    else if s.slotTarget n < s.beat.count + s.rd SCHED.MIN_LEAD.lead then s.refuseSlot n 4 true
    else (s.wr SCHED.SLOT_CTL.arm 1 0 n).wr SCHED.SLOT_RESULT.state 1 0 n

/-- A write of CTL with arm = 0 (R55, R56, R58): one that would change a field of an armed slot is ignored, the disarm with it. (DEDUCED, assumption 20) -/
def State.slotDisarm (s : State) (m n ctl : Nat) : State :=
  let kind := bits ctl 5 4
  let owner := bits ctl 15 8
  let action := bits ctl 23 16
  if !s.slotWritable m n || !ctlOwnerOk m kind owner action then s.refuseSlot n 5 false
  else if s.armed n then
    let same := s.rd SCHED.SLOT_CTL.owner_kind 0 n = kind ∧ s.slotOwner n = owner ∧ s.slotAction n = action
    if ¬same then s.refuseSlot n 6 false
    else if s.counting ∧ s.slotTarget n ≤ s.beat.count then
      if s.rd SCHED.SLOT_PERIOD.period 0 n ≠ 0 ∧ s.slotStop.testBit n = false then (s.putSlotStop (s.slotStop + 2 ^ n)) else s
    else s.slotCancel n
  else ((s.wr SCHED.SLOT_CTL.owner_kind kind 0 n).wr SCHED.SLOT_CTL.owner owner 0 n).wr SCHED.SLOT_CTL.action action 0 n

/-- A write to TARGET_LO, TARGET_HI, PERIOD, PARAM0 or PARAM1 (numbered 0 to 4) of slot n (R55, R58). -/
def State.slotField (s : State) (m n f v : Nat) : State :=
  if !s.slotWritable m n then s.refuseSlot n 5 false
  else if s.armed n then s.refuseSlot n 6 false
  else
    let t := s.slotTarget n
    if f = 0 then s.wr SCHED.SLOT_TARGET.target (t / 2 ^ 32 * 2 ^ 32 + v % 2 ^ 32) 0 n
    else if f = 1 then s.wr SCHED.SLOT_TARGET.target (v % 2 ^ 32 * 2 ^ 32 + t % 2 ^ 32) 0 n
    else if f = 2 then s.wr SCHED.SLOT_PERIOD.period v 0 n
    else if f = 3 then s.wr SCHED.SLOT_PARAM0.param0 v 0 n
    else s.wr SCHED.SLOT_PARAM1.param1 v 0 n

/-- SLOT_ARM (R54): a write of CTL with arm = 1. (DEDUCED, assumption 20) -/
def execSlotArm (m : MasterId) (n : SlotId) (ctl : Word) (s : State) : Host.Outcome State Fault Refusal :=
  .next (s.gate m .SCHED 0 (0x40C + 0x20 * n) (fun s => s.slotArm m n ctl.toNat))

/-- SLOT_DISARM (R56): a write of CTL with arm = 0. -/
def execSlotDisarm (m : MasterId) (n : SlotId) (ctl : Word) (s : State) : Host.Outcome State Fault Refusal :=
  .next (s.gate m .SCHED 0 (0x40C + 0x20 * n) (fun s => s.slotDisarm m n ctl.toNat))

/-- SLOT_FIELD_WRITE (R55): a write to another field of a slot. -/
def execSlotFieldWrite (m : MasterId) (n : SlotId) (f : Fin 5) (v : Word) (s : State) : Host.Outcome State Fault Refusal :=
  .next (s.gate m .SCHED 0 (0x400 + 0x20 * n) (fun s => s.slotField m n f v.toNat))

/-- HOST_EVENT (R60, Table 2.3): slot n fires and posts BEAT_ALARM with its tag. -/
def execHostEvent (n : SlotId) (s : State) : Host.Outcome State Fault Refusal :=
  .next <|
    if s.dueAlone n actHostEvent then
      let tag := s.slotParam0 n
      (s.slotFire n).postBare 0x000D [n, tag] (if s.rd SCHED.SLOT_CTL.owner_kind 0 n = 2 then some (s.slotOwner n) else none)
    else s

end Sys2Proof.Machine
end

