-- ==== Sys2Proof/Machine/Update.lean ====
section
/-! DEFINITION. Flash slots and their updates (R352 to R354), trials, confirmation and reverts (R355 to R359), the preparation of a Curtain Call
(R360), configuration writes and recovery images as commands (R338, R345). What a slow operation brings shows at its end (UPDATE_DONE). -/

namespace Sys2Proof.Machine

/-- R373: the count of leaves left falls; IDENTITY_LOW when 65,536 remain. -/
def State.leavesLeft (s : State) (n : Nat) : State :=
  let low := 65536 < s.rd SEC.LEAVES_LEFT.count ∧ n ≤ 65536
  let s := s.wr SEC.LEAVES_LEFT.count n
  if low then s.raise Ev.IDENTITY_LOW 0 [n] else s

/-! Trials (R355). -/

/-- The confirmed set: as manufactured, the images of slot A (DEDUCED, assumption 112). -/
def State.confirmedSet (s : State) : List Nat :=
  if s.fw.confirmed.isEmpty then
    (List.range 3).map fun i => leNat ((List.range 32).map fun j => Config.factoryFlash 0 (regionBase (i + 1) + 0x40 + j))
  else s.fw.confirmed

/-- FW.STATUS.trial follows the running images; a trial's minutes are counted from its start; it does not
end while an image is still to start. (DEDUCED, assumption 112) -/
def State.trialUpdate (s : State) : State :=
  let c := s.confirmedSet
  let differs := fun (o : Option Img) (i : Nat) => match o with | some x => x.hash != c.getD i 0 | none => false
  let trial := differs s.fw.loader 0 || differs s.fw.main 1 || differs s.fw.ucode 2
  if trial ∧ s.is FW.STATUS.trial = false then
    ((s.wr FW.STATUS.trial 1).putFw { s.fw with trialNs := 0, trialAt := some s.now, loaderFaults := 0 })
  else if trial then (s.putFw { s.fw with trialAt := some (s.fw.trialAt.getD s.now) })
  else if s.fw.loader.isSome && s.fw.main.isSome && s.fw.ucode.isSome then
    ((s.wr FW.STATUS.trial 0).putFw { s.fw with trialNs := 0, trialAt := none })
  else s

/-- FW.TRIAL_MIN. (DEDUCED, assumption 135) -/
def State.trialMin (s : State) : Nat :=
  min 2047 ((s.fw.trialNs + (match s.fw.trialAt with | some t => s.now - t | none => 0)) / 60000000000)

/-! Refusals, reverts and the switch of microcode. -/

/-- IMAGE_REFUSED: `how`: 1 push, 2 slot write, 3 boot, 4 prepare. -/
def State.imageRefused (s : State) (type reason how : Nat) : State := s.raise Ev.IMAGE_REFUSED 0 [type, reason, how]

/-- R367: a new active microcode; halves of partitions keep the one they run until their next boundary or start. -/
def State.switchUcode (s : State) (img : Img) : State :=
  let old := match s.fw.ucode with | some x => some x.hash | none => none
  let keep : Assoc (Option Nat) := (List.range 16).foldl (fun a h =>
    if (s.holder h).isSome then Assoc.put none a h (match Assoc.get none s.fw.oldUcode h with | some x => some x | none => old) else a) []
  let s := (s.putFw { s.fw with ucode := some img, oldUcode := keep })
  ((s.wr FW.SVN.svn img.svn 0 2).wr FW.REL.release img.release 0 1).wr FW.STATUS.ucode_flash (if img.source = 0 then 1 else 0)

/-- A revert (R358): the other slot boots; the tiles' microcode becomes that slot's. `why`: 1 migration, 2 verification, 3 faults. (DEDUCED, assumption 116) -/
def State.revert (s : State) (why : Nat) : State :=
  let failed := s.bootSlot
  let other := 1 - failed
  let s := ((s.setSlot failed slINVALID).bootRecord (State.wr · FW.BOOT_PREF.slot other)).wr FW.STATUS.boot_slot other
  let s := s.raise Ev.SLOT_REVERTED 0 [other, why]
  let x := s.flashImage other 3
  let s := if s.fw.ucode.isSome ∧ s.imageReason x 3 [1, 2, 3, 4, 5, 6, 7] = 0 then s.switchUcode x.img else s
  s.warmReset

/-- R358: both cores have entered the loader through faults twice within one trial. (DEDUCED, assumption 116) -/
def State.faultRevert (s : State) : State :=
  if s.is FW.STATUS.trial then
    let n := s.fw.loaderFaults + 1
    let s := (s.putFw { s.fw with loaderFaults := n })
    if n ≥ 2 then (s.putFw { s.fw with loaderFaults := 0 }).revert 3 else s
  else s

/-- A management core is lost (R469); when it is the last, and both entered the loader through faults, that counts toward a revert. -/
def State.mcLost (s : State) (b : Bool) (cause : Nat) : State :=
  let was := s.rd SAFE.STATUS.supervision
  let s := s.coreLost b cause
  if cause = 4 ∧ was ≠ 2 ∧ s.rd SAFE.STATUS.supervision = 2 then s.faultRevert else s

/-- MC_LOST (R469): cause 0 watchdog, 1 memory, 2 SUPERVISOR, 3 fault entry; the watchdog after 50 ms without a kick. -/
def execMcLost (b : Bool) (cause : Fin 4) (s : State) : Host.Outcome State Fault Refusal :=
  .next (if cause.val = 0 ∧ s.now < s.kickAt b + 50000000 then s else s.mcLost b (cause + 1))

/-! UPD_CMD (R352 to R354). -/

/-- UPDATE takes the command: it runs, and nothing of its operations does. -/
def State.updCmd (s : State) (m : Nat) (act : State → State) : State :=
  s.gate m .FW 0 0x080 fun s =>
    if !s.runs 7 then s.wr FW.UPD_RESULT.result 4
    else if s.fw.op.isSome || (match s.fw.prep with | some p => !p.done | none => false) then s.wr FW.UPD_RESULT.result 3
    else act s
def State.updRefuse (s : State) : State := s.wr FW.UPD_RESULT.result 4

/-- A flash or keep-store operation runs: it ends with UPDATE_DONE. (DEDUCED, assumption 115) -/
def State.updRuns (s : State) (op result reason : Nat) : State :=
  ((((s.wr FW.UPD_RESULT.result 1).wr FW.UPD_RESULT.reason 0)).putFw { s.fw with op := some ⟨0, op, result, reason, none⟩ })

/-- BEGIN: erase a slot that is not the boot slot, while no slot is in trial. -/
def State.updBegin (s : State) (k : Nat) : State :=
  let st := s.slot k
  if (st = slEMPTY ∨ st = slINVALID ∨ st = slCONFIRMED) ∧ k ≠ s.bootSlot ∧ s.slot 0 ≠ slTRIAL ∧ s.slot 1 ≠ slTRIAL then
    (((s.flashErase k).setSlot k slWRITING).setVerified k 0).updRuns 1 2 0
  else s.updRefuse
def execUpdBegin (m : MasterId) (k : Fin 2) (s : State) : Host.Outcome State Fault Refusal := .next (s.updCmd m (State.updBegin · k))

/-- WRITE: program data into a region of a WRITING slot; a range that is not there ends failed with FORMAT. (DEDUCED, assumption 115) -/
def State.updWrite (s : State) (k type src : Nat) : State :=
  if s.slot k = slWRITING ∧ 1 ≤ type ∧ type ≤ 3 then
    let n := s.rd FW.UPD_LEN.bytes
    let dst := s.rd FW.UPD_DST.offset
    if dst + n > regionSize type then s.updRuns 2 5 1
    else match s.readSrc src (s.rd FW.UPD_SRC.offset) n with
      | (some bs, s) => (s.flashWrite k (regionBase type + dst) bs).updRuns 2 2 0
      | (none, s) => s.updRuns 2 5 1
  else s.updRefuse
def execUpdWrite (m : MasterId) (k : Fin 2) (type : Fin 4) (src : Fin 2) (s : State) : Host.Outcome State Fault Refusal :=
  .next (s.updCmd m (State.updWrite · k type src))

/-- COPY: an image of the same type from the boot slot. -/
def State.updCopy (s : State) (k type : Nat) : State :=
  if s.slot k = slWRITING ∧ 1 ≤ type ∧ type ≤ 3 then
    (s.flashWrite k (regionBase type) (s.flashBytes s.bootSlot (regionBase type) (regionSize type))).updRuns 3 2 0
  else s.updRefuse
def execUpdCopy (m : MasterId) (k : Fin 2) (type : Fin 4) (s : State) : Host.Outcome State Fault Refusal :=
  .next (s.updCmd m (State.updCopy · k type))

/-- The first image of a slot that fails its checks: type and reason (R353). (DESIGN CHOICE, assumption 84; DEDUCED, assumption 112) -/
def State.slotRefusal (s : State) (k : Nat) (checks : List Nat) : Option (Nat × Nat) :=
  [1, 2, 3].findSome? fun type => let r := s.imageReason (s.flashImage k type) type checks; if r = 0 then none else some (type, r)

/-- COMMIT (R353). -/
def State.updCommit (s : State) (k : Nat) : State :=
  if s.slot k = slWRITING then
    let fleet := s.is FW.CTRL.fleet_mode
    match s.slotRefusal k (if fleet then [1, 2, 3, 7, 8] else [1, 2, 3, 4, 5, 6, 7, 8]) with
    | some (type, r) => ((s.imageRefused type r 2).setSlot k slINVALID).updRuns 4 5 r
    | none => ((s.setSlot k slSTAGED).setVerified k (if fleet then 0 else 1)).updRuns 4 2 0
  else s.updRefuse
def execUpdCommit (m : MasterId) (k : Fin 2) (s : State) : Host.Outcome State Fault Refusal := .next (s.updCmd m (State.updCommit · k))

/-- ABORT. -/
def State.updAbort (s : State) (k : Nat) : State := if s.slot k = slWRITING then (s.setSlot k slINVALID).updRuns 5 2 0 else s.updRefuse
def execUpdAbort (m : MasterId) (k : Fin 2) (s : State) : Host.Outcome State Fault Refusal := .next (s.updCmd m (State.updAbort · k))

/-- BOOT_NEXT (R354). -/
def State.bootNext (s : State) (k : Nat) : State :=
  if s.slot k = slSTAGED then (s.bootRecord (State.wr · FW.BOOT_PREF.slot k)).updRuns 9 2 0 else s.updRefuse
def execBootNext (m : MasterId) (k : Fin 2) (s : State) : Host.Outcome State Fault Refusal := .next (s.updCmd m (State.bootNext · k))

/-! Confirmation (R359). -/

/-- The floors rise, the running set is confirmed, a trial slot becomes CONFIRMED. -/
def State.confirm (s : State) : State :=
  let run := [s.fw.loader, s.fw.main, s.fw.ucode]
  let old := s.confirmedSet
  let set_ := (List.range 3).map fun i => match run.getD i none with | some x => x.hash | none => old.getD i 0
  let s := s.bootRecord fun s =>
    let s := (List.range 3).foldl (fun s i => match run.getD i none with
      | some x => s.wr FW.FLOOR.floor (max (s.rd FW.FLOOR.floor 0 i) x.svn) 0 i
      | none => s) s
    s.putFw { s.fw with confirmed := set_ }
  let s := [0, 1].foldl (fun s k => if s.slot k = slTRIAL then s.setSlot k slCONFIRMED else s) s
  s.trialUpdate.raise Ev.CONFIRMED 0 ((List.range 3).map fun i => s.rd FW.FLOOR.floor 0 i)

/-- CONFIRM: in trial, with the main firmware's settings selected. -/
def execConfirm (m : MasterId) (s : State) : Host.Outcome State Fault Refusal :=
  .next (s.updCmd m fun s => if s.is FW.STATUS.trial ∧ s.mainRuns then s.confirm.updRuns 8 2 0 else s.updRefuse)
/-- AUTO_CONFIRM: 1,440 minutes in trial. -/
def execAutoConfirm (s : State) : Host.Outcome State Fault Refusal :=
  .next (if s.is FW.STATUS.trial ∧ s.mainRuns ∧ s.runs 7 ∧ s.is FW.CTRL.auto_confirm ∧ s.trialMin ≥ 1440 then s.confirm else s)

/-! Settings (R356, R357). -/

/-- R356: the settings of an area are migrated into the other one; answers whether a valid area came of it. -/
def State.migrate (s : State) (from_ own writer : Nat) : Bool × State :=
  let body := Config.migrated (s.areaVersion from_) own (s.areaBody from_)
  let s := s.areaWrite (1 - from_) own (s.areaGen from_ + 1) writer body
  (s.areaValid (1 - from_) && s.areaVersion (1 - from_) == own, s)

/-- R357: the area of a main firmware: one of its own version, else one migrated; or the source version of a migration that failed. -/
def State.settingsSelect (s : State) (img : Img) : Except Nat Nat × State :=
  let own := img.setVer
  match s.pickArea (fun a => s.areaValid a && s.areaVersion a == own) with
  | some a => (.ok a, s)
  | none =>
    match s.pickArea (fun a => s.areaValid a && img.setMin ≤ s.areaVersion a && s.areaVersion a ≤ own) with
    | some a =>
      let v := s.areaVersion a
      let (ok, s) := s.migrate a own img.release
      (if ok then .ok (1 - a) else .error v, s)
    | none => (.error (s.rd FW.SETTINGS.version), s)

/-! PREPARE (R360). -/

/-- PREPARE: on a STAGED slot, with no prepare in force. -/
def execPrepare (m : MasterId) (k : Fin 2) (s : State) : Host.Outcome State Fault Refusal :=
  .next (s.updCmd m fun s =>
    if s.slot k = slSTAGED ∧ s.fw.prep.isNone ∧ s.fw.handover.isNone then
      ((((s.wr FW.UPD_RESULT.result 1).wr FW.UPD_RESULT.reason 0)).putFw { s.fw with prep := some ⟨k, false, none, none, 0⟩, prepFailed := 0 })
    else s.updRefuse)

/-- A preparation ends failed: the module is unprepared. `why`: 1 a check, 2 the migration; 0 neither has failed (Table 11.8). -/
def State.prepFails (s : State) (why reason : Nat) : State :=
  let s := (s.putFw { s.fw with prep := none, prepFailed := why })
  ((s.wr FW.UPD_RESULT.result 5).wr FW.UPD_RESULT.reason reason).raise Ev.UPDATE_DONE 0 [6, 5]

/-- What PREPARE found: images, settings, microcode (R347, R356, R360). -/
def State.prepare (s : State) (k : Nat) : State :=
  let main := s.flashImage k 2
  let uc := s.flashImage k 3
  let r2 := s.imageReason main 2 [1, 2, 3, 4, 5, 6, 7, 9, 10]
  let r3 := s.imageReason uc 3 [1, 2, 3, 4, 5, 6, 7, 11]
  if r2 ≠ 0 then ((s.imageRefused 2 r2 4).setSlot k slINVALID).prepFails 1 r2
  else if r3 ≠ 0 then ((s.imageRefused 3 r3 4).setSlot k slINVALID).prepFails 1 r3
  else match s.settingsSelect main.img with
    | (.error v, s) => (s.raise Ev.MIGRATION_FAILED 0 [v, main.img.setVer]).prepFails 2 0
    | (.ok _, s) =>
      let tiles := ((List.range 8).filter fun t => s.rd TILE.STATUS.state t == 0).foldl (fun a t => a + 2 ^ t) 0
      let s := (((s.setVerified k 1).wr FW.STATUS.prepared 1).putFw { s.fw with prep := some ⟨k, true, some main.img, some uc.img, tiles⟩ })
      (s.wr FW.UPD_RESULT.result 2).raise Ev.UPDATE_DONE 0 [6, 2]

/-- PREPARE_DONE (R360): the mirror core has done its part. (DEDUCED, assumption 112) -/
def execPrepareDone (s : State) : Host.Outcome State Fault Refusal :=
  .next (match s.fw.prep with
    | some p => if p.done = false ∧ s.is FW.STATUS.mirrored ∧ s.runs 7 then s.prepare p.slot else s
    | none => s)

/-- UNPREPARE (R360). -/
def execUnprepare (m : MasterId) (s : State) : Host.Outcome State Fault Refusal :=
  .next (s.updCmd m fun s =>
    if s.fw.prep.isSome ∧ s.fw.handover.isNone then
      let s := ((s.wr FW.STATUS.prepared 0).putFw { s.fw with prep := none })
      ((s.wr FW.UPD_RESULT.result 2).wr FW.UPD_RESULT.reason 0).raise Ev.UPDATE_DONE 0 [7, 2]
    else s.updRefuse)

/-! CFG_CMD and REC_CMD (R338, R345). -/

def State.cfgEnd (s : State) (result reason : Nat) : State := (s.wr FW.CFG_RESULT.result result).wr FW.CFG_RESULT.reason reason
def State.setOp (s : State) (o : FwOp) : State := (s.putFw { s.fw with op := some o })
/-- The area in use, if one is (R343, R357). -/
def State.areaInUse (s : State) : Option Nat := if s.mainRuns then some (s.rd FW.SETTINGS.area) else s.fw.area

/-- CFG_WRITE (R345): the body goes to the area not in use at once, header and crc at the end of the write. -/
def State.cfgWrite (s : State) (src : Nat) : State :=
  let off := s.rd FW.CFG_OFFSET.offset
  if s.rd FW.STATUS.stage < 3 ∨ (s.mainRuns ∧ s.runs 7 = false) then s.cfgEnd 4 0
  else if s.fw.op.isSome then s.cfgEnd 3 0
  else if s.is FW.STATUS.trial then s.cfgEnd 4 4
  else match s.readSrc src off 64 with
    | (none, s) => s.cfgEnd 5 1
    | (some h, s) =>
      match s.readSrc src (off + 64) (leAt h 0x0C 2) with
      | (none, s) => s.cfgEnd 5 1
      | (some body, s) =>
        let r := blobReason h body
        if r ≠ 0 then s.cfgEnd 5 r
        else if s.mainRuns ∧ leAt h 4 2 ≠ s.rd FW.SETTINGS.version then s.cfgEnd 5 2
        else
          let a := 1 - s.areaInUse.getD 1
          ((s.keepWriteAll (areaBase a + 64) body).cfgEnd 1 0).setOp ⟨1, 1, 2, 0, some (a, h ++ body)⟩
/-- A CFG_CMD or REC_CMD started over TW4 sets ATTN bit 7 at its end (Table 15.4). -/
def State.noteTw (s : State) (m : Nat) : State := if m = TRAY ∧ s.fw.op.isSome then (s.putTw { s.tw with attnCmd := true }) else s
def execCfgWrite (m : MasterId) (src : Fin 2) (s : State) : Host.Outcome State Fault Refusal :=
  .next (s.gate m .FW 0 0x0AC fun s => (s.cfgWrite src).noteTw m)

/-- CFG_READ (R345): header and body of the area in use. -/
def State.cfgRead (s : State) (dst : Nat) : State :=
  match s.areaInUse with
  | none => s.cfgEnd 4 0
  | some a =>
    if s.mainRuns ∧ s.runs 7 = false then s.cfgEnd 4 0
    else if s.fw.op.isSome then s.cfgEnd 3 0
    else
      let (ok, s) := s.writeDst dst (s.rd FW.CFG_OFFSET.offset) (s.areaHeader a ++ s.areaBody a)
      (s.cfgEnd 1 0).setOp ⟨1, 2, if ok then 2 else 5, 0, none⟩
def execCfgRead (m : MasterId) (dst : Fin 2) (s : State) : Host.Outcome State Fault Refusal :=
  .next (s.gate m .FW 0 0x0AC fun s => (s.cfgRead dst).noteTw m)

/-- REC_CMD (R338): in ROM_RECOVERY a loader image from the buffer. (DEDUCED, assumption 112) -/
def State.recCmd (s : State) (k : Nat) : State :=
  if s.rd FW.STATUS.stage ≠ 1 then s.wr FW.PUSH_RESULT.result 4
  else if s.fw.op.isSome then s.wr FW.PUSH_RESULT.result 3
  else
    let bs := s.bufRead 0 (min (s.rd FW.REC_LEN.bytes) bufferSize)
    let r := s.imageReason (imageOf bs) 1 [1, 2, 3, 4, 5, 6, 7]
    if r ≠ 0 then ((s.imageRefused 1 r 2).wr FW.PUSH_RESULT.result 5).wr FW.PUSH_RESULT.reason r
    else ((s.flashWrite k (regionBase 1) bs).wr FW.PUSH_RESULT.result 1).setOp ⟨2, k, 2, 0, none⟩
def execRecCmd (m : MasterId) (k : Fin 2) (s : State) : Host.Outcome State Fault Refusal :=
  .next (s.gate m .FW 0 0x0C4 fun s => (s.recCmd k).noteTw m)

end Sys2Proof.Machine
end

