-- ==== Sys2Proof/Machine/FwStart.lean ====
section
/-! DEFINITION. The start of the main firmware and of the tile microcode from pushed or flash images (R335, R350, R351, R357), the firmware's
components (R368, R369), quotes (R373, R374). -/

namespace Sys2Proof.Machine

/-! Starts. -/

def State.enterStage (s : State) (stage : Nat) : State := ((s.wr FW.STATUS.stage stage).putFw { s.fw with stageAt := s.now })

/-- STARTED (Table 11.14). (DEDUCED, assumption 116) -/
def State.started (s : State) (warm : Bool) : State :=
  let flags := s.rd FW.STATUS.main_flash + 2 * s.rd FW.STATUS.ucode_flash + (if warm then 4 else 0)
  s.raise Ev.STARTED 0 [s.rd FW.REL.release 0 0, s.rd FW.REL.release 0 1, flags]

/-- The heartbeat timers go on where the restart stopped them (R328, R339). -/
def State.resumeTimers (s : State) : State :=
  match s.host.pausedAt with
  | some t => (s.putHost { s.host with hbAt := s.host.hbAt + (s.now - t), lostAt := s.host.lostAt + (s.now - t), pausedAt := none })
  | none => s

/-- The pair under the main firmware (Table 14.3): out of NONE a single core; otherwise both cores start mirrored (Table 11.1). (DEDUCED, assumption 73) -/
def State.pairUp (s : State) : State :=
  let s := s.wr SAFE.STATUS.master (s.rd FW.STATUS.master)
  if s.rd SAFE.STATUS.supervision = 2 then
    let s := ((s.wr SAFE.STATUS.supervision 1).putSafety { s.safety with noneAt := none, restartAt := none })
    (s.wr FW.STATUS.mirrored 0).sfEnds sfMW
  else if s.safety.outB then s.wr FW.STATUS.mirrored 0
  else
    let s := (s.putSafety { s.safety with aliveB := true, kickB := s.now })
    (((s.wr SAFE.STATUS.supervision 0).wr FW.STATUS.mirrored 1).raise Ev.MC_MIRRORED 0 [2]).sfEnds sfMW

/-- The main firmware runs on the settings of area a (R335, R339, R357). -/
def State.mainUp (s : State) (img : Img) (a : Nat) : State :=
  let warm := s.fw.ucode.isSome
  let s := ((s.putFw { s.fw with main := some img }).putSafety { s.safety with dutyAt := none })
  let s := ((s.wr FW.SVN.svn img.svn 0 1).wr FW.REL.release img.release 0 0).wr MOD.IFACE_VER.version img.iface
  let s := s.wr FW.STATUS.main_flash (if img.source = 0 then 1 else 0)
  let s := match s.fw.ucode with
    | some u => (s.wr FW.SVN.svn u.svn 0 2).wr FW.REL.release u.release 0 1
    | none => s
  let s := match s.fw.loader with | some l => s.wr FW.SVN.svn l.svn 0 0 | none => s
  let s := ((s.wr FW.SETTINGS.version (s.areaVersion a)).wr FW.SETTINGS.area a).wr FW.COMPONENTS.running 0x3FF
  let s := (s.resumeTimers.pairUp).enterStage (if warm then 6 else 5)
  let s := if warm then s.started true else s
  s.trialUpdate.postDeferred

/-- A flash MAIN starts; a migration that fails reverts (R357, R358). -/
def State.startFlashMain (s : State) (img : Img) : State :=
  match s.settingsSelect img with
  | (.ok a, s) => s.mainUp img a
  | (.error v, s) => (s.raise Ev.MIGRATION_FAILED 0 [v, img.setVer]).revert 1

/-- Checks of an image of a type at a start: R347, and for a warm start that MAIN accepts the running microcode (R339). -/
def startChecks (type : Nat) : List Nat := if type = 3 then [1, 2, 3, 4, 5, 6, 7, 11] else [1, 2, 3, 4, 5, 6, 7]
def State.startReason (s : State) (x : Image) (type : Nat) : Nat :=
  let r := s.imageReason x type (startChecks type)
  if r ≠ 0 then r
  else match s.fw.ucode with
    | some u => if type = 2 ∧ !(x.img.uMin ≤ u.release && u.release ≤ x.img.uMax) then 11 else 0
    | none => 0

/-- The tile microcode is loaded into every in-service tile: RUNNING (Table 11.1). A boot slot of which all three images have run is verified (R353). -/
def State.startUcode (s : State) (img : Img) : State :=
  let s := (s.putFw { s.fw with ucode := some img, oldUcode := [] })
  let s := ((s.wr FW.SVN.svn img.svn 0 2).wr FW.REL.release img.release 0 1).wr FW.STATUS.ucode_flash (if img.source = 0 then 1 else 0)
  let s := if s.is FW.STATUS.main_flash && s.is FW.STATUS.ucode_flash then s.setVerified s.bootSlot 1 else s
  ((s.enterStage 6).started false).trialUpdate

/-- R350: the boot slot's image of a type; one that fails reverts (R358). -/
def State.bootFlash (s : State) (type : Nat) : State :=
  let k := s.bootSlot
  let x := s.flashImage k type
  let s := s.raise Ev.BOOT_FALLBACK 0 [type, k]
  let r := s.startReason x type
  if r ≠ 0 then (s.imageRefused type r 3).revert 2
  else if type = 2 then s.startFlashMain x.img
  else s.startUcode x.img

/-- A pushed MAIN whose migration fails is replaced by the boot slot's flash copy (R358). (DEDUCED, assumption 115) -/
def State.startPushedMain (s : State) (img : Img) : State :=
  match s.settingsSelect img with
  | (.ok a, s) => s.mainUp img a
  | (.error v, s) => (s.raise Ev.MIGRATION_FAILED 0 [v, img.setVer]).bootFlash 2

/-! PUSH_CMD (R350). -/

/-- UPDATE serves pushes once the main firmware runs (Table 11.10); before that the loader does. (DEDUCED, assumption 115) -/
def State.updateServes (s : State) : Bool := !s.mainRuns || s.runs 7

/-- A push of a type: taken in its stage only; the staged bytes are checked. A MAIN that does not accept the running microcode gives way to the boot
slot's at once (R339; DEDUCED, assumption 115). -/
def State.push (s : State) (type : Nat) : State :=
  if s.rd FW.STATUS.stage ≠ (if type = 2 then 4 else 5) ∨ s.updateServes = false then s.wr FW.PUSH_RESULT.result 4
  else
    let (bs, s) := s.readSrc 0 (s.rd FW.PUSH_OFFSET.offset) (s.rd FW.PUSH_LEN.bytes)
    let x := imageOf (bs.getD [])
    let r := if bs.isNone then 1 else s.startReason x type
    let s := (s.wr FW.PUSH_RESULT.result (if r = 0 then 2 else 5)).wr FW.PUSH_RESULT.reason r
    if r ≠ 0 then
      let s := s.imageRefused type r 1
      if type = 2 ∧ r = 11 then s.bootFlash 2 else s
    else if type = 2 then s.startPushedMain x.img
    else s.startUcode x.img

/-- PUSH_MAIN and PUSH_MICROCODE (R350). -/
def execPushMain (m : MasterId) (s : State) : Host.Outcome State Fault Refusal := .next (s.gate m .FW 0 0x078 (State.push · 2))
def execPushMicrocode (m : MasterId) (s : State) : Host.Outcome State Fault Refusal := .next (s.gate m .FW 0 0x078 (State.push · 3))

/-- The type a stage waits for. -/
def stageType (stage : Nat) : Option Nat := if stage = 4 then some 2 else if stage = 5 then some 3 else none
/-- The type that is waited for and can be served now. -/
def State.waitedFor (s : State) : Option Nat := if s.updateServes then stageType (s.rd FW.STATUS.stage) else none
/-- PUSH_FLASH (R350). -/
def State.pushFlash (s : State) : State :=
  match s.waitedFor with
  | some type => ((s.wr FW.PUSH_RESULT.result 2).wr FW.PUSH_RESULT.reason 0).bootFlash type
  | none => s.wr FW.PUSH_RESULT.result 4
def execPushFlash (m : MasterId) (s : State) : Host.Outcome State Fault Refusal := .next (s.gate m .FW 0 0x078 State.pushFlash)

/-- PUSH_TIMEOUT (R350): 60 s in the stage, or at once with push_wait = 0. -/
def execPushTimeout (s : State) : Host.Outcome State Fault Refusal :=
  .next (match s.waitedFor with
    | some type => if s.fw.stageAt + 60000000000 ≤ s.now ∨ s.is FW.CTRL.push_wait = false then s.bootFlash type else s
    | none => s)

/-! Components (R368, R369, Table 11.10). -/

/-- UPDATE has faulted: what it was doing ends failed; a prepare in force stays. -/
def State.updateDown (s : State) : State :=
  let s := match s.fw.op with | some o => s.setOp { o with result := 5, blob := none } | none => s
  match s.fw.prep with
  | some p => if p.done then s else s.prepFails 0 0
  | none => s

/-- COMPONENT_FAULT (R368, R369). -/
def execComponentFault (c : Fin 10) (s : State) : Host.Outcome State Fault Refusal :=
  .next (if !s.runs c then s
    else
      let recent := s.fw.faults.filter fun f => f.1 == c.val && s.now < f.2 + 60000000000
      let soon := recent.any fun f => s.now < f.2 + 1000000000
      let k := recent.length + 1
      let s := (s.putFw { s.fw with faults := (c.val, s.now) :: s.fw.faults.filter fun f => s.now < f.2 + 60000000000 })
      let s := if c = 7 then s.updateDown else s
      if c = 1 ∧ soon then s.mcLost (s.rd SAFE.STATUS.master == 2) 3
      else if k ≥ 3 then
        let s := ((s.setBit FW.COMPONENTS.running c false).setBit FW.COMPONENTS.held c true).raise Ev.COMPONENT_HELD 0 [c]
        if c = 2 ∨ c = 3 ∨ c = 4 then (s.putSafety { s.safety with dutyAt := some (s.safety.dutyAt.getD s.now) }) else s
      else ((s.wr FW.COMP_RESTARTS.last c).add FW.COMP_RESTARTS.count 1).raise Ev.COMPONENT_RESTART 0 [c, k])

/-! Quotes (R372 to R374). -/

/-- QUOTE_CMD (R374). -/
def State.quoteCmd (s : State) (dst : Nat) : State :=
  let early : Bool := match s.fw.quoteAt with | some t => decide (s.now < t + s.rd SEC.CTRL.quote_gap_s * 1000000000) | none => false
  if s.fw.quote.isSome then s.wr SEC.QUOTE_RESULT.result 3
  else if s.rd SEC.LEAVES_LEFT.count = 0 ∨ early ∨ s.mainRuns = false ∨ s.is SEC.STATUS.zeroized then s.wr SEC.QUOTE_RESULT.result 4
  else
    let nonce := (List.range 8).foldl (fun a j => a + s.rd SEC.NONCE.nonce 0 j * 2 ^ (32 * j)) 0
    (((s.wr SEC.QUOTE_RESULT.result 1).wr SEC.STATUS.busy 1).putFw { s.fw with quote := some (dst, s.rd SEC.QUOTE_DST.offset, nonce) })
def execQuoteCmd (m : MasterId) (dst : Fin 2) (s : State) : Host.Outcome State Fault Refusal :=
  .next (s.gate m .SEC 0 0x0B4 (State.quoteCmd · dst))

/-- A measurement of Table 11.12. -/
def measurement (o : Option Img) : List Byte :=
  match o with
  | some x => leBytes 4 x.type ++ leBytes 4 x.svn ++ leBytes 4 x.release ++ leBytes 4 x.source ++ leBytes 32 x.hash
  | none => leBytes 48 0

/-- The quote record before its signature (Table 11.12). -/
def State.quoteBody (s : State) (nonce leaf : Nat) : List Byte :=
  let a := s.areaInUse.getD 0
  leBytes 4 0x53585154 ++ leBytes 4 1 ++ leBytes 8 Config.serial ++ leBytes 32 nonce ++ leBytes 8 s.beat.count ++ leBytes 4 leaf ++ leBytes 4 5 ++
    (List.range 48).map Config.romMeasurement ++ measurement s.fw.loader ++ measurement s.fw.main ++ measurement s.fw.ucode ++
    (List.range 16).map Config.settingsHead ++ leBytes 32 (Config.shake256 (s.areaHeader a ++ s.areaBody a))

/-- A leaf signs a quote record, which is written; answers whether its destination took it. -/
def State.signQuote (s : State) (dst off nonce leaf : Nat) : Bool × State :=
  let body := s.quoteBody nonce leaf
  let sig := (Config.xmssSign leaf body ++ leBytes 2820 0).take 2820
  ((s.wr SEC.LEAF_NEXT.leaf (leaf + 1)).leavesLeft (s.rd SEC.LEAVES_LEFT.count - 1)).writeDst dst off (body ++ sig)

/-- QUOTE_DONE (R373, R374): a leaf is used, the reservation raised before it; the record is written. No leaf beyond the reservation is signed with:
where a worn block refuses to raise it, the quote fails (DEDUCED, assumption 114) -/
def execQuoteDone (s : State) : Host.Outcome State Fault Refusal :=
  .next (match s.fw.quote with
    | some (dst, off, nonce) =>
      if !s.runs 9 then s
      else
        let leaf := s.rd SEC.LEAF_NEXT.leaf
        let s := if leaf ≥ s.rd SEC.LEAF_RESERVED.leaf then
            s.bootRecord (State.wr · SEC.LEAF_RESERVED.leaf (s.rd SEC.LEAF_RESERVED.leaf + 64)) else s
        let (ok, s) := if leaf < s.rd SEC.LEAF_RESERVED.leaf then s.signQuote dst off nonce leaf else (false, s)
        let s := ((s.wr SEC.STATUS.busy 0).putFw { s.fw with quote := none, quoteAt := some s.now })
        (s.wr SEC.QUOTE_RESULT.result (if ok then 2 else 5)).raise Ev.QUOTE_DONE
    | none => s)

/-! Access tables (R377, R378). -/

/-- The page named in ACL.PAGE_SEL, where a command may act on it. -/
def State.aclPage (s : State) : Option (Page × Nat) := pageOf (s.rd ACL.PAGE_SEL.page)
/-- A refused command: 3 LOCKED, 4 RULE, 5 PAGE. -/
def State.aclRefuse (s : State) (r : Nat) : State := (s.wr ACL.RESULT.result r).raise Ev.ACL_REFUSED
def State.setAcl (s : State) (pg : Page) (i : Nat) (t : Option Nat) : State := (s.putAcl (Assoc.put none s.acl (pg.number i) t))

/-- ACL_READ (R377). -/
def State.aclRead (s : State) : State :=
  match s.aclPage with
  | none => s.aclRefuse 5
  | some (pg, i) =>
    let t := s.aclTable pg i
    ((List.range 4).foldl (fun s j => s.wr ACL.TABLE.entries (t / 2 ^ (32 * j)) 0 j) s).wr ACL.RESULT.result 2
def execAclRead (m : MasterId) (s : State) : Host.Outcome State Fault Refusal := .next (s.gate m .ACL 0 0x054 State.aclRead)

/-- ACL_WRITE (R377). -/
def State.aclWrite (s : State) : State :=
  if s.is ACL.CTRL.lock then s.aclRefuse 3
  else match s.aclPage with
    | none => s.aclRefuse 5
    | some (pg, i) =>
      let new := (List.range 4).foldl (fun a j => a + s.rd ACL.TABLE.entries 0 j * 2 ^ (32 * j)) 0
      if aclRuleBad pg (s.aclTable pg i) new (s.is BIST.SCAN.unlocked) then s.aclRefuse 4
      else (s.setAcl pg i (some new)).wr ACL.RESULT.result 2
def execAclWrite (m : MasterId) (s : State) : Host.Outcome State Fault Refusal := .next (s.gate m .ACL 0 0x054 State.aclWrite)

/-- ACL_DEFAULT (R377). -/
def State.aclDefaultCmd (s : State) : State :=
  if s.is ACL.CTRL.lock then s.aclRefuse 3
  else match s.aclPage with
    | none => s.aclRefuse 5
    | some (pg, i) => (s.setAcl pg i none).wr ACL.RESULT.result 2
def execAclDefault (m : MasterId) (s : State) : Host.Outcome State Fault Refusal := .next (s.gate m .ACL 0 0x054 State.aclDefaultCmd)

/-- ACL_LOCK (R378). -/
def execAclLock (m : MasterId) (s : State) : Host.Outcome State Fault Refusal := .next (s.gate m .ACL 0 0x010 (State.wr · ACL.CTRL.lock 1))

end Sys2Proof.Machine
end

