-- ==== Sys2Proof/Machine/Curtain.lean ====
section
/-! DEFINITION. Curtain Call: readiness (R361), votes and verdicts (R362), activation and handover (R363 to R367), and the exchange of every mark
period (R264). -/

namespace Sys2Proof.Machine

/-! Readiness (Table 11.8). -/

def State.ccReasons (s : State) : Nat :=
  if !s.runs 7 then s.rd FW.CC_STATUS.reasons
  else
    let bit := fun (n : Nat) (b : Bool) => if b then 2 ^ n else 0
    let pending := match s.fw.prep with | some p => !p.done | none => false
    let window := match s.fw.emergencyAt with | some t => decide (s.now < t + 10000000000) | none => false
    let tiles := match s.fw.prep with | some p => p.tiles | none => 0
    let st := s.rd BEAT.STATUS.state
    bit 0 s.fw.prep.isNone + bit 1 (s.rd SAFE.STATUS.active != 0) + bit 2 (s.fw.emergency || window) + bit 3 (!s.is FW.STATUS.mirrored) +
      bit 4 (st != 3 && st != 4) + bit 5 (pending || s.fw.prepFailed == 1) + bit 6 (pending || s.fw.prepFailed == 2) +
      bit 7 ((List.range 8).any fun t => s.rd TILE.STATUS.state t == 0 && !tiles.testBit t) +
      bit 8 (s.is FW.CC_GROUP.require_all && s.rd FW.CC_STATUS.verdict != 1)
def State.ready (s : State) : Bool := s.runs 7 && s.ccReasons == 0
/-- What a vote says: the verdict it is cast for is left out (DEDUCED, assumption 113). -/
def State.voteReady (s : State) : Bool := s.runs 7 && s.ccReasons % 256 == 0

/-! Votes (R362). -/

/-- The tile that sends for the module: the lowest-numbered in service with a port UP, else the lowest in service. -/
def State.mgmtTile (s : State) : Nat :=
  let up := (List.range 8).filter fun t => s.rd TILE.STATUS.state t == 0
  (up.find? fun t => !(s.upPorts t).isEmpty).getD (up.headD 0)

/-- The 16 bytes of a vote. (DEDUCED, assumption 113) -/
def voteBytes (group tile : Nat) (ready : Bool) (reasons : Nat) : List Byte :=
  leBytes 16 (group % 2 ^ 16 + tile % 2 ^ 18 * 2 ^ 16 + (if ready then 2 ^ 48 else 0) + reasons % 512 * 2 ^ 49)

/-- FABRIC and UPDATE run: Curtain Call messages are handled. -/
def State.ccRuns (s : State) : Bool := s.runs 6 && s.runs 7

/-- This module's vote goes to the coordinator. (DEDUCED, assumption 113) -/
def State.sendVote (s : State) : State :=
  if s.ccRuns && s.is FW.CC_COORD.valid then
    let t := s.mgmtTile
    s.sendMgmt none t 0x12 (s.rd FW.CC_COORD.tile) 0 0 (voteBytes (s.rd FW.CC_GROUP.group) (s.globalTile t) s.voteReady s.ccReasons)
  else s

/-- A vote whenever READY changes: looked at when the block has nothing else to do (DEDUCED, assumption 113). -/
def State.voteHook (s : State) : State :=
  if s.ccRuns && s.voteReady != s.fw.lastVote then (s.sendVote.putFw { s.sendVote.fw with lastVote := s.voteReady }) else s

/-- The place of a module's vote for a group, and the votes for the group that CC_GROUP names, the last of each module (R362). (DEDUCED, assumption 113) -/
def voteKey (group tile : Nat) : Nat := group % 2 ^ 16 * 2 ^ 15 + tile % 2 ^ 18 / 8
/-- DEDUCED assumption 113. -/
def State.groupVotes (s : State) : List (Nat × Bool) :=
  (s.fw.votes.filter fun v => v.1 / 2 ^ 15 == s.rd FW.CC_GROUP.group).filterMap (·.2)

/-- A CURTAIN_VOTE is handled: a verdict (aux [0] = 1) for this module's group, or a vote at the coordinator. -/
def State.curtainArrive (s : State) (t aux data : Nat) : State :=
  let tile := data / 2 ^ 16 % 2 ^ 18
  let ready := data.testBit 48
  if !s.ccRuns || data % 2 ^ 16 != s.rd FW.CC_GROUP.group then s
  else if aux % 2 = 1 then s.wr FW.CC_STATUS.verdict (if ready then 1 else 2)
  else if s.is FW.CC_COORD.valid ∧ s.rd FW.CC_COORD.tile = s.globalTile t then
    (s.putFw { s.fw with votes := Assoc.put none s.fw.votes (voteKey data tile) (some (tile, ready)) })
  else s

/-- CURTAIN_VOTE (R362). -/
def execCurtainVote (t : TileId) (rx : Rx) (aux : BitVec 16) (data : BitVec 128) (s : State) : Host.Outcome State Fault Refusal :=
  .next (if s.portReceives t rx then (s.rxCount t rx 16).curtainArrive t aux.toNat data.toNat else s)

def State.votesReady (s : State) : Nat := (s.groupVotes.filter (·.2)).length

/-- VOTE_CLOSE (R362): at the target of an armed FW_ACTIVATE slot minus CC_CLOSE, on the coordinator's module. -/
def execVoteClose (n : SlotId) (s : State) : Host.Outcome State Fault Refusal :=
  .next (
    let target := s.slotTarget n
    let coord := s.rd FW.CC_COORD.tile
    if s.ccRuns && s.armed n && s.slotAction n == actFwActivate && s.counting && decide (target ≤ s.beat.count + s.rd FW.CC_CLOSE.beats) &&
      s.is FW.CC_COORD.valid && coord / 8 == s.ownModule (coord % 8) && s.fw.closed != some target then
      let all := decide (s.votesReady ≥ s.rd FW.CC_MEMBERS.count)
      let s := (s.putFw { s.fw with closed := some target })
      s.groupVotes.foldl (fun s x => s.sendMgmt none (coord % 8) 0x12 x.1 0 1 (voteBytes (s.rd FW.CC_GROUP.group) coord all 0)) s
    else s)

/-- EMERGENCY_WINDOW_END (R361). -/
def execEmergencyWindowEnd (s : State) : Host.Outcome State Fault Refusal :=
  .next (match s.fw.emergencyAt with
    | some t =>
      if s.fw.emergency = false ∧ t + 10000000000 ≤ s.now then (s.putFw { s.fw with emergencyAt := none }).voteHook else s
    | none => s)

/-- Send a BEAT_ALIGN on the lowest UP port of the exchanging tile, with the stamps t1, t2, t3, the epoch's validity, the own bound and the root
(R264, R572; its layout: DESIGN CHOICE, assumption 143). -/
def State.sendAlign (s : State) (dst t1 t2 t3 : Nat) : State :=
  let t := s.mgmtTile
  let root := if s.rd BEAT.CTRL.role = 0 then s.rd BEAT.ROOT_ID.root_tile else s.globalTile t
  let data := Config.alignBytes t1 t2 t3 (s.is BEAT.STATUS.epoch_valid) s.errBound root
  match s.upPorts t with
  | p :: _ => if s.routeOk t dst then s.emit t p ⟨0x10, 0, s.globalTile t, dst, 0, 0, 32, 0, 0, leBytes 32 data.toNat, s.routeTo t dst⟩ else s
  | [] => s

/-- BEAT_ALIGN (R46, R264): an arriving beat-alignment message. The parent's ends an exchange; another module's is answered, stamped with the
own count. (PRESUMED, assumption 19) -/
def execBeatAlign (src : BitVec 18) (t1 t2 t3 : BitVec 66) (epochValid : Bool) (bound : BitVec 8) (root : BitVec 18) (s : State) :
    Host.Outcome State Fault Refusal :=
  .next (
    let t := s.mgmtTile
    if s.is MIDWAY.BEAT_PARENT.valid t ∧ s.rd MIDWAY.BEAT_PARENT.tile t = src.toNat then
      s.beatAlign t1.toNat t2.toNat t3.toNat epochValid bound.toNat root.toNat
    else if s.counting then s.sendAlign src.toNat t1.toNat (4 * s.beat.count) (4 * s.beat.count)
    else s)

/-- ALIGNMENT_EXCHANGE (R264, R362): once every mark period. (DESIGN CHOICE, assumption 143) -/
def execAlignmentExchange (s : State) : Host.Outcome State Fault Refusal :=
  .next (
    let period := s.beat.count / 2 ^ 20
    if s.counting = false ∨ period = s.fw.alignAt then s
    else
      let s := (s.putFw { s.fw with alignAt := period })
      let t := s.mgmtTile
      let s :=
        if s.is MIDWAY.BEAT_PARENT.valid t ∧ s.rd BEAT.CTRL.role = 0 then s.sendAlign (s.rd MIDWAY.BEAT_PARENT.tile t) (4 * s.beat.count) 0 0
        else s
      s.sendVote)

/-! Activation (R363, R365). -/

/-- What FW_ACTIVATE does at its beat: activate, or defer. (DEDUCED, assumption 114) -/
def State.fwActivate (s : State) (n : Nat) : State :=
  let reasons := s.ccReasons
  let group := s.slotParam0 n % 2 ^ 16
  let match_ := match s.fw.prep with
    | some p => group == s.rd FW.CC_GROUP.group && (match p.main with | some x => x.release == s.slotParam1 n | none => false)
    | none => false
  match s.fw.prep with
  | some p =>
    if s.ready && match_ then
      let s := (s.bootRecord (State.wr · FW.BOOT_PREF.slot p.slot)).wr FW.STATUS.boot_slot p.slot
      let s := match p.ucode with | some u => s.switchUcode u | none => s
      ((s.wr FW.CC_STATUS.verdict 0).putFw { s.fw with handover := some (p.slot, group, s.now, 1) })
    else ((s.wr FW.CC_STATUS.outcome 2).wr FW.CC_STATUS.verdict 0).raise Ev.DEFERRED 0 [reasons, group, s.slotTarget n]
  | none => ((s.wr FW.CC_STATUS.outcome 2).wr FW.CC_STATUS.verdict 0).raise Ev.DEFERRED 0 [reasons, group, s.slotTarget n]

/-- The running set is the new slot's. -/
def State.newMain (s : State) (slot : Nat) (img : Img) : State :=
  let s := (s.putFw { s.fw with main := some img, prep := none })
  let s := ((s.wr FW.SVN.svn img.svn 0 1).wr FW.REL.release img.release 0 0).wr MOD.IFACE_VER.version img.iface
  let s := (s.wr FW.STATUS.main_flash 1).wr FW.STATUS.prepared 0
  let (a, s) := s.settingsSelect img
  let s := match a with
    | .ok a => (s.wr FW.SETTINGS.version (s.areaVersion a)).wr FW.SETTINGS.area a
    | .error _ => s
  (s.setSlot slot slTRIAL).trialUpdate

/-- ACTIVATED (R365). -/
def State.activated (s : State) (group release : Nat) : State := (s.wr FW.CC_STATUS.outcome 1).raise Ev.ACTIVATED 0 [group, release]

/-- HANDOVER_MASTER (R365): the other core takes over on the new image. (DEDUCED, assumption 114) -/
def execHandoverMaster (s : State) : Host.Outcome State Fault Refusal :=
  .next (match s.fw.handover with
    | some (slot, group, at_, 1) =>
      let img := match s.fw.prep with | some p => p.main | none => none
      match img with
      | some img =>
        let old := s.rd SAFE.STATUS.master == 2
        let new := if s.alive (!old) then !old else old
        let s := s.newMain slot img
        let s := (((s.wr SAFE.STATUS.master (coreNo new)).wr FW.STATUS.master (coreNo new)).wr FW.STATUS.mirrored 0).wr SAFE.STATUS.supervision 1
        let s := ((s.putSafety (if new then { s.safety with aliveA := false } else { s.safety with aliveB := false })).putFw { s.fw with handover := some (slot, group, at_, 2) })
        s.activated group img.release
      | none => s
    | _ => s)

/-- HANDOVER_MIRRORED (R365): the first core has loaded the new image. Where the new master has been lost meanwhile, it becomes master itself
(R471). (DEDUCED, assumption 114) -/
def execHandoverMirrored (s : State) : Host.Outcome State Fault Refusal :=
  .next (match s.fw.handover with
    | some (slot, group, _, stage) =>
      if s.rd SAFE.STATUS.supervision = 2 then
        let img := (s.flashImage slot 2).img
        let s := ((s.putSafety { s.safety with aliveA := true, kickA := s.now, noneAt := none, restartAt := none, dutyAt := none }).putFw { s.fw with handover := none })
        let s := (((s.newMain slot img).wr SAFE.STATUS.supervision 1).wr SAFE.STATUS.master 1).wr FW.STATUS.master 1
        let s := (((s.wr FW.COMPONENTS.running 0x3FF).resumeTimers).enterStage 6).sfEnds sfMW
        (if stage = 1 then s.activated group img.release else s).postDeferred
      else if stage = 2 then
        let b := s.rd SAFE.STATUS.master == 1
        let s := ((s.putSafety (if b then { s.safety with aliveB := true, kickB := s.now } else { s.safety with aliveA := true, kickA := s.now })).putFw { s.fw with handover := none })
        ((s.wr SAFE.STATUS.supervision 0).wr FW.STATUS.mirrored 1).raise Ev.MC_MIRRORED 0 [coreNo b]
      else s
    | none => s)

end Sys2Proof.Machine
end

