-- ==== Sys2Proof/Machine/Recorder.lean ====
section
/-! DEFINITION. The event recorder: samples, period ends and records (R522 to R528). -/

namespace Sys2Proof.Machine

/-! Quantities (Table 16.4). -/

/-- The instances of a quantity; none for a number that names no quantity. -/
def recInstances (id : Nat) : Nat :=
  if id = 1 then 8 else if id = 2 then 16 else if 3 ≤ id ∧ id ≤ 7 then 1 else if id = 8 then 8 else if id = 9 then 52 else if id = 10 then 1
  else if id = 11 then 8 else if id = 12 then 4 else if id = 13 then 8
  else if id = 16 then 16 else if id = 17 then 64 else if id = 18 then 7 else if id = 19 then 8 else 0
/-- A RATE quantity is the increase of a counter. -/
def recIsRate (id : Nat) : Bool := id ≥ 16

/-- Time a tile has been throttled, ns, up to now; `b`: a reason's bit, 9 for any but BW_BOUND (R412). -/
def State.thrNs (s : State) (t b : Nat) : Nat :=
  let x := s.tpow t
  Assoc.get 0 x.thr b + (if (reasonBits (s.rd PWR.TILE_REASONS.reasons 0 t)).testBit b then s.now - Assoc.get 0 x.thrAt b else 0)

/-- The reading of a VALUE quantity, none where its source has none; the counter of a RATE quantity. (DESIGN CHOICE, assumption 118) -/
def State.recReading (s : State) (id i : Nat) : Option Int :=
  if id = 1 then some (s.tileTemp i)
  else if id = 2 then s.stackTemp i
  else if id = 3 then (match [96, 97, 98, 99].filterMap s.inUse with | [] => none | l => some (l.foldl max (-32768)))
  else if id = 4 then some (sext 16 (s.rd THERM.COOLANT_T.inlet))
  else if id = 5 then some (sext 16 (s.rd THERM.COOLANT_T.outlet))
  else some ((
    if id = 6 then s.rd THERM.FLOW.flow
    else if id = 7 then s.moduleMw / 1000
    else if id = 8 then s.tileMw i / 1000
    else if id = 9 then s.railRd RAIL.I.a10 i
    else if id = 10 then s.rd PWR.CAP_MODULE.limit_w
    else if id = 11 then s.uTile i * 16 / 65536
    else if id = 12 then s.rd COOL.TACH.rpm 0 i
    else if id = 13 then s.point i
    else if id = 16 then s.rd ECC.CE_COUNT.count i
    else if id = 17 then s.rd EDPEN.FEC_CORR.count i
    else if id = 18 then Assoc.get 0 s.recorder.posted i
    else s.thrNs i 9 / 1000 : Nat) : Int)

/-! Slots and banks (R523 to R525). -/

def State.recPeriod (s : State) (p : Nat) : RecPeriod := Assoc.get RecPeriod.reset s.recorder.periods p
/-- DESIGN CHOICE assumption 117. -/
def State.setRecPeriod (s : State) (p : Nat) (x : RecPeriod) : State :=
  (s.putRecorder { s.recorder with periods := Assoc.put RecPeriod.reset s.recorder.periods p x })

def RecSlot.cleared (x : RecSlot) : RecSlot :=
  { x with samples := 0, least := 0, most := 0, minAt := 0, maxAt := 0, sum := 0, bins := List.replicate 6 0, saturated := false }
def RecBank.cleared (b : RecBank) : RecBank := ⟨b.slots.map RecSlot.cleared, none, false, 0⟩

/-- The bin of a value (R525). -/
def RecSlot.bin (x : RecSlot) (v : Int) : Nat := if v < x.lo then 0 else min 5 (1 + ((v - x.lo) / (max 1 x.width : Nat)).toNat)

def recMax : Nat := 2 ^ 32 - 1
def recSumMax : Int := 2 ^ 63 - 1


/-- A slot takes a sample, `ms` after the bank's first (R524). -/
def RecSlot.take (x : RecSlot) (v : Int) (ms : Nat) : RecSlot :=
  let k := x.bin v
  let n := x.bins.getD k 0
  let sum := x.sum + v
  { x with
    samples := min (x.samples + 1) recMax
    least := if x.samples = 0 then v else min x.least v
    most := if x.samples = 0 then v else max x.most v
    minAt := if x.samples = 0 ∨ v < x.least then ms else x.minAt
    maxAt := if x.samples = 0 ∨ v > x.most then ms else x.maxAt
    sum := max (-(2 ^ 63)) (min sum recSumMax)
    bins := x.bins.set k (min (n + 1) recMax)
    saturated := x.saturated || decide (x.samples ≥ recMax) || decide (n ≥ recMax) || decide (sum > recSumMax) || decide (sum < -(2 ^ 63)) }

/-- A bank takes a sample of a quantity at a beat. -/
def RecBank.take (b : RecBank) (id i : Nat) (v : Int) (beat : Nat) : RecBank :=
  if b.slots.any fun x => x.id == id && x.inst == i then
    let first := b.first.getD beat
    { b with first := some first, slots := b.slots.map fun x => if x.id = id ∧ x.inst = i then x.take v ((beat - first) / 1000000) else x }
  else b

/-- The periods that are enabled. -/
def State.recPeriods (s : State) : List Nat := (List.range 4).filter fun p => s.rd RECORD.PERIOD.s 0 p != 0
def State.recTake (s : State) (id i : Nat) (v : Int) : State :=
  s.recPeriods.foldl (fun s p => let x := s.recPeriod p; s.setRecPeriod p { x with live := x.live.take id i v s.beat.count }) s

/-- RECORD_SAMPLE (R522, R523): `id`: a quantity, `i`: its instance. -/
def State.recordSample (s : State) (id i : Nat) : State :=
  if s.is RECORD.CTRL.en = false ∨ s.counting = false ∨ recInstances id ≤ i then s
  else match s.recReading id i with
    | none => s
    | some v =>
      if recIsRate id then
        let n := v.toNat
        let k := 65536 * id + i
        let old := Assoc.get 0 s.recorder.last k
        let s := (s.putRecorder { s.recorder with last := Assoc.put 0 s.recorder.last k n })
        s.recTake id i (if n < old then n else n - old)
      else s.recTake id i v
def execRecordSample (id : BitVec 16) (i : BitVec 16) (s : State) : Host.Outcome State Fault Refusal := .next (s.recordSample id.toNat i.toNat)

/-- Closed banks that wait, in the order in which they are written: by end beat, then by period (R528). -/
def State.recWaiting (s : State) : List Nat :=
  ((List.range 4).filter fun p => (s.recPeriod p).closed.isSome).mergeSort fun p q =>
    let e := fun (n : Nat) => match (s.recPeriod n).closed with | some b => b.stop | none => 0
    decide (e p < e q) || (e p == e q && decide (p ≤ q))

/-- PERIOD_END (R523, R524): the count has come to another multiple of the period's length. (DESIGN CHOICE, assumption 118) -/
def State.periodEnd (s : State) (p : Nat) : State :=
  let len := s.rd RECORD.PERIOD.s 0 p * 1000000000
  let x := s.recPeriod p
  let n := s.beat.count / len
  if s.is RECORD.CTRL.en = false ∨ s.counting = false ∨ len = 0 ∨ n = x.count then s
  else if x.live.slots.isEmpty then s.setRecPeriod p { x with count := n }
  else match x.closed with
    | none => (s.setRecPeriod p ⟨x.live.cleared, some { x.live with stop := n * len }, n⟩).setBit RECORD.STATUS.pending p true
    | some _ =>
      let s := (s.setRecPeriod p { x with live := { x.live with extended := true }, count := n }).add RECORD.EXTENDED.count 1
      s.raise Ev.RECORD_EXTENDED 0 [p, s.rd RECORD.SEQ.seq + s.recWaiting.length]
/-- DESIGN CHOICE assumption 118. -/
def execPeriodEnd (p : Fin 4) (s : State) : Host.Outcome State Fault Refusal := .next (s.periodEnd p)

/-! Records (R526, R527). -/

/-- The 64 bytes of a slot, as +0x20 to +0x5F of Table 16.5. Extremes of a slot without samples are free. -/
def State.slotBytes (s : State) (x : RecSlot) : List Byte × State :=
  let (f, s) := s.fresh
  let e := decide (x.samples = 0)
  let part := fun (k : Nat) (v : Nat) => leBytes 4 (if e then f / 2 ^ (32 * k) % 2 ^ 32 else v)
  (leBytes 2 x.id ++ leBytes 2 x.inst ++ leBytes 4 ((if x.saturated then 1 else 0) + (if e then 2 else 0)) ++ leBytes 4 x.samples ++
    part 0 (toPat 32 x.least) ++ part 1 (toPat 32 x.most) ++ part 2 x.minAt ++ leBytes 8 (toPat 64 x.sum) ++
    (x.bins.flatMap fun n => leBytes 4 n) ++ part 3 x.maxAt ++ leBytes 4 0, s)

/-- A native record (Table 16.5). (DESIGN CHOICE, assumption 118) -/
def State.nativeRecord (s : State) (p seq : Nat) (b : RecBank) : List Byte × State :=
  let (f, s) := s.fresh
  let word := 1 + p * 2 ^ 8 + b.slots.length * 2 ^ 16 + (if b.extended then 2 ^ 24 else 0) + (if b.slots.any (·.saturated) then 2 ^ 25 else 0)
  let head := leBytes 4 0x53585243 ++ leBytes 4 word ++ leBytes 4 seq
  let (body, s) := b.slots.foldl (fun (a : List Byte × State) x => let r := a.2.slotBytes x; (a.1 ++ r.1, r.2)) (leBytes 8 (b.first.getD f) ++ leBytes 8 b.stop, s)
  (head ++ leBytes 4 (crc32c (head ++ leBytes 4 0 ++ body)) ++ body, s)

/-- A value cut to 16 signed bits, and whether that clipped it. -/
def clip16 (v : Int) : Int × Bool := let c := max (-32768) (min v 32767); (c, c != v)

/-- A record of the TC4 layout (R527). Values of a slot without samples are free. (DESIGN CHOICE, assumption 119) -/
def State.tc4Record (s : State) (p seq : Nat) (b : RecBank) : List Byte × State :=
  let head := leBytes 4 (0x5443 + 4 * 2 ^ 16 + b.slots.length * 2 ^ 24) ++ leBytes 4 seq ++ leBytes 4 (b.stop / 1000000000) ++ leBytes 4 (s.rd RECORD.PERIOD.s 0 p)
  let (body, s) := b.slots.foldl (fun (a : List Byte × State) x =>
    let (f, s) := a.2.fresh
    let v := fun (k : Nat) (n : Int) => if x.samples = 0 then sext 16 (f / 2 ^ (16 * k)) else n
    let c := [clip16 (v 0 x.least), clip16 (v 1 x.most), clip16 (v 2 (x.sum / (max 1 x.samples : Nat)))]
    let flags := (if x.saturated then 1 else 0) + (if c.any (·.2) then 2 else 0)
    (a.1 ++ leBytes 2 x.id ++ leBytes 2 x.inst ++ (c.flatMap fun y => leBytes 2 (toPat 16 y.1)) ++ leBytes 2 flags, s)) (head, s)
  (body ++ leBytes 4 (crc32c body) ++ leBytes 4 0xA55A5AA5, s)

/-- Bytes filled up with zeros to whole granules. (DESIGN CHOICE, assumption 119) -/
def padGran (bs : List Byte) : List Byte := bs ++ List.replicate ((32 - bs.length % 32) % 32) 0

/-- Write granules into the ring region, at a BAR2 offset. -/
def State.ringGrans (s : State) (off : Nat) (bs : List Byte) : State :=
  s.ringPut (ringBase + off) (bs.take (2 ^ 30 - off))

/-- R528: a record to the ring. Where the rings are lost it reaches no memory (DESIGN CHOICE, assumption 119). -/
def State.recordToRing (s : State) (bs : List Byte) : State :=
  let size := s.rd RECORD.RING_SIZE.pages * 4096
  let tail := s.rd RECORD.RING_TAIL.offset
  let fits := tail + bs.length ≤ size
  let s := if fits then s else s.add RECORD.RING_WRAPS.count 1
  let at_ := if fits then tail else 0
  let s := if s.ringsUp then s.ringGrans (s.rd RECORD.RING_BASE.base * 4096 + at_) bs else s
  s.wr RECORD.RING_TAIL.offset (at_ + bs.length)

/-- R528: a record to the keep store. -/
def keepRing : Nat := 0x32000
def State.recordToKeep (s : State) (bs : List Byte) : State :=
  let head := s.rd RECORD.KEEP_HEAD.offset
  let at_ := if head + bs.length ≤ 16384 then head else 0
  (s.keepWriteAll (keepRing + at_) bs).wr RECORD.KEEP_HEAD.offset (at_ + bs.length)

/-- The closed bank of period p is written. -/
def State.writeRecord (s : State) (p : Nat) (b : RecBank) : State :=
  let seq := s.rd RECORD.SEQ.seq
  let (bs, s) := if s.is RECORD.CTRL.compat_tc4 then s.tc4Record p seq b else s.nativeRecord p seq b
  let bs := padGran bs
  let s := if s.is RECORD.CTRL.ring_en then s.recordToRing bs else s
  let s := if s.is RECORD.CTRL.keep_en ∧ s.rd RECORD.CTRL.keep_period = p then s.recordToKeep bs else s
  let s := ((s.wr RECORD.LAST.seq seq 0 p).wr RECORD.SEQ.seq (seq + 1)).setBit RECORD.STATUS.pending p false
  let s := s.setRecPeriod p { s.recPeriod p with closed := none }
  let n := (b.slots.filter (·.saturated)).length
  if n = 0 then s else (s.add RECORD.SATURATED.count n).raise Ev.RECORD_SATURATED 0 [p, seq]

/-- RECORD_WRITE (R526, R528): RECORDER writes the closed bank of a period, when none is to be written before it. (DESIGN CHOICE, assumption 119) -/
def State.recordWrite (s : State) (p : Nat) : State :=
  if s.runs 8 ∧ s.recWaiting.head? = some p then
    match (s.recPeriod p).closed with
    | some b => s.writeRecord p b
    | none => s
  else s
def execRecordWrite (p : Fin 4) (s : State) : Host.Outcome State Fault Refusal := .next (s.recordWrite p)

/-! Section 0x0007 (R525). -/

/-- Without the section: P1 and P3 carry 0x01, 0x02 and 0x04 to 0x07. The spec gives their histograms no bounds: lo 0, width 1 (DESIGN CHOICE, assumption 117). -/
def recDefault : List (Nat × Nat × Nat × Int × Nat) := [1, 2, 4, 5, 6, 7].map fun id => (id, 0xFFFF, 0b1010, 0, 1)

/-- Entries of the section: id, instance, periods, lo, width. (DESIGN CHOICE, assumption 117) -/
def recEntries (d : List Byte) : List (Nat × Nat × Nat × Int × Nat) :=
  (List.range (min 128 (leAt d 1 1))).map fun i =>
    let o := 24 + 16 * i
    (leAt d o 2, leAt d (o + 2) 2, leAt d (o + 4) 1 % 16, sext 32 (leAt d (o + 8) 4), max 1 (leAt d (o + 12) 4))

/-- DESIGN CHOICE assumption 117. -/
def recSlotsOf (es : List (Nat × Nat × Nat × Int × Nat)) (p : Nat) : List RecSlot :=
  es.flatMap fun e =>
    if e.2.2.1.testBit p then
      ((List.range (recInstances e.1)).filter fun i => e.2.1 == 0xFFFF || e.2.1 == i).map fun i =>
        ⟨e.1, i, e.2.2.2.1, e.2.2.2.2, 0, 0, 0, 0, 0, 0, List.replicate 6 0, false⟩
    else []

/-- The recorder is set up at a cold start. -/
def State.recConfig (s : State) (d : Option (List Byte)) : State :=
  let es := match d with | some d => recEntries d | none => recDefault
  let len : Nat → Nat := fun (p : Nat) => match d with
    | some d => if (leAt d 0 1).testBit p then min 86400 (leAt d (8 + 4 * p) 4) else 0
    | none => recordPeriodDefault p
  (List.range 4).foldl (fun s p =>
    let all := if len p = 0 then [] else recSlotsOf es p
    let s := (s.wr RECORD.PERIOD.s (len p) 0 p).setRecPeriod p ⟨⟨all.take 64, none, false, 0⟩, none, 0⟩
    if all.length > 64 then s.wr RECORD.STATUS.overfull 1 else s) s

end Sys2Proof.Machine
end

