-- ==== Sys2Proof/Machine/Views.lean ====
section
/-! DEFINITION. What register fields show that are not stored as fields: counts, selections and states that other parts of the state hold. -/

namespace Sys2Proof.Machine

/-- Count the numbers below n that answer; the sum of their bits. -/
def countBelow (n : Nat) (p : Nat → Bool) : Nat := ((List.range n).filter p).length
def bitsBelow (n : Nat) (p : Nat → Bool) : Nat := (List.range n).foldl (fun a k => if p k then a + 2 ^ k else a) 0
def satMs (ns w : Nat) : Nat := min (ns / 1000000) (2 ^ w - 1)

/-- A field that shows something else than a stored value, and what it shows. -/
abbrev View := Fld × (State → Nat → Nat → Nat)

def viewsBEAT : List View :=
  [(BEAT.STATUS.mark_present, fun s _ _ => if s.is BEAT.STATUS.mark_present && s.beat.slips.isEmpty then 1 else 0),
   (BEAT.STATUS.slewing, fun s _ _ => if s.slewing then 1 else 0),
   (BEAT.STATUS.err_bound_ns, fun s _ _ => s.errBound),
   (BEAT.NOW.now, fun s _ _ => s.beat.count),
   (BEAT.FREE_RUN_TIME.time_us, fun s _ _ => s.freeRunUs)]

def viewsSCHED : List View := [(SCHED.ARMED.armed, fun s _ j => bitsBelow 32 fun b => s.armed (32 * j + b))]

/-- AE, ME0 to ME3, VE0, VE1: something of theirs has started and not completed. (DEDUCED, assumption 134) -/
def State.unitBusy (s : State) (c b : Nat) : Bool :=
  if b = 0 then (s.core c).descs.any fun d => d.phase != 0 else (s.core c).cmds.any fun x => x.on == b - 1 && x.phase != 0

def viewsCORE : List View :=
  [(CORE.STATUS.at_step_end, fun s i _ => s.atStepEnd i),
   (CORE.STATUS.halted, fun s i _ => s.rd CORE.CTRL.halt i),
   (CORE.AE_OUT.outstanding, fun s i _ => (List.range 4).foldl (fun a n => a + min 64 (s.aeOut i n) * 2 ^ (8 * n)) 0),
   (CORE.BUSY.busy, fun s i _ => bitsBelow 7 (s.unitBusy i))]

def State.bandMs (s : State) (k b : Nat) : Nat :=
  let x := s.stk k
  Assoc.get 0 x.bandNs b + (if s.band k = b then s.now - x.bandAt else 0)
/-- DEDUCED assumption 32. -/
def viewsBAND : List View :=
  [(BAND.STATUS.band, fun s k _ => s.band k),
   (BAND.STATUS.dwell, fun s k _ => if (s.stk k).dwellAt.isSome then 1 else 0),
   (BAND.TIME.ms, fun s k j => satMs (s.bandMs k j) 32)]

def viewsECC : List View := [(ECC.REMAP.used, fun s k _ => min 256 (s.stk k).remaps.length)]
def viewsIBU : List View := [(IBU.STATE_READ.state, fun s k _ => (s.unit k (s.rd IBU.STATE_SEL.unit k)).state)]

def viewsJUG : List View :=
  [(JUG.QSTAT0.onchip, fun s t _ => let k := s.selQueue t; (s.queue k).depth - s.spilledOf k),
   (JUG.QSTAT1.spilled, fun s t _ => s.spilledOf (s.selQueue t)),
   (JUG.QSTAT2.packets, fun s t _ => min ((s.queue (s.selQueue t)).pkts.filter fun p => !p.gone).length (2 ^ 24 - 1)),
   (JUG.QSTAT2.isOpen, fun s t _ => if (s.queue (s.selQueue t)).pkts.any (·.openBy.isSome) then 1 else 0),
   (JUG.QSTAT2.claimed, fun s t _ => if (s.queue (s.selQueue t)).pkts.any (·.claim.isSome) then 1 else 0),
   (JUG.QSTAT2.state, fun s t _ => (s.queue (s.selQueue t)).state),
   (JUG.STALLS.clocks, fun s t _ => min (s.rd JUG.STALLS.clocks t + s.stallsOwed t) (2 ^ 32 - 1)),
   (JUG.QSTAT3.last_deq, fun s t _ => (s.queue (s.selQueue t)).lastDeq % 2 ^ 32)]

def viewsMIDWAY : List View :=
  [(MIDWAY.STATUS.id_ok, fun s t _ => if s.is MIDWAY.MODULE_ID.valid t && s.idAgrees t then 1 else 0),
   (MIDWAY.STATUS.ports_up, fun s t _ => (s.upPorts t).length)]

def viewsTILE : List View := [(TILE.STATUS.cores, fun s t _ => countBelow 64 fun l => s.corePresent (64 * t + l))]

def viewsMOD : List View :=
  [(MOD.HB_AGE.ms, fun s _ _ => if s.host.hbAt = 0 then 0 else satMs (s.since s.host.hbAt) 16),
   (MOD.RECLAIM_LEFT.s, fun s _ _ => if s.driver = 2 then (600000000000 - min 600000000000 (s.since s.host.lostAt) + 999999999) / 1000000000 else 0),
   (MOD.HBM.gib, fun s _ _ => (List.range 16).foldl (fun a k => if s.tileLost (k / 2) then a else a + s.rd HS.CAPACITY.gib k) 0),
   (MOD.HBM.stacks, fun s _ _ => bitsBelow 16 fun k => s.hsState k == hsIN_SERVICE && !s.tileLost (k / 2)),
   (MOD.TILES.tiles, fun s _ _ => bitsBelow 8 fun t => s.rd TILE.STATUS.state t == 0)]

def viewsFW : List View :=
  [(FW.TRIAL_MIN.minutes, fun s _ _ => s.trialMin),
   (FW.CC_STATUS.ready, fun s _ _ => if s.ready then 1 else 0),
   (FW.CC_STATUS.reasons, fun s _ _ => s.ccReasons),
   (FW.CC_VOTES.ready, fun s _ _ => s.votesReady),
   (FW.CC_VOTES.heard, fun s _ _ => s.groupVotes.length),
   (FW.BUF.data, fun s _ j => leNat (s.bufRead (2048 * s.rd FW.BUF_SEL.block + 4 * j) 4))]

def viewsKEEP : List View :=
  [(KEEP.STATUS.wear_alarm, fun s _ _ => if s.rd KEEP.ALARM.count = 0 || s.keep.wear.any (fun x => s.rd KEEP.ALARM.count ≤ x.2) then 1 else 0),
   (KEEP.WEAR_READ.count, fun s _ _ => min (s.wearOf (s.rd KEEP.WEAR_SEL.block)) (2 ^ 20 - 1)),
   (KEEP.WEAR_READ.dirty, fun s _ _ => if Assoc.get false s.keep.dirty (s.rd KEEP.WEAR_SEL.block) then 1 else 0),
   (KEEP.WEAR_READ.worn, fun s _ _ => if s.worn (s.rd KEEP.WEAR_SEL.block) then 1 else 0),
   (KEEP.AREA.version, fun s _ j => s.areaVersion j),
   (KEEP.AREA.valid, fun s _ j => if s.areaValid j then 1 else 0),
   (KEEP.AREA_GEN.generation, fun s _ j => s.areaGen j)]

def viewsPWR : List View :=
  [(PWR.MODULE_POWER.w, fun s _ _ => min (s.moduleMw / 1000) 65535),
   (PWR.MODULE_POWER.nontile_w, fun s _ _ => min (s.nontileMw / 1000) 65535),
   (PWR.THR_TIME.us, fun s _ _ => if s.rd PWR.THR_SEL.reason > 8 then 0 else min (s.thrNs (s.rd PWR.THR_SEL.tile) (s.rd PWR.THR_SEL.reason) / 1000) (2 ^ 64 - 1)),
   (PWR.THR_EPISODES.count, fun s _ _ => (s.tpow (s.rd PWR.THR_SEL.tile)).episodes)]

def viewsRAIL : List View :=
  [(RAIL.ENERGY.mj, fun s i j => (s.rail (8 * i + j)).energy / 1000000000),
   (RAIL.NOMINAL.mv, fun s i j => let n := 8 * i + j; if n < 32 ∧ n % 4 = 0 then psMv (s.point (n / 4)) else s.railRd RAIL.NOMINAL.mv n)]

/-- The ENERGY counters, mJ (R417, R424). -/
def State.mj (s : State) (k : Nat) : Nat := s.energyAt k / 1000000000
def viewsENERGY : List View :=
  [(ENERGY.PART.mj, fun s _ j => s.mj j), (ENERGY.RING.mj, fun s _ j => s.mj (16 + j)), (ENERGY.MODULE.mj, fun s _ _ => s.mj 80),
   (ENERGY.UNATTRIB.mj, fun s _ _ => s.mj 81), (ENERGY.TILE.mj, fun s _ j => s.mj (82 + j)), (ENERGY.STACK.mj, fun s _ j => s.mj (90 + j))]

/-- The sensor shown in SENSOR_READ (R455); one that no reading is in use for shows its last reading. -/
def State.selSensor (s : State) : Nat := s.rd THERM.SENSOR_SEL.index
def viewsTHERM : List View :=
  [(THERM.SENSOR_READ.temp, fun s _ _ => toPat 16 ((s.inUse s.selSensor).getD (s.sens s.selSensor).temp)),
   (THERM.SENSOR_READ.state, fun s _ _ => (s.sens s.selSensor).state),
   (THERM.SENSOR_READ.source, fun s _ _ => (s.sens s.selSensor).source)]

def viewsCOOL : List View := [(COOL.DRIVE.mv, fun s _ c => s.driveMv c)]

def viewsSAFE : List View :=
  [(SAFE.KICK_AGE.a_ms, fun s _ _ => satMs (s.now - s.safety.kickA) 16),
   (SAFE.KICK_AGE.b_ms, fun s _ _ => satMs (s.now - s.safety.kickB) 16),
   (SAFE.NONE_TIME.ms, fun s _ _ => match s.safety.noneAt with | some t => satMs (s.now - t) 32 | none => 0)]

/-- The indicator selected in AGE.SEL (R484). -/
def State.selAge (s : State) : AgeEntry := s.ageOf (s.rd AGE.SEL.index)
def viewsAGE : List View :=
  [(AGE.VALUE.value, fun s _ _ => (s.selAge.samples.headD (0, 0)).2),
   (AGE.LIMIT.limit, fun s _ _ => s.ageLimit (s.rd AGE.SEL.index)),
   (AGE.BASELINE.baseline, fun s _ _ => let x := s.selAge; if 43 ≤ s.rd AGE.SEL.index ∧ s.rd AGE.SEL.index < 47 then x.base / max 1 x.baseN else x.base),
   (AGE.EOL.days, fun s _ _ => s.selAge.days),
   (AGE.EOL.days_90, fun s _ _ => s.selAge.days90),
   (AGE.SAMPLES.count, fun s _ _ => s.selAge.samples.length),
   (AGE.FLAGS.alarm, fun s _ _ => if s.selAge.alarm then 1 else 0),
   (AGE.FLAGS.at_limit, fun s _ _ => if s.selAge.atLimit then 1 else 0)]

/-- The test log entry shown (R530). -/
def State.selTest (s : State) : Option TestLog := s.testLog[s.rd BIST.TLOG_SEL.entry]?
def testView (d : Nat) (f : TestRun → Nat) (s : State) (_ _ : Nat) : Nat := match s.selTest with | some l => f l.run | none => d
/-- A word of the fail log entry shown (R518). -/
def State.failWord (s : State) (j : Nat) : Nat :=
  match s.failLog[s.rd BIST.FLOG_SEL.entry]? with
  | some w => if j = 0 then w.1 else if j = 1 then w.2.1 else if j = 2 then w.2.2.1 else w.2.2.2
  | none => 0
def viewsBIST : List View :=
  [(BIST.STATUS.running, fun s _ _ => s.tests.length),
   (BIST.TLOG0.type, testView 0 (·.type)), (BIST.TLOG0.inst, testView 0 (·.inst)), (BIST.TLOG0.result, testView 0 (·.result)),
   (BIST.TLOG0.cut, testView 0 (·.cut)), (BIST.TLOG1.done, testView 0 (·.done)), (BIST.TLOG1.expected, testView 0 (·.total)),
   (BIST.TLOG2.slice, testView 0xFFFF fun r => if r.result = 2 then 0xFFFF else r.done),
   (BIST.TLOG3.beat, fun s _ _ => match s.selTest with | some l => l.beat | none => 0),
   (BIST.SLICE_COUNT.count, testView 0 (·.count)), (BIST.SLICE_EXPECT.e, testView 0 (·.expect)),
   (BIST.SLICE_SIG.match, testView 0 fun r => if r.sig then 1 else 0),
   (BIST.FLOG.word, fun s _ j => s.failWord j)]

def viewsRECORD : List View :=
  [(RECORD.QOPEN.word, fun s _ j =>
      match (s.recPeriod (s.rd RECORD.QSEL.period)).live.slots[s.rd RECORD.QSEL.slot]? with
      | some x => leAt (s.slotBytes x).1 (4 * j) 4
      | none => 0),
   (RECORD.KEEP_DATA.data, fun s _ _ => s.keepWord (keepRing + 4 * s.rd RECORD.KEEP_SEL.word))]

/-- The random word a read of TRNG gives is free; a read moves on to the next (Machine/Bus.lean). -/
def viewsSEC : List View := [(SEC.TRNG.random, fun s _ _ => Config.freeValue s.free % 2 ^ 32)]

/-- DEDUCED assumption 32. -/
def Page.views : Page → List View
  | .BEAT => viewsBEAT | .SCHED => viewsSCHED | .CORE => viewsCORE | .BAND => viewsBAND | .ECC => viewsECC | .IBU => viewsIBU
  | .JUG => viewsJUG | .MIDWAY => viewsMIDWAY | .TILE => viewsTILE | .MOD => viewsMOD | .FW => viewsFW | .KEEP => viewsKEEP
  | .PWR => viewsPWR | .RAIL => viewsRAIL | .ENERGY => viewsENERGY | .THERM => viewsTHERM | .COOL => viewsCOOL | .SAFE => viewsSAFE
  | .AGE => viewsAGE | .BIST => viewsBIST | .RECORD => viewsRECORD | .SEC => viewsSEC
  | .HOSTQ | .LEAK | .ACL | .TW | .TRACE | .EDPEN | .SPARE | .HS => []

/-- What field f shows. (DEDUCED, assumption 32) -/
def State.show (s : State) (f : Fld) (i : Nat := 0) (j : Nat := 0) : Nat :=
  match f.pg.views.find? (fun v => v.1.off == f.off && v.1.lo == f.lo) with
  | some v => v.2 s i j
  | none => s.rd f i j

end Sys2Proof.Machine
end

