-- ==== Sys2Proof/Machine/Commands.lean ====
section
/-! DEFINITION. Which command a write of a command register is: the value's fields choose the command of the register's page (R540, R544). -/

namespace Sys2Proof.Machine

abbrev Answer := Host.Outcome State Fault Refusal

/-- A value that names no command: the write only passes the gate. -/
def noCommand (m : MasterId) (pg : Page) (i off : Nat) (s : State) : Answer := .next (s.gate m pg i off id)

def go (v : Nat) : Bool := v.testBit 31
def fin (n : Nat) [NeZero n] (x : Nat) : Fin n := Fin.ofNat n x

def cmdMOD (m : MasterId) (off v : Nat) (s : State) : Option Answer :=
  let p := fin 16 ((off - 0x404) / 0x40)
  if off = 0x048 then some (
    if v.testBit 30 then execDriverDetach m s else if go v then execDriverAttach m (BitVec.ofNat 16 v) s else noCommand m .MOD 0 off s)
  else if off = 0x050 then some (execHeartbeat m s)
  else if 0x404 ≤ off ∧ off < 0x804 ∧ (off - 0x404) % 0x40 = 0 then some (
    match v % 8 with
    | 1 => execPartConfig m p s | 2 => execPartRelease m p s | 3 => execPartReset m p s | 4 => execPartPark m p s | 5 => execPartClear m p s
    | _ => noCommand m .MOD 0 off s)
  else none

def cmdSCHED (m : MasterId) (off v : Nat) (s : State) : Option Answer :=
  let n := fin 96 ((off - 0x400) / 0x20)
  let w := BitVec.ofNat 32 v
  if 0x400 ≤ off ∧ off < 0x1000 then
    match off % 0x20 / 4 with
    | 0 => some (execSlotFieldWrite m n 0 w s) | 1 => some (execSlotFieldWrite m n 1 w s) | 2 => some (execSlotFieldWrite m n 2 w s)
    | 3 => some (if v.testBit 0 then execSlotArm m n w s else execSlotDisarm m n w s)
    | 4 => some (execSlotFieldWrite m n 3 w s) | 5 => some (execSlotFieldWrite m n 4 w s)
    | _ => none
  else none

def cmdHOSTQ (m : MasterId) (k off v : Nat) (s : State) : Option Answer :=
  let n := 8 * k + (off - 0x40) / 0x40
  if 0x40 ≤ off ∧ off < 0x240 then
    match off % 0x40 with
    | 0x00 => some (.next (s.ringGate m n fun s => s.rctrlWrite n v))
    | 0x10 => some (execDoorbell m (fin 64 n) (BitVec.ofNat 16 v) s)
    | _ => none
  else none

def cmdPWR (m : MasterId) (off v : Nat) (s : State) : Option Answer :=
  if off = 0x040 then some (execCapWrite m true (BitVec.ofNat 16 v) s)
  else if off = 0x044 then some (execCapWrite m false (BitVec.ofNat 16 v) s)
  else if off = 0x064 then some (
    match v % 4 with
    | 1 => execRackOff m (BitVec.ofNat 16 (v / 2 ^ 16)) s | 2 => execRackRelease m s
    | _ => .next (s.gate m .PWR 0 off fun s => s.rackOnly m id))
  else if off = 0x068 then some (match v % 4 with | 1 => execPwrUp m s | 2 => execPwrDown m s | _ => noCommand m .PWR 0 off s)
  else none

def cmdRAIL (m : MasterId) (k off v : Nat) (s : State) : Option Answer :=
  let n := 8 * k + (off - 0x40) / 0x40
  let which := off % 0x40 / 4
  if 0x40 ≤ off ∧ off < 0x240 ∧ which < 3 then some (if n < 52 then execLimitWrite m (fin 52 n) (fin 3 which) (BitVec.ofNat 16 v) s else .next s)
  else none

def cmdTHERM (m : MasterId) (off v : Nat) (s : State) : Option Answer :=
  if off = 0x050 then some (
    match v % 4 with
    | 1 => execSensorDemandCmd m (fin 8 (v / 2 ^ 12)) s | 2 => execSensorRestore m (fin 128 (v / 16)) s | 3 => execTripClear m s
    | _ => noCommand m .THERM 0 off s)
  else none

def cmdCOOL (m : MasterId) (off v : Nat) (s : State) : Option Answer :=
  let c := fin 4 v
  if off = 0x090 then some (match v / 4 % 4 with | 1 => execCoolKick m c s | 2 => execCoolClear m c s | _ => noCommand m .COOL 0 off s)
  else if 0x054 ≤ off ∧ off < 0x090 ∧ off % 0x10 = 4 then some (.next (s.gate m .COOL 0 off fun s => s.coolSet ((off - 0x054) / 0x10) (v % 1024)))
  else none

def cmdLEAK (m : MasterId) (off v : Nat) (s : State) : Option Answer :=
  if off = 0x04C then some (if go v && v.testBit 0 then execLeakClear m s else noCommand m .LEAK 0 off s) else none

def cmdSAFE (m : MasterId) (off v : Nat) (s : State) : Option Answer :=
  if off = 0x058 then some (execSafeKick m s)
  else if off = 0x064 then some (
    match v % 4 with | 1 => execRailOn m (fin 64 (v / 2 ^ 8)) s | 2 => execCutRelease m s | _ => noCommand m .SAFE 0 off s)
  else none

/-- UPD_CMD (Table 11.16). -/
def cmdUpdate (m : MasterId) (v : Nat) (s : State) : Answer :=
  let k := fin 2 (v / 2 ^ 7)
  let type := fin 4 (v / 2 ^ 4)
  match v % 16 with
  | 1 => execUpdBegin m k s | 2 => execUpdWrite m k type (fin 2 (v / 2 ^ 6)) s | 3 => execUpdCopy m k type s | 4 => execUpdCommit m k s
  | 5 => execUpdAbort m k s | 6 => execPrepare m k s | 7 => execUnprepare m s | 8 => execConfirm m s | 9 => execBootNext m k s
  | _ => noCommand m .FW 0 0x080 s

def cmdFW (m : MasterId) (off v : Nat) (s : State) : Option Answer :=
  let act := fun (a : Answer) => some (if go v then a else noCommand m .FW 0 off s)
  if off = 0x078 then act (match v % 4 with | 1 => execPushMain m s | 2 => execPushMicrocode m s | 3 => execPushFlash m s | _ => noCommand m .FW 0 off s)
  else if off = 0x080 then act (cmdUpdate m v s)
  else if off = 0x0AC then act (match v % 4 with | 1 => execCfgWrite m (fin 2 (v / 4)) s | 2 => execCfgRead m (fin 2 (v / 4)) s | _ => noCommand m .FW 0 off s)
  else if off = 0x0C4 then act (execRecCmd m (fin 2 v) s)
  else none

def cmdSEC (m : MasterId) (off v : Nat) (s : State) : Option Answer :=
  if off = 0x0B4 then some (if go v then execQuoteCmd m (fin 2 v) s else noCommand m .SEC 0 off s) else none

def cmdACL (m : MasterId) (off v : Nat) (s : State) : Option Answer :=
  if off = 0x010 then some (if v.testBit 0 then execAclLock m s else noCommand m .ACL 0 off s)
  else if off = 0x054 then some (match v % 4 with | 1 => execAclRead m s | 2 => execAclWrite m s | 3 => execAclDefault m s | _ => noCommand m .ACL 0 off s)
  else none

def cmdBIST (m : MasterId) (off v : Nat) (s : State) : Option Answer :=
  let type := fin 16 v
  let inst := BitVec.ofNat 16 (v / 2 ^ 8)
  if off = 0x040 then some (if go v then (match v / 2 ^ 24 % 4 with | 1 => execBistTest m type inst s | 2 => execBistCancel m type inst s | _ => noCommand m .BIST 0 off s)
    else noCommand m .BIST 0 off s)
  else if off = 0x090 then some (if go v && v.testBit 0 then execScanCmd m s else noCommand m .BIST 0 off s)
  else none

def cmdTile (m : MasterId) (t v : Nat) (s : State) : Answer :=
  let n := fin 8 t
  match v % 8 with
  | 1 => execTileFence m n s | 2 => execTileUnfence m n s | 3 => execTileReset m n s | 4 => execTileTest m n s | _ => noCommand m .TILE t 0x040 s
def cmdPort (m : MasterId) (i v : Nat) (s : State) : Answer :=
  let n := fin 64 i
  match v % 8 with
  | 1 => execPortFence m n s | 2 => execPortUnfence m n s | 3 => execPortRetrain m n s | 4 => execPortTest m n s | _ => noCommand m .EDPEN i 0x040 s
def cmdStack (m : MasterId) (k v : Nat) (s : State) : Answer :=
  let n := fin 16 k
  match v % 8 with
  | 1 => execHsFence m n s | 2 => execHsUnfence m n s | 3 => execHsRepair m n s | 4 => execHsTest m n s | 5 => execHsRetire m n s
  | _ => .next (s.gate m .HS k 0x040 fun s => s.hsNoCmd k)
def cmdUnit (m : MasterId) (k v : Nat) (s : State) : Answer :=
  let n := fin 16 k
  let u := fin 1024 v
  match v / 2 ^ 10 % 8 with
  | 1 => execIbuDisable m n u s | 2 => execIbuEnable m n u s | 3 => execIbuTest m n u s | _ => noCommand m .IBU k 0x040 s
def cmdQueue (m : MasterId) (t v : Nat) (s : State) : Answer :=
  let n := fin 8 t
  match v % 4 with
  | 1 => execQcmdConfig m n s | 2 => execQcmdRead m n s | 3 => execQcmdFlush m n s | _ => noCommand m .JUG t 0x054 s

/-- The command that a write of page instance i's offset is, where the register has commands of its own. (DEDUCED, assumption 132) -/
def commandOf (m : MasterId) (pg : Page) (i off v : Nat) (s : State) : Option Answer :=
  let w := BitVec.ofNat 32 v
  match pg with
  | .MOD => cmdMOD m off v s
  | .BEAT => if off = 0x068 then some (if v.testBit 0 then execSetCmd m s else noCommand m .BEAT 0 off s) else none
  | .SCHED => cmdSCHED m off v s
  | .HOSTQ => cmdHOSTQ m i off v s
  | .PWR => cmdPWR m off v s
  | .RAIL => cmdRAIL m i off v s
  | .THERM => cmdTHERM m off v s
  | .COOL => cmdCOOL m off v s
  | .LEAK => cmdLEAK m off v s
  | .SAFE => cmdSAFE m off v s
  | .FW => cmdFW m off v s
  | .SEC => cmdSEC m off v s
  | .ACL => cmdACL m off v s
  | .TW => if off = 0x060 then some (execXfer m (fin 6 i) w s) else none
  | .BIST => cmdBIST m off v s
  | .TILE => if off = 0x040 then some (cmdTile m i v s) else none
  | .MIDWAY =>
    if off = 0x040 then some (execModuleIdWrite m (fin 8 i) w s)
    else if off = 0x050 then some (execRouteHiWrite m (fin 8 i) w s)
    else if off = 0x05C then some (execRouteLoadCmd m (fin 8 i) w s)
    else none
  | .JUG => if off = 0x054 then some (cmdQueue m i v s) else none
  | .EDPEN => if off = 0x040 then some (cmdPort m i v s) else none
  | .SPARE =>
    if off = 0x188 then some (if v.testBit 8 then execCoreRetire m (fin 8 i) (fin 64 v) s else noCommand m .SPARE i off s)
    else if off = 0x18C then some (if v.testBit 8 then execCoreTest m (fin 8 i) (fin 128 v) s else noCommand m .SPARE i off s)
    else none
  | .HS => if off = 0x010 then some (execHsCtrlWrite m (fin 16 i) w s) else if off = 0x040 then some (cmdStack m i v s) else none
  | .IBU => if off = 0x040 then some (cmdUnit m i v s) else none
  | .ENERGY | .KEEP | .RECORD | .AGE | .TRACE | .CORE | .ECC | .BAND => none

end Sys2Proof.Machine
end

