-- ==== Sys2Proof/Machine/Bus.lean ====
section
/-! DEFINITION. Accesses to register pages: which fields a word holds (R532, R535), reads with their latches and clears (R542, R543), writes
under the access table (R544, R545), events written by hand (R535 to R538) and persistent fields (R550, R551). -/

namespace Sys2Proof.Machine

/-! Words of a page. -/

/-- What of a field lies in a word: repetition j of f, `shift` bits of it below the word, from bit `lo` of the word, `w` bits. -/
structure Part where
  f : Fld
  j : Nat
  shift : Nat
  lo : Nat
  w : Nat

def Fld.part (f : Fld) (off j : Nat) : Option Part :=
  let b := 8 * (f.off + f.st * j) + f.lo
  let a := 8 * off
  let first := max a b
  let stop := min (a + 32) (b + f.w)
  if first < stop ∧ j < f.n then some ⟨f, j, first - b, first - a, stop - first⟩ else none

/-- The repetitions of a field that a word can hold: four where one takes a byte. -/
def Fld.parts (f : Fld) (off : Nat) : List Part :=
  let j := if f.st = 0 then 0 else (off + 3 - f.off) / f.st
  ([j - 3, j - 2, j - 1, j].eraseDups).filterMap (f.part off)

/-- Offsets and fields that only some instances of a page have (Tables 10.12, 12.13, 15.9). -/
def hasOffset (pg : Page) (i off : Nat) : Bool :=
  match pg with
  | .HOSTQ => i == 0 || off < 0x300
  | .TW => i == 4 || off < 0x0A0 || off ≥ 0x0C0
  | .RAIL => i < 6 || off < 0x140
  | _ => true
def hasField (pg : Page) (i : Nat) (f : Fld) : Bool := !(pg == .TW && i != 4 && f.off == 0x010 && f.lo == 12)

/-- The fields of a word, header and block. -/
def pageParts (pg : Page) (i off : Nat) : List Part :=
  if hasOffset pg i off then ((hdrFields pg ++ pg.fields).flatMap fun f => if hasField pg i f then f.parts off else []) else []

/-! Reads. -/

/-- Pairs whose LO read latches the HI word (R542; Tables 2.4, 12.12, 12.13, R424). (DEDUCED, assumption 130) -/
def latchingPair (f : Fld) : Bool :=
  (f.pg == .BEAT && f.off == 0x040) || (f.pg == .PWR && f.off == 0x204) || (f.pg == .RAIL && f.off == 0x060) || (f.pg == .ENERGY && f.w == 64)
/-- DEDUCED assumption 130. -/
def latchKey (f : Fld) (i j m : Nat) : Nat := f.key i j * 64 + m

/-- What a field contributes to a word read by master m. -/
def State.partValue (s : State) (m i : Nat) (x : Part) : Nat :=
  if x.f.acc = .wo then 0
  else if latchingPair x.f && x.shift != 0 then Assoc.get 0 s.latches (latchKey x.f i x.j m)
  else s.show x.f i x.j / 2 ^ x.shift % 2 ^ x.w

/-- The words of the header that hold no state (Table 17.2). -/
def State.hdrWord (s : State) (m : Nat) (pg : Page) (i off : Nat) : Nat :=
  let n := pg.eventBits
  let safe : Bool := match pg with | .BEAT | .PWR | .RAIL | .THERM | .COOL | .LEAK | .SAFE => true | _ => false
  if off = 0x000 then i + pg.blockType * 2 ^ 16
  else if off = 0x004 then 0x100
  else if off = 0x008 then
    (if n = 0 then 0 else 1) + (if pg = .FW ∨ pg = .SEC ∨ pg = .LEAK then 2 else 0) +
      4 * (match pg.domain i with | .AO => 0 | .MG => 1 | .TM => 2 | .TC => 3) + n * 2 ^ 8
  else if off = 0x00C then pg.number i + m * 2 ^ 16 + s.entry m pg i * 2 ^ 24
  else if off = 0x024 ∧ safe = true then 2 ^ 10
  else 0

/-- The MSI-X table and its pending bits lie on the first HOSTQ page (R334). -/
def msixOff (pg : Page) (i off : Nat) : Bool := pg == .HOSTQ && i == 0 && decide (0x800 ≤ off) && decide (off < 0xC08)
def State.msixRead (s : State) (off : Nat) : Nat :=
  if off < 0xC00 then s.msixWord ((off - 0x800) / 4) else s.host.pba / 2 ^ (8 * (off - 0xC00)) % 2 ^ 32
/-- R332: a vector that is unmasked while its pending bit is set is sent. Of a control word the mask alone is kept (PRESUMED, assumption 12). (DESIGN CHOICE, assumption 80) -/
def State.msixWrite (s : State) (off v : Nat) : State :=
  if 0xC00 ≤ off then s
  else
    let w := (off - 0x800) / 4
    let new := if w % 4 = 3 then v % 2 else v
    let s := (s.putHost { s.host with msix := Assoc.put (msixDefault w) s.host.msix w new })
    if w % 4 = 3 ∧ new = 0 ∧ s.host.pba.testBit (w / 4) = true then (s.putHost { s.host with pba := s.host.pba - 2 ^ (w / 4) }).sendMsix (w / 4) else s

/-- The value of a word. -/
def State.wordValue (s : State) (m : Nat) (pg : Page) (i off : Nat) : Nat :=
  if msixOff pg i off then s.msixRead off
  else (pageParts pg i off).foldl (fun a x => a + s.partValue m i x * 2 ^ x.lo) (s.hdrWord m pg i off)

/-- What reading a word does: RC fields clear, LO words latch, the random word moves on. (DEDUCED, assumption 130; DEDUCED, assumption 132) -/
def State.readEffect (s : State) (m : Nat) (pg : Page) (i off : Nat) : State :=
  let s := if pg = .JUG ∧ off = 0x08C then s.countStalls i else s
  let s := (pageParts pg i off).foldl (fun s x =>
    if x.f.acc = .rc then
      let v := s.rd x.f i x.j
      s.wr x.f (v - v / 2 ^ x.shift % 2 ^ x.w * 2 ^ x.shift) i x.j
    else if latchingPair x.f && x.shift == 0 then
      (s.putLatches (Assoc.put 0 s.latches (latchKey x.f i x.j m) (s.show x.f i x.j / 2 ^ 32)))
    else s) s
  if pg = .SEC ∧ off = 0x0BC then s.fresh.2 else s

/-- How an access ends: served, denied by the table, or at a page that is not there or cannot serve. -/
inductive Reach where
  | served (pg : Page) (i : Nat)
  | denied (pg : Page) (i : Nat)
  | absent
  | offline
deriving DecidableEq, Repr

def State.reach (s : State) (m n off : Nat) (write : Bool) : Reach :=
  match pageOf n with
  | none => .absent
  | some (pg, i) =>
    if s.offline pg i then .offline
    else if !s.hostServed m pg i off then .absent
    else if (if write then s.mayWrite m pg i else s.mayRead m pg i) then .served pg i else .denied pg i

/-- A read of a word: its value, and what it does (R533, R534, R544). -/
def State.busRead (s : State) (m n off : Nat) : Nat × State :=
  match s.reach m n off false with
  | .served pg i => (s.wordValue m pg i off, s.readEffect m pg i off)
  | .denied pg i => (0, s.countDenied m pg i)
  | _ => (0, s)

/-! Writes. -/

/-- The part of a field's new value that a written word gives it. -/
def State.newValue (s : State) (i v : Nat) (x : Part) : Nat :=
  let old := s.rd x.f i x.j
  let cur := old / 2 ^ x.shift % 2 ^ x.w
  let given := v / 2 ^ x.lo % 2 ^ x.w
  let new := match x.f.acc with
    | .rw | .rwp => given
    | .w1c => cur &&& (2 ^ x.w - 1 - given)
    | .w1s => cur ||| given
    | .ro | .rc | .wo => cur
  old - cur * 2 ^ x.shift + new * 2 ^ x.shift
def State.store (s : State) (i v : Nat) (x : Part) : State := s.wr x.f (s.newValue i v x) i x.j

/-- A field that a write can act on. -/
def Part.writable (x : Part) : Bool := match x.f.acc with | .rw | .rwp | .w1c | .w1s | .wo => true | .ro | .rc => false
def Part.persistent (x : Part) : Bool := x.f.acc == .rwp

/-- Persistent fields have a word of the keep store each (R550, Table 11.13; which one: DESIGN CHOICE, assumption 120). -/
def rwpAddress (pg : Page) : Nat := 0x4000 + (match pg with | .FW => 0 | .SEC => 4 | _ => 8)
/-- R551: a changed persistent field goes to the keep store; on a worn block it keeps its old value. (DESIGN CHOICE, assumption 120) -/
def State.storePersistent (s : State) (pg : Page) (i v : Nat) (ps : List Part) : State :=
  if ps.any fun x => s.newValue i v x != s.rd x.f i x.j then
    let t := ps.foldl (fun s x => s.store i v x) s
    let word := ps.foldl (fun a x => a + t.rd x.f i x.j * 2 ^ x.lo) 0
    match s.keepWrite (rwpAddress pg) (leBytes 4 word) with
    | (true, s) => ps.foldl (fun s x => s.store i v x) s
    | (false, s) => s
  else s

/-- The spill area and its engine after a write to the page (R226, R228, R229). -/
def State.jugWritten (s : State) (t old : Nat) : State :=
  let new := s.rd JUG.SPILL_CFG.refill_cells t
  let s := if new = old then s else
    let (used, s) := s.moveReserve t old new (s.jug t).refillUsed
    (s.setJug t { s.jug t with refillUsed := used }).wr JUG.RESERVED_SUM.cells (s.reserveSum t + new) t
  s.jugEngine t

/-- What a block does at a write of its ordinary registers, beside storing the fields: `b` is the state before. BEAT.CTRL.enable cleared
in ACQUIRE has no effect (DESIGN CHOICE, assumption 163). -/
def State.written (s : State) (b : State) (pg : Page) (i off : Nat) : State :=
  match pg with
  | .JUG => s.jugWritten i (b.rd JUG.SPILL_CFG.refill_cells i)
  | .BAND => s.bandMoved i (b.band i)
  | .TW => if off = 0x010 then s.twEnable i else s
  | .PWR =>
    if 0x100 ≤ off ∧ off < 0x200 then let t := (off - 0x100) / 0x20; (s.movePoint t true).updateReasons t
    else if off = 0x058 ∨ off = 0x05C then (List.range 8).foldl (fun s t => s.tileLimit t) (if s.runs 2 then s.budgets else s)
    else s
  | .THERM =>
    if off = 0x040 then
      let top := s.rd THERM.TRIP.threshold_c - 5
      (s.wr THERM.LIMITS.tile_c (min top (s.rd THERM.LIMITS.tile_c))).wr THERM.LIMITS.stack_c (min top (s.rd THERM.LIMITS.stack_c))
    else if off = 0x010 ∧ s.is THERM.CTRL.loop_en = false then (List.range 8).foldl (fun s t => s.tileLimit t) s.thermalLoop
    else s
  | .COOL => s.coolWatch.refreshDrives
  | .SPARE => s.serveSpares i
  | .HOSTQ =>
    if off = 0x310 ∧ ringValid (s.rd HOSTQ.EVT_BASE.base) (s.rd HOSTQ.EVT_SIZE.log2) = false then s.wr HOSTQ.EVT_CTRL.enable 0 else s
  | .ECC => if off = 0x010 then s.patrolSwitch i else s
  | _ => s

/-- A write that the spec has a block ignore (R228). -/
def State.ignores (s : State) (pg : Page) (i off : Nat) : Bool :=
  pg == .JUG && s.is JUG.CTRL.spill_en i && (off == 0x070 || off == 0x074 || off == 0x078)

/-- Table 17.2: the code in the event ring of a page's event bit. -/
def eventCode (pg : Page) (bit : Nat) : Nat :=
  let e := fun (l : List Ev) => match l.find? (fun x => x.bit == bit) with | some x => x.code | none => 1
  match pg with
  | .MOD => e [Ev.HEARTBEAT_LOST, Ev.RINGS_LOST, Ev.RING_UE, Ev.DRIVER_ATTACHED]
  | .HOSTQ => if bit = 0 then 0x0005 else 0x0002
  | .FW => 0x0400 + bit
  | .SEC => e [Ev.IDENTITY_LOW]
  | .KEEP => 0x040C + bit
  | .PWR => 0x0100 + bit
  | .THERM => if bit = 4 then 0x020C else 0x0200 + bit
  | .COOL => 0x0204 + bit
  | .LEAK => 0x020A + bit
  | .SAFE => 0x0300 + bit
  | .AGE => 0x0310 + bit
  | .BIST => 0x0500 + bit
  | .RECORD => 0x0505 + bit
  | .TW => 0x0600 + bit
  | _ => 1

/-- EVT_FORCE (R535): every defined bit written 1 is an occurrence of its event, posted with parameters the spec does not give. (DEDUCED, assumption 131) -/
def State.evtForce (s : State) (pg : Page) (i v : Nat) : State :=
  (List.range pg.eventBits).foldl (fun s b =>
    if v.testBit b then
      let (f, s) := s.fresh
      s.raise ⟨pg, b, eventCode pg b⟩ i ((List.range 5).map fun k => f / 2 ^ (64 * k) % 2 ^ 64)
    else s) s

/-- EVT_STATUS and EVT_ENABLE written (R536 to R538). (DEDUCED, assumption 133) -/
def State.evtStatusWrite (s : State) (pg : Page) (i v : Nat) : State :=
  (s.wr (hdrStatus pg) (s.rd (hdrStatus pg) i - (s.rd (hdrStatus pg) i &&& v)) i).resendPending pg i
/-- The bits of events that the page does not define are reserved (R10, Table 17.2). (DEDUCED, assumption 133) -/
def State.evtEnableWrite (s : State) (pg : Page) (i v : Nat) : State := (s.wr (hdrEnable pg) (v % 2 ^ pg.eventBits) i).resendPending pg i

/-- Bytes of the buffer behind FW.BUF. -/
def State.bufWrite (s : State) (off v : Nat) : State :=
  (s.putFw { s.fw with buffer := bufSet s.fw.buffer (2048 * s.rd FW.BUF_SEL.block + (off - 0x800)) (leBytes 4 v) })

/-- The fields of a word that hold no command are written as the table allows (R544): allowed ones change, and a write that would act on a
denied one, or to which no field is allowed, is counted. (DEDUCED, assumption 131) -/
def State.fieldWrite (s : State) (m : Nat) (pg : Page) (i off v : Nat) : State :=
  let ps := (pageParts pg i off).filter Part.writable
  let rwp := ps.filter Part.persistent
  let rw := ps.filter fun x => !x.persistent
  if s.mayWrite m pg i then
    let deniedP := !s.mayPersist m pg i && !rwp.isEmpty && (rw.isEmpty || rwp.any fun x => s.newValue i v x != s.rd x.f i x.j)
    let t := if deniedP then s.countDenied m pg i else s
    if s.ignores pg i off then t
    else
      let u := rw.foldl (fun s x => s.store i v x) t
      let u := if s.mayPersist m pg i then u.storePersistent pg i v rwp else u
      u.written s pg i off
  else if (pageParts pg i off).isEmpty then s
  else s.countDenied m pg i

/-- Any write of a word that passes to a page: the header's registers, then the block's. -/
def State.pageWrite (s : State) (m : Nat) (pg : Page) (i off v : Nat) : State :=
  if off = 0x018 ∨ off = 0x01C ∨ off = 0x020 then
    if s.mayWrite m pg i then
      if off = 0x018 then s.evtStatusWrite pg i v else if off = 0x01C then s.evtEnableWrite pg i v else s.evtForce pg i v
    else s.countDenied m pg i
  else if msixOff pg i off then (if s.mayWrite m pg i then s.msixWrite off v else s.countDenied m pg i)
  else if pg = .FW ∧ off ≥ 0x800 then (if s.mayWrite m pg i then s.bufWrite off v else s.countDenied m pg i)
  else s.fieldWrite m pg i off v

def State.ran (s : State) (o : Answer) : State := match o with | .next t => t | .fault _ => s | .refused _ => s

/-- A write of a register word by a master (R540, R544): the register's command, or its fields. (DEDUCED, assumption 132) -/
def State.busWrite (s : State) (m : Nat) (n off v : Nat) : State :=
  match pageOf n with
  | none => s
  | some (pg, i) =>
    if s.offline pg i || !s.hostServed m pg i off || off % 4 != 0 then s
    else match commandOf (fin 64 m) pg i off v s with
      | some o => s.ran o
      | none => s.pageWrite m pg i off v

/-! The commands. -/

/-- EVT_STATUS_WRITE (R536, R538). -/
def execEvtStatusWrite (m : MasterId) (page : BitVec 14) (v : Word) (s : State) : Host.Outcome State Fault Refusal :=
  .next (s.busWrite m page.toNat 0x018 v.toNat)
/-- EVT_ENABLE_WRITE (R537, R538). -/
def execEvtEnableWrite (m : MasterId) (page : BitVec 14) (v : Word) (s : State) : Host.Outcome State Fault Refusal :=
  .next (s.busWrite m page.toNat 0x01C v.toNat)
/-- EVT_FORCE (R535). -/
def execEvtForce (m : MasterId) (page : BitVec 14) (v : Word) (s : State) : Host.Outcome State Fault Refusal :=
  .next (s.busWrite m page.toNat 0x020 v.toNat)

/-- RWP_WRITE (R550, R551): `r`: FW.CTRL, SEC.CTRL or LEAK.CTRL. -/
def execRwpWrite (m : MasterId) (r : Fin 3) (v : Word) (s : State) : Host.Outcome State Fault Refusal :=
  .next (s.busWrite m (if r = 0 then Page.number .FW 0 else if r = 1 then Page.number .SEC 0 else Page.number .LEAK 0) 0x010 v.toNat)

/-- REGISTER_WRITE (R544). A write of a register that has a row of its own does what that row does. -/
def execRegisterWrite (m : MasterId) (page : BitVec 14) (word : BitVec 10) (v : Word) (s : State) : Host.Outcome State Fault Refusal :=
  .next (s.busWrite m page.toNat (4 * word.toNat) v.toNat)

/-- A read that answers its master. -/
def State.answerRead (s : State) (m n off : Nat) : State :=
  let r := s.busRead m n off
  (r.2.putOutbox (r.2.outbox ++ [Out.readData m r.1]))
/-- A page's word holds a part that answers. -/
def wordHas (n off : Nat) (p : Part → Bool) : Bool := match pageOf n with | some (pg, i) => (pageParts pg i off).any p | none => false

/-- RC_READ (R543): of a word with an RC field. -/
def execRcRead (m : MasterId) (page : BitVec 14) (word : BitVec 10) (s : State) : Host.Outcome State Fault Refusal :=
  .next (if wordHas page.toNat (4 * word.toNat) (fun x => x.f.acc == .rc) then s.answerRead m page.toNat (4 * word.toNat) else s)
/-- LATCHING_LO_READ (R542): of the LO word of a latching pair. -/
def execLatchingLoRead (m : MasterId) (page : BitVec 14) (word : BitVec 10) (s : State) : Host.Outcome State Fault Refusal :=
  .next (if wordHas page.toNat (4 * word.toNat) (fun x => latchingPair x.f && x.shift == 0) then s.answerRead m page.toNat (4 * word.toNat) else s)

end Sys2Proof.Machine
end

