-- ==== Sys2Proof/Machine/Fleet.lean ====
section
/-! DEFINITION. FLEET_ACCESS (R369) and the messages that tiles of the module exchange over Midway (R234). -/

namespace Sys2Proof.Machine

/-- R369: a FLEET_ACCESS request acts as master FLEET and is answered in the same type, its route reversed (R246). The layout of the answer, the values of its status
and the length of a staging read are not in the spec (DESIGN CHOICE, assumption 121). -/
def State.fleetArrive (s : State) (t via src aux route : Nat) (data : List Byte) : State :=
  let req := leNat (data.take 16)
  let rest := (data.drop 16).take 4096
  let answer := fun (s : State) (bs : List Byte) =>
    let (status, s) := s.fresh
    let p : Packet := ⟨0x14, 0, s.globalTile t, src, 0, 0, 4 + bs.length, 0, aux % 4 + 2 ^ 15, leBytes 4 status ++ bs, reverseRoute route⟩
    if via ≥ 8 then s.midSend t 2 p else s.emit t via p
  if !s.runs 6 || aux.testBit 15 then s
  else if aux % 4 = 0 then
    let page := bits req 15 0
    let off := bits req 27 16
    if req.testBit 28 then answer (s.busWrite FLEET page off (bits req 63 32)) (leBytes 4 0)
    else
      let r := if off % 4 = 0 then s.busRead FLEET page off else (0, s)
      answer r.2 (leBytes 4 r.1)
  else if aux % 4 = 1 then answer (s.writeDst 0 (bits req 31 0) rest).2 []
  else if aux % 4 = 2 then
    let n := min (bits req 63 32) 4096
    let r := s.readSrc 0 (bits req 31 0) n
    answer r.2 (r.1.getD [])
  else s

/-- FLEET_ACCESS (R369): of kind aux [1:0] on a port; in no other class than TC0. (DESIGN CHOICE, assumption 121) -/
def execFleetAccess (t : TileId) (rx : Rx) (src : BitVec 18) (aux : BitVec 16) (request : BitVec 128) (data : List Byte) (s : State) :
    Host.Outcome State Fault Refusal :=
  .next (if s.portReceives t rx then
      (s.rxCount t rx (16 + data.length)).fleetArrive t rx.port src.toNat aux.toNat rx.route.toNat (leBytes 16 request.toNat ++ data)
    else s)

/-! Midway between the fabric blocks of the tiles (R234, R235, R255). -/

/-- A message that crossed Midway is handled as its type says. (DESIGN CHOICE, assumption 66) -/
def State.midDeliver (s : State) (t : Nat) (p : Packet) : State :=
  if p.type = 6 ∨ p.type = 1 ∨ p.type = 2 ∨ p.type = 4 then s.request t 8 p
  else if p.type = 7 then s.gotAck t p.src p.addr p.seq
  else if p.type = 8 then s.gotNack t p.src p.addr p.seq (fun s => s.collRefused t p.src)
  else if p.type = 3 then s.gotGetRsp t p.src p.aux p.payload
  else if p.type = 5 then s.gotAtomicRsp t p.src p.seq p.payload
  else if p.type = 9 then s.collArrive t 8 p
  else if p.type = 0x11 then s.paceArrive t p
  else if p.type = 0x12 then s.curtainArrive t p.aux (leNat p.payload)
  else if p.type = 0x13 then s.partnerParked t p.src p.addr
  else if p.type = 0x14 then s.fleetArrive t 8 p.src p.aux 0 p.payload
  else s

/-- A message leaves Midway at its destination; a tile whose compute domain is down answers nothing (R251). -/
def State.midArrive (s : State) (m : MidMsg) : State :=
  let s := s.putFab { s.fab with midway := s.fab.midway.erase m }
  if s.tileUp m.dst then s.midDeliver m.dst m.pkt else s

/-- MIDWAY_PACKET (R234 to R236): the oldest message of a class from one tile to another goes one hop on over link `d`, the next one of its router's
table, and is delivered at its destination; without a route it waits. `resent` flits of the link were sent again (R235), and 16 in a row that
fail take the link down; the message then stays. (DESIGN CHOICE, assumption 66) -/
def execMidwayPacket (src dst : TileId) (cls : Fin 3) (d : Fin 3) (resent : Fin 17) (s : State) : Host.Outcome State Fault Refusal :=
  .next (match s.fab.midway.find? (fun m => m.src == src.val && m.dst == dst.val && m.cls == cls.val) with
    | none => s
    | some m =>
      if m.at_ = dst then s.midArrive m
      else if s.nextLink m.at_ dst ≠ some d.val then s
      else
        let s := s.add MIDWAY.LINK_RETRY.flits resent.val m.at_ d
        if resent.val = 16 then s.linkDown m.at_ d
        else if m.at_ ^^^ 2 ^ d.val = dst then s.midArrive m
        else s.putFab { s.fab with midway := s.fab.midway.replace m { m with at_ := m.at_ ^^^ 2 ^ d.val } })

end Sys2Proof.Machine
end

