-- ==== Sys2Proof/Machine/Target.lean ====
section
/-! DEFINITION. The SX8 as target on TW4 (R495 to R501): the pointer space, reads and writes, the 64-byte buffer, sleep and attention. -/

namespace Sys2Proof.Machine

/-- R497: a page whose registers the target can reach. -/
def State.targetReaches (s : State) (pg : Page) (i : Nat) : Bool :=
  s.railGood 51 || pg.domain i == .AO || (pg == .FW && s.rd FW.STATUS.stage == 1)

def tw4Page : Nat := Page.number .TW 4

/-- A word of a register page read as TRAY, with what TGT_STATUS shows of a refusal (R497, R534). -/
def State.targetRead (s : State) (n off : Nat) : Nat × State :=
  match pageOf n with
  | none => (0, s)
  | some (pg, i) =>
    if !s.targetReaches pg i then (0, s.wr TW.TGT_STATUS.unavailable 1 4)
    else match s.reach TRAY n off false with
      | .offline => (0, s.wr TW.TGT_STATUS.unavailable 1 4)
      | .denied _ _ => let r := s.busRead TRAY n off; (r.1, r.2.wr TW.TGT_STATUS.denied 1 4)
      | _ => s.busRead TRAY n off

/-- Table 15.3: the aligned word at a pointer, as a read latches it (R496). -/
def State.pointerRead (s : State) (p : Nat) : Nat × State :=
  if p = 0x0000 then (0x5808 + s.rd MOD.DEVICE_ID.stepping * 2 ^ 16, s)
  else if p = 0x0004 then s.targetRead tw4Page 0x0A4
  else if p = 0x0008 then s.targetRead tw4Page 0x0A8
  else if p = 0x000C then s.targetRead tw4Page 0x0AC
  else if p = 0x0010 then s.targetRead tw4Page 0x0B0
  else if 0x1000 ≤ p ∧ p < 0x2000 then s.targetRead (s.rd TW.WIN.page 4) (p - 0x1000)
  else (0, s)

/-- Table 15.3: a word written at a pointer (R497, R498). A pointer outside the table is counted. -/
def State.pointerWrite (s : State) (p v : Nat) : State :=
  let page := s.rd TW.WIN.page 4
  if p = 0x0000 then s
  else if p = 0x0004 then s.busWrite TRAY tw4Page 0x0A4 v
  else if p = 0x0008 then s.busWrite TRAY tw4Page 0x0A8 v
  else if p = 0x000C then s.busWrite TRAY tw4Page 0x0AC v
  else if p = 0x0010 then s.busWrite TRAY tw4Page 0x0B0 v
  else if 0x1000 ≤ p ∧ p < 0x2000 then
    match pageOf page with
    | some (pg, i) => if s.targetReaches pg i then s.busWrite TRAY page (p - 0x1000) v else s
    | none => s
  else s.protoErr 4

/-- The bytes of a read from the current pointer, which advances with each (R496): `word` is the latched word. -/
def State.targetBytes (s : State) (word : Nat) (first : Bool) : Nat → List Byte × State
  | 0 => ([], s)
  | n + 1 =>
    let p := s.rd TW.TGT_STATUS.pointer 4
    let r := if first || p % 4 == 0 then s.pointerRead (p / 4 * 4) else (word, s)
    let s := r.2.wr TW.TGT_STATUS.pointer ((p + 1) % 2 ^ 16) 4
    let rest := State.targetBytes s r.1 false n
    (BitVec.ofNat 8 (r.1 / 2 ^ (8 * (p % 4))) :: rest.1, rest.2)

/-- The address the target answers at now (R495). -/
def State.targetAnswers (s : State) (addr : Nat) (read : Bool) : Bool :=
  addr == s.rd TW.TGT.address 4 || (addr == 0x0D && read && s.tw.attnAt.isSome)

/-- Where the data bytes of a write fall: offsets in the 64-byte page of its pointer, wrapping (R498). -/
def bufPlaces (p : Nat) (bs : List Byte) : List (Nat × Byte) := bs.zipIdx.map fun x => ((p + x.2) % 64, x.1)

/-- TW4_ACCESS (R495, R496, R498, R501): an address match: a write of bytes (the pointer, then data), or a read of `count` bytes. A read of
address 0x0D answers the outstanding request. (DEDUCED, assumption 122) -/
def State.targetAccess (s : State) (addr : Nat) (wr : Option (List Byte)) (count : Nat) : State :=
  let st := s.twState 4
  if (st = twIDLE ∨ (st = twBUSY ∧ s.tw.wptr.isNone)) ∧ s.targetAnswers addr wr.isNone then
    let s := s.wr TW.STATUS.state twBUSY 4
    match wr with
    | some bs =>
      match bs with
      | hi :: lo :: data =>
        let p := hi.toNat * 256 + lo.toNat
        (s.putTw { s.tw with wptr := some p, buf := bufPlaces p data })
      | _ => (s.putTw { s.tw with wptr := some (s.rd TW.TGT_STATUS.pointer 4), buf := [] })
    | none =>
      if addr = s.rd TW.TGT.address 4 then
        let r := s.targetBytes 0 true count
        (r.2.putOutbox (r.2.outbox ++ [Out.bytes r.1]))
      else ((s.putTw { s.tw with attnAt := none }).putOutbox (s.outbox ++ [Out.bytes [BitVec.ofNat 8 (2 * s.rd TW.TGT.address 4)]]))
  else s
def execTw4Access (addr : BitVec 7) (wr : Option (List Byte)) (count : BitVec 16) (s : State) : Host.Outcome State Fault Refusal :=
  .next (s.targetAccess addr.toNat wr count.toNat)

/-- The last value of a byte of the page. -/
def bufByte (buf : List (Nat × Byte)) (i : Nat) : Option Byte := (buf.reverse.find? (fun x => x.1 == i)).map Prod.snd

/-- Words of the page, in the order in which the last byte of each arrived. -/
def wordOrder : List (Nat × Byte) → List Nat
  | [] => []
  | x :: rest => if rest.any (fun y => y.1 / 4 == x.1 / 4) then wordOrder rest else x.1 / 4 :: wordOrder rest

/-- A word of the page whose four bytes were all written. -/
def bufWord (buf : List (Nat × Byte)) (w : Nat) : Option Nat :=
  match bufByte buf (4 * w), bufByte buf (4 * w + 1), bufByte buf (4 * w + 2), bufByte buf (4 * w + 3) with
  | some a, some b, some c, some d => some (leNat [a, b, c, d])
  | _, _, _, _ => none

/-- R498: the words of the buffer are committed in order; a word of which only some bytes came is dropped. (DEDUCED, assumption 122; DESIGN CHOICE, assumption 137) -/
def State.commitBuf (s : State) (p : Nat) (buf : List (Nat × Byte)) : State :=
  (wordOrder buf).foldl (fun s w => match bufWord buf w with
    | some v => s.pointerWrite (p / 64 * 64 + 4 * w) v
    | none => s.wr TW.TGT_STATUS.partial 1 4) s

/-- TW4_COMMIT (R498): at a STOP, or at a repeated START, which goes on with the transaction. (DEDUCED, assumption 122) -/
def execTw4Commit (stop : Bool) (s : State) : Host.Outcome State Fault Refusal :=
  .next (match s.tw.wptr with
    | some p =>
      if s.twState 4 = twBUSY then
        let buf := s.tw.buf
        let s := (s.putTw { s.tw with buf := [], wptr := none })
        let s := (s.wr TW.TGT_STATUS.pointer p 4).commitBuf p buf
        if stop ∧ s.twState 4 = twBUSY then
          let s := (s.add TW.XFERS.count 1 4).twIdle 4
          (s.putTw { s.tw with lastAt := s.now })
        else s
      else s
    | none => s)

/-- TW4_PROTOCOL_RESET (R499): the unfinished write is discarded whole, and the pointer stays. -/
def execTw4ProtocolReset (s : State) : Host.Outcome State Fault Refusal :=
  .next (if s.twState 4 = twBUSY then
      let s := (s.protoErr 4).twIdle 4
      (s.putTw { s.tw with buf := [], wptr := none, lastAt := s.now })
    else s)

/-- TW4_SLEEP (R500). -/
def execTw4Sleep (s : State) : Host.Outcome State Fault Refusal :=
  .next (if s.twState 4 = twIDLE ∧ s.is TW.CTRL.sleep_en 4 ∧ s.tw.lastAt + 100000000 ≤ s.now ∧ (s.pwr = pSTANDBY ∨ s.pwr = pHELD) then
      s.wr TW.STATUS.state twSLEEP 4
    else s)

/-- TW4_WAKE (R500): the matched address byte's transaction goes on. -/
def execTw4Wake (addr : BitVec 7) (s : State) : Host.Outcome State Fault Refusal :=
  .next (if s.twState 4 = twSLEEP ∧ addr.toNat = s.rd TW.TGT.address 4 then
      (s.wr TW.STATUS.state twBUSY 4).raise Ev.TW_WAKE 4 [addr.toNat]
    else s)

/-- The target makes its request; a target asleep wakes its clock first (R501). (DEDUCED, assumption 122) -/
def State.askAttention (s : State) : State :=
  let s := if s.twState 4 = twSLEEP then s.twIdle 4 else s
  ((s.putTw { s.tw with attnDue := false, attnAt := some s.now, lastAt := s.now }).putOutbox (s.outbox ++ [Out.barker]))
/-- The bus has been idle for 10 µs. -/
def State.targetIdle (s : State) : Bool := (s.twState 4 == twIDLE && decide ((s.twp 4).freeAt + 10000 ≤ s.now)) || s.twState 4 == twSLEEP

/-- ATTN_SET (R501). -/
def execAttnSet (s : State) : Host.Outcome State Fault Refusal :=
  .next (if s.tw.attnDue ∧ s.targetIdle then s.askAttention else s)

/-- ATTN_REPEAT (R501). (DEDUCED, assumption 122) -/
def execAttnRepeat (s : State) : Host.Outcome State Fault Refusal :=
  .next (match s.tw.attnAt with
    | some t => if t + 100000000 ≤ s.now ∧ s.targetIdle then s.askAttention else s
    | none => s)

end Sys2Proof.Machine
end

