-- ==== Sys2Proof/Machine/Boot.lean ====
section
/-! DEFINITION. Resets and starts: cold reset (R564, R11), loss of standby power (R563), the cold start (R335 to R344, R461, R557), warm resets and
warm starts (R339), and the end of the firmware's slow operations (R354). -/

namespace Sys2Proof.Machine

/-! Cold reset. -/

/-- Fields that no cold reset restores: persistent ones, and what the keep store records (Table 0.5, R550). -/
def keptFields : List Fld :=
  recordFields ++
  [SPARE.MAP.phys, SPARE.MAP.present, SPARE.PSTATE.state, SPARE.STATUS.spares_left, SPARE.RETIRED_COUNT.count, HS.HARD_REPAIRS.rows,
   FW.CTRL.fleet_mode, FW.CTRL.auto_confirm, FW.BOOT_PREF.slot, FW.FLOOR.floor, SEC.CTRL.quote_gap_s, SEC.LEAF_RESERVED.leaf, LEAK.CTRL.en,
   LEAK.CTRL.pump_stop, SAFE.TAKEOVERS.count, RECORD.KEEP_HEAD.offset]

/-- A physical core under test goes back to what it was before (R103). (DEDUCED, assumption 96; DEDUCED, assumption 123) -/
def State.endCoreTests (s : State) : State :=
  s.tests.foldl (fun s r => if r.type = btCore then s.wr SPARE.PSTATE.state r.prior (r.inst / 68) (r.inst % 68) else s) s

/-- The registers after a cold reset: every field with letter C at its reset value. -/
def State.keptRegs (s : State) : Assoc Nat :=
  let s := s.endCoreTests
  keptFields.foldl (fun r f => (List.range f.pg.count).foldl (fun r i => (List.range f.n).foldl (fun r j =>
    Assoc.put (f.rst i j) r (f.key i j) (s.rd f i j)) r) r) []

/-- Stacks lose their contents with their rails; soft remaps are kept (R171). -/
def State.coldStacks (s : State) : Assoc StackState :=
  (List.range 16).foldl (fun m k => Assoc.put StackState.reset m k { StackState.reset with remaps := (s.stk k).remaps, epoch := s.free + 1 + k, bandAt := s.now }) []

/-- A unit under test ends INCOMPLETE and FAILED; a DISABLED one is not recorded (R207). (DEDUCED, assumption 123) -/
def coldUnits (m : Assoc UnitState) : Assoc UnitState :=
  (m.filter fun x => x.2.state == 2 || x.2.state == 3).map fun x => (x.1, ⟨2, true, false⟩)

/-- The fallback executor of a stack serves up to 16 of its failed units (R206). -/
def coldServed (m : Assoc UnitState) : Assoc (List Nat) :=
  (List.range 16).foldl (fun r k => Assoc.put [] r k (((m.filter fun x => x.1 / 1024 == k).map fun x => x.1 % 1024).take 16)) []

/-- Whole hours of a trial have been written to the keep store (R355). (DEDUCED, assumption 123) -/
def State.coldTrial (s : State) : Nat := s.trialMin / 60 * 3600000000000

/-- What recorded state shows in registers that a cold reset restores: units, retired stacks, cores that were being filled. -/
def State.showRecords (s : State) : State :=
  let s := (List.range 16).foldl (fun s k => if s.keep.retired.testBit k then (s.wr HS.STATUS.state hsRETIRED k).wr HS.CAPACITY.gib 0 k else s) s
  let s := (List.range 16).foldl (fun s k => if s.ibu.units.any (fun x => x.1 / 1024 == k) then s.showUnits k else s) s
  (List.range 8).foldl (fun s t =>
    let s := s.forEach 68 (fun s p => s.rd SPARE.PSTATE.state t p == 2) fun s p => s.wr SPARE.PSTATE.state 1 t p
    s.wr SPARE.STATUS.spares_left (s.spareList t).length t) s

/-- Every rail is off, and everything that no reset keeps is at its reset value (R11, R564). (DEDUCED, assumption 123) -/
def State.coldReset (s : State) : State :=
  State.showRecords
    { State.reset with
      pending := s.pending, now := s.now, free := s.free + 17, outbox := s.outbox, regs := s.keptRegs, stackParts := s.coldStacks,
      ibu := { IbuState.reset with units := coldUnits s.ibu.units, served := coldServed (coldUnits s.ibu.units) },
      keep := { s.keep with since := [] },
      fw := { FwState.reset with confirmed := s.fw.confirmed, slotA := s.fw.slotA, slotB := s.fw.slotB, trialNs := s.coldTrial },
      age := { s.age with last := [] } }

/-- COLD_RESET (R564): COLD_RST_N has been low for 10 µs. -/
def execColdReset (s : State) : Host.Outcome State Fault Refusal := .next s.coldReset

/-- VSTBY_FAIL (R563): emergency lowering, the keep-store word in progress is whole (R375), RAIL_EN51 drops, and the next start is cold. (DEDUCED, assumption 123) -/
def State.standbyFails (s : State) : State :=
  let s := s.emergencyLowering
  let s := ((s.railOff 51 0).mgmtDown).wr SAFE.STATUS.master 0
  ((s.putFw { s.fw with cold := true }).putSafety { s.safety with aliveA := false, aliveB := false })
def execVstbyFail (s : State) : Host.Outcome State Fault Refusal := .next (if s.fw.cold then s else s.standbyFails)

/-! Safety Net's self-test (R461, R483). -/

/-- Outcomes of the eight paths; `sites`: comparator sites that failed. A shared path that has not passed keeps the rails down. -/
def State.safetyTest (s : State) (passed failed : Nat) (sites : List Nat) : State :=
  let pass := passed &&& (255 - failed)
  let s := (s.wr SAFE.SELFTEST.pass pass).wr SAFE.SELFTEST.fail failed
  let s := s.wr SAFE.SELFTEST.incomplete (255 - (pass ||| failed))
  let s := ((s.wr SAFE.SELFTEST.sites_failed sites.length).putSafety { s.safety with sites := sites })
  if pass ||| 2 = 255 then s.wr SAFE.STATUS.selftest_ok 1
  else s.raise Ev.SAFETY_SELFTEST 0 [pass + failed * 2 ^ 8 + (255 - (pass ||| failed)) * 2 ^ 16 + sites.length * 2 ^ 24]

/-! The ROM (R338, R349, R358). -/

def bootChecks : List Nat := [1, 2, 3, 4, 5, 6, 7]

/-- A slot's loader fails verification: a STAGED slot is INVALID; one in trial is reverted (Table 11.7). -/
def State.loaderFails (s : State) (k r : Nat) : State :=
  let s := s.imageRefused 1 r 3
  if s.slot k = slSTAGED then s.setSlot k slINVALID
  else if s.slot k = slTRIAL then
    ((s.setSlot k slINVALID).bootRecord (State.wr · FW.BOOT_PREF.slot (1 - k))).raise Ev.SLOT_REVERTED 0 [1 - k, 2]
  else s

/-- The loader of slot k runs: it is the boot slot; a STAGED one goes on trial at a cold start. -/
def State.loaderRuns (s : State) (k : Nat) (img : Img) (cold : Bool) : State :=
  let s := ((s.wr FW.STATUS.boot_slot k).putFw { s.fw with loader := some img })
  let s := s.wr FW.SVN.svn img.svn 0 0
  if cold && s.slot k == slSTAGED then s.setSlot k slTRIAL else s

/-- The ROM verifies the preferred slot's loader, then the other's; with none it waits in ROM_RECOVERY. Answers whether a loader runs. -/
def State.romBoot (s : State) (cold : Bool) : Bool × State :=
  let s := s.enterStage 0
  let p := s.rd FW.BOOT_PREF.slot
  let x := s.flashImage p 1
  let r := s.imageReason x 1 bootChecks
  if r = 0 then (true, s.loaderRuns p x.img cold)
  else
    let s := s.loaderFails p r
    let y := s.flashImage (1 - p) 1
    let q := s.imageReason y 1 bootChecks
    if q = 0 then (true, (s.raise Ev.BOOT_FALLBACK 0 [1, 1 - p]).loaderRuns (1 - p) y.img cold)
    else (false, ((s.loaderFails (1 - p) q).enterStage 1).attn 3)

/-! The configuration (R343, R344 and its sections). -/

/-- A start-up value of a whole register word. -/
def State.loadWord (s : State) (pg : Page) (i off v : Nat) : State :=
  ((pageParts pg i off).filter Part.writable).foldl (fun s x => s.store i v x) s

/-- Section 0x0001: gap, down timeout and the rail table (R387). -/
def State.railSection (s : State) (d : List Byte) : State :=
  let s := (s.putPower { s.power with gap := leAt d 0 2, downT := leAt d 2 2 })
  (List.range 52).foldl (fun s n =>
    let e := d.drop (8 + 16 * n)
    let s := ((s.railWr RAIL.CFG.address n (leAt e 0 1 % 128)).railWr RAIL.CFG.port n (leAt e 1 1 % 4)).railWr RAIL.CFG.page n (leAt e 2 1)
    let s := (s.railWr RAIL.CFG.group n (leAt e 3 1 % 8)).railWr RAIL.NOMINAL.mv n (leAt e 4 2)
    let s := (s.putPower { s.power with windows := Assoc.put 20 s.power.windows n (leAt e 6 2) })
    ((s.railWr RAIL.LIM_1MS.a10 n (leAt e 8 2)).railWr RAIL.LIM_20US.a10 n (leAt e 10 2)).railWr RAIL.LIM_2US.a10 n (leAt e 12 2)) s

/-- Section 0x0003: the start-up values of CAP_HOST, GUARD, GAIN, LOCK, BW_CFG, TR_CFG and TR_MAX (R421). -/
def State.powerSection (s : State) (d : List Byte) : State :=
  let s := s.setCap PWR.CAP_HOST.limit_w (leAt d 0 2)
  ([(0x058, 4), (0x05C, 8), (0x070, 12), (0x074, 16), (0x078, 20), (0x07C, 24)] : List (Nat × Nat)).foldl (fun s x => s.loadWord .PWR 0 x.1 (leAt d x.2 4)) s

/-- Section 0x0004: ten words of the THERM and COOL pages, limits at most 5 °C below the trip threshold (R436). -/
def State.thermalSection (s : State) (d : List Byte) : State :=
  let s := ([(0x040, 0), (0x044, 4), (0x048, 8)] : List (Nat × Nat)).foldl (fun s x => s.loadWord .THERM 0 x.1 (leAt d x.2 4)) s
  let s := ([(0x040, 12), (0x044, 16), (0x048, 20), (0x050, 24), (0x060, 28), (0x070, 32), (0x080, 36)] : List (Nat × Nat)).foldl
    (fun s x => s.loadWord .COOL 0 x.1 (leAt d x.2 4)) s
  s.written s .THERM 0 0x040

/-- Section 0x0005 for one port (Table 15.7); TW4's speed byte is ignored. -/
def State.portSection (s : State) (d : List Byte) (n : Nat) : State :=
  let flags := leAt d (8 * n + 2) 1
  let s := if n = 4 then s else s.wr TW.CTRL.speed (leAt d (8 * n) 1) n
  let s := (s.wr TW.CTRL.stretch_ms (leAt d (8 * n + 1) 1) n).wr TW.CTRL.pec_en flags n
  let s := s.wr TW.CTRL.barker_en (flags / 2) n
  if n = 4 then s.wr TW.CTRL.sleep_en (flags / 4) n else s

/-- Section 0x0006: the start-up access tables (R547). -/
def State.tableSection (s : State) (d : List Byte) : State :=
  (s.putAclStart (((aclSection d).getD []).foldl (fun m e => Assoc.put none m e.1 (some e.2)) []))

/-- DEDUCED assumption 135. -/
def clampTo (lo hi v : Nat) : Nat := max lo (min hi v)
/-- Section 0x0008 as Safety Net clamps it (R482). (DEDUCED, assumption 135) -/
def State.safetySection (s : State) (d : List Byte) : State :=
  let days := clampTo 30 730 (leAt d 12 2)
  let s := (s.wr SAFE.PARAM.word (clampTo 5 60 (leAt d 0 2)) 0 0).wr SAFE.PARAM.word (leAt d 4 1 % 16) 0 1
  ((s.wr SAFE.PARAM.word (clampTo 1000 200000 (leAt d 8 4)) 0 2).wr SAFE.PARAM.word days 0 3).wr AGE.ALARM_DAYS.days days

def applySection (o : Option (List Byte)) (f : State → List Byte → State) (s : State) : State := match o with | some d => f s d | none => s

/-- The loader applies an area (Table 11.1, Table 11.3). -/
def State.applyConfig (s : State) (a : Nat) : State :=
  let sec := s.areaSection a
  let s := applySection (sec 1) State.railSection s
  let s := (s.putCool { s.cool with table := (((sec 2).bind coolSection).getD builtInTable) })
  let s := applySection (sec 3) State.powerSection s
  let s := applySection (sec 4) State.thermalSection s
  let s := applySection (sec 5) (fun s d => (List.range 6).foldl (fun s n => s.portSection d n) s) s
  let s := applySection (sec 6) State.tableSection s
  applySection (sec 8) State.safetySection (s.recConfig (sec 7))

/-- The cooling row of Table 11.1, and the rails once R337 allows. -/
def State.loaderGoesOn (s : State) : State :=
  let s := s.coolStart.enterStage 2
  if s.pwr = pSTANDBY ∧ s.is PWR.RACK.hold = false ∧ s.mayRaise then s.powerUp else s

/-- CONFIG_INVALID (R344). (DEDUCED, assumption 124) -/
def State.configInvalid (s : State) : State :=
  let bits := (if s.areaValid 0 then 0 else 1) + (if s.areaValid 1 then 0 else 2)
  ((s.enterStage 3).raise Ev.CONFIG_INVALID 0 [bits]).attn 2

/-- The loader of a cold start: it selects an area (R343) and applies it. -/
def State.loaderCold (s : State) : State :=
  let s := s.enterStage 2
  match s.pickArea s.areaValid with
  | some a => (((s.putFw { s.fw with area := some a }).applyConfig a)).loaderGoesOn
  | none => (s.recConfig none).coolStart.configInvalid

/-- The ROM and what follows it at a cold start; in ROM_RECOVERY the cooling table engine runs (R338). -/
def State.bootCold (s : State) : State :=
  match s.romBoot true with
  | (true, s) => s.loaderCold
  | (false, s) => s.coolStart

/-- Straps are sampled (R557): TRIP_SEL in bits [1:0], TW4_ADDR in bits [4:2]. -/
def State.sampleStraps (s : State) (straps : Nat) : State :=
  ((s.wr THERM.TRIP.sel straps).wr THERM.TRIP.threshold_c (tripThreshold (straps % 4))).wr TW.TGT.address (0x40 + straps / 4 % 8) 4

/-- Safety Net, the keep store, RAIL51, the beat block, the two-wire ports and MC-A start (Tables 11.1 and 18.7, R48). -/
def State.standbyUp (s : State) : State :=
  let s := s.setRail 51 { s.rail 51 with enabledAt := some s.now, goodAt := some s.now }
  let s := ((s.railWr RAIL.STATUS.state 51 2).wr KEEP.STATUS.ready 1).keepColdStart
  let s := (s.putSafety { s.safety with leakEn := s.rd LEAK.CTRL.en, aliveA := true, kickA := s.now })
  let s := if s.is BEAT.CTRL.enable then s.lockStart else s
  let s := (List.range 6).foldl (fun s n => if s.is TW.CTRL.enable n then s.twIdle n else s) s
  let s := (s.leavesLeft (2 ^ 20 - min (2 ^ 20) (s.rd SEC.LEAF_RESERVED.leaf))).wr SEC.LEAF_NEXT.leaf (s.rd SEC.LEAF_RESERVED.leaf)
  (s.tileTrust.putTw { s.tileTrust.tw with lastAt := s.now })

/-- COLD_START (R335): at standby power good, or the release of COLD_RST_N; `link`: what the endpoint trained to, as MOD.LINK shows it. (DEDUCED, assumption 124) -/
def State.coldStart (s : State) (straps passed failed : Nat) (sites : List Nat) (link : Nat) : State :=
  if s.fw.cold then
    let s := s.coldReset
    let s := (s.putFw { s.fw with cold := false })
    let s := ((s.sampleStraps straps).standbyUp).safetyTest passed failed sites
    let s := ((s.wr MOD.LINK.rate link).wr MOD.LINK.width (link / 8)).wr MOD.LINK.flit (link / 64)
    s.bootCold
  else s
def execColdStart (straps : BitVec 5) (passed failed : BitVec 8) (sites : List (Fin 100)) (link : BitVec 7) (s : State) : Host.Outcome State Fault Refusal :=
  .next (s.coldStart straps.toNat passed.toNat failed.toNat ((sites.map Fin.val).eraseDups) link.toNat)

/-! Warm resets and starts (R339). -/

/-- WARM_RESET (R339, R11). -/
def execWarmReset (s : State) : Host.Outcome State Fault Refusal := .next s.warmReset

/-- RAIL51 had been cut: what the management domain lost starts from its configuration again (R339). -/
def State.mgmtBack (s : State) : State :=
  if s.twState 0 = twOFF ∧ s.is TW.CTRL.enable 0 then
    let s := s.wr KEEP.STATUS.ready 1
    let sec := fun id => match s.fw.area with | some a => s.areaSection a id | none => none
    let s := applySection (sec 5) (fun s d => (List.range 4).foldl (fun s n => s.portSection d n) s) s
    (List.range 4).foldl (fun s n => (s.setTwp n TwPort.reset).twIdle n) s
  else s

/-- The loader of a warm start selects an area and applies nothing; it waits for the main firmware (R339, DEDUCED, assumption 124). -/
def State.loaderWarm (s : State) : State :=
  let s := s.enterStage 2
  match s.pickArea s.areaValid with
  | some a => (s.putFw { s.fw with area := some a }).enterStage 4
  | none => s.configInvalid

/-- WARM_START (R339): the management cores start again, scan being locked and RAIL51 on. (DEDUCED, assumption 124) -/
def State.warmStart (s : State) : State :=
  if s.fw.restart ∧ s.fw.cold = false ∧ s.railGood 51 ∧ s.is BIST.SCAN.unlocked = false then
    let s := ((s.putFw { s.fw with restart := false }).putSafety { s.safety with aliveA := true, kickA := s.now, aliveB := false })
    let s := (s.wr FW.STATUS.master 1).wr FW.STATUS.mirrored 0
    let s := if s.rd SAFE.STATUS.supervision = 2 then s else (s.wr SAFE.STATUS.supervision 1).wr SAFE.STATUS.master 1
    match s.mgmtBack.romBoot false with
    | (true, s) => s.loaderWarm
    | (false, s) => s
  else s
def execWarmStart (s : State) : Host.Outcome State Fault Refusal := .next s.warmStart

/-! Operations that end (R338, R345, R354). -/

/-- A valid blob has been written: in CONFIG_INVALID the loader goes on (R344). -/
def State.configResume (s : State) : State :=
  if s.rd FW.STATUS.stage = 3 then
    match s.pickArea s.areaValid with
    | some a => if s.fw.area.isNone then ((s.putFw { s.fw with area := some a }).applyConfig a).loaderGoesOn else s.enterStage 4
    | none => s
  else s

/-- A recovery image is in its slot: the ROM boots again (R338). -/
def State.recoveryBoot (s : State) : State :=
  if s.rd FW.STATUS.stage = 1 then
    if s.fw.area.isNone then s.bootCold
    else match s.romBoot false with
      | (true, s) => s.loaderWarm
      | (false, s) => s
  else s

/-- A CFG_CMD or REC_CMD that came over TW4 sets ATTN bit 7 (Table 15.4). -/
def State.tellTw (s : State) : State := if s.tw.attnCmd then (s.putTw { s.tw with attnCmd := false }).attn 7 else s

/-- UPDATE_DONE (R354, R345, R338): the operation that runs ends; a flash operation waits while LOADER is down (Table 11.10). -/
def State.updateDone (s : State) : State :=
  match s.fw.op with
  | none => s
  | some o =>
    if o.kind = 0 ∧ s.mainRuns ∧ s.runs 0 = false then s
    else
    let s := (s.putFw { s.fw with op := none })
    if o.kind = 0 then ((s.wr FW.UPD_RESULT.result o.result).wr FW.UPD_RESULT.reason o.reason).raise Ev.UPDATE_DONE 0 [o.op, o.result]
    else if o.kind = 1 then
      let s := match o.blob with
        | some (a, bs) =>
          let gen := match s.areaInUse with | some u => s.areaGen u + 1 | none => leAt bs 8 4
          s.areaWrite a (leAt bs 4 2) gen (leAt bs 0x10 4) (bs.drop 64)
        | none => s
      let s := (s.wr FW.CFG_RESULT.result o.result).wr FW.CFG_RESULT.reason o.reason
      s.tellTw.configResume
    else ((s.wr FW.PUSH_RESULT.result 2).wr FW.PUSH_RESULT.reason 0).tellTw.recoveryBoot
/-- DEDUCED assumption 115. -/
def execUpdateDone (s : State) : Host.Outcome State Fault Refusal := .next s.updateDone

end Sys2Proof.Machine
end

