-- ==== Sys2Proof/Machine/Steps.lean ====
section
/-! DEFINITION. The firing of step boundaries and of the actions that share their beat (R57, R60 to R66, R101, R265, R281 to R284, R291, R298),
and the slot actions PART_START, PART_STOP, FW_ACTIVATE, PS_CHANGE, CAP_CHANGE and POWER_SHIFT on beats of their own. -/

namespace Sys2Proof.Machine

/-! Pace records and lateness (R265, R298, R416). -/

/-- The outcomes of a boundary at which a step runs (R65). (DESIGN CHOICE, assumption 125) -/
inductive StepEnd where
  | commit
  | stretch
  | overrun
  | fault
deriving DecidableEq, Repr

/-- The pace record of tile t for partition p: words of PACE_LAST, and the message where one is sent. An arrival that has not happened has no
stated offset: a free value (DESIGN CHOICE, assumption 125). (DEDUCED, assumption 69) -/
def State.paceRecord (s : State) (p : Nat) (e : StepEnd) (t : Nat) : State :=
  let (sent, close) := Assoc.get (0, none) s.fab.closes (16 * t + p)
  let (free, s) := s.fresh
  let arrival := if sent = 0 then free % 2 ^ 32 else (sent - (s.part p).startBeat) % 2 ^ 32
  let slack := match close with | some (bc, _) => (bc - sent) % 2 ^ 32 | none => 0
  let flags := (if e = .stretch then 1 else 0) + (if e = .overrun then 2 else 0) + 4 * p
  let step := s.rd MOD.PART_STEP.step 0 p
  let s := (((s.wr MIDWAY.PACE_LAST.word step t 0).wr MIDWAY.PACE_LAST.word arrival t 1).wr MIDWAY.PACE_LAST.word slack t 2).wr
    MIDWAY.PACE_LAST.word flags t 3
  if s.is MIDWAY.PACE_DEST.en t then
    s.sendMgmt (some p) t 0x11 (s.rd MIDWAY.PACE_DEST.tile t) (s.rd MIDWAY.PACE_DEST.queue t) 0
      (leBytes 32 (Config.paceBytes (s.globalTile t) p step arrival slack flags).toNat)
  else s

/-- R298: a late step, or one that is not, extends its run and breaks the other. (DEDUCED, assumption 126) -/
def State.stragglerRun (s : State) (t : Nat) (late : Bool) : State :=
  if late then
    let s := ((s.add TILE.LATE.late_run 1 t).wr TILE.LATE.clear_run 0 t).add TILE.LATE_STEPS.count 1 t
    if s.rd TILE.LATE.late_run t ≥ 100 ∧ s.is TILE.LATE.straggler t = false then (s.wr TILE.LATE.straggler 1 t).raise Ev.STRAGGLER t else s
  else
    let s := (s.add TILE.LATE.clear_run 1 t).wr TILE.LATE.late_run 0 t
    if s.rd TILE.LATE.clear_run t ≥ 100 then s.wr TILE.LATE.straggler 0 t else s

/-- The lateness of a tile in a step that ends with its closing barrier complete (R298, R414). Over an A_min of 0 no ratio is stated:
a free value (DEDUCED, assumption 126). -/
def State.lateness (s : State) (p t : Nat) : State :=
  match Assoc.get (0, none) s.fab.closes (16 * t + p) with
  | (sent, some (_, amin)) =>
    let (free, s) := s.fresh
    let arrival := sent - (s.part p).startBeat
    let permille := if amin = 0 then free % 65536 else min ((arrival - amin) * 1000 / amin) 65535
    let (c, d) := if amin = 0 then (free % 65536, 1000) else (arrival - amin, amin)
    let x := s.tpow t
    let s := (s.wr TILE.LATE_LAST.permille permille t).setTpow t { x with lateSum := x.lateSum * d + c * x.lateDen, lateDen := x.lateDen * d, lateN := x.lateN + 1 }
    if s.is TILE.CTRL.straggler_en t then s.stragglerRun t (decide (100 * (arrival - amin) > 5 * amin)) else s
  | _ => s

/-- R416: stretched steps, once each, and overrun steps of the partition's tiles. (DEDUCED, assumption 127) -/
def State.stretchCounts (s : State) (p : Nat) (e : StepEnd) : State :=
  (s.tilesOf p).foldl (fun s t =>
    if e = .stretch ∧ (s.part p).stretches = 0 then s.add PWR.TILE_STRETCH.stretched 1 0 t
    else if e = .overrun then s.add PWR.TILE_STRETCH.overrun 1 0 t
    else s) s

/-! The end part (R37, R61 to R65). -/

/-- Every stream of every core of a partition is at step end; a disabled stream has nothing to execute. -/
def State.streamsDone (s : State) (p : Nat) : Bool :=
  (s.coresOf p).all fun c => (List.range 4).all fun n => s.sn c n == snEND || s.sn c n == snIDLE || !(s.rd CORE.CTRL.stream_en c).testBit n

/-- The closing barrier has completed on this module by the margin before the boundary beat (R63). -/
def State.barrierDone (s : State) (p margin target : Nat) : Bool :=
  (match (s.part p).barrier with | some bc => decide (bc + max margin 1200 ≤ target) | none => false) &&
  !s.fab.colls.any (fun c => c.part == p && cClosing c.ctx && !c.complete)

/-- The outcome of the running step at the boundary of slot k on beat `target`. (DEDUCED, assumption 127) -/
def State.stepOutcome (s : State) (p k target : Nat) : StepEnd :=
  let p0 := s.slotParam0 k
  if (s.part p).fault.isSome then .fault
  else if (if p0.testBit 8 then s.barrierDone p (bits p0 31 16) target else s.streamsDone p) then .commit
  else if (s.part p).stretches < p0 % 256 then .stretch
  else .overrun

/-- R291: the own outcome goes to the partner. (DEDUCED, assumption 73; DEDUCED, assumption 127) -/
def State.pairTell (s : State) (p step : Nat) (ok : Bool) : State :=
  if s.is MOD.PART_STATE.paired 0 p then
    let s := (s.putOutbox (s.outbox ++ [Out.pair p step (some ok)]))
    (s.setPart p { s.part p with ownOutcomes := (s.part p).ownOutcomes ++ [(step, ok, s.now)] }).pairResolve p
  else s

/-- R284: after more consecutive errors than replay_max no replay starts. -/
def State.replayPark (s : State) (p : Nat) : State :=
  if s.rd MOD.PART_STATE.errors_run 0 p > s.rd MOD.PART_CFG.replay_max 0 p then s.setCause p 5 else s

/-- The end part of a firing of slot k, whose partition p runs: a running step gets its outcome. (DEDUCED, assumption 34; DEDUCED, assumption 127) -/
def State.endPart (s : State) (k target : Nat) : State :=
  let p := s.slotOwner k
  if !s.running p || !(s.part p).inStep then s
  else
    let s := match (s.part p).owed with
      | some code => (s.partFault p code 0).setPart p { (s.partFault p code 0).part p with owed := none }
      | none => s
    let e := s.stepOutcome p k target
    let step := s.rd MOD.PART_STEP.step 0 p
    let s := if (s.slotParam0 k).testBit 8 then
        let s := (s.tilesOf p).foldl (fun s t => s.paceRecord p e t) s
        if e = .stretch then s else (s.tilesOf p).foldl (fun s t => s.lateness p t) s
      else s
    let s := s.stretchCounts p e
    let s := match e with
      | .commit => s.stepCommit p
      | .stretch => s.setPart p { s.part p with stretches := (s.part p).stretches + 1 }
      | .overrun => (s.stepError p fSTEP_OVERRUN).replayPark p
      | .fault => (s.stepError p 0).replayPark p
    s.pairTell p step (e == .commit)

/-! The start part (R61, R62, R101). -/

/-- R101: cores whose spare copy is complete are bound between the end part and the start part. -/
def State.bindSpares (s : State) (p : Nat) : State := (s.coresOf p).foldl (fun s c => s.substitute c) s

/-- The start part of a firing of slot k: a step that goes on goes on; a partition that is to park parks; otherwise the next step starts. -/
def State.startPart (s : State) (k target : Nat) : State :=
  let p := s.slotOwner k
  if !s.running p || (s.part p).inStep then s
  else if (s.part p).parkNext then (s.parkNow p).rackCheck
  else (s.newUcode (s.halvesOf p)).stepStart p k target

/-! Actions of one beat (R60, Table 2.3). -/

/-- PART_STOP of slot n (R281, R392). -/
def State.stopSlot (s : State) (n : Nat) : State := ((s.slotFire n).partStop (s.slotOwner n) ((s.slotParam0 n).testBit 0)).rackCheck
def State.startSlot (s : State) (n : Nat) : State := (s.slotFire n).partStart (s.slotOwner n)
/-- FW_ACTIVATE of slot n. -/
def State.activateSlot (s : State) (n : Nat) : State := (s.fwActivate n).slotFire n
/-- The three actions of order 4. -/
def State.powerSlot (s : State) (n : Nat) : State :=
  let a := s.slotAction n
  (if a = actPsChange then s.psChange n else if a = actCapChange then s.capChange n else s.powerShift n).slotFire n
/-- Slots of order 4 that are due on a beat, in slot-number order. -/
def State.powerSlots (s : State) (target : Nat) : List Nat :=
  (List.range 96).filter fun k =>
    (s.slotDue k actPsChange || s.slotDue k actCapChange || s.slotDue k actPowerShift) && s.slotTarget k == target

/-- Everything of orders 1 to 6 on a beat on which boundaries fire. (DEDUCED, assumption 33) -/
def State.boundaryBeat (s : State) (target : Nat) : State :=
  let ks := s.beatSlots actStepBoundary target
  let s := ks.foldl (fun s k => (s.endPart k target).slotFire k) s
  let s := (s.beatSlots actPartStop target).foldl State.stopSlot s
  let s := (s.beatSlots actFwActivate target).foldl State.activateSlot s
  let s := (s.powerSlots target).foldl State.powerSlot s
  let s := (s.beatSlots actPartStart target).foldl State.startSlot s
  let s := ks.foldl (fun s k => s.bindSpares (s.slotOwner k)) s
  ks.foldl (fun s k => s.startPart k target) s

/-- STEP_BOUNDARY (R65): the beat of slot n. (DESIGN CHOICE, assumption 11; DEDUCED, assumption 33) -/
def execStepBoundary (n : SlotId) (s : State) : Host.Outcome State Fault Refusal :=
  .next (if s.slotDue n actStepBoundary then s.boundaryBeat (s.slotTarget n) else s)

/-! The other actions, on a beat without a boundary. -/

/-- PART_STOP (R281). -/
def execPartStop (n : SlotId) (s : State) : Host.Outcome State Fault Refusal :=
  .next (if s.dueAlone n actPartStop then s.stopSlot n else s)

/-- PART_START (R280). -/
def execPartStart (n : SlotId) (s : State) : Host.Outcome State Fault Refusal :=
  .next (if s.dueAlone n actPartStart then s.startSlot n else s)

/-- FW_ACTIVATE (R363). -/
def execFwActivate (n : SlotId) (s : State) : Host.Outcome State Fault Refusal :=
  .next (if s.dueAlone n actFwActivate then s.activateSlot n else s)

/-- PS_CHANGE (R400). -/
def execPsChange (n : SlotId) (s : State) : Host.Outcome State Fault Refusal :=
  .next (if s.dueAlone n actPsChange then (s.psChange n).slotFire n else s)

/-- CAP_CHANGE (R407). -/
def execCapChange (n : SlotId) (s : State) : Host.Outcome State Fault Refusal :=
  .next (if s.dueAlone n actCapChange then (s.capChange n).slotFire n else s)

/-- POWER_SHIFT (R407, R409). -/
def execPowerShift (n : SlotId) (s : State) : Host.Outcome State Fault Refusal :=
  .next (if s.dueAlone n actPowerShift then (s.powerShift n).slotFire n else s)

end Sys2Proof.Machine
end

