-- ==== Sys2Proof/Machine/Dispatch.lean ====
section
/-! DEFINITION. Every command to its meaning: one arm per row of spec/opcode_table.json. -/

namespace Sys2Proof.Machine

/-- The effect of a command on everything but the queue of commands. -/
def exec (i : Instr) (s : State) : Host.Outcome State Fault Refusal :=
  match i with
  | .coldStart straps passed failed sites link => Sys2Proof.Machine.execColdStart straps passed failed sites link s
  | .coldReset => Sys2Proof.Machine.execColdReset s
  | .vstbyFail => Sys2Proof.Machine.execVstbyFail s
  | .warmStart => Sys2Proof.Machine.execWarmStart s
  | .warmReset => Sys2Proof.Machine.execWarmReset s
  | .memoryDomainFault t => Sys2Proof.Machine.execMemoryDomainFault t s
  | .acquireMarkTimeout => Sys2Proof.Machine.execAcquireMarkTimeout s
  | .markArrival frac ref => Sys2Proof.Machine.execMarkArrival frac ref s
  | .beatRefLost => Sys2Proof.Machine.execBeatRefLost s
  | .beatMarkLost => Sys2Proof.Machine.execBeatMarkLost s
  | .fabricSourceLost => Sys2Proof.Machine.execFabricSourceLost s
  | .refRelock => Sys2Proof.Machine.execRefRelock s
  | .beatUnaligned => Sys2Proof.Machine.execBeatUnaligned s
  | .setCmd m => Sys2Proof.Machine.execSetCmd m s
  | .epochSet => Sys2Proof.Machine.execEpochSet s
  | .beatAlign src t1 t2 t3 epochValid bound root => Sys2Proof.Machine.execBeatAlign src t1 t2 t3 epochValid bound root s
  | .slotArm m n ctl => Sys2Proof.Machine.execSlotArm m n ctl s
  | .slotDisarm m n ctl => Sys2Proof.Machine.execSlotDisarm m n ctl s
  | .slotFieldWrite m n f v => Sys2Proof.Machine.execSlotFieldWrite m n f v s
  | .stepBoundary n => Sys2Proof.Machine.execStepBoundary n s
  | .partStop n => Sys2Proof.Machine.execPartStop n s
  | .partStart n => Sys2Proof.Machine.execPartStart n s
  | .fwActivate n => Sys2Proof.Machine.execFwActivate n s
  | .psChange n => Sys2Proof.Machine.execPsChange n s
  | .capChange n => Sys2Proof.Machine.execCapChange n s
  | .powerShift n => Sys2Proof.Machine.execPowerShift n s
  | .collLaunch n => Sys2Proof.Machine.execCollLaunch n s
  | .sensorDemand n => Sys2Proof.Machine.execSensorDemand n s
  | .mcEvent n day delay rpm => Sys2Proof.Machine.execMcEvent n day delay rpm s
  | .hostEvent n => Sys2Proof.Machine.execHostEvent n s
  | .alu c n op d a b imm => Sys2Proof.Machine.execAlu c n op d a b imm s
  | .ld c n d a off size upset => Sys2Proof.Machine.execLd c n d a off size upset s
  | .st c n d a off size => Sys2Proof.Machine.execSt c n d a off size s
  | .br c n off => Sys2Proof.Machine.execBr c n off s
  | .brc c n a off => Sys2Proof.Machine.execBrc c n a off s
  | .call c n d off => Sys2Proof.Machine.execCall c n d off s
  | .ret c n a => Sys2Proof.Machine.execRet c n a s
  | .issue c n a engine => Sys2Proof.Machine.execIssue c n a engine s
  | .dpost c n a => Sys2Proof.Machine.execDpost c n a s
  | .signal c n flag k => Sys2Proof.Machine.execSignal c n flag k s
  | .waitf c n flag k consume => Sys2Proof.Machine.execWaitf c n flag k consume s
  | .waitfSatisfied c n => Sys2Proof.Machine.execWaitfSatisfied c n s
  | .fence c n scope => Sys2Proof.Machine.execFence c n scope s
  | .fenceComplete c n => Sys2Proof.Machine.execFenceComplete c n s
  | .beatRead c n d => Sys2Proof.Machine.execBeatRead c n d s
  | .waitbeat c n a => Sys2Proof.Machine.execWaitbeat c n a s
  | .waitbeatExpire c n => Sys2Proof.Machine.execWaitbeatExpire c n s
  | .stepnum c n d => Sys2Proof.Machine.execStepnum c n d s
  | .jenq c n ga gq gl flags => Sys2Proof.Machine.execJenq c n ga gq gl flags s
  | .jenqResume c n => Sys2Proof.Machine.execJenqResume c n s
  | .jdeq c n ga gq gr flags upset => Sys2Proof.Machine.execJdeq c n ga gq gr flags upset s
  | .jdeqResume c n upset => Sys2Proof.Machine.execJdeqResume c n upset s
  | .stepEnd c n => Sys2Proof.Machine.execStepEnd c n s
  | .reservedOpcode c n major => Sys2Proof.Machine.execReservedOpcode c n major s
  | .descStart c n => Sys2Proof.Machine.execDescStart c n s
  | .affine c n x => Sys2Proof.Machine.execAffine c n x s
  | .gather c n x => Sys2Proof.Machine.execGather c n x s
  | .scatter c n x => Sys2Proof.Machine.execScatter c n x s
  | .csrWalk c n x => Sys2Proof.Machine.execCsrWalk c n x s
  | .cscWalk c n x => Sys2Proof.Machine.execCscWalk c n x s
  | .hashProbe c n x => Sys2Proof.Machine.execHashProbe c n x s
  | .ibuList c n x => Sys2Proof.Machine.execIbuList c n x s
  | .atomic c n x => Sys2Proof.Machine.execAtomic c n x s
  | .descComplete c n x => Sys2Proof.Machine.execDescComplete c n x s
  | .mma c e residue => Sys2Proof.Machine.execMma c e residue s
  | .mmaInit c e residue => Sys2Proof.Machine.execMmaInit c e residue s
  | .loadAcc c e => Sys2Proof.Machine.execLoadAcc c e s
  | .storeAcc c e => Sys2Proof.Machine.execStoreAcc c e s
  | .zeroAcc c e => Sys2Proof.Machine.execZeroAcc c e s
  | .mmaStore c e residue => Sys2Proof.Machine.execMmaStore c e residue s
  | .mmaStoreStorePart c e => Sys2Proof.Machine.execMmaStoreStorePart c e s
  | .engineCmdComplete c e residue => Sys2Proof.Machine.execEngineCmdComplete c e residue s
  | .coreFault c ae => Sys2Proof.Machine.execCoreFault c ae s
  | .spareCopyComplete t => Sys2Proof.Machine.execSpareCopyComplete t s
  | .veAdd c e residue => Sys2Proof.Machine.execVeAdd c e residue s
  | .veSub c e residue => Sys2Proof.Machine.execVeSub c e residue s
  | .veMul c e residue => Sys2Proof.Machine.execVeMul c e residue s
  | .veFma c e residue => Sys2Proof.Machine.execVeFma c e residue s
  | .veMin c e residue => Sys2Proof.Machine.execVeMin c e residue s
  | .veMax c e residue => Sys2Proof.Machine.execVeMax c e residue s
  | .veAbs c e residue => Sys2Proof.Machine.execVeAbs c e residue s
  | .veNeg c e residue => Sys2Proof.Machine.execVeNeg c e residue s
  | .veCmp c e residue => Sys2Proof.Machine.execVeCmp c e residue s
  | .veAnd c e residue => Sys2Proof.Machine.execVeAnd c e residue s
  | .veOr c e residue => Sys2Proof.Machine.execVeOr c e residue s
  | .veXor c e residue => Sys2Proof.Machine.execVeXor c e residue s
  | .veShl c e residue => Sys2Proof.Machine.execVeShl c e residue s
  | .veShr c e residue => Sys2Proof.Machine.execVeShr c e residue s
  | .veCvt c e residue => Sys2Proof.Machine.execVeCvt c e residue s
  | .veSel c e residue => Sys2Proof.Machine.execVeSel c e residue s
  | .veExp c e residue => Sys2Proof.Machine.execVeExp c e residue s
  | .veLog c e residue => Sys2Proof.Machine.execVeLog c e residue s
  | .veRecip c e residue => Sys2Proof.Machine.execVeRecip c e residue s
  | .veRsqrt c e residue => Sys2Proof.Machine.execVeRsqrt c e residue s
  | .veTanh c e residue => Sys2Proof.Machine.execVeTanh c e residue s
  | .veSigmoid c e residue => Sys2Proof.Machine.execVeSigmoid c e residue s
  | .veRowsum c e residue => Sys2Proof.Machine.execVeRowsum c e residue s
  | .veRowmin c e residue => Sys2Proof.Machine.execVeRowmin c e residue s
  | .veRowmax c e residue => Sys2Proof.Machine.execVeRowmax c e residue s
  | .veSum c e residue => Sys2Proof.Machine.execVeSum c e residue s
  | .veRedMin c e residue => Sys2Proof.Machine.execVeRedMin c e residue s
  | .veRedMax c e residue => Sys2Proof.Machine.execVeRedMax c e residue s
  | .veArgmin c e residue => Sys2Proof.Machine.execVeArgmin c e residue s
  | .veArgmax c e residue => Sys2Proof.Machine.execVeArgmax c e residue s
  | .veScanAdd c e residue => Sys2Proof.Machine.execVeScanAdd c e residue s
  | .veScanMin c e residue => Sys2Proof.Machine.execVeScanMin c e residue s
  | .veScanMax c e residue => Sys2Proof.Machine.execVeScanMax c e residue s
  | .veSort c e residue => Sys2Proof.Machine.execVeSort c e residue s
  | .veSortKv c e residue => Sys2Proof.Machine.execVeSortKv c e residue s
  | .veTopk c e residue => Sys2Proof.Machine.execVeTopk c e residue s
  | .veTopkKv c e residue => Sys2Proof.Machine.execVeTopkKv c e residue s
  | .veCompact c e residue => Sys2Proof.Machine.execVeCompact c e residue s
  | .veCompactIdx c e residue => Sys2Proof.Machine.execVeCompactIdx c e residue s
  | .vePermute c e residue => Sys2Proof.Machine.execVePermute c e residue s
  | .veFill c e residue => Sys2Proof.Machine.execVeFill c e residue s
  | .coreRetire m t logical => Sys2Proof.Machine.execCoreRetire m t logical s
  | .coreTest m t phys => Sys2Proof.Machine.execCoreTest m t phys s
  | .stackAccess k part write off n data crc flip => Sys2Proof.Machine.execStackAccess k part write off n data crc flip s
  | .patrolRead k flip => Sys2Proof.Machine.execPatrolRead k flip s
  | .patrolPassEnd k => Sys2Proof.Machine.execPatrolPassEnd k s
  | .countWindowEnd k => Sys2Proof.Machine.execCountWindowEnd k s
  | .bandUp k => Sys2Proof.Machine.execBandUp k s
  | .bandDwellExpire k => Sys2Proof.Machine.execBandDwellExpire k s
  | .baseDieFault k => Sys2Proof.Machine.execBaseDieFault k s
  | .fenceDrainEnd k => Sys2Proof.Machine.execFenceDrainEnd k s
  | .stackFenced k => Sys2Proof.Machine.execStackFenced k s
  | .hsFence m k => Sys2Proof.Machine.execHsFence m k s
  | .hsUnfence m k => Sys2Proof.Machine.execHsUnfence m k s
  | .hsRepair m k => Sys2Proof.Machine.execHsRepair m k s
  | .repairDone k unburnt => Sys2Proof.Machine.execRepairDone k unburnt s
  | .hsTest m k => Sys2Proof.Machine.execHsTest m k s
  | .hsRetire m k => Sys2Proof.Machine.execHsRetire m k s
  | .stackTrainingComplete k trained pass lanes => Sys2Proof.Machine.execStackTrainingComplete k trained pass lanes s
  | .hsCtrlWrite m k v => Sys2Proof.Machine.execHsCtrlWrite m k v s
  | .rowRemapDone k => Sys2Proof.Machine.execRowRemapDone k s
  | .ibuListArrival k l => Sys2Proof.Machine.execIbuListArrival k l s
  | .payload k l idx => Sys2Proof.Machine.execPayload k l idx s
  | .rowdot k l u => Sys2Proof.Machine.execRowdot k l u s
  | .gathersum k l u => Sys2Proof.Machine.execGathersum k l u s
  | .axpy k l u => Sys2Proof.Machine.execAxpy k l u s
  | .minrelax k l u => Sys2Proof.Machine.execMinrelax k l u s
  | .hist k l u => Sys2Proof.Machine.execHist k l u s
  | .selectIdx k l u => Sys2Proof.Machine.execSelectIdx k l u s
  | .ibuFill k l u => Sys2Proof.Machine.execIbuFill k l u s
  | .ibuCopy k l u => Sys2Proof.Machine.execIbuCopy k l u s
  | .scrub k l u => Sys2Proof.Machine.execScrub k l u s
  | .ibuToken k l => Sys2Proof.Machine.execIbuToken k l s
  | .ibuResidueFail k u repeatFails => Sys2Proof.Machine.execIbuResidueFail k u repeatFails s
  | .ibuSlateUe k u corrected => Sys2Proof.Machine.execIbuSlateUe k u corrected s
  | .ibuDisable m k u => Sys2Proof.Machine.execIbuDisable m k u s
  | .ibuEnable m k u => Sys2Proof.Machine.execIbuEnable m k u s
  | .ibuTest m k u => Sys2Proof.Machine.execIbuTest m k u s
  | .qcmdConfig m t => Sys2Proof.Machine.execQcmdConfig m t s
  | .qcmdRead m t => Sys2Proof.Machine.execQcmdRead m t s
  | .qcmdFlush m t => Sys2Proof.Machine.execQcmdFlush m t s
  | .queueStranded t q => Sys2Proof.Machine.execQueueStranded t q s
  | .spillRunDone t => Sys2Proof.Machine.execSpillRunDone t s
  | .refillDone t => Sys2Proof.Machine.execRefillDone t s
  | .midwayPacket src dst cls d resent => Sys2Proof.Machine.execMidwayPacket src dst cls d resent s
  | .midwayLinkDown t d => Sys2Proof.Machine.execMidwayLinkDown t d s
  | .midwayRetrain t d ok => Sys2Proof.Machine.execMidwayRetrain t d ok s
  | .put t rx h tc addr data => Sys2Proof.Machine.execPut t rx h tc addr data s
  | .getReq t rx h addr length slot => Sys2Proof.Machine.execGetReq t rx h addr length slot s
  | .getRsp t rx src slot data => Sys2Proof.Machine.execGetRsp t rx src slot data s
  | .atomicReq t rx h tc addr op wide data => Sys2Proof.Machine.execAtomicReq t rx h tc addr op wide data s
  | .atomicRsp t rx src seq old => Sys2Proof.Machine.execAtomicRsp t rx src seq old s
  | .enq t rx h tc queue first last data => Sys2Proof.Machine.execEnq t rx h tc queue first last data s
  | .ack t rx src cls seq => Sys2Proof.Machine.execAck t rx src cls seq s
  | .nack t rx src cls seq reason => Sys2Proof.Machine.execNack t rx src cls seq reason s
  | .coll t rx h rank round inst tag data => Sys2Proof.Machine.execColl t rx h rank round inst tag data s
  | .pace t rx src queue data => Sys2Proof.Machine.execPace t rx src queue data s
  | .curtainVote t rx aux data => Sys2Proof.Machine.execCurtainVote t rx aux data s
  | .partnerParked t rx src who => Sys2Proof.Machine.execPartnerParked t rx src who s
  | .fleetAccess t rx src aux request data => Sys2Proof.Machine.execFleetAccess t rx src aux request data s
  | .e2eTimeout x => Sys2Proof.Machine.execE2eTimeout x s
  | .linkTimeout x => Sys2Proof.Machine.execLinkTimeout x s
  | .sendQueueServe t q => Sys2Proof.Machine.execSendQueueServe t q s
  | .laneFail x lane => Sys2Proof.Machine.execLaneFail x lane s
  | .portDown x => Sys2Proof.Machine.execPortDown x s
  | .portTrainStart x => Sys2Proof.Machine.execPortTrainStart x s
  | .portTrainEnd x lanes margins => Sys2Proof.Machine.execPortTrainEnd x lanes margins s
  | .portFence m x => Sys2Proof.Machine.execPortFence m x s
  | .portUnfence m x => Sys2Proof.Machine.execPortUnfence m x s
  | .portRetrain m x => Sys2Proof.Machine.execPortRetrain m x s
  | .portTest m x => Sys2Proof.Machine.execPortTest m x s
  | .moduleIdWrite m t v => Sys2Proof.Machine.execModuleIdWrite m t v s
  | .routeHiWrite m t v => Sys2Proof.Machine.execRouteHiWrite m t v s
  | .routeLoadCmd m t v => Sys2Proof.Machine.execRouteLoadCmd m t v s
  | .routeLoadDone t => Sys2Proof.Machine.execRouteLoadDone t s
  | .collRound t => Sys2Proof.Machine.execCollRound t s
  | .collDeadline x => Sys2Proof.Machine.execCollDeadline x s
  | .collDone x => Sys2Proof.Machine.execCollDone x s
  | .partConfig m p => Sys2Proof.Machine.execPartConfig m p s
  | .partRelease m p => Sys2Proof.Machine.execPartRelease m p s
  | .partReset m p => Sys2Proof.Machine.execPartReset m p s
  | .partPark m p => Sys2Proof.Machine.execPartPark m p s
  | .partClear m p => Sys2Proof.Machine.execPartClear m p s
  | .pairKeepalive p arrived => Sys2Proof.Machine.execPairKeepalive p arrived s
  | .pairOutcome p outcome => Sys2Proof.Machine.execPairOutcome p outcome s
  | .pairTimeout p => Sys2Proof.Machine.execPairTimeout p s
  | .tileFence m t => Sys2Proof.Machine.execTileFence m t s
  | .tileUnfence m t => Sys2Proof.Machine.execTileUnfence m t s
  | .tileReset m t => Sys2Proof.Machine.execTileReset m t s
  | .tileResetDone t => Sys2Proof.Machine.execTileResetDone t s
  | .tileTest m t => Sys2Proof.Machine.execTileTest m t s
  | .tileLost t => Sys2Proof.Machine.execTileLost t s
  | .doorbell m n tail => Sys2Proof.Machine.execDoorbell m n tail s
  | .hostCmdRead flip1 flip2 => Sys2Proof.Machine.execHostCmdRead flip1 flip2 s
  | .programCmd n => Sys2Proof.Machine.execProgramCmd n s
  | .programPlace n => Sys2Proof.Machine.execProgramPlace n s
  | .loadCmd n => Sys2Proof.Machine.execLoadCmd n s
  | .readbackCmd n => Sys2Proof.Machine.execReadbackCmd n s
  | .markCmd n => Sys2Proof.Machine.execMarkCmd n s
  | .copyDone n => Sys2Proof.Machine.execCopyDone n s
  | .completionWrite n => Sys2Proof.Machine.execCompletionWrite n s
  | .bar0AccessBad offset size => Sys2Proof.Machine.execBar0AccessBad offset size s
  | .bar2Read offset size => Sys2Proof.Machine.execBar2Read offset size s
  | .bar2Write offset data => Sys2Proof.Machine.execBar2Write offset data s
  | .msixCoalesce n => Sys2Proof.Machine.execMsixCoalesce n s
  | .ringEnable m n v => Sys2Proof.Machine.execRingEnable m n v s
  | .ringReset m n v => Sys2Proof.Machine.execRingReset m n v s
  | .driverAttach m version => Sys2Proof.Machine.execDriverAttach m version s
  | .driverDetach m => Sys2Proof.Machine.execDriverDetach m s
  | .heartbeat m => Sys2Proof.Machine.execHeartbeat m s
  | .heartbeatLost => Sys2Proof.Machine.execHeartbeatLost s
  | .endpointReset => Sys2Proof.Machine.execEndpointReset s
  | .reclaim => Sys2Proof.Machine.execReclaim s
  | .pushMain m => Sys2Proof.Machine.execPushMain m s
  | .pushMicrocode m => Sys2Proof.Machine.execPushMicrocode m s
  | .pushFlash m => Sys2Proof.Machine.execPushFlash m s
  | .pushTimeout => Sys2Proof.Machine.execPushTimeout s
  | .recCmd m k => Sys2Proof.Machine.execRecCmd m k s
  | .cfgWrite m src => Sys2Proof.Machine.execCfgWrite m src s
  | .cfgRead m dst => Sys2Proof.Machine.execCfgRead m dst s
  | .updBegin m k => Sys2Proof.Machine.execUpdBegin m k s
  | .updWrite m k type src => Sys2Proof.Machine.execUpdWrite m k type src s
  | .updCopy m k type => Sys2Proof.Machine.execUpdCopy m k type s
  | .updCommit m k => Sys2Proof.Machine.execUpdCommit m k s
  | .updAbort m k => Sys2Proof.Machine.execUpdAbort m k s
  | .prepare m k => Sys2Proof.Machine.execPrepare m k s
  | .prepareDone => Sys2Proof.Machine.execPrepareDone s
  | .unprepare m => Sys2Proof.Machine.execUnprepare m s
  | .confirm m => Sys2Proof.Machine.execConfirm m s
  | .autoConfirm => Sys2Proof.Machine.execAutoConfirm s
  | .bootNext m k => Sys2Proof.Machine.execBootNext m k s
  | .voteClose n => Sys2Proof.Machine.execVoteClose n s
  | .handoverMaster => Sys2Proof.Machine.execHandoverMaster s
  | .handoverMirrored => Sys2Proof.Machine.execHandoverMirrored s
  | .componentFault c => Sys2Proof.Machine.execComponentFault c s
  | .quoteCmd m dst => Sys2Proof.Machine.execQuoteCmd m dst s
  | .aclRead m => Sys2Proof.Machine.execAclRead m s
  | .aclWrite m => Sys2Proof.Machine.execAclWrite m s
  | .aclDefault m => Sys2Proof.Machine.execAclDefault m s
  | .aclLock m => Sys2Proof.Machine.execAclLock m s
  | .rwpWrite m r v => Sys2Proof.Machine.execRwpWrite m r v s
  | .pwrUp m => Sys2Proof.Machine.execPwrUp m s
  | .pwrDown m => Sys2Proof.Machine.execPwrDown m s
  | .rackOff m grace => Sys2Proof.Machine.execRackOff m grace s
  | .rackGraceExpire => Sys2Proof.Machine.execRackGraceExpire s
  | .rackRelease m => Sys2Proof.Machine.execRackRelease m s
  | .railGroupGood fails => Sys2Proof.Machine.execRailGroupGood fails s
  | .railWindowMissed n => Sys2Proof.Machine.execRailWindowMissed n s
  | .railGroupDown => Sys2Proof.Machine.execRailGroupDown s
  | .seqDownTimeout => Sys2Proof.Machine.execSeqDownTimeout s
  | .railSample n mA mV w => Sys2Proof.Machine.execRailSample n mA mV w s
  | .limitWrite m n which v => Sys2Proof.Machine.execLimitWrite m n which v s
  | .capWrite m rack v => Sys2Proof.Machine.execCapWrite m rack v s
  | .powerTick busy slots => Sys2Proof.Machine.execPowerTick busy slots s
  | .psChangeDone t => Sys2Proof.Machine.execPsChangeDone t s
  | .skipTick t => Sys2Proof.Machine.execSkipTick t s
  | .capUnreachable => Sys2Proof.Machine.execCapUnreachable s
  | .throttleEnd t => Sys2Proof.Machine.execThrottleEnd t s
  | .coreGate c => Sys2Proof.Machine.execCoreGate c s
  | .safetyNetDemand => Sys2Proof.Machine.execSafetyNetDemand s
  | .sensorDemandCmd m groups => Sys2Proof.Machine.execSensorDemandCmd m groups s
  | .demandComplete source readings => Sys2Proof.Machine.execDemandComplete source readings s
  | .refCheck c bad => Sys2Proof.Machine.execRefCheck c bad s
  | .sensorRestore m n => Sys2Proof.Machine.execSensorRestore m n s
  | .thermalCapUpdate => Sys2Proof.Machine.execThermalCapUpdate s
  | .tripComparator n => Sys2Proof.Machine.execTripComparator n s
  | .tripClear m => Sys2Proof.Machine.execTripClear m s
  | .coolKick m c => Sys2Proof.Machine.execCoolKick m c s
  | .kickAnswered c rpm => Sys2Proof.Machine.execKickAnswered c rpm s
  | .kickTimeout c => Sys2Proof.Machine.execKickTimeout c s
  | .kickRetry c => Sys2Proof.Machine.execKickRetry c s
  | .channelBelowLimit c rpm => Sys2Proof.Machine.execChannelBelowLimit c rpm s
  | .coolClear m c => Sys2Proof.Machine.execCoolClear m c s
  | .coolingPi => Sys2Proof.Machine.execCoolingPi s
  | .tableMode => Sys2Proof.Machine.execTableMode s
  | .coolantPoll inlet outlet flow => Sys2Proof.Machine.execCoolantPoll inlet outlet flow s
  | .coolingFailure => Sys2Proof.Machine.execCoolingFailure s
  | .leakSample i0 i1 i2 i3 => Sys2Proof.Machine.execLeakSample i0 i1 i2 i3 s
  | .leakDetected n => Sys2Proof.Machine.execLeakDetected n s
  | .leakOpen n => Sys2Proof.Machine.execLeakOpen n s
  | .leakClear m => Sys2Proof.Machine.execLeakClear m s
  | .snFault oscillator => Sys2Proof.Machine.execSnFault oscillator s
  | .snRestartDone => Sys2Proof.Machine.execSnRestartDone s
  | .cfCut => Sys2Proof.Machine.execCfCut s
  | .cfEnd => Sys2Proof.Machine.execCfEnd s
  | .railOn m n => Sys2Proof.Machine.execRailOn m n s
  | .cutRelease m => Sys2Proof.Machine.execCutRelease m s
  | .safeKick m => Sys2Proof.Machine.execSafeKick m s
  | .mcLost b cause => Sys2Proof.Machine.execMcLost b cause s
  | .mcRejoin b => Sys2Proof.Machine.execMcRejoin b s
  | .noneWarmRestart => Sys2Proof.Machine.execNoneWarmRestart s
  | .safeFloor => Sys2Proof.Machine.execSafeFloor s
  | .wdogToggle => Sys2Proof.Machine.execWdogToggle s
  | .twStart n lost => Sys2Proof.Machine.execTwStart n lost s
  | .twStop n nack badPec data => Sys2Proof.Machine.execTwStop n nack badPec data s
  | .stretchTimeout n sdaLow => Sys2Proof.Machine.execStretchTimeout n sdaLow s
  | .busStuck n => Sys2Proof.Machine.execBusStuck n s
  | .twFreed n clocks => Sys2Proof.Machine.execTwFreed n clocks s
  | .twStuck n => Sys2Proof.Machine.execTwStuck n s
  | .cureRetry n => Sys2Proof.Machine.execCureRetry n s
  | .barkerRequest n width => Sys2Proof.Machine.execBarkerRequest n width s
  | .xfer m n v => Sys2Proof.Machine.execXfer m n v s
  | .tw4Access addr wr count => Sys2Proof.Machine.execTw4Access addr wr count s
  | .tw4Commit stop => Sys2Proof.Machine.execTw4Commit stop s
  | .tw4ProtocolReset => Sys2Proof.Machine.execTw4ProtocolReset s
  | .tw4Sleep => Sys2Proof.Machine.execTw4Sleep s
  | .tw4Wake addr => Sys2Proof.Machine.execTw4Wake addr s
  | .attnSet => Sys2Proof.Machine.execAttnSet s
  | .attnRepeat => Sys2Proof.Machine.execAttnRepeat s
  | .statusPoll n answer => Sys2Proof.Machine.execStatusPoll n answer s
  | .bistTest m type inst => Sys2Proof.Machine.execBistTest m type inst s
  | .bistCancel m type inst => Sys2Proof.Machine.execBistCancel m type inst s
  | .sliceEnd type inst count expect sig bad found => Sys2Proof.Machine.execSliceEnd type inst count expect sig bad found s
  | .sliceCut type inst count expect sig bad found => Sys2Proof.Machine.execSliceCut type inst count expect sig bad found s
  | .reinitDone type inst => Sys2Proof.Machine.execReinitDone type inst s
  | .meterCheck n bad => Sys2Proof.Machine.execMeterCheck n bad s
  | .scanCmd m => Sys2Proof.Machine.execScanCmd m s
  | .scanUnlockInstr => Sys2Proof.Machine.execScanUnlockInstr s
  | .extest => Sys2Proof.Machine.execExtest s
  | .recordSample id x => Sys2Proof.Machine.execRecordSample id x s
  | .periodEnd p => Sys2Proof.Machine.execPeriodEnd p s
  | .recordWrite p => Sys2Proof.Machine.execRecordWrite p s
  | .evtStatusWrite m page v => Sys2Proof.Machine.execEvtStatusWrite m page v s
  | .evtEnableWrite m page v => Sys2Proof.Machine.execEvtEnableWrite m page v s
  | .evtForce m page v => Sys2Proof.Machine.execEvtForce m page v s
  | .latchingLoRead m page word => Sys2Proof.Machine.execLatchingLoRead m page word s
  | .rcRead m page word => Sys2Proof.Machine.execRcRead m page word s
  | .registerWrite m page word v => Sys2Proof.Machine.execRegisterWrite m page word v s
  | .comparatorRelease n => Sys2Proof.Machine.execComparatorRelease n s
  | .updateDone => Sys2Proof.Machine.execUpdateDone s
  | .quoteDone => Sys2Proof.Machine.execQuoteDone s
  | .alignmentExchange => Sys2Proof.Machine.execAlignmentExchange s
  | .emergencyWindowEnd => Sys2Proof.Machine.execEmergencyWindowEnd s

end Sys2Proof.Machine
end

