-- ==== Sys2Proof/Machine/Idle.lean ====
section
/-! DEFINITION. What happens while no command waits: one nanosecond passes (DESIGN CHOICE, assumption 1); THERMAL arms its slot (R427); a changed READY is
voted (R362); trace points are passed (R370, R371). -/

namespace Sys2Proof.Machine

/-- Slots that are disarmed. -/
def State.disarmed (s : State) : List Nat := (List.range 96).filter fun n => !s.armed n

/-- R427: THERMAL's periodic SENSOR_DEMAND slot. Which disarmed slot it takes and where its grid lies are free values (DESIGN CHOICE, assumption 128). -/
def State.armLoop (s : State) : State :=
  let free := s.disarmed
  if free.isEmpty then s
  else
    let (a, s) := s.fresh
    let (b, s) := s.fresh
    let n := free.getD (a % free.length) 0
    let target := s.beat.count + s.rd SCHED.MIN_LEAD.lead + b % 1000000
    let s := ((s.wr SCHED.SLOT_TARGET.target target 0 n).wr SCHED.SLOT_PERIOD.period 1000000 0 n).wr SCHED.SLOT_PARAM0.param0 7 0 n
    let s := ((s.wr SCHED.SLOT_PARAM1.param1 0 0 n).wr SCHED.SLOT_CTL.owner_kind 0 0 n).wr SCHED.SLOT_CTL.owner 0 0 n
    let s := ((s.wr SCHED.SLOT_CTL.action actSensorDemand 0 n).wr SCHED.SLOT_CTL.arm 1 0 n).wr SCHED.SLOT_RESULT.state 1 0 n
    (s.putTherm { s.therm with loopArmed := true })

/-- THERMAL runs, the count runs, and its slot is not armed yet. (DESIGN CHOICE, assumption 128) -/
def State.loopWanted (s : State) : Bool := s.runs 3 && s.counting && !s.therm.loopArmed

/-! Trace points (R370, R371). -/

/-- Point n is enabled. -/
def State.pointOn (s : State) (n : Nat) : Bool := (s.rd TRACE.MASK.enable 0 (n / 32)).testBit (n % 32)
def State.tracing (s : State) : Bool := s.is TRACE.CTRL.log_en && (List.range 8).any fun k => s.rd TRACE.MASK.enable 0 k != 0

/-- A component passes a point: an enabled one writes a TRACE entry, whatever CTRL.level is (DEDUCED, assumption 164). -/
def State.tracePass (s : State) (component point : Nat) : State :=
  if s.pointOn point && s.runs component then
    let (code, s) := s.fresh
    let (v, s) := s.fresh
    s.logEntry component 3 point code ((List.range 3).map fun i => v / 2 ^ (32 * i))
  else s

/-- What the state machines of the manual show: the beat, the firmware's stage, power, the driver, partitions, tiles, stacks, ports. -/
def State.machinesNow (s : State) : List Nat :=
  [s.rd BEAT.STATUS.state, s.rd FW.STATUS.stage, s.pwr, s.driver] ++ (List.range 16).map s.partState ++ (List.range 8).map (fun t => s.rd TILE.STATUS.state t) ++
    (List.range 16).map s.hsState ++ (List.range 64).map s.pState

/-- The common point that marks a change of machine i, and which of the running components passes it, are the release's
(DESIGN CHOICE, assumption 137). -/
def State.traceChange (s : State) (i old new : Nat) : State :=
  let up := (List.range 10).filter s.runs
  s.tracePass (up.getD (Config.openValue 0x371 [i, old, new] % max 1 up.length) 0) (160 + Config.openValue 0x372 [i, old, new] % 96)

/-- Points passed since the last idle step: common ones where a state machine has changed; and one of a component's own, or none, as a free value
says (DESIGN CHOICE, assumption 137). -/
def State.trace (s : State) : State :=
  if !s.tracing then (if s.fw.machines.isEmpty then s else s.putFw { s.fw with machines := [] })
  else
    let old := s.fw.machines
    let new := s.machinesNow
    let s := s.putFw { s.fw with machines := new }
    let s := ((old.zip new).zipIdx).foldl (fun s x => if x.1.1 = x.1.2 then s else s.traceChange x.2 x.1.1 x.1.2) s
    let (v, s) := s.fresh
    if v % 2 = 1 then s.tracePass (v / 2 % 160 / 16) (v / 2 % 160) else s

/-- A step on an empty queue. (DESIGN CHOICE, assumption 1; DESIGN CHOICE, assumption 128) -/
def State.idle (s : State) : State :=
  let s := s.tick
  ((if s.loopWanted then s.armLoop else s).voteHook).trace

end Sys2Proof.Machine
end

