-- ==== Sys2Proof/Machine/Step.lean ====
section
/-! DEFINITION. One step: the command at the front of the queue, or one nanosecond. -/

namespace Sys2Proof.Machine

/-- The command at the front of the queue acts, with the rest waiting; on an empty queue the block idles. (DESIGN CHOICE, assumption 1; DESIGN CHOICE, assumption 4; DESIGN CHOICE, assumption 11) -/
def step (s : State) : Host.Outcome State Fault Refusal :=
  match s.pending with
  | c :: rest => exec c (s.putPending rest)
  | [] => .next s.idle

/-- The state with the command that a table word spells at the front of its queue; unchanged where it spells none. (DESIGN CHOICE, assumption 4) -/
def State.withFetchWord (s : State) (nbits w : Nat) : State :=
  match decodeTableWord nbits w with
  | some c => (s.putPending (c :: s.pending))
  | none => s

end Sys2Proof.Machine
end

