-- ==== Sys2Proof/Safety.lean ====
section
/-! DEFINITION. What counts as a safe run, in the terms the statements use. -/

namespace Sys2Proof

/-- The lists behind the registers and the memories are in order: every home and every byte is listed at most once. -/
def Ordered (s : Machine.State) : Prop :=
  Machine.Assoc.rising s.regs = true ∧ Machine.Assoc.rising s.hbm = true ∧ Machine.Assoc.rising s.sram = true

/-- The commands that wait are commands that can occur. -/
def Waiting (s : Machine.State) : Prop := ∀ c ∈ s.pending, c.wf = true

/-- A write by master `m` to a word of a page reaches its command: the page is served and the access table allows it (R533, R534, R544). -/
def Admits (s : Machine.State) (m : MasterId) (pg : Machine.Page) (i off : Nat) : Prop :=
  s.offline pg i = false ∧ s.hostServed m pg i off = true ∧ s.mayWrite m pg i = true

/-- It does not: the page is served, and the access table denies it. -/
def Denies (s : Machine.State) (m : MasterId) (pg : Machine.Page) (i off : Nat) : Prop :=
  s.offline pg i = false ∧ s.hostServed m pg i off = true ∧ s.mayWrite m pg i = false

open Machine

namespace Machine

/-- The state in which an instruction of stream n of core c has issued (R71, R72): the stream is ready and has issued last, its program counter moved
on by 4, the issue counted; nothing else has changed. -/
def State.issued (s : State) (c n : Nat) : State :=
  (((s.setCore c { s.core c with last := n }).setSn c n 1).wr CORE.PC.pc (s.rd CORE.PC.pc c n + 4) c n).add CORE.PERF.count 1 c 0

/-- Command k as engine e runs it. -/
def EngCmd.running (k : EngCmd) (e : Nat) : EngCmd := { k with phase := 1, on := e }

/-- The state in which command k of core c has started on engine e (R76, R95): its counts are taken and it runs. -/
def State.cmdStarted (s : State) (c e : Nat) (k : EngCmd) : State :=
  (s.takeFlags c (cmdWaits k.words)).setCore c { s.core c with cmds := (s.core c).cmds.filter (fun j => j.id != k.id) ++ [k.running e] }

/-- The partition of core c runs repeatable mode (R142). -/
def State.repeatableOn (s : State) (c : Nat) : Bool :=
  match s.partOfCore c with | some p => (s.part p).repeatable | none => false

end Machine

/-- k is the command engine e of core c starts next, an operation of code op; no descriptor that has written to the core's store is incomplete. -/
def Starts (s : State) (c e op : Nat) (k : EngCmd) : Prop :=
  s.pickHead c e = some k ∧ bits k.words 7 0 = op ∧ s.corePresent c = true ∧ (s.core c).racing = []

/-- A JENQ's operands are in order (R216): flags, alignment and length, and the core store holds the bytes. -/
def JenqForm (addr len flags : Nat) : Prop := flags < 8 ∧ addr % 64 = 0 ∧ 0 < len ∧ len ≤ 16384 ∧ addr + len ≤ 2 ^ 22

/-- A JDEQ has retired with m bytes of packet p (R220, Table 7.2). -/
def Delivered (t : State) (c n reg addr : Nat) (p : QPkt) (m : Nat) : Prop :=
  t.sramBytes (coreKey c addr) m = (p.data.drop p.taken).take m ∧ t.sn c n = snREADY ∧ (t.strm c n).jug = none ∧
  t.g c n reg = (m + (if p.taken = 0 ∧ m > 0 then 2 ^ 16 else 0) + (if p.closed && p.taken + m == p.data.length then 2 ^ 17 else 0) +
    (if p.truncated then 2 ^ 18 else 0) + (if p.closed then p.data.length * 2 ^ 32 else 0)) % 2 ^ 64

/-- A packet of `bytes` payload bytes arrives at tile t: its port is up and counts it, the tile takes partition traffic, and `u` is the state then. -/
def Arrives (s u : State) (t : TileId) (rx : Rx) (bytes : Nat) : Prop :=
  s.portReceives t rx = true ∧ u = s.rxCount t rx bytes ∧ u.edpenOn t = true

/-- The home of the flow of a packet at tile t. -/
def flowHome (t : TileId) (p : Packet) : Nat := (t * 2 ^ 18 + p.src) * 8 + p.tc

/-- The flow once number `seq` is taken: what of its next arrival was in cells already is so no more (R242, R250). -/
def Machine.RxFlow.taken (f : RxFlow) (seq : Nat) : RxFlow := { f.mark seq with placed := if seq = f.next then 0 else f.placed }

/-- The flow once number `seq` is taken with an answer that is kept for a duplicate (R250). -/
def Machine.RxFlow.answered (f : RxFlow) (seq : Nat) (a : Packet) : RxFlow := { f.taken seq with answers := ((seq, a) :: f.answers).take 4096 }

/-- A packet p is the next one of flow f: nothing of the flow arrived early, and where order matters p has the number expected (R250). -/
def NextOf (f : RxFlow) (p : Packet) : Prop := f.isOld p.seq = false ∧ f.early = [] ∧ ((p.type = 4 ∨ p.type = 6) → p.seq = f.next)

/-- UPDATE runs and nothing of its operations does (R354). -/
def UpdFree (s : State) : Prop := s.runs 7 = true ∧ s.fw.op = none ∧ ∀ p, s.fw.prep = some p → p.done = true

/-- No partition runs in a pair. -/
def Unpaired (s : State) : Prop := ∀ n, n < 16 → s.rd MOD.PART_STATE.paired 0 n = 0

end Sys2Proof
end

