-- ==== Sys2Proof/Certificates/Slice0/Obligations.lean ====
section
/-! DEFINITION. What the model's provers are to prove: one statement per group of rules of the spec. -/

open Sys2Proof Sys2Proof.Machine

/-- A step runs the front command on the rest of the queue; an empty queue lets 1 ns pass (log entry 1). -/
def Obligations.StepsRunTheQueue : Prop :=
  -- A step runs the command at the front of the queue with the rest of the queue waiting.
  (∀ (s : State) (c : Instr) (rest : List Instr), step (s.putPending (c :: rest)) = exec c (s.putPending rest)) ∧
  -- On an empty queue one nanosecond passes: the clock, and the count while it runs and nothing slews (the model's choice, assumption 1).
  (∀ s : State, s.pending = [] → ∃ t, step s = .next t ∧ t.now = s.now + 1 ∧ t.pending = [] ∧ t.sram = s.sram ∧ t.pwr = s.pwr ∧
    (s.counting = true → s.beat.slew.natAbs < 4 → t.beat.count = (s.beat.count + 1) % 2 ^ 64) ∧
    (s.counting = false → t.beat.count = s.beat.count))

/-- What the spec's register tables give at reset, and the order of the memories and registers there. -/
def Obligations.ResetState : Prop :=
  Ordered State.reset ∧ Memory.wf State.reset = true ∧ State.reset.pending = [] ∧ State.reset.counting = false ∧ State.reset.pwr = pSTANDBY ∧ State.reset.rd BEAT.STATUS.err_bound_ns = 0xFF ∧
  State.reset.rd BEAT.CTRL.enable = 1 ∧ State.reset.rd SCHED.MIN_LEAD.lead = 1000 ∧ State.reset.rd LEAK.CTRL.en = 0xF ∧ State.reset.rd LEAK.CTRL.pump_stop = 1 ∧
  State.reset.rd FW.CTRL.auto_confirm = 1 ∧ State.reset.rd FW.CTRL.fleet_mode = 0 ∧ State.reset.rd SEC.CTRL.quote_gap_s = 600 ∧ State.reset.rd RECORD.CTRL.keep_period = 3 ∧
  State.reset.rd PWR.CAP_RACK.limit_w = 0x12C0 ∧ State.reset.rd SAFE.STATUS.master = 1 ∧ State.reset.rd TW.ATTN_EN.enable 4 = 0xFF ∧
  (∀ p, p < 16 → State.reset.partState p = 0) ∧ (∀ n, n < 96 → State.reset.armed n = false) ∧ (∀ n, n < 52 → State.reset.railState n = 0) ∧
  (∀ c, c < 512 → State.reset.rd CORE.STATUS.state c = 1) ∧ (∀ n, n < 6 → State.reset.twState n = twOFF)

/-- Every step keeps the canonical form of the registers, the stacks and the SRAM: what is listed rises, each home and each byte is listed at most
once, and no byte that reads as an unlisted one is listed. -/
def Obligations.OrderIsKept : Prop :=
  ∀ s t : State, Ordered s → Memory.wf s = true → step s = .next t → Ordered t ∧ Memory.wf t = true

/-- Every command completes in every state: it takes no time and leaves the queue alone; what it does is its effect on the rest of the state. -/
def Obligations.CommandsTakeNoTime : Prop :=
  ∀ (c : Instr) (s : State), ∃ t, exec c s = .next t ∧ t.now = s.now ∧ t.pending = s.pending

/-- R393: the rack's registers accept writes from TRAY and SAFE alone, whatever the table grants; others are ignored and counted. -/
def Obligations.RackMasters : Prop :=
  ∀ (s : State) (m : MasterId) (v grace : BitVec 16),
    (m.val ≠ TRAY → m.val ≠ SAFENET → s.hostServed m .PWR 0 0x040 = true → s.hostServed m .PWR 0 0x064 = true →
      exec (.capWrite m true v) s = .next (s.countDenied m .PWR 0) ∧ exec (.rackOff m grace) s = .next (s.countDenied m .PWR 0) ∧
      exec (.rackRelease m) s = .next (s.countDenied m .PWR 0) ∧ (s.countDenied m .PWR 0).rd ACL.DENIED.count = min (s.rd ACL.DENIED.count + 1) (2 ^ 16 - 1)) ∧
    (m.val = TRAY ∨ m.val = SAFENET → s.mayWrite m .PWR 0 = true →
      exec (.capWrite m true v) s = .next (s.setCap PWR.CAP_RACK.limit_w v.toNat) ∧ exec (.rackOff m grace) s = .next (s.rackOff grace.toNat) ∧
      exec (.rackRelease m) s = .next s.rackRelease ∧ s.rackRelease.rd PWR.RACK.hold = 0)

/-- R55: the fields of an armed slot stay as they are, and it stays armed; a write that would change one is refused with reason BUSY. -/
def Obligations.ArmedSlotsAreFixed : Prop :=
  ∀ (s : State) (m : MasterId) (n : SlotId), s.armed n = true → s.slotWritable m n = true →
    (∀ (f : Fin 5) (v : Word), Admits s m .SCHED 0 (0x400 + 0x20 * n) → exec (.slotFieldWrite m n f v) s = .next (s.reject n 6)) ∧
    (∀ ctl : Word, Admits s m .SCHED 0 (0x40C + 0x20 * n) →
      (s.rd SCHED.SLOT_CTL.owner_kind 0 n ≠ bits ctl.toNat 5 4 ∨ s.slotOwner n ≠ bits ctl.toNat 15 8 ∨ s.slotAction n ≠ bits ctl.toNat 23 16) →
      ctlOwnerOk m (bits ctl.toNat 5 4) (bits ctl.toNat 15 8) (bits ctl.toNat 23 16) = true →
      exec (.slotDisarm m n ctl) s = .next (s.reject n 6) ∧ exec (.slotArm m n ctl) s = .next (s.reject n 6)) ∧
    ((s.reject n 6).slotTarget n = s.slotTarget n ∧ (s.reject n 6).rd SCHED.SLOT_PERIOD.period 0 n = s.rd SCHED.SLOT_PERIOD.period 0 n ∧
      (s.reject n 6).slotParam0 n = s.slotParam0 n ∧ (s.reject n 6).slotParam1 n = s.slotParam1 n ∧ (s.reject n 6).slotAction n = s.slotAction n ∧
      (s.reject n 6).slotOwner n = s.slotOwner n ∧ (s.reject n 6).rd SCHED.SLOT_CTL.owner_kind 0 n = s.rd SCHED.SLOT_CTL.owner_kind 0 n ∧
      (s.reject n 6).armed n = true ∧ (s.reject n 6).rd SCHED.SLOT_RESULT.state 0 n = s.rd SCHED.SLOT_RESULT.state 0 n ∧
      (s.reject n 6).rd SCHED.REJECTS.last_reason = 6 ∧ (s.reject n 6).rd SCHED.REJECTS.last_slot = n.val ∧
      (s.reject n 6).rd SCHED.REJECTS.count = min (s.rd SCHED.REJECTS.count + 1) 65535)

/-- R53, R56, R57: what a firing of a slot changes: it counts, a periodic slot rearms on its grid, a one-shot slot is disarmed. -/
def Obligations.SlotFiring : Prop :=
  ∀ (s : State) (n : SlotId),
    (s.slotFire n).rd SCHED.SLOT_COUNT.count 0 n = min (s.rd SCHED.SLOT_COUNT.count 0 n + 1) (2 ^ 32 - 1) ∧
    ((s.slotFire n).rd SCHED.FIRED.fired 0 (n / 32)).testBit (n % 32) = true ∧
    (s.rd SCHED.SLOT_PERIOD.period 0 n ≠ 0 → s.slotStop.testBit n = false →
      (s.slotFire n).armed n = s.armed n ∧ (s.slotFire n).slotTarget n = (s.slotTarget n + s.rd SCHED.SLOT_PERIOD.period 0 n) % 2 ^ 64 ∧
      (s.slotFire n).rd SCHED.SLOT_RESULT.state 0 n = 1) ∧
    (s.rd SCHED.SLOT_PERIOD.period 0 n = 0 → (s.slotFire n).armed n = false ∧ (s.slotFire n).slotTarget n = s.slotTarget n ∧
      (s.slotFire n).rd SCHED.SLOT_RESULT.state 0 n = 2) ∧
    (s.slotFire n).slotParam0 n = s.slotParam0 n ∧ (s.slotFire n).slotParam1 n = s.slotParam1 n ∧
    (∀ k, k < 96 → k ≠ n.val → (s.slotFire n).armed k = s.armed k ∧ (s.slotFire n).slotTarget k = s.slotTarget k) ∧
    (s.slotFire n).hbm = s.hbm ∧ (s.slotFire n).sram = s.sram ∧ (s.slotFire n).parts = s.parts ∧ (s.slotFire n).beat = s.beat

/-- The count starts at 0 in LOCAL, and takes a loaded epoch together with every armed slot. -/
def Obligations.CountIsSet : Prop :=
  -- R42, R48, R571: the count starts at 0 in LOCAL, when a mark arrives on a locked reference, or with source FABRIC after 2,097,152 ns without one.
  -- That the reference locks at once is log entry 17; that the source selected then is in force with the count is log entry 141.
  ((∀ (s : State) (t0 : Nat), s.rd BEAT.STATUS.state = 1 → s.rd BEAT.CTRL.source = 1 → s.beat.lockedAt = some t0 → t0 + 2097152 ≤ s.now →
    exec .acquireMarkTimeout s =
      .next (((s.wr BEAT.STATUS.ref_present 1).putBeat { s.beat with count := 0, slew := 0, slewAge := 0, source := true }).wr BEAT.STATUS.state 2)) ∧
  (∀ (s : State) (frac : Fin 4) (ref : Bool) (t0 : Nat), s.rd BEAT.STATUS.state = 1 → s.beat.lockedAt = some t0 →
    ∃ t, exec (.markArrival frac ref) s = .next t ∧ t.beat.count = 0 ∧ t.rd BEAT.STATUS.state = 2 ∧ t.rd BEAT.STATUS.mark_present = 1 ∧
      t.rd BEAT.STATUS.ref_present = (if ref then 1 else s.rd BEAT.STATUS.ref_present) ∧ t.beat.lastMark = s.now ∧ t.beat.source = s.is BEAT.CTRL.source ∧
      (∀ f i j, f.key i j ≠ BEAT.STATUS.state.key 0 0 → f.key i j ≠ BEAT.STATUS.mark_present.key 0 0 → f.key i j ≠ BEAT.STATUS.ref_present.key 0 0 →
        t.rd f i j = s.rd f i j) ∧ t.hbm = s.hbm ∧ t.sram = s.sram)) ∧
  -- R46: an accepted SET_CMD value is loaded at a mark or a multiple of 2^20; the count takes it in one step and every armed slot moves with it.
  ((∀ (s : State) (m : MasterId), Admits s m .BEAT 0 0x068 → (s.rd BEAT.CTRL.role = 1 ∨ s.rd BEAT.CTRL.role = 2) → s.rd BEAT.STATUS.state = 2 →
    s.rd BEAT.SET.set % 2 ^ 20 = 0 → exec (.setCmd m) s = .next (s.putBeat { s.beat with epoch := some (s.rd BEAT.SET.set) })) ∧
  (∀ (s : State) (v : Nat), s.beat.epoch = some v → s.rd BEAT.STATUS.state = 2 → s.rd BEAT.STATUS.mark_present = 1 → s.beat.lastMark = s.now →
    ∃ t, exec .epochSet s = .next t ∧ t.beat.count = v % 2 ^ 64 ∧ t.beat.epoch = none ∧ t.rd BEAT.STATUS.epoch_valid = 1 ∧ t.rd BEAT.STATUS.state = 3 ∧
      (t.rd (hdrStatus .BEAT)).testBit 0 = true ∧
      ∀ n, n < 96 → t.slotTarget n = if s.armed n then (s.slotTarget n + 2 ^ 64 + v % 2 ^ 64 - s.beat.count % 2 ^ 64) % 2 ^ 64 else s.slotTarget n))

/-- Sources lost and found move the alignment states. -/
def Obligations.AlignmentMoves : Prop :=
  -- R48, R51, R52, R264: relock of the reference (where no marks arrive: log entry 141), the end of alignment, an alignment exchange with the parent
  -- of the tile that exchanges, and the answer to another module's (log entries 19, 143).
  ((∀ s : State, s.rd BEAT.STATUS.state = 4 →
    (s.rd BEAT.STATUS.mark_present = 1 ∧ s.rd BEAT.STATUS.ref_present = 1 ∧ s.beat.relockMarks ≥ 10) ∨
      (s.rd BEAT.STATUS.mark_present = 0 ∧ s.beat.refLostAt + 10 * 2 ^ 20 ≤ s.now) →
    ∃ t, exec .refRelock s = .next t ∧ t.rd BEAT.STATUS.state = 3 ∧ t.rd BEAT.STATUS.ref_present = 1 ∧ t.beat = { s.beat with relockMarks := 0 } ∧
      (∀ n, n < 16 → (t.rd MOD.PART_STATE.causes 0 n).testBit 0 = false) ∧ t.sram = s.sram ∧ t.hbm = s.hbm) ∧
  (∀ s : State, s.rd BEAT.STATUS.state ≠ 4 → exec .refRelock s = .next s) ∧
  (∀ s : State, s.rd BEAT.STATUS.state = 5 → s.errBound > 20 → s.beat.unaligned = false →
    ∃ t, exec .beatUnaligned s = .next t ∧ (t.rd (hdrStatus .BEAT)).testBit 3 = true ∧ t.beat = { s.beat with unaligned := true } ∧
      ∀ n, n < 16 → s.running n = true → s.spans n = true → (t.rd MOD.PART_STATE.causes 0 n).testBit 0 = true ∧ (t.part n).parkNext = true) ∧
  (∀ s : State, s.rd BEAT.STATUS.state ≠ 5 ∨ s.errBound ≤ 20 → exec .beatUnaligned s = .next s) ∧
  (∀ (s : State) (src : BitVec 18) (t1 t2 t3 : BitVec 66) (ev : Bool) (bound : BitVec 8) (root : BitVec 18),
    s.rd MIDWAY.BEAT_PARENT.valid s.mgmtTile = 1 → s.rd MIDWAY.BEAT_PARENT.tile s.mgmtTile = src.toNat → s.rd BEAT.STATUS.state ≥ 2 →
    ∃ t, exec (.beatAlign src t1 t2 t3 ev bound root) s = .next t ∧ t.rd BEAT.STATUS.fabric_present = 1 ∧ t.rd BEAT.ROOT_ID.root_tile = root.toNat ∧
      t.rd BEAT.ROOT_ID.valid = 1 ∧ t.beat.lastExchange = s.now ∧ t.beat.parentBound = bound.toNat ∧
      (s.rd BEAT.STATUS.state = 2 → s.rd BEAT.CTRL.role = 0 → ev = true → t.rd BEAT.STATUS.state = 3 ∧ t.rd BEAT.STATUS.epoch_valid = 1)) ∧
  (∀ (s : State) (src : BitVec 18) (t1 t2 t3 : BitVec 66) (ev : Bool) (bound : BitVec 8) (root : BitVec 18),
    s.rd MIDWAY.BEAT_PARENT.valid s.mgmtTile = 0 ∨ s.rd MIDWAY.BEAT_PARENT.tile s.mgmtTile ≠ src.toNat → s.rd BEAT.STATUS.state ≥ 2 →
    exec (.beatAlign src t1 t2 t3 ev bound root) s = .next (s.sendAlign src.toNat t1.toNat (4 * s.beat.count) (4 * s.beat.count)))) ∧
  -- R49: the loss of the reference, of the marks and of the fabric source: what each changes while another source still sets the phase, the entry to
  -- HOLDOVER or FREE_RUN where none does, and that a report changes nothing where the source is not present.
  ((∀ s : State, s.rd BEAT.STATUS.ref_present = 1 →
    ∃ t, exec .beatRefLost s = .next t ∧ t.rd BEAT.STATUS.ref_present = 0 ∧ t.rd BEAT.STATUS.state = (if s.rd BEAT.STATUS.state = 3 then 4 else s.rd BEAT.STATUS.state) ∧
      (s.rd BEAT.STATUS.state = 3 → (t.rd (hdrStatus .BEAT)).testBit 1 = true) ∧
      t.rd BEAT.SLIPS.ref_losses = min (s.rd BEAT.SLIPS.ref_losses + 1) 65535 ∧
      t.beat = { s.beat with relockMarks := 0, lockedAt := none, refLostAt := s.now } ∧ t.sram = s.sram) ∧
  (∀ s : State, s.rd BEAT.STATUS.ref_present = 0 → exec .beatRefLost s = .next s) ∧
  (∀ s : State, s.rd BEAT.STATUS.state ≥ 2 → s.rd BEAT.STATUS.mark_present = 1 → s.beat.count % 2 ^ 20 ≥ 1000 →
    s.beat.lastSeen + s.beat.count % 2 ^ 20 + 8 < s.now →
    (s.rd BEAT.STATUS.fabric_present = 1 ∨ (s.rd BEAT.STATUS.state ≠ 3 ∧ s.rd BEAT.STATUS.state ≠ 4) → exec .beatMarkLost s = .next (s.wr BEAT.STATUS.mark_present 0)) ∧
    (s.rd BEAT.STATUS.fabric_present = 0 → s.rd BEAT.STATUS.state = 3 ∨ s.rd BEAT.STATUS.state = 4 →
      ∃ t, exec .beatMarkLost s = .next t ∧ t.rd BEAT.STATUS.state = 5 ∧ t.rd BEAT.STATUS.mark_present = 0 ∧ t.beat.freeRunAt = s.now ∧
        t.beat.freeRunBound = s.errBound ∧ t.beat.count = s.beat.count ∧ (t.rd (hdrStatus .BEAT)).testBit 2 = true)) ∧
  (∀ s : State, s.rd BEAT.STATUS.mark_present = 0 → exec .beatMarkLost s = .next s) ∧
  (∀ s : State, s.rd BEAT.STATUS.fabric_present = 1 → s.beat.lastExchange + 4 * 1048576 ≤ s.now →
    (s.rd BEAT.STATUS.mark_present = 1 ∨ (s.rd BEAT.STATUS.state ≠ 3 ∧ s.rd BEAT.STATUS.state ≠ 4) →
      exec .fabricSourceLost s = .next (s.wr BEAT.STATUS.fabric_present 0)) ∧
    (s.rd BEAT.STATUS.mark_present = 0 → s.rd BEAT.STATUS.state = 3 ∨ s.rd BEAT.STATUS.state = 4 →
      ∃ t, exec .fabricSourceLost s = .next t ∧ t.rd BEAT.STATUS.state = 5 ∧ t.rd BEAT.STATUS.fabric_present = 0 ∧ t.beat.freeRunAt = s.now ∧
        t.beat.freeRunBound = s.errBound ∧ t.beat.count = s.beat.count ∧ (t.rd (hdrStatus .BEAT)).testBit 2 = true)) ∧
  (∀ s : State, s.rd BEAT.STATUS.fabric_present = 0 → exec .fabricSourceLost s = .next s))

/-- R54, R55, R56, R58: a slot is armed, a disarmed slot's fields are written, an armed slot is disarmed; what the owner rules refuse changes no
slot. -/
def Obligations.SlotWrites : Prop :=
  (∀ (s : State) (m : MasterId) (n : SlotId) (ctl : Word), Admits s m .SCHED 0 (0x40C + 0x20 * n) → s.armed n = false →
    s.armOwnerOk m n (bits ctl.toNat 5 4) (bits ctl.toNat 15 8) (bits ctl.toNat 23 16) = true →
    s.armFormatOk n (bits ctl.toNat 5 4) (bits ctl.toNat 15 8) (bits ctl.toNat 23 16) = true →
    s.beat.count + s.rd SCHED.MIN_LEAD.lead ≤ s.slotTarget n →
    ∃ t, exec (.slotArm m n ctl) s = .next t ∧ t.armed n = true ∧ t.slotAction n = bits ctl.toNat 23 16 ∧ t.slotOwner n = bits ctl.toNat 15 8 ∧
      t.rd SCHED.SLOT_CTL.owner_kind 0 n = bits ctl.toNat 5 4 ∧ t.rd SCHED.SLOT_RESULT.state 0 n = 1 ∧ t.slotTarget n = s.slotTarget n ∧
      t.slotParam0 n = s.slotParam0 n ∧ (∀ k, k < 96 → k ≠ n.val → t.armed k = s.armed k ∧ t.slotTarget k = s.slotTarget k) ∧
      t.hbm = s.hbm ∧ t.sram = s.sram ∧ t.beat = s.beat ∧ t.parts = s.parts) ∧
  (∀ (s : State) (m : MasterId) (n : SlotId) (ctl : Word), Admits s m .SCHED 0 (0x40C + 0x20 * n) → s.armed n = false →
    s.armOwnerOk m n (bits ctl.toNat 5 4) (bits ctl.toNat 15 8) (bits ctl.toNat 23 16) = false →
    exec (.slotArm m n ctl) s = .next ((s.wr SCHED.SLOT_RESULT.state 5 0 n).reject n 5)) ∧
  (∀ (s : State) (m : MasterId) (n : SlotId) (ctl : Word), Admits s m .SCHED 0 (0x40C + 0x20 * n) → s.slotWritable m n = true →
    ctlOwnerOk m (bits ctl.toNat 5 4) (bits ctl.toNat 15 8) (bits ctl.toNat 23 16) = true →
    (s.armed n = true → s.rd SCHED.SLOT_CTL.owner_kind 0 n = bits ctl.toNat 5 4 → s.slotOwner n = bits ctl.toNat 15 8 → s.slotAction n = bits ctl.toNat 23 16 →
      s.slotStop.testBit n = false →
      (s.beat.count < s.slotTarget n → exec (.slotDisarm m n ctl) s = .next ((s.wr SCHED.SLOT_CTL.arm 0 0 n).wr SCHED.SLOT_RESULT.state 3 0 n)) ∧
      (s.counting = true → s.slotTarget n ≤ s.beat.count → s.rd SCHED.SLOT_PERIOD.period 0 n ≠ 0 →
        exec (.slotDisarm m n ctl) s = .next (s.putSlotStop (s.slotStop + 2 ^ n.val)))) ∧
    (s.armed n = false → exec (.slotDisarm m n ctl) s =
      .next (((s.wr SCHED.SLOT_CTL.owner_kind (bits ctl.toNat 5 4) 0 n).wr SCHED.SLOT_CTL.owner (bits ctl.toNat 15 8) 0 n).wr SCHED.SLOT_CTL.action
        (bits ctl.toNat 23 16) 0 n))) ∧
  (∀ (s : State) (m : MasterId) (n : SlotId) (ctl : Word), Admits s m .SCHED 0 (0x40C + 0x20 * n) →
    s.slotWritable m n = false ∨ ctlOwnerOk m (bits ctl.toNat 5 4) (bits ctl.toNat 15 8) (bits ctl.toNat 23 16) = false →
    exec (.slotDisarm m n ctl) s = .next (s.reject n 5)) ∧
  (∀ (s : State) (m : MasterId) (n : SlotId) (v : Word), Admits s m .SCHED 0 (0x400 + 0x20 * n) → s.slotWritable m n = true → s.armed n = false →
    exec (.slotFieldWrite m n 0 v) s = .next (s.wr SCHED.SLOT_TARGET.target (s.slotTarget n / 2 ^ 32 * 2 ^ 32 + v.toNat % 2 ^ 32) 0 n) ∧
    exec (.slotFieldWrite m n 1 v) s = .next (s.wr SCHED.SLOT_TARGET.target (v.toNat % 2 ^ 32 * 2 ^ 32 + s.slotTarget n % 2 ^ 32) 0 n) ∧
    exec (.slotFieldWrite m n 2 v) s = .next (s.wr SCHED.SLOT_PERIOD.period v.toNat 0 n) ∧
    exec (.slotFieldWrite m n 3 v) s = .next (s.wr SCHED.SLOT_PARAM0.param0 v.toNat 0 n) ∧
    exec (.slotFieldWrite m n 4 v) s = .next (s.wr SCHED.SLOT_PARAM1.param1 v.toNat 0 n))

/-- R60, R280, R281, R363, R369, R400, R407, R427: a slot that is due, and whose turn on its beat has come, acts and fires; before its turn a command
changes nothing (the turn: log entry 11). -/
def Obligations.SlotActions : Prop :=
  ∀ (s : State) (n : SlotId),
    (s.slotDue n 0x0B = true → s.slotTurn n = true → exec (.hostEvent n) s = .next ((s.slotFire n).postBare 0x000D [n, s.slotParam0 n]
      (if s.rd SCHED.SLOT_CTL.owner_kind 0 n = 2 then some (s.slotOwner n) else none))) ∧
    (s.slotDue n 0x06 = true → s.slotTurn n = true →
      exec (.capChange n) s = .next ((s.setCap PWR.CAP_HOST.limit_w (s.slotParam0 n % 65536)).slotFire n)) ∧
    (s.slotDue n 0x08 = true → s.slotTurn n = true → exec (.powerShift n) s = .next ((s.powerShift n).slotFire n)) ∧
    (s.slotDue n 0x05 = true → s.slotTurn n = true →
      exec (.psChange n) s = .next (((((s.wr PWR.TILE_PS.ceiling (s.slotParam0 n % 8) 0 (s.slotOwner n % 8)).movePoint (s.slotOwner n % 8) true).updateReasons
        (s.slotOwner n % 8))).slotFire n)) ∧
    (s.slotDue n 0x02 = true → s.slotTurn n = true → s.partState (s.slotOwner n) = 3 → s.rd MOD.PART_STATE.causes 0 (s.slotOwner n) ≠ 0 →
      exec (.partStart n) s = .next ((s.slotFire n).postBare 0x0008 [s.rd MOD.PART_STATE.causes 0 (s.slotOwner n)] (some (s.slotOwner n)))) ∧
    (s.slotDue n 0x04 = true → s.slotTurn n = true → s.fw.prep = none →
      exec (.fwActivate n) s = .next ((((s.wr FW.CC_STATUS.outcome 2).wr FW.CC_STATUS.verdict 0).raise Ev.DEFERRED 0
        [s.ccReasons, s.slotParam0 n % 2 ^ 16, s.slotTarget n]).slotFire n)) ∧
    (s.slotTurn n = false → exec (.partStop n) s = .next s ∧ exec (.partStart n) s = .next s ∧ exec (.fwActivate n) s = .next s ∧
      exec (.psChange n) s = .next s ∧ exec (.capChange n) s = .next s ∧ exec (.powerShift n) s = .next s ∧ exec (.collLaunch n) s = .next s ∧
      exec (.hostEvent n) s = .next s ∧ exec (.sensorDemand n) s = .next s) ∧
    (∀ k, k < 96 → s.armed k = true → s.slotTarget k = s.slotTarget n → actionOrder (s.slotAction k) < actionOrder (s.slotAction n) → s.slotTurn n = false)

/-- PART_START and PART_STOP at a beat of their own. -/
def Obligations.PartitionsStartAndStop : Prop :=
  -- R280: PART_START moves a STOPPED or PARKED partition without a park cause to RUNNING.
  (∀ (s : State) (n : SlotId), s.slotDue n 0x02 = true → s.slotTurn n = true → s.slotOwner n < 16 →
    (s.partState (s.slotOwner n) = 1 ∨ (s.partState (s.slotOwner n) = 3 ∧ s.rd MOD.PART_STATE.causes 0 (s.slotOwner n) = 0)) →
    ∃ t, exec (.partStart n) s = .next t ∧ t.running (s.slotOwner n) = true ∧ (t.part (s.slotOwner n)).inStep = (s.part (s.slotOwner n)).inStep ∧
      (t.part (s.slotOwner n)).parkNext = false ∧ t.rd MOD.PART_STEP.step 0 (s.slotOwner n) = s.rd MOD.PART_STEP.step 0 (s.slotOwner n) ∧
      t.sram = s.sram ∧ t.beat = s.beat) ∧
  -- R281: PART_STOP whose turn on its beat has come: with park, cause COMMAND is set and the step goes on; without, the running step ends in error.
  (∀ (s : State) (n : SlotId) (p : Nat), s.slotOwner n = p → p < 16 → s.slotDue n 0x03 = true → s.slotTurn n = true → s.running p = true →
    s.power.rackAt = none →
    ((s.slotParam0 n).testBit 0 = true → exec (.partStop n) s = .next ((s.slotFire n).setCause p 8)) ∧
    ((s.slotParam0 n).testBit 0 = false → (s.part p).inStep = true → (s.part p).fault = none →
      ∃ t, exec (.partStop n) s = .next t ∧ t.partState p = 1 ∧ (t.part p).inStep = false ∧
        t.rd MOD.PART_LAST_FAULT.code 0 p = 0x51 ∧ t.rd MOD.PART_COMMITS.count 0 p = s.rd MOD.PART_COMMITS.count 0 p))

/-- A step boundary commits, stretches or ends the running step, and starts the next one. -/
def Obligations.Boundaries : Prop :=
  -- R61 to R63, R65, R281, R282: what the end part of a STEP_BOUNDARY firing on beat `target` decides, with done_mode 0.
  (∀ (s : State) (n : SlotId) (target p : Nat), s.slotOwner n = p → p < 16 → s.running p = true → (s.part p).inStep = true → (s.part p).owed = none →
    (s.slotParam0 n).testBit 8 = false →
    ((s.part p).fault = none → s.streamsDone p = true →
      ((s.endPart n target).part p).inStep = false ∧ (s.endPart n target).rd MOD.PART_COMMITS.count 0 p = min (s.rd MOD.PART_COMMITS.count 0 p + 1) (2 ^ 32 - 1) ∧
      (s.endPart n target).rd MOD.PART_STATE.errors_run 0 p = 0) ∧
    ((s.part p).fault = none → s.streamsDone p = false → (s.part p).stretches < s.slotParam0 n % 256 →
      ((s.endPart n target).part p).inStep = true ∧ ((s.endPart n target).part p).stretches = (s.part p).stretches + 1 ∧
      (s.endPart n target).rd MOD.PART_COMMITS.count 0 p = s.rd MOD.PART_COMMITS.count 0 p) ∧
    ((s.part p).fault = none → s.streamsDone p = false → s.slotParam0 n % 256 ≤ (s.part p).stretches →
      ((s.endPart n target).part p).inStep = false ∧ (s.endPart n target).rd MOD.PART_LAST_FAULT.code 0 p = 0x18 ∧
      (s.endPart n target).rd MOD.PART_COMMITS.count 0 p = s.rd MOD.PART_COMMITS.count 0 p) ∧
    (∀ code addr, (s.part p).fault = some (code, addr) →
      ((s.endPart n target).part p).inStep = false ∧ (s.endPart n target).rd MOD.PART_LAST_FAULT.code 0 p = code % 256 ∧
      (s.endPart n target).rd MOD.PART_LAST_FAULT_STEP.step 0 p = s.rd MOD.PART_STEP.step 0 p % 2 ^ 32)) ∧
  -- R57, R60 to R62, R65, R73, R282: a STEP_BOUNDARY alone on its beat, of a RUNNING partition whose step is done and free of faults, commits the
  -- step and starts the next one, whose number is PARAM1.
  (∀ (s : State) (n : SlotId) (p : Nat), s.slotOwner n = p → p < 16 → s.rd SCHED.SLOT_CTL.owner_kind 0 n = 2 → s.slotDue n 0x01 = true →
    (∀ k, k < 96 → k ≠ n.val → s.armed k = true → s.slotTarget k ≠ s.slotTarget n) → s.running p = true → (s.part p).inStep = true →
    (s.part p).owed = none → (s.part p).fault = none → (s.part p).parkNext = false → s.rd MOD.PART_STATE.paired 0 p = 0 →
    (s.slotParam0 n).testBit 8 = false → s.streamsDone p = true → s.rd SCHED.SLOT_PERIOD.period 0 n ≠ 0 → s.slotStop.testBit n = false →
    ∃ t, exec (.stepBoundary n) s = .next t ∧ t.rd MOD.PART_COMMITS.count 0 p = min (s.rd MOD.PART_COMMITS.count 0 p + 1) (2 ^ 32 - 1) ∧
      t.rd MOD.PART_STEP.step 0 p = s.slotParam1 n % 2 ^ 32 ∧ t.rd MOD.PART_WORK.work 0 p = s.slotParam1 n % 2 ^ 32 ∧ t.slotParam1 n = (s.slotParam1 n + 1) % 2 ^ 32 ∧
      (t.part p).inStep = true ∧ (t.part p).startBeat = s.slotTarget n ∧ t.running p = true ∧
      t.slotTarget n = (s.slotTarget n + s.rd SCHED.SLOT_PERIOD.period 0 n) % 2 ^ 64 ∧ t.sram = s.sram ∧ t.beat = s.beat)

/-- R72, R283, R571: instructions whose result is a register: ALU, BEAT, STEPNUM. The destination takes the value; no other register, no memory and
no register field but the issue's own changes. -/
def Obligations.RegisterInstructions : Prop :=
  ∀ (s : State) (c : CoreId) (n : StreamId) (d a b : GReg), s.canIssue c n = true →
    (∀ (op : AluOp) (v : Nat), aluValue op (s.g c n a) (s.g c n b) = some v →
      ∃ t, exec (.alu c n op d a b none) s = .next t ∧ t.g c n d = v % 2 ^ 64 ∧ (∀ r : GReg, r ≠ d → t.g c n r = s.g c n r) ∧
        (∀ f i j, t.rd f i j = (s.issued c n).rd f i j) ∧ t.hbm = s.hbm ∧ t.sram = s.sram) ∧
    (∀ (op : AluOp) (imm : BitVec 16) (v : Nat), aluValue op (s.g c n a) (toPat 64 (sext 16 imm.toNat)) = some v →
      exec (.alu c n op d a b (some imm)) s = .next ((s.issued c n).setG c n d v)) ∧
    (∀ (op : AluOp), aluValue op (s.g c n a) (s.g c n b) = none →
      ∃ v : Nat, exec (.alu c n op d a b none) s = .next ((s.issued c n).setG c n d v)) ∧
    (s.counting = true → exec (.beatRead c n d) s = .next ((s.issued c n).setG c n d s.beat.count)) ∧
    (s.counting = false → exec (.beatRead c n d) s = .next ((s.issued c n).setG c n d 0)) ∧
    (∀ p, p < 16 → s.partOfCore c = some p → exec (.stepnum c n d) s = .next ((s.issued c n).setG c n d (s.rd MOD.PART_WORK.work 0 p)))

/-- Loads, stores, branches, calls, SIGNAL and reserved opcodes. -/
def Obligations.StoresAndControl : Prop :=
  -- R72, R90, R91: LD and ST of 1 to 8 bytes inside the core store; a corrected word is counted and changes nothing else, an uncorrectable one stops
  -- the stream with SRAM_UE, an access across the store's end with ADDR_FAULT. While a descriptor that has written an aligned word is not complete,
  -- LD of that word answers its old bytes or its new ones.
  (∀ (s : State) (c : CoreId) (n : StreamId) (d a : GReg) (off : BitVec 16) (size : Fin 4), s.canIssue c n = true →
    let o := s.ceAddr c n a off.toNat
    let k := 2 ^ size.val
    (o + k ≤ 2 ^ 22 →
      ((s.core c).racing = [] →
        (∀ bs, s.coreRead c o k = some bs →
          exec (.ld c n d a off size 0) s = .next (((s.issued c n).coreSee c o k).setG c n d (leNat bs)) ∧
          (s.wordsOf 2 (coreKey c o) k = [] → exec (.ld c n d a off size 0) s = .next ((s.issued c n).setG c n d (leNat bs))) ∧
          (s.sramBad = [] → ∃ t, exec (.ld c n d a off size 1) s = .next t ∧ t.g c n d = leNat bs % 2 ^ 64 ∧ t.sram = s.sram ∧
            t.rd CORE.SRAM_ECC.corrected c = min (s.rd CORE.SRAM_ECC.corrected c + 1) 65535 ∧ (t.rd (hdrStatus .CORE) c).testBit Ev.SRAM_CE.bit = true)) ∧
        (∃ t, exec (.ld c n d a off size 2) s = .next t ∧ t.sn c n = 8 ∧ t.rd CORE.STATUS.faulted c = 1 ∧ t.sram = s.sram ∧
          (t.rd (hdrStatus .CORE) c).testBit Ev.SRAM_UE.bit = true)) ∧
      (∀ (id : Nat) (old : List Byte), (s.core c).racing = [(id, coreKey c o / 8, old)] → old.length = 8 → size = 3 → o % 8 = 0 → s.sramBad = [] →
        ∃ t, exec (.ld c n d a off size 0) s = .next t ∧ (t.g c n d = leNat old ∨ t.g c n d = leNat (s.sramBytes (coreKey c o) 8)) ∧
          t.sramBytes (coreKey c o) 8 = s.sramBytes (coreKey c o) 8) ∧
      (s.sramGood (coreKey c o) k = true ∨ (size = 3 ∧ o % 8 = 0) →
        ∃ t, exec (.st c n d a off size) s = .next t ∧ t.sramBytes (coreKey c o) k = leBytes k (s.g c n d) ∧
          (∀ j, (j < coreKey c o ∨ coreKey c o + k ≤ j) → t.sramByte j = s.sramByte j) ∧
          t.hbm = s.hbm ∧ t.cores = (s.issued c n).cores ∧
          (s.wordsOf 2 (coreKey c o) k = [] → ∀ f i j, t.rd f i j = (s.issued c n).rd f i j)) ∧
      (size.val < 3 → o % 8 + k ≤ 8 → s.wordBad (coreKey c o / 8) = true →
        exec (.st c n d a off size) s = .next ((s.issued c n).instrFault c n 0x25 (o / 8 * 8)))) ∧
    (2 ^ 22 < o + k → ∀ upset : Fin 3,
      exec (.ld c n d a off size upset) s = .next ((s.issued c n).instrFault c n 0x20 o) ∧
      exec (.st c n d a off size) s = .next ((s.issued c n).instrFault c n 0x20 o))) ∧
  -- R72, R78: branches, calls, returns, SIGNAL, and the reserved major opcodes. Where a branch goes and whether one is taken is the module's own
  -- (assumption 38: the spec gives neither); everything else is as stated.
  (∀ (s : State) (c : CoreId) (n : StreamId) (d a : GReg) (off : BitVec 16), s.canIssue c n = true →
    exec (.br c n off) s = .next ((s.issued c n).wr CORE.PC.pc (Config.branchTarget (s.rd CORE.PC.pc c n) off.toNat) c n) ∧
    (Config.branchTaken (s.g c n a) off.toNat = true → exec (.brc c n a off) s = exec (.br c n off) s) ∧
    (Config.branchTaken (s.g c n a) off.toNat = false → exec (.brc c n a off) s = .next (s.issued c n)) ∧
    exec (.call c n d off) s = .next (((s.issued c n).setG c n d (s.rd CORE.PC.pc c n + 4)).wr CORE.PC.pc
      (Config.branchTarget (s.rd CORE.PC.pc c n) off.toNat) c n) ∧
    exec (.ret c n a) s = .next ((s.issued c n).wr CORE.PC.pc (s.g c n a) c n) ∧
    (∀ flag k : Fin 256, s.flag c flag + k.val ≤ 255 →
      exec (.signal c n flag k) s = .next ((s.issued c n).wr CORE.FLAG.value (s.flag c flag + k.val) c flag)) ∧
    (∀ flag k : Fin 256, 255 < s.flag c flag + k.val →
      ∃ t, exec (.signal c n flag k) s = .next t ∧ t.flag c flag = 255 ∧ t.rd CORE.STATUS.faulted c = 1 ∧ (t.rd (hdrStatus .CORE) c).testBit Ev.FLAG_FAULT.bit = true) ∧
    (∀ major : Fin 64, (0x18 ≤ major.val ∧ major.val < 0x20) ∨ (0x2A ≤ major.val ∧ major.val ≠ 0x2F) →
      ∃ t, exec (.reservedOpcode c n major) s = .next t ∧ t.sn c n = 8 ∧ t.rd CORE.STATUS.faulted c = 1 ∧
        (t.rd (hdrStatus .CORE) c).testBit Ev.DESC_FAULT.bit = true))

/-- Streams wait for flags, fences and beats, and post commands and descriptors while there is room. -/
def Obligations.StreamsWaitAndPost : Prop :=
  -- R72, R77, R99, R74, R571: what a stream waits for, and what lets it go on; the count reads 0 while none runs.
  ((∀ (s : State) (c : CoreId) (n : StreamId) (flag k : Fin 256), s.canIssue c n = true →
    ((s.issued c n).mayTake c (10 + n) [(flag.val, k.val)] = true →
      exec (.waitf c n flag k true) s = .next ((s.issued c n).wr CORE.FLAG.value (s.flag c flag - k.val) c flag) ∧
      exec (.waitf c n flag k false) s = .next (s.issued c n)) ∧
    ((s.issued c n).mayTake c (10 + n) [(flag.val, k.val)] = false → ∀ consume : Bool,
      exec (.waitf c n flag k consume) s = .next (((s.issued c n).setStrm c n { s.strm c n with flag := flag.val, count := k.val, consume := consume }).setSn c n 2))) ∧
  (∀ (s : State) (c : CoreId) (n : StreamId), s.sn c n = 2 → s.mayTake c (10 + n) [((s.strm c n).flag, (s.strm c n).count)] = true →
    ((s.strm c n).consume = true → exec (.waitfSatisfied c n) s =
      .next ((s.wr CORE.FLAG.value (s.flag c (s.strm c n).flag - (s.strm c n).count) c (s.strm c n).flag).setSn c n 1)) ∧
    ((s.strm c n).consume = false → exec (.waitfSatisfied c n) s = .next (s.setSn c n 1))) ∧
  (∀ (s : State) (c : CoreId) (n : StreamId) (scope : Fin 4), s.canIssue c n = true →
    exec (.fence c n scope) s = .next (((s.issued c n).setStrm c n { s.strm c n with fence := some (scope.val, (s.core c).next, false) }).setSn c n 4)) ∧
  (∀ (s : State) (c : CoreId) (n : StreamId), s.canIssue c n = true → s.openOf c n = none →
    exec (.stepEnd c n) s = .next (((s.issued c n).setStrm c n { s.strm c n with fence := some (1, (s.core c).next, true) }).setSn c n 4)) ∧
  (∀ (s : State) (c : CoreId) (n : StreamId) (scope mark : Nat) (ending : Bool), (s.strm c n).fence = some (scope, mark, ending) → s.sn c n = 4 →
    s.fenceMet c n scope mark = true →
    exec (.fenceComplete c n) s = .next ((s.setStrm c n { s.strm c n with fence := none }).setSn c n (if ending then 7 else 1))) ∧
  (∀ (s : State) (c : CoreId) (n : StreamId) (a : GReg), s.canIssue c n = true →
    (s.g c n a ≤ (if s.counting = true then s.beat.count else 0) → exec (.waitbeat c n a) s = .next (s.issued c n)) ∧
    ((if s.counting = true then s.beat.count else 0) < s.g c n a →
      exec (.waitbeat c n a) s = .next (((s.issued c n).setStrm c n { s.strm c n with deadline := s.g c n a }).setSn c n 5))) ∧
  (∀ (s : State) (c : CoreId) (n : StreamId), s.sn c n = 5 → (s.strm c n).deadline ≤ (if s.counting = true then s.beat.count else 0) →
    exec (.waitbeatExpire c n) s = .next (s.setSn c n 1))) ∧
  -- R72: ISSUE appends a 32-byte command to an engine queue of at most 8, DPOST a 64-byte descriptor to at most 64; with no room the stream stalls
  -- and the instruction has not issued. An engine number of no queue is malformed.
  (∀ (s : State) (c : CoreId) (n : StreamId) (a : GReg), s.canIssue c n = true →
    (∀ (e : Fin 8) (bs : List Byte), 1 ≤ e.val → e.val ≤ 6 → s.g c n a % 2 ^ 22 + 32 ≤ 2 ^ 22 → (s.core c).racing = [] →
      s.coreRead c (s.g c n a % 2 ^ 22) 32 = some bs →
      ((s.core c).cmds.filter (fun k => k.engine == e.val - 1 && k.stream == n.val && k.phase == 0)).length < 8 →
      exec (.issue c n a e) s = .next (((s.issued c n).coreSee c (s.g c n a % 2 ^ 22) 32).setCore c { s.core c with
        last := n, next := (s.core c).next + 1, cmds := (s.core c).cmds ++ [EngCmd.mk (s.core c).next n (e.val - 1) (leNat bs) 0 false (e.val - 1)] })) ∧
    (∀ (e : Fin 8), 1 ≤ e.val → e.val ≤ 6 →
      8 ≤ ((s.core c).cmds.filter (fun k => k.engine == e.val - 1 && k.stream == n.val && k.phase == 0)).length →
      ∃ t, exec (.issue c n a e) s = .next t ∧ t.core c = s.core c ∧ t.sn c n = 3 ∧ t.rd CORE.PC.pc c n = s.rd CORE.PC.pc c n % 2 ^ 22) ∧
    (∀ (e : Fin 8), e.val = 0 ∨ e.val = 7 → exec (.issue c n a e) s = .next ((s.issued c n).instrFault c n 0x21 0)) ∧
    (∀ (bs : List Byte), s.g c n a % 2 ^ 22 + 64 ≤ 2 ^ 22 → (s.core c).racing = [] → s.coreRead c (s.g c n a % 2 ^ 22) 64 = some bs → s.aeOut c n < 64 →
      exec (.dpost c n a) s = .next (((s.issued c n).coreSee c (s.g c n a % 2 ^ 22) 64).setCore c { s.core c with
        last := n, next := (s.core c).next + 1, descs := (s.core c).descs ++ [Desc.mk (s.core c).next n (leNat bs) 0 false [] []] })) ∧
    (64 ≤ s.aeOut c n → ∃ t, exec (.dpost c n a) s = .next t ∧ t.core c = s.core c ∧ t.sn c n = 3))

/-- R100, R101, R103: a failed control or access engine stops the core's streams; a core is retired in advance; a physical core out of service is
tested; a finished copy of a core that no partition holds takes effect at once, of another at its boundary. -/
def Obligations.CoreRepair : Prop :=
  (∀ (s : State) (c : CoreId) (ae : Bool), s.corePresent c = true →
    ∃ t, exec (.coreFault c ae) s = .next t ∧ t.rd CORE.ENGINE_STATE.ce_ae_failed c = 1 ∧ (t.rd (hdrStatus .CORE) c).testBit Ev.CORE_FAULT.bit = true ∧
      t.rd CORE.STATUS.faulted c = 1 ∧ t.sram = s.sram) ∧
  (∀ (s : State) (t : TileId) (p : Nat), s.rd SPARE.STATUS.copy_active t = 1 → s.rd SPARE.STATUS.copy_logical t < 64 →
    s.partOfCore (64 * t.val + s.rd SPARE.STATUS.copy_logical t) = some p → s.rd SPARE.CTRL.auto t = 0 →
    exec (.spareCopyComplete t) s = .next (((s.wr SPARE.STATUS.copy_kib 4096 t).setCore
      (64 * t.val + s.rd SPARE.STATUS.copy_logical t) { s.core (64 * t.val + s.rd SPARE.STATUS.copy_logical t) with copied := true }).showCopy t)) ∧
  (∀ (s : State) (t : TileId) (l : Fin 64) (p : Fin 68), let c := 64 * t.val + l.val
    s.rd SPARE.STATUS.copy_active t = 1 → s.rd SPARE.STATUS.copy_logical t = l.val →
    s.partOfCore c = none → s.rd SPARE.CTRL.auto t = 0 → s.rd SPARE.CTRL.hold t = 0 → (s.core c).spare = some p.val → s.rd SPARE.MAP.phys t l < 68 →
    s.rd SPARE.MAP.phys t l ≠ p.val →
    ∃ u, exec (.spareCopyComplete t) s = .next u ∧ u.rd SPARE.MAP.phys t l = p.val ∧ u.rd SPARE.PSTATE.state t p = 0 ∧
      u.rd SPARE.PSTATE.state t (s.rd SPARE.MAP.phys t l) = 3 ∧ u.rd CORE.STATUS.state c = 1 ∧ u.rd CORE.ENGINE_STATE.ce_ae_failed c = 0 ∧
      (u.core c).spare = none ∧ (u.rd (hdrStatus .SPARE) t).testBit Ev.SUBSTITUTED.bit = true ∧ u.sram = s.sram) ∧
  (∀ (s : State) (m : MasterId) (t : TileId) (l : Fin 64), Admits s m .SPARE t 0x188 → s.corePresent (64 * t.val + l.val) = true →
    (s.core (64 * t.val + l.val)).spare = none → exec (.coreRetire m t l) s = .next ((s.wr CORE.STATUS.state 3 (64 * t.val + l.val)).serveSpares t)) ∧
  (∀ (s : State) (m : MasterId) (t : TileId) (p : Fin 128), Admits s m .SPARE t 0x18C → p.val < 68 →
    (s.rd SPARE.PSTATE.state t p = 1 ∨ s.rd SPARE.PSTATE.state t p = 3 ∨ s.rd SPARE.PSTATE.state t p = 5) → s.testBusy btCore (68 * t.val + p.val) = false →
    ∃ u, exec (.coreTest m t p) s = .next u ∧ u.rd SPARE.PSTATE.state t p = 4 ∧ u.rd SPARE.TEST_RESULT.result t = 1 ∧
      u.testBusy btCore (68 * t.val + p.val) = true ∧ u.cores = s.cores ∧ u.sram = s.sram)

/-- Descriptors start in order, and leave with their signal. -/
def Obligations.DescriptorsRun : Prop :=
  -- R76, R79, R80: the oldest descriptor of a stream starts when its flag suffices, which it takes; a malformed one, or one whose core-store area
  -- crosses the end of the store, ends in a fault and moves nothing. That it is checked at its start, its counts taken, is log entry 158.
  (∀ (s : State) (c : CoreId) (n : StreamId) (d : Desc), s.nextDesc c n = some d → s.mayTake c n (descWaits d.words) = true →
    (malformed d.words = false → (∀ a ∈ localAreas d.words, a.1 + a.2 ≤ 2 ^ 22) →
      exec (.descStart c n) s = .next ((s.takeFlags c (descWaits d.words)).setDesc c { d with phase := 1 })) ∧
    (malformed d.words = true → ∃ t, exec (.descStart c n) s = .next t ∧ t.rd CORE.STATUS.faulted c = 1 ∧
      (t.rd (hdrStatus .CORE) c).testBit Ev.DESC_FAULT.bit = true ∧ (t.core c).cmds = (s.core c).cmds ∧ t.sram = s.sram) ∧
    (malformed d.words = false → (∃ a ∈ localAreas d.words, 2 ^ 22 < a.1 + a.2) → ∃ t, exec (.descStart c n) s = .next t ∧
      t.rd CORE.STATUS.faulted c = 1 ∧ (t.core c).cmds = (s.core c).cmds ∧ t.sram = s.sram)) ∧
  -- R76, R81, R91, R104: a descriptor whose movement is over leaves, the words it wrote stay as they are, and it adds 1 to its flag if it did not
  -- fault; one that moves, or waits for an answer, stays.
  (∀ (s : State) (c : CoreId) (n : StreamId) (i : Fin 64) (d : Desc) (t : State), s.descAt c n i = some d →
    t = s.setCore c { s.core c with descs := (s.core c).descs.filter (fun e => e.id != d.id), racing := (s.core c).racing.filter (fun x => x.1 != d.id) } →
    (d.phase = 2 → (s.fab.flights.any fun f => f.core == some c.val && f.desc == d.id) = false →
      ((d.fault = true ∨ dw d.words 0 6 6 = 0) → exec (.descComplete c n i) s = .next t) ∧
      (d.fault = false → dw d.words 0 6 6 = 1 → s.flag c (dw d.words 0 23 16) < 255 →
        exec (.descComplete c n i) s = .next (t.wr CORE.FLAG.value (s.flag c (dw d.words 0 23 16) + 1) c (dw d.words 0 23 16)))) ∧
    (d.phase ≠ 2 ∨ (s.fab.flights.any fun f => f.core == some c.val && f.desc == d.id) = true → exec (.descComplete c n i) s = .next s))

/-- AFFINE, GATHER and SCATTER move the pieces their tables give. -/
def Obligations.TransfersMovePieces : Prop :=
  -- R82: the runs of an AFFINE descriptor: dimension 1 varies fastest, and run (k1..k5) lies at base + k1*stride1 + ... + k5*stride5 modulo 2^64.
  (∀ (w k1 k2 k3 k4 k5 : Nat), let cnt := fun i => bits (w / 2 ^ 128) (16 * i + 15) (16 * i)
    let str := fun i => toPat 64 (sext 32 (dw w (6 + i) 31 0))
    k1 < cnt 1 → k2 < cnt 2 → k3 < cnt 3 → k4 < cnt 4 → k5 < cnt 5 →
    (affineAddrs w)[k1 + cnt 1 * (k2 + cnt 2 * (k3 + cnt 3 * (k4 + cnt 4 * k5)))]? =
      some ((dw w 2 63 0 + k1 * str 1 + k2 * str 2 + k3 * str 3 + k4 * str 4 + k5 * str 5) % 2 ^ 64) ∧
    (affineAddrs w).length = cnt 1 * cnt 2 * cnt 3 * cnt 4 * cnt 5) ∧
  -- R76, R80, R82, R83: AFFINE, GATHER and SCATTER move the pieces their tables give, in order; a piece of this module that the partition does not
  -- own ends the descriptor with ADDR_FAULT before anything moves. A piece written to the core store is there, and nothing else of the SRAM changes.
  -- That writes wait for a message of the tile to the same tile is log entry 66.
  ((∀ (s : State) (c : CoreId) (n : StreamId) (i : Fin 64) (d : Desc) (p : Nat), s.descAt c n i = some d → s.partOfCore c = some p → d.phase = 1 →
    (descKind d = 0 → s.badPiece c p (affinePieces d.words) = none →
      (dw d.words 0 4 4 = 0 → (∀ x ∈ affinePieces d.words, s.isRemote (c / 64) x.remote = true → (cacheBytes d.cache x.remote x.n).isSome = true) →
        exec (.affine c n i) s = .next (s.moveIn c p d (affinePieces d.words))) ∧
      (dw d.words 0 4 4 = 1 → (∀ x ∈ affinePieces d.words, s.isRemote (c / 64) x.remote = false → s.midBehind (c / 64) (x.remote % 2 ^ 46) = false) →
        exec (.affine c n i) s = .next (s.moveOut c p d [] (affinePieces d.words))) ∧
      (dw d.words 0 4 4 = 1 → (∃ x ∈ affinePieces d.words, s.isRemote (c / 64) x.remote = false ∧ s.midBehind (c / 64) (x.remote % 2 ^ 46) = true) →
        exec (.affine c n i) s = .next s)) ∧
    (∀ a, descKind d = 0 → s.badPiece c p (affinePieces d.words) = some a → exec (.affine c n i) s = .next (s.descFault c d fADDR_FAULT a)) ∧
    (∀ (idx : List Byte) (s1 : State), let len := dw d.words 5 23 0 * (if dw d.words 4 22 22 = 1 then 8 else 4)
      s.coreRead c (dw d.words 4 21 0) len = some idx → s1 = s.coreSee c (dw d.words 4 21 0) len →
      (s1.badPiece c p (rowPieces d.words idx) = none →
        (descKind d = 1 → (∀ x ∈ rowPieces d.words idx, s1.isRemote (c / 64) x.remote = true → (cacheBytes d.cache x.remote x.n).isSome = true) →
          exec (.gather c n i) s = .next (s1.moveIn c p d (rowPieces d.words idx))) ∧
        (descKind d = 2 → (∀ x ∈ rowPieces d.words idx, s1.isRemote (c / 64) x.remote = false → s1.midBehind (c / 64) (x.remote % 2 ^ 46) = false) →
          exec (.scatter c n i) s = .next (s1.moveOut c p d [] (rowPieces d.words idx)))) ∧
      (∀ a, s1.badPiece c p (rowPieces d.words idx) = some a →
        (descKind d = 1 → exec (.gather c n i) s = .next (s1.descFault c d fADDR_FAULT a)) ∧
        (descKind d = 2 → exec (.scatter c n i) s = .next (s1.descFault c d fADDR_FAULT a))))) ∧
  (∀ (s : State) (c p : Nat) (d : Desc) (x : Piece) (xs : List Piece) (bs : List Byte) (s1 s2 : State),
    s.fetch c p d x.remote x.n = (.bytes bs, s1) → s1.putLocal c d.id x.loc bs = (true, s2) → s.moveIn c p d (x :: xs) = s2.moveIn c p d xs) ∧
  (∀ (s : State) (c p : Nat) (d : Desc), s.moveIn c p d [] = s.setDesc c { d with phase := 2 }) ∧
  (∀ (s t : State) (c id off : Nat) (bs : List Byte), s.putLocal c id off bs = (true, t) → t.sramBytes (coreKey c off) bs.length = bs ∧
    (∀ k, (k < coreKey c off ∨ coreKey c off + bs.length ≤ k) → t.sramByte k = s.sramByte k) ∧ t.hbm = s.hbm) ∧
  (∀ (s : State) (c p : Nat) (d : Desc) (x : Piece) (xs : List Piece) (bs : List Byte) (s1 : State), s.coreRead c x.loc x.n = some bs →
    (s.coreSee c x.loc x.n).isRemote (c / 64) x.remote = false → (s.coreSee c x.loc x.n).memWrite p (x.remote % 2 ^ 46) bs = (.ok (), s1) →
    s.moveOut c p d [] (x :: xs) = (s1.add CORE.PERF.count bs.length c 4).moveOut c p d [] xs))

/-- Graph walks write their records, and hash probes their outputs. -/
def Obligations.WalksAndProbes : Prop :=
  -- R84, R85: CSR_WALK and CSC_WALK write the records of the frontier's vertices, then the counts of records and of vertices consumed; a vertex whose
  -- records no longer fit ends the walk before it, one with more records than the whole output holds is a DESC_FAULT. That falling offsets stand for
  -- no edges is log entry 159.
  ((∀ (s : State) (c : CoreId) (n : StreamId) (i : Fin 64) (d : Desc) (p : Nat) (fr : List Byte) (csc : Bool) (k : Walk) (s0 s1 s2 : State),
    s.descAt c n i = some d → s.partOfCore c = some p → d.phase = 1 → s.coreRead c (dw d.words 4 21 0) (4 * dw d.words 5 23 0) = some fr →
    s0 = s.coreSee c (dw d.words 4 21 0) (4 * dw d.words 5 23 0) →
    k = ((List.range (dw d.words 5 23 0)).map fun i => leNat ((fr.drop (4 * i)).take 4)).foldl (fun (k : Walk) x => k.vertex csc c p d x) ⟨s0, [], 0, 0, false, none⟩ →
    (k.got = none → k.s.putLocal c d.id (descLocal d) k.out = (true, s1) →
      s1.putLocal c d.id (dw d.words 11 21 0) (leBytes 4 k.recs ++ leBytes 4 k.used) = (true, s2) →
      (csc = false → descKind d = 3 → exec (.csrWalk c n i) s = .next (s2.setDesc c { d with phase := 2 })) ∧
      (csc = true → descKind d = 4 → exec (.cscWalk c n i) s = .next (s2.setDesc c { d with phase := 2 }))) ∧
    (∀ code a, k.got = some (.fault code a) →
      (csc = false → descKind d = 3 → exec (.csrWalk c n i) s = .next (k.s.descFault c d code a)) ∧
      (csc = true → descKind d = 4 → exec (.cscWalk c n i) s = .next (k.s.descFault c d code a)))) ∧
  (∀ (k : Walk) (csc : Bool) (c p : Nat) (d : Desc) (x : Nat) (bs nbr : List Byte) (s1 s2 : State), k.stop = false → k.got = none → dw d.words 4 23 23 = 0 →
    k.s.fetch c p d ((dw d.words 2 63 0 + (if dw d.words 4 22 22 = 1 then 8 else 4) * x) % 2 ^ 64) (2 * (if dw d.words 4 22 22 = 1 then 8 else 4)) = (.bytes bs, s1) →
    let osz := if dw d.words 4 22 22 = 1 then 8 else 4
    let o0 := leNat (bs.take osz)
    let deg := leNat (bs.drop osz) - o0
    (deg ≤ dw d.words 12 23 0 → k.recs + deg ≤ dw d.words 12 23 0 → s1.fetch c p d ((dw d.words 6 63 0 + 4 * o0) % 2 ^ 64) (4 * deg) = (.bytes nbr, s2) →
      (k.vertex csc c p d x).recs = k.recs + deg ∧ (k.vertex csc c p d x).used = k.used + 1 ∧ (k.vertex csc c p d x).s = s2 ∧
      (k.vertex csc c p d x).out = k.out ++ (List.range deg).flatMap fun e =>
        let v := leNat ((nbr.drop (4 * e)).take 4)
        if csc then leBytes 4 v ++ leBytes 4 x else leBytes 4 x ++ leBytes 4 v) ∧
    (dw d.words 12 23 0 < deg → (k.vertex csc c p d x).got = some (.fault fDESC_FAULT 0) ∧ (k.vertex csc c p d x).out = k.out) ∧
    (deg ≤ dw d.words 12 23 0 → dw d.words 12 23 0 < k.recs + deg →
      (k.vertex csc c p d x).stop = true ∧ (k.vertex csc c p d x).out = k.out ∧ (k.vertex csc c p d x).used = k.used))) ∧
  -- R86: HASH_PROBE: the start bucket of a key, what a bucket answers, and the outputs of the keys in order.
  ((∀ key seed log2 : Nat, 1 ≤ log2 → log2 ≤ 40 → key < 2 ^ 64 → seed < 2 ^ 32 →
    hashBucket key 8 seed log2 = (key * (0x9E3779B97F4A7C15 ^^^ (seed * 2))) % 2 ^ 64 / 2 ^ (64 - log2) ∧ hashBucket key 8 seed log2 < 2 ^ log2) ∧
  (∀ lo hi seed log2 : Nat, lo < 2 ^ 64 → hashBucket (lo + 2 ^ 64 * hi) 16 seed log2 = hashBucket (lo ^^^ hi) 8 seed log2) ∧
  (∀ (s s1 : State) (c p : Nat) (d : Desc) (key ksize fuel b : Nat) (bs : List Byte),
    s.fetch c p d ((descRemote d + 64 * b) % 2 ^ 64) 64 = (.bytes bs, s1) →
    (∀ x, (bucketSlots ksize bs).find? (fun x => x.1 == key) = some x → s.probe c p d key ksize (fuel + 1) b = (.ok (x.2, 0, b), s1)) ∧
    ((bucketSlots ksize bs).find? (fun x => x.1 == key) = none → (bucketSlots ksize bs).any (fun x => x.1 == 2 ^ (8 * if ksize = 16 then 16 else 8) - 1) = true →
      s.probe c p d key ksize (fuel + 1) b = (.ok (0, 1, b), s1)) ∧
    ((bucketSlots ksize bs).find? (fun x => x.1 == key) = none → (bucketSlots ksize bs).any (fun x => x.1 == 2 ^ (8 * if ksize = 16 then 16 else 8) - 1) = false →
      s.probe c p d key ksize 1 b = (.ok (0, 2, b), s1) ∧
      s.probe c p d key ksize (fuel + 2) b = s1.probe c p d key ksize (fuel + 1) ((b + 1) % 2 ^ dw d.words 6 5 0))) ∧
  (∀ (s s1 : State) (c : CoreId) (n : StreamId) (i : Fin 64) (d : Desc) (p : Nat) (ks : List Byte) (k : Probe) (s0 : State), s.descAt c n i = some d →
    s.partOfCore c = some p → d.phase = 1 → descKind d = 5 →
    s.coreRead c (dw d.words 4 21 0) (2 ^ (2 + dw d.words 4 23 22) * dw d.words 5 23 0) = some ks →
    s0 = s.coreSee c (dw d.words 4 21 0) (2 ^ (2 + dw d.words 4 23 22) * dw d.words 5 23 0) →
    k = (List.range (dw d.words 5 23 0)).foldl (fun (k : Probe) j => k.key c p d (2 ^ (2 + dw d.words 4 23 22))
      (leNat ((ks.drop (2 ^ (2 + dw d.words 4 23 22) * j)).take (2 ^ (2 + dw d.words 4 23 22))))) ⟨s0, [], none⟩ →
    (k.got = none → k.s.putLocal c d.id (descLocal d) k.out = (true, s1) → exec (.hashProbe c n i) s = .next (s1.setDesc c { d with phase := 2 })) ∧
    (∀ code a, k.got = some (.fault code a) → exec (.hashProbe c n i) s = .next (k.s.descFault c d code a))) ∧
  (∀ (k : Probe) (c p : Nat) (d : Desc) (key v st b : Nat) (s1 : State), k.got = none →
    k.s.probe c p d key 8 (dw d.words 6 13 8) (hashBucket key 8 (dw d.words 7 31 0) (dw d.words 6 5 0)) = (.ok (v, st, b), s1) →
    (k.key c p d 8 key).out = k.out ++ leBytes 8 v ++ leBytes 8 (st + 256 * b) ∧ (k.key c p d 8 key).s = s1))

/-- R80, R88: what each atomic operation leaves and answers, and ATOMIC over its entries; CAS takes the next entry's low half as its compare value
and skips that entry. Where a word of this module is not the partition's, no entry is performed. MIN and MAX signed are log entry 37, a 4-byte
old value extended with zeros log entry 160, and that it waits for a message of the tile to the same tile log entry 66. -/
def Obligations.AtomicOperations : Prop :=
  (∀ (size old arg cmp : Nat), (size = 4 ∨ size = 8) → old < 2 ^ (8 * size) → arg < 2 ^ (8 * size) → cmp < 2 ^ (8 * size) →
    atomicOp 0 size old arg cmp = (old + arg) % 2 ^ (8 * size) ∧
    (sext (8 * size) (atomicOp 1 size old arg cmp) = min (sext (8 * size) old) (sext (8 * size) arg)) ∧
    (sext (8 * size) (atomicOp 2 size old arg cmp) = max (sext (8 * size) old) (sext (8 * size) arg)) ∧
    (∀ b, (atomicOp 3 size old arg cmp).testBit b = (old.testBit b && arg.testBit b) ∧ (atomicOp 4 size old arg cmp).testBit b = (old.testBit b || arg.testBit b) ∧
      (atomicOp 5 size old arg cmp).testBit b = (old.testBit b ^^ arg.testBit b)) ∧
    atomicOp 6 size old arg cmp = arg ∧ (old = cmp → atomicOp 7 size old arg cmp = arg) ∧ (old ≠ cmp → atomicOp 7 size old arg cmp = old)) ∧
  (∀ (s : State) (c : CoreId) (n : StreamId) (i : Fin 64) (d : Desc) (p : Nat), s.descAt c n i = some d → s.partOfCore c = some p → d.phase = 1 → descKind d = 7 →
    (s.badAtomic c p d = none → (∀ a ∈ s.atomicWords c d, s.midBehind (c / 64) a = false) →
      exec (.atomic c n i) s = .next (s.atomics c p d (aEntries d.words))) ∧
    (s.badAtomic c p d = none → (∃ a ∈ s.atomicWords c d, s.midBehind (c / 64) a = true) → exec (.atomic c n i) s = .next s) ∧
    (∀ a, s.badAtomic c p d = some a → exec (.atomic c n i) s = .next (s.descFault c d fADDR_FAULT a))) ∧
  (∀ w : Nat, (aOp w ≠ 7 → aEntries w = List.range (aCount w)) ∧ (aOp w = 7 → ∀ j, j ∈ aEntries w ↔ j % 2 = 0 ∧ j < aCount w)) ∧
  (∀ (s s0 s1 s2 : State) (c p : Nat) (d : Desc) (j : Nat) (js : List Nat) (old n : Nat) (e : List Byte), n = (if aOp d.words = 7 then 24 else 16) →
    s.coreRead c (descLocal d + 16 * j) n = some e → s0 = s.coreSee c (descLocal d + 16 * j) n →
    s0.isRemote (c / 64) ((descRemote d + leNat (e.take 8)) % 2 ^ 64) = false →
    s0.atomicAt c p ((descRemote d + leNat (e.take 8)) % 2 ^ 64 % 2 ^ 46) (aOp d.words) (aSize d.words) (leNat ((e.drop 8).take 8)) (leNat (e.drop 16)) = (.ok old, s1) →
    s1.putLocal c d.id (descLocal d + 16 * j + 8) (leBytes 8 old) = (true, s2) →
    s.atomics c p d (j :: js) = ((s2.add CORE.PERF.count (aSize d.words) c 3).add CORE.PERF.count (aSize d.words) c 4).atomics c p d js) ∧
  (∀ (s : State) (c p : Nat) (d : Desc), s.atomics c p d [] = s.setDesc c { d with phase := 2 })

/-- Matrix commands, and the completion of engine commands. -/
def Obligations.EngineCommands : Prop :=
  -- R93 to R95, R100, R121 to R126, R134 to R137: the matrix commands: what each leaves in the accumulators of the engine it was meant for or in the
  -- core store, the counts taken and the clocks counted; malformed ones, exact ones on a pair of the other grid, and operations of no table, stop
  -- with DESC_FAULT.
  (∀ (s : State) (c : CoreId) (e : MeId) (k k2 : EngCmd) (r : Fin 3) (op : Nat) (fa : Fmt) (u v : State), Starts s c e op k →
    u = s.cmdStarted c e k → u.residue c (k.running e) r = (k2, v) →
    (Fmt.ofCode (mFa k.words) = some fa → matrixBad (u.repeatableOn c) k.words = false → matrixCross k.words = false →
      (∀ (fb : Fmt) (a b : List (List Machine.Num)) (w : State), Fmt.ofCode (mFb k.words) = some fb →
        v.operandRows c fa (cmdField k.words 1 21 0) (cmdField k.words 4 31 16) (mK k.words) = some a →
        v.operandRows c fb (cmdField k.words 2 21 0) (cmdField k.words 7 15 0) (mK k.words) = some b →
        w = v.seeAreas c (rowAreas (cmdField k.words 1 21 0) (cmdField k.words 4 31 16) (opRow fa (mK k.words)) ++
          rowAreas (cmdField k.words 2 21 0) (cmdField k.words 7 15 0) (opRow fb (mK k.words))) →
        (op = 1 → v.gridBad c k.engine k.words = false → exec (.mma c e r) s = .next ((w.setAcc c k.engine (mAt k.words) (mExact k.words) ((List.range 256).map fun i =>
          mmaElem (mAlg k.words) fa (mExact k.words) (v.accElem c k.engine (mAt k.words) (mExact k.words) i) (a.getD (i / 16) []) (b.getD (i % 16) []))).add
            CORE.PERF.count (mmaClocks k.words) c 1)) ∧
        (op = 2 → exec (.mmaInit c e r) s = .next ((w.setAcc c k.engine (mAt k.words) (mExact k.words) ((List.range 256).map fun i =>
          mmaElem (mAlg k.words) fa (mExact k.words) (identity (mAlg k.words) fa (mExact k.words)) (a.getD (i / 16) []) (b.getD (i % 16) []))).add
            CORE.PERF.count (mmaClocks k.words) c 1)) ∧
        (op = 6 → exec (.mmaStore c e r) s = .next ((w.setAcc c k.engine (mAt k.words) (mExact k.words) ((List.range 256).map fun i =>
          mmaElem (mAlg k.words) fa (mExact k.words) (identity (mAlg k.words) fa (mExact k.words)) (a.getD (i / 16) []) (b.getD (i % 16) []))).add
            CORE.PERF.count (mmaClocks k.words) c 1))) ∧
      (op = 5 → exec (.zeroAcc c e) s = .next ((u.setAcc c k.engine (mAt k.words) (mExact k.words)
        (List.replicate 256 (identity (mAlg k.words) fa (mExact k.words)))).add CORE.PERF.count 1 c 1)) ∧
      (∀ (o : Fmt) (rows : List (List Byte)), op = 3 → Fmt.ofCode (mOut k.words) = some o → (mExact k.words && o == .int 64) = false →
        (List.range 16).mapM (fun i => u.coreRead c (cmdField k.words 3 21 0 + 64 * cmdField k.words 7 31 16 * i) (cRow k.words o)) = some rows →
        exec (.loadAcc c e) s = .next (((u.seeAreas c (cAreas k.words)).setAcc c k.engine (mAt k.words) (mExact k.words) (rows.flatMap fun bs =>
          (unpack o bs 16).map fun p => elemOfNum (mAlg k.words) fa (mExact k.words) (loadNum (mAlg k.words) o p))).add CORE.PERF.count 8 c 1)) ∧
      (∀ rows : List (List Byte), op = 3 → Fmt.ofCode (mOut k.words) = some (.int 64) → mExact k.words = true →
        (List.range 16).mapM (fun i => u.coreRead c (cmdField k.words 3 21 0 + 64 * cmdField k.words 7 31 16 * i) 256) = some rows →
        exec (.loadAcc c e) s = .next (((u.seeAreas c (cAreas k.words)).setAcc c k.engine (mAt k.words) true (rows.flatMap fun bs =>
          (List.range 16).map fun j => leNat ((bs.drop (16 * j)).take 16))).add CORE.PERF.count 8 c 1)) ∧
      (op = 1 → v.gridBad c k.engine k.words = true → exec (.mma c e r) s = .next (v.cmdFault c k2 fDESC_FAULT 0)) ∧
      (op = 4 → u.gridBad c k.engine k.words = true → exec (.storeAcc c e) s = .next (u.cmdFault c (k.running e) fDESC_FAULT 0)) ∧
      (∀ t : State, op = 4 → u.gridBad c k.engine k.words = false → u.storeAcc c (k.running e) = (true, t) →
        exec (.storeAcc c e) s = .next (t.add CORE.PERF.count 8 c 1))) ∧
    (∀ i j, (i, j) ∈ [(Instr.mma c e r, 1), (Instr.mmaInit c e r, 2), (Instr.loadAcc c e, 3), (Instr.storeAcc c e, 4), (Instr.zeroAcc c e, 5), (Instr.mmaStore c e r, 6)] →
      (op = j → matrixBad (u.repeatableOn c) k.words = true → exec i s = .next (u.cmdFault c (k.running e) fDESC_FAULT 0)) ∧
      (op = 0 ∨ 6 < op → exec i s = .next (u.cmdFault c (k.running e) fDESC_FAULT 0)))) ∧
  -- R95, R76, R104, R100: a finished engine command leaves its engine and signals; MMA_STORE's store part follows its product; a failed residue check
  -- that passes on repeat is counted; one that fails takes the engine that runs the command out of service, and the next working one of its kind runs
  -- it.
  ((∀ (s : State) (c : CoreId) (e : Fin 6) (k k2 : EngCmd) (r : Fin 3) (v : State), (s.core c).cmds.find? (fun k => k.on == e.val && k.phase == 1) = some k →
    s.residue c k r = (k2, v) →
    ((4 ≤ e.val ∨ bits k.words 7 0 ≠ 6 ∨ k.fault = true) → exec (.engineCmdComplete c e r) s = .next (v.finishCmd c k2)) ∧
    (e.val < 4 → bits k.words 7 0 = 6 → k.fault = false → exec (.engineCmdComplete c e r) s = .next (v.setEngCmd c { k2 with phase := 2 }))) ∧
  (∀ (s : State) (c : CoreId) (e : Fin 6) (r : Fin 3), (s.core c).cmds.find? (fun k => k.on == e.val && k.phase == 1) = none →
    exec (.engineCmdComplete c e r) s = .next s) ∧
  (∀ (s : State) (c : CoreId) (e : MeId) (k : EngCmd) (t : State), (s.core c).cmds.find? (fun k => k.on == e.val && k.phase == 2) = some k →
    s.storeAcc c k = (true, t) → exec (.mmaStoreStorePart c e) s = .next ((t.add CORE.PERF.count 8 c 1).finishCmd c k)) ∧
  (∀ (s : State) (c : CoreId) (k : EngCmd), k.fault = false → (∀ f ∈ cmdSigs k.words, s.flag c f < 254) →
    ((s.finishCmd c k).core c).cmds = (s.core c).cmds.filter (fun j => j.id != k.id) ∧
    ∀ f, f < 256 → (s.finishCmd c k).flag c f = s.flag c f + ((cmdSigs k.words).filter (· == f)).length) ∧
  (∀ (s : State) (c : Nat) (k : EngCmd), s.residue c k 0 = (k, s) ∧ s.residue c k 1 = (k, s.add CORE.RETRIES.passed 1 c)) ∧
  (∀ (s : State) (c : Nat) (k k2 : EngCmd) (v : State), k.on < 4 → c < 512 → s.residue c k 2 = (k2, v) →
    v.sram = s.sram ∧ (v.rd CORE.ENGINE_STATE.me_failed c).testBit k.on = true ∧ (v.rd (hdrStatus .CORE) c).testBit Ev.ENGINE_FAULT.bit = true ∧
    k2.words = k.words ∧ k2.engine = k.engine ∧ ∀ e, v.servedBy c k.engine = some e → k2.on = e))

/-- Elementwise vector commands: arithmetic, functions, patterns, selection and movement. -/
def Obligations.VectorElements : Prop :=
  -- R96, R104, R131 to R133: vector commands of elementwise arithmetic and functions: dst takes the operation of the sources, computed exactly and
  -- rounded once; a function is taken of the input rounded to FP32 and holds the bound of the rule (log entry 140: within it the value is the
  -- module's own). A malformed vector command of any operation, and an operation of no table, stop with DESC_FAULT.
  ((∀ (s : State) (c : CoreId) (e : VeId) (k k2 : EngCmd) (r : Fin 3) (u v v0 v1 : State) (f : Fmt) (xs ys : List Nat), u = s.cmdStarted c (4 + e) k →
    u.residue c (k.running (4 + e)) r = (k2, v) → Starts s c (4 + e) (bits k.words 7 0) k → Fmt.ofCode (vIn k.words) = some f →
    v.elems c false f (vSrc0 k.words) (vCount k.words) = .ok xs → v0 = v.coreSee c (vSrc0 k.words) (f.area (vCount k.words)) →
    v1 = v0.coreSee c (vSrc1 k.words) (f.area (vCount k.words)) →
    (∀ i op g, (i, op, g) ∈ [(Instr.veAdd c e r, 0x00, Machine.Num.add), (Instr.veSub c e r, 0x01, fun (x y : Machine.Num) => x.add y.neg), (Instr.veMul c e r, 0x02, Machine.Num.mul),
        (Instr.veMin c e r, 0x04, Machine.Num.min), (Instr.veMax c e r, 0x05, Machine.Num.max)] →
      bits k.words 7 0 = op → vectorBad (u.repeatableOn c) .two k.words = false → v.elems c false f (vSrc1 k.words) (vCount k.words) = .ok ys →
      exec i s = .next ((v1.putNums c k2 ((List.zip xs ys).map fun p => g (f.decode p.1) (f.decode p.2))).add CORE.PERF.count (vecClocks k.words) c 2)) ∧
    (∀ i op g, (i, op, g) ∈ [(Instr.veAbs c e r, 0x06, Machine.Num.abs), (Instr.veNeg c e r, 0x07, Machine.Num.neg)] →
      bits k.words 7 0 = op → vectorBad (u.repeatableOn c) .none k.words = false →
      exec i s = .next ((v0.putNums c k2 (xs.map fun x => g (f.decode x))).add CORE.PERF.count (vecClocks k.words) c 2)) ∧
    (∀ i op n, (i, op, n) ∈ [(Instr.veExp c e r, 0x10, 0), (Instr.veLog c e r, 0x11, 1), (Instr.veRecip c e r, 0x12, 2), (Instr.veRsqrt c e r, 0x13, 3),
        (Instr.veTanh c e r, 0x14, 4), (Instr.veSigmoid c e r, 0x15, 5)] →
      bits k.words 7 0 = op → vectorBad (u.repeatableOn c) .none k.words = false →
      exec i s = .next ((v0.putNums c k2 (xs.map fun x => fp32Result n (f.decode x).fp32)).add
        CORE.PERF.count (vecClocks k.words) c 2)) ∧
    (∀ (o : Fmt) (ds : List Nat), bits k.words 7 0 = 0x03 → vectorBad (u.repeatableOn c) .two k.words = false → Fmt.ofCode (vOut k.words) = some o →
      v.elems c false f (vSrc1 k.words) (vCount k.words) = .ok ys → v.elems c false o (vDst k.words) (vCount k.words) = .ok ds →
      exec (.veFma c e r) s = .next (((v1.coreSee c (vDst k.words) (o.area (vCount k.words))).putNums c k2 ((List.zip (List.zip xs ys) ds).map fun p =>
        ((f.decode p.1.1).mul (f.decode p.1.2)).add (o.decode p.2))).add CORE.PERF.count (vecClocks k.words) c 2)) ∧
    (bits k.words 7 0 = 0x08 → vectorBad (u.repeatableOn c) .value k.words = false →
      exec (.veCmp c e r) s = .next ((v0.putNums c k2 (xs.map fun x => .fin false (if (compareNum (vAux k.words % 8) (f.decode x)
        (f.decode (cmdField k.words 2 31 0 % 2 ^ f.bits))).getD false then 1 else 0) 0)).add CORE.PERF.count (vecClocks k.words) c 2)) ∧
    (∀ o : Fmt, bits k.words 7 0 = 0x0E → vectorBad (u.repeatableOn c) .none k.words = false → Fmt.ofCode (vOut k.words) = some o →
      (o.isBlock = false → exec (.veCvt c e r) s = .next ((v0.putNums c k2 (xs.map f.decode)).add CORE.PERF.count (vecClocks k.words) c 2)) ∧
      (o.isBlock = true → exec (.veCvt c e r) s = .next ((v0.cvtBlock c k2 o f xs).add CORE.PERF.count (vecClocks k.words) c 2)))) ∧
  (∀ (s : State) (c : CoreId) (e : VeId) (k : EngCmd) (r : Fin 3) (op : Nat) (u : State), Starts s c (4 + e) op k → u = s.cmdStarted c (4 + e) k →
    ∀ i j use, (i, j, use) ∈ [
        (Instr.veAdd c e r, 0x0, Src1.two), (Instr.veSub c e r, 0x1, Src1.two), (Instr.veMul c e r, 0x2, Src1.two), (Instr.veFma c e r, 0x3, Src1.two), 
        (Instr.veMin c e r, 0x4, Src1.two), (Instr.veMax c e r, 0x5, Src1.two), (Instr.veAbs c e r, 0x6, Src1.none), 
        (Instr.veNeg c e r, 0x7, Src1.none), (Instr.veCmp c e r, 0x8, Src1.value), (Instr.veAnd c e r, 0x9, Src1.two), 
        (Instr.veOr c e r, 0xa, Src1.two), (Instr.veXor c e r, 0xb, Src1.two), (Instr.veShl c e r, 0xc, Src1.two), (Instr.veShr c e r, 0xd, Src1.two), 
        (Instr.veCvt c e r, 0xe, Src1.none), (Instr.veSel c e r, 0xf, Src1.two), (Instr.veExp c e r, 0x10, Src1.none), 
        (Instr.veLog c e r, 0x11, Src1.none), (Instr.veRecip c e r, 0x12, Src1.none), (Instr.veRsqrt c e r, 0x13, Src1.none), 
        (Instr.veTanh c e r, 0x14, Src1.none), (Instr.veSigmoid c e r, 0x15, Src1.none), (Instr.veRowsum c e r, 0x30, Src1.none), 
        (Instr.veRowmin c e r, 0x31, Src1.none), (Instr.veRowmax c e r, 0x32, Src1.none), (Instr.veSum c e r, 0x33, Src1.none), 
        (Instr.veRedMin c e r, 0x34, Src1.none), (Instr.veRedMax c e r, 0x35, Src1.none), (Instr.veArgmin c e r, 0x36, Src1.none), 
        (Instr.veArgmax c e r, 0x37, Src1.none), (Instr.veScanAdd c e r, 0x40, Src1.none), (Instr.veScanMin c e r, 0x41, Src1.none), 
        (Instr.veScanMax c e r, 0x42, Src1.none), (Instr.veSort c e r, 0x50, Src1.none), (Instr.veSortKv c e r, 0x51, Src1.two), 
        (Instr.veTopk c e r, 0x52, Src1.none), (Instr.veTopkKv c e r, 0x53, Src1.two), (Instr.veCompact c e r, 0x60, Src1.two), 
        (Instr.veCompactIdx c e r, 0x61, Src1.two), (Instr.vePermute c e r, 0x70, Src1.two), (Instr.veFill c e r, 0x71, Src1.none)] →
      (op = j → vectorBad (u.repeatableOn c) use k.words = true → exec i s = .next (u.cmdFault c (k.running (4 + e)) fDESC_FAULT 0)) ∧
      (knownOp 4 op = false → exec i s = .next (u.cmdFault c (k.running (4 + e)) fDESC_FAULT 0)))) ∧
  -- R96, R97, R131: vector commands on patterns, selection and movement. SEL's kept elements, shift counts, index width and FILL's immediate are read
  -- as assumption 47 says.
  (∀ (s : State) (c : CoreId) (e : VeId) (k k2 : EngCmd) (r : Fin 3) (u v v0 v1 : State) (f : Fmt) (xs ys : List Nat), u = s.cmdStarted c (4 + e) k →
    u.residue c (k.running (4 + e)) r = (k2, v) → Starts s c (4 + e) (bits k.words 7 0) k → Fmt.ofCode (vIn k.words) = some f →
    v.elems c false f (vSrc0 k.words) (vCount k.words) = .ok xs → v0 = v.coreSee c (vSrc0 k.words) (f.area (vCount k.words)) →
    v1 = v0.coreSee c (vSrc1 k.words) (f.area (vCount k.words)) →
    (∀ i op g, (i, op, g) ∈ [(Instr.veAnd c e r, 0x09, fun _ x y => x &&& y), (Instr.veOr c e r, 0x0A, fun _ x y => x ||| y), (Instr.veXor c e r, 0x0B, fun _ x y => x ^^^ y),
        (Instr.veShl c e r, 0x0C, shlPat), (Instr.veShr c e r, 0x0D, shrPat)] →
      bits k.words 7 0 = op → vectorBad (u.repeatableOn c) .two k.words = false → v.elems c false f (vSrc1 k.words) (vCount k.words) = .ok ys →
      vIn k.words = vOut k.words →
      exec i s = .next ((v1.putPats c k2 f (vDst k.words) ((List.zip xs ys).map fun p => g f p.1 p.2 % 2 ^ f.bits)).add
        CORE.PERF.count (vecClocks k.words) c 2)) ∧
    (∀ (o : Fmt) (ms ds : List Nat), bits k.words 7 0 = 0x0F → vectorBad (u.repeatableOn c) .two k.words = false → Fmt.ofCode (vOut k.words) = some o →
      v.elems c false .bool (vSrc1 k.words) (vCount k.words) = .ok ms → v.elems c false o (vDst k.words) (vCount k.words) = .ok ds →
      exec (.veSel c e r) s = .next ((((v0.coreSee c (vSrc1 k.words) (Fmt.bool.area (vCount k.words))).coreSee c (vDst k.words) (o.area (vCount k.words))).putRounded c k2 o (fun rnd (p : Nat × Nat × Nat) => if p.2.1 = 1 then o.encode rnd (f.decode p.1) else p.2.2)
        (vDst k.words) (List.zip xs (List.zip ms ds))).add CORE.PERF.count (vecClocks k.words) c 2)) ∧
    (∀ (is zs : List Nat), bits k.words 7 0 = 0x70 → vectorBad (u.repeatableOn c) .two k.words = false → vIn k.words = vOut k.words →
      v.elems c false (.int 32) (vSrc1 k.words) (vCount k.words) = .ok is → v.elems c false f (vSrc0 k.words) (is.foldl max 0 + 1) = .ok zs →
      exec (.vePermute c e r) s = .next ((((v.coreSee c (vSrc1 k.words) ((Fmt.int 32).area (vCount k.words))).coreSee c (vSrc0 k.words) (f.area (is.foldl max 0 + 1))).putPats
        c k2 f (vDst k.words) (is.map fun i => zs.getD i 0)).add CORE.PERF.count (vecClocks k.words) c 2)) ∧
    (∀ o : Fmt, bits k.words 7 0 = 0x71 → vectorBad (u.repeatableOn c) .none k.words = false → Fmt.ofCode (vOut k.words) = some o →
      exec (.veFill c e r) s = .next ((v.putPats c k2 o (vDst k.words) (List.replicate (vCount k.words) (vAux k.words % 2 ^ o.bits))).add
        CORE.PERF.count (vecClocks k.words) c 2)))

/-- Vector reductions, scans, sorts, top-k and compaction. -/
def Obligations.VectorFolds : Prop :=
  -- R96, R133, R140: reductions and scans. With accumulate, the old dst takes part. The order of a sum of floats that is not exact is the module's
  -- own (assumption 48), and so is what ARGMIN and ARGMAX leave with accumulate.
  (∀ (s : State) (c : CoreId) (e : VeId) (k k2 : EngCmd) (r : Fin 3) (u v v0 : State) (f o : Fmt) (xs : List Nat), u = s.cmdStarted c (4 + e) k →
    u.residue c (k.running (4 + e)) r = (k2, v) → Starts s c (4 + e) (bits k.words 7 0) k → Fmt.ofCode (vIn k.words) = some f → Fmt.ofCode (vOut k.words) = some o →
    v.elems c false f (vSrc0 k.words) (vCount k.words) = .ok xs → v0 = v.coreSee c (vSrc0 k.words) (f.area (vCount k.words)) → vectorBad (u.repeatableOn c) .none k.words = false →
    (∀ i op grp, (i, op, grp) ∈ [(Instr.veRowsum c e r, 0x30, columns (vAux k.words)), (Instr.veSum c e r, 0x33, fun xs => [xs]), (Instr.veScanAdd c e r, 0x40, prefixes)] →
      bits k.words 7 0 = op → vExact k.words = false → vAcc k.words = false →
      exec i s = .next ((v0.putNums c k2 ((grp xs).map fun g => plainSum f (g.map f.decode))).add CORE.PERF.count (vecClocks k.words) c 2)) ∧
    (∀ i op grp g, (i, op, grp) ∈ [(Instr.veRowsum c e r, 0x30, columns (vAux k.words)), (Instr.veSum c e r, 0x33, fun xs => [xs]), (Instr.veScanAdd c e r, 0x40, prefixes)] →
      bits k.words 7 0 = op → vExact k.words = true → vAcc k.words = false → gridOf f = some g → f ≠ .int 64 → o ≠ .int 64 →
      exec i s = .next ((v0.putRounded c k2 o (encodeRaw o) (vDst k.words) ((grp xs).map fun l => match l.map fun x => place g true (f.decode x) with
        | x :: l => l.foldl combineRaw x | [] => rawZero 0)).add CORE.PERF.count (vecClocks k.words) c 2)) ∧
    (∀ i op grp pick, (i, op, grp, pick) ∈ [(Instr.veRowmin c e r, 0x31, columns (vAux k.words), Machine.Num.min), (Instr.veRowmax c e r, 0x32, columns (vAux k.words), Machine.Num.max),
        (Instr.veRedMin c e r, 0x34, (fun xs => [xs]), Machine.Num.min), (Instr.veRedMax c e r, 0x35, (fun xs => [xs]), Machine.Num.max),
        (Instr.veScanMin c e r, 0x41, prefixes, Machine.Num.min), (Instr.veScanMax c e r, 0x42, prefixes, Machine.Num.max)] →
      bits k.words 7 0 = op → vAcc k.words = false →
      exec i s = .next ((v0.putNums c k2 ((grp xs).map fun g => match g.map f.decode with | x :: l => l.foldl pick x | [] => .fin false 0 0)).add
        CORE.PERF.count (vecClocks k.words) c 2)) ∧
    (∀ i op less, (i, op, less) ∈ [(Instr.veArgmin c e r, 0x36, fun (x y : Machine.Num) => x.tlt y), (Instr.veArgmax c e r, 0x37, fun (x y : Machine.Num) => Machine.Num.tlt y x)] →
      bits k.words 7 0 = op → vAcc k.words = false → ∀ p, p < xs.length → (∀ q, q < xs.length → less (f.decode (xs.getD q 0)) (f.decode (xs.getD p 0)) = false) →
      (∀ q, q < p → less (f.decode (xs.getD p 0)) (f.decode (xs.getD q 0)) = true) →
      exec i s = .next ((v0.putNums c k2 [intNum p]).add CORE.PERF.count (vecClocks k.words) c 2))) ∧
  -- R97: sort, top-k and compaction. Where payloads go and the compare value of COMPACT are assumption 47.
  (∀ (s : State) (c : CoreId) (e : VeId) (k k2 : EngCmd) (r : Fin 3) (u v v0 : State) (f : Fmt) (xs : List Nat), u = s.cmdStarted c (4 + e) k →
    u.residue c (k.running (4 + e)) r = (k2, v) → Starts s c (4 + e) (bits k.words 7 0) k → Fmt.ofCode (vIn k.words) = some f →
    v.elems c false f (vSrc0 k.words) (vCount k.words) = .ok xs → v0 = v.coreSee c (vSrc0 k.words) (f.area (vCount k.words)) →
    vIn k.words = vOut k.words →
    (bits k.words 7 0 = 0x50 → vectorBad (u.repeatableOn c) .none k.words = false →
      exec (.veSort c e r) s = .next ((v0.putPats c k2 f (vDst k.words) ((sortKeys f false xs).map (·.1))).add CORE.PERF.count (vecClocks k.words) c 2)) ∧
    (bits k.words 7 0 = 0x52 → vectorBad (u.repeatableOn c) .none k.words = false →
      exec (.veTopk c e r) s = .next ((v0.putPats c k2 f (vDst k.words) (((sortKeys f true xs).take (vAux k.words)).map (·.1))).add
        CORE.PERF.count (vecClocks k.words) c 2)) ∧
    (∀ i op desc n, (i, op, desc, n) ∈ [(Instr.veSortKv c e r, 0x51, false, xs.length), (Instr.veTopkKv c e r, 0x53, true, vAux k.words)] →
      bits k.words 7 0 = op → vectorBad (u.repeatableOn c) .two k.words = false →
      let ks := (sortKeys f desc xs).take n
      let w := v0.putPats c k2 f (vDst k.words) (ks.map (·.1))
      (w.cmdStopped c k.id = true → exec i s = .next (w.add CORE.PERF.count (vecClocks k.words) c 2)) ∧
      (w.cmdStopped c k.id = false → ∀ ps, w.elems c false (.int 32) (vSrc1 k.words) (vCount k.words) = .ok ps →
        exec i s = .next (((w.coreSee c (vSrc1 k.words) ((Fmt.int 32).area (vCount k.words))).putElems c k2 false (.int 32)
          ((vDst k.words + f.area ks.length + 63) / 64 * 64) (ks.map fun x => ps.getD x.2 0)).add CORE.PERF.count (vecClocks k.words) c 2))) ∧
    (bits k.words 7 0 = 0x60 → vectorBad (u.repeatableOn c) .two k.words = false →
      ∃ cv : Machine.Num,
      let hit := xs.filter fun x => (compareNum (vAux k.words % 8) (f.decode x) cv).getD false
      let w := v0.putElems c k2 false (.int 32) (vSrc1 k.words) [hit.length]
      exec (.veCompact c e r) s = .next ((if w.cmdStopped c k.id = true then w else w.putPats c k2 f (vDst k.words) hit).add CORE.PERF.count (vecClocks k.words) c 2)) ∧
    (bits k.words 7 0 = 0x61 → vectorBad (u.repeatableOn c) .two k.words = false →
      ∃ cv : Machine.Num,
      let hit := xs.zipIdx.filter fun x => (compareNum (vAux k.words % 8) (f.decode x.1) cv).getD false
      let w := v0.putElems c k2 false (.int 32) (vSrc1 k.words) [hit.length]
      exec (.veCompactIdx c e r) s = .next ((if w.cmdStopped c k.id = true then w else w.putNums c k2 (hit.map fun x => intNum x.2)).add
        CORE.PERF.count (vecClocks k.words) c 2)) ∧
    ((sortKeys f false xs).map (·.1)).Perm xs ∧ (sortKeys f false xs).Pairwise (fun a b => (f.decode b.1).tlt (f.decode a.1) = false))

/-- R107 to R119, R133: integer conversions wrap nowhere: they are limited to the range; a written integer reads back; NaN becomes 0; bit patterns of
two's complement; the total order is total; the generator of R118 keeps 64 bits and one step of it is the stated one. -/
def Obligations.NumbersRound : Prop :=
  (∀ (w : Nat) (x : Int), 1 ≤ w → w ≤ 64 → -(2 ^ (w - 1)) ≤ x → x ≤ 2 ^ (w - 1) - 1 → sext w ((Fmt.int w).encode .near (intNum x)) = x) ∧
  (∀ (w : Nat) (x : Int), 1 ≤ w → w ≤ 64 → 2 ^ (w - 1) - 1 < x → sext w ((Fmt.int w).encode .near (intNum x)) = 2 ^ (w - 1) - 1) ∧
  (∀ (w : Nat) (x : Int), 1 ≤ w → w ≤ 64 → x < -(2 ^ (w - 1)) → sext w ((Fmt.int w).encode .near (intNum x)) = -(2 ^ (w - 1))) ∧
  (∀ (w : Nat) (rnd : Rnd), (Fmt.int w).encode rnd .nan = 0) ∧
  (∀ a b : Machine.Num, a.tlt b = true → b.tlt a = false) ∧
  (∀ x y : Nat, combineRaw (rawZero 0 + x % 2 ^ 124) (rawZero 0 + y % 2 ^ 124) = (x + y) % 2 ^ 124) ∧
  (∀ a b : Nat, rawGrid a = rawGrid b → combineRaw a b = combineRaw b a) ∧
  (∀ g : Nat, (rngNext g).2 < 2 ^ 32)

/-- R147, R148, R154 to R158, R164: a request to a stack in service: what it reads or writes, and what a correctable and an uncorrectable codeword
change; a transfer that succeeds after failed ones is one retry. A request to a stack that takes none gets an address fault, and its sender is
noted. -/
def Obligations.StackRequests : Prop :=
  (∀ (s : State) (k : StackId) (p : PartId) (write : Bool) (off : BitVec 37) (n : Fin 33) (data : BitVec 256) (crc : Fin 5) (flip : BitVec 288), s.stackServes k = false →
    ∃ t, exec (.stackAccess k (some p) write off n data crc flip) s = .next t ∧ (t.stk k).users.testBit p = true ∧ t.hbm = s.hbm ∧ t.sram = s.sram ∧ t.outbox = s.outbox ∧
      ((s.part p).inStep = true → (s.part p).fault = none → (t.part p).fault = some (fADDR_FAULT, k.val * 2 ^ 37 + off.toNat)) ∧
      exec (.stackAccess k none write off n data crc flip) s = .next s) ∧
  ∀ (s : State) (k : StackId) (part : Option PartId) (off : BitVec 37) (n : Fin 33) (data : BitVec 256) (crc : Fin 5) (flip : BitVec 288), s.stackServes k = true →
    let g := (s.locOf k off.toNat).granKey k
    let m := Assoc.get 0 s.hbmErr g ^^^ flip.toNat
    let len := min n.val (32 - off.toNat % 32)
    (crc.val < 4 → errBytes m = [] →
      (∃ t, exec (.stackAccess k part false off n data crc flip) s = .next t ∧
        t.outbox = s.outbox ++ [.bytes (((s.granBytes g).drop (off.toNat % 32)).take len)] ∧ t.hbm = s.hbm ∧ t.sram = s.sram ∧
        t.rd HS.READ.bytes k = min (s.rd HS.READ.bytes k + len) (2 ^ 64 - 1) ∧ t.rd ECC.CE_COUNT.count k = s.rd ECC.CE_COUNT.count k ∧
        t.rd HS.LINK.retries k = min (s.rd HS.LINK.retries k + (if crc.val = 0 then 0 else 1)) (2 ^ 16 - 1)) ∧
      (∃ t, exec (.stackAccess k part true off n data crc flip) s = .next t ∧
        (t.granBytes g) = overlay (s.granBytes g) (off.toNat % 32) ((leBytes 32 data.toNat).take len) ∧
        (∀ x, x / 32 ≠ g → t.hbmByte x = s.hbmByte x) ∧ t.sram = s.sram ∧ t.outbox = s.outbox ∧
        t.rd HS.WRITE.bytes k = min (s.rd HS.WRITE.bytes k + len) (2 ^ 64 - 1))) ∧
    (∀ j, crc.val < 4 → errBytes m = [j] → ∃ t, exec (.stackAccess k part false off n data crc flip) s = .next t ∧
      t.outbox.getLast? = some (.bytes (((s.granBytes g).drop (off.toNat % 32)).take len)) ∧
      t.rd ECC.CE_COUNT.count k = min (s.rd ECC.CE_COUNT.count k + 1) (2 ^ 32 - 1) ∧ t.rd ECC.LAST_CE_ADDR.addr k = k.val * 2 ^ 37 + off.toNat / 32 * 32 ∧
      t.rd ECC.LAST_CE_INFO.mask k = cwByte m j ∧ t.rd ECC.UE_COUNT.count k = s.rd ECC.UE_COUNT.count k) ∧
    (∀ i j, crc.val < 4 → errBytes m = [i, j] → ∃ t, exec (.stackAccess k part false off n data crc flip) s = .next t ∧
      t.rd ECC.UE_COUNT.count k = min (s.rd ECC.UE_COUNT.count k + 1) (2 ^ 32 - 1) ∧ t.rd ECC.LAST_UE_ADDR.addr k = k.val * 2 ^ 37 + off.toNat / 32 * 32 ∧
      t.rd ECC.LAST_UE_SRC.source k = 0 ∧ (t.rd (hdrStatus .ECC) k).testBit Ev.HBM_UE.bit = true ∧
      ∀ p : PartId, part = some p → (s.part p).inStep = true → (s.part p).fault = none → (t.part p).fault = some (fHBM_UE, k.val * 2 ^ 37 + off.toNat / 32 * 32)) ∧
    (crc.val = 4 → ∃ t, exec (.stackAccess k part false off n data crc flip) s = .next t ∧ (t.rd (hdrStatus .HS) k).testBit Ev.HBM_LINK.bit = true ∧
      (s.rd HS.CTRL.auto_fence k ≠ 0 → t.rd HS.FENCE_INFO.cause k = 4 ∧ (t.stk k).fencing = some s.now) ∧ t.hbm = s.hbm ∧
      (t.outbox.drop s.outbox.length).all (fun x => match x with | .bytes _ => false | _ => true) = true)

/-- Patrol scrub and temperature bands. -/
def Obligations.StacksKeepUp : Prop :=
  -- R154 to R157, R159: the patrol reads the next granule of the stack and moves on, while the stack serves; a pass and a count window end. That
  -- hours outside 1 to 168 act as the nearer of the two is log entry 26.
  ((∀ (s : State) (k : StackId) (flip : BitVec 288), s.stackServes k = true → s.rd ECC.CTRL.patrol_en k ≠ 0 → s.rd ECC.STATUS.patrol_active k ≠ 0 →
    (s.stk k).patrolDone = false →
    ∃ t, exec (.patrolRead k flip) s = .next t ∧ t.rd ECC.PATROL_POS.granule k = (s.rd ECC.PATROL_POS.granule k + 1) % 2 ^ 32 ∧
      ((t.stk k).patrolDone = true ↔ 2 ^ 32 ≤ s.rd ECC.PATROL_POS.granule k + 1) ∧ t.sram = s.sram ∧
      let g := (s.locOf k (s.rd ECC.PATROL_POS.granule k * 32)).granKey k
      ∀ j, errBytes (Assoc.get 0 s.hbmErr g ^^^ flip.toNat) = [j] → t.rd ECC.CE_COUNT.count k = min (s.rd ECC.CE_COUNT.count k + 1) (2 ^ 32 - 1)) ∧
  (∀ (s : State) (k : StackId), (s.stk k).patrolDone = true →
    ∃ t, exec (.patrolPassEnd k) s = .next t ∧ (t.stk k).patrolDone = false ∧ t.rd ECC.PATROL_PASSES.count k = min (s.rd ECC.PATROL_PASSES.count k + 1) (2 ^ 32 - 1) ∧
      (t.rd (hdrStatus .ECC) k).testBit Ev.PATROL_PASS.bit = true ∧ (t.stk k).ces = [] ∧ (t.stk k).windowAt = s.now ∧
      t.rd ECC.STATUS.patrol_active k = (if s.rd ECC.CTRL.patrol_en k = 0 then 0 else 1)) ∧
  (∀ (s : State) (k : StackId) (flip : BitVec 288), (s.stackServes k = false ∨ s.rd ECC.CTRL.patrol_en k = 0 → exec (.patrolRead k flip) s = .next s) ∧
    ((s.stk k).patrolDone = false → exec (.patrolPassEnd k) s = .next s)) ∧
  (∀ (s : State) (k : StackId), s.hsState k = hsIN_SERVICE → (s.stk k).windowAt + max 1 (min 168 (s.rd ECC.CTRL.patrol_hours k)) * 3600000000000 ≤ s.now →
    exec (.countWindowEnd k) s = .next (s.setStk k { s.stk k with ces := [], windowAt := s.now }))) ∧
  -- R161, R162: the band goes up at once at a refresh interval, and down one band after 100 ms of dwell.
  (∀ (s : State) (k : StackId),
    (∀ b, (s.stk k).bandUp = some b → ∃ t, exec (.bandUp k) s = .next t ∧ (t.stk k).measured = b ∧ (t.stk k).bandUp = none ∧ (t.stk k).dwellAt = none ∧
      t.band k = max b (s.rd BAND.CTRL.force_band k) ∧ (t.band k ≠ s.band k → (t.rd (hdrStatus .BAND) k).testBit Ev.BAND_CHANGE.bit = true) ∧ t.sram = s.sram) ∧
    (∀ t0, (s.stk k).dwellAt = some t0 → t0 + 100000000 ≤ s.now → ∃ t, exec (.bandDwellExpire k) s = .next t ∧
      (t.stk k).measured = (s.stk k).measured - 1 ∧ (t.stk k).dwellAt = none ∧ t.sram = s.sram) ∧
    ((s.stk k).bandUp = none → exec (.bandUp k) s = .next s) ∧ ((s.stk k).dwellAt = none → exec (.bandDwellExpire k) s = .next s))

/-- Fences, commands and region modes of a stack. -/
def Obligations.StackService : Prop :=
  -- R163 to R165, R204: a fence: its trigger, the end of the drain 2,000 beats later with the step errors and parked owners, and the state FENCED,
  -- with which a host FENCE is done. Where no count ran at the trigger the drain takes 2,000 ns (log entry 28).
  ((∀ (s : State) (k : StackId), s.stackServes k = true → s.rd HS.CTRL.auto_fence k ≠ 0 → ∃ t, exec (.baseDieFault k) s = .next t ∧
    (t.stk k).fencing = some s.now ∧ t.rd HS.FENCE_INFO.cause k = 5 ∧ t.rd HS.FENCE_INFO.partitions k = 0 ∧ t.stackServes k = false ∧ t.hbm = s.hbm ∧ t.sram = s.sram) ∧
  (∀ (s : State) (m : MasterId) (k : StackId), Admits s m .HS k 0x040 → s.stackServes k = true → ∃ t, exec (.hsFence m k) s = .next t ∧
    (t.stk k).fencing = some s.now ∧ t.rd HS.FENCE_INFO.cause k = 1 ∧ t.rd HS.CMD_RESULT.result k = 1 ∧ (t.stk k).hostFence = true ∧ t.stackServes k = false ∧ t.hbm = s.hbm ∧
    t.sram = s.sram) ∧
  (∀ (s : State) (k : StackId) (f : Nat), (s.stk k).fencing = some f → (s.stk k).drained = false →
    ((s.stk k).fenceBeat = none ∧ f + 2000 ≤ s.now) ∨ (∃ b, (s.stk k).fenceBeat = some b ∧ s.counting = true ∧ b + 2000 ≤ s.beat.count) →
    ∃ t, exec (.fenceDrainEnd k) s = .next t ∧ (t.stk k).drained = true ∧
      (∀ p, p < 16 → (s.holds p k = true ∨ (s.stk k).users.testBit p = true) → (s.part p).inStep = true → (t.rd HS.FENCE_INFO.partitions k).testBit p = true ∧
        ((s.part p).fault = none → (t.part p).fault = some (fSTACK_FENCED, k.val * 2 ^ 37))) ∧
      (∀ p, p < 16 → s.holds p k = true → s.running p = true → (t.rd MOD.PART_STATE.causes 0 p).testBit 1 = true ∧ (t.part p).parkNext = true) ∧
      (∀ l ∈ t.listsOf k, l.arrived = true ∧ l.entries = [])) ∧
  (∀ (s : State) (k : StackId) (f : Nat), (s.stk k).drained = true → (s.stk k).fencing = some f →
    ∃ t, exec (.stackFenced k) s = .next t ∧ t.hsState k = hsFENCED ∧ (t.stk k).fencing = none ∧ (t.stk k).users = 0 ∧
      (t.rd (hdrStatus .HS) k).testBit Ev.STACK_FENCED.bit = true ∧ t.rd HS.CMD_RESULT.result k = (if (s.stk k).hostFence = true then 2 else s.rd HS.CMD_RESULT.result k) ∧
      ((s.stk k).hostFence = true → (t.rd (hdrStatus .HS) k).testBit Ev.HS_CMD_DONE.bit = true) ∧ t.sram = s.sram)) ∧
  -- R148, R166, R167, R171, R519, R575: the commands of a stack, and what they answer where Table 5.7 has no such event or a fence runs; a training
  -- uses the two redundant lanes of each channel. That UNFENCE clears FENCE_INFO is log entry 147.
  (∀ (s : State) (m : MasterId) (k : StackId), Admits s m .HS k 0x040 →
    ((s.stk k).fencing = none → s.hsState k = hsFENCED → ((s.stk k).passed = true ∨ (s.rd HS.FENCE_INFO.cause k = 1 ∧ (s.stk k).touched = false)) →
      ∃ t, exec (.hsUnfence m k) s = .next t ∧ t.hsState k = hsIN_SERVICE ∧ t.rd HS.FENCE_INFO.cause k = 0 ∧ t.rd HS.CMD_RESULT.result k = 2 ∧
        (t.rd (hdrStatus .HS) k).testBit Ev.HS_CMD_DONE.bit = true ∧ t.sram = s.sram) ∧
    ((s.stk k).fencing = none → s.hsState k = hsFENCED →
      exec (.hsRepair m k) s = .next (((s.setStk k { s.stk k with touched := true }).wr HS.STATUS.state hsREPAIRING k).wr HS.CMD_RESULT.result 1 k)) ∧
    ((s.stk k).fencing = none → s.hsState k = hsFENCED → ∃ t, exec (.hsRetire m k) s = .next t ∧ t.hsState k = hsRETIRED ∧ t.rd HS.CAPACITY.gib k = 0 ∧
      t.keep.retired = s.keep.retired ||| 2 ^ k.val ∧ t.railState (32 + k) = 0 ∧ (t.rd (hdrStatus .HS) k).testBit Ev.STACK_RETIRED.bit = true ∧ t.sram = s.sram) ∧
    ((s.stk k).fencing = none → s.hsState k = hsFENCED → s.testBusy btStack k = false → ∃ t, exec (.hsTest m k) s = .next t ∧ t.hsState k = hsTESTING ∧
      t.testBusy btStack k = true ∧ t.rd HS.CMD_RESULT.result k = 1 ∧ t.sram = s.sram) ∧
    (∀ f, (s.stk k).fencing = some f → exec (.hsFence m k) s = .next (s.wr HS.CMD_RESULT.result 3 k) ∧ exec (.hsUnfence m k) s = .next (s.wr HS.CMD_RESULT.result 3 k) ∧
      exec (.hsRepair m k) s = .next (s.wr HS.CMD_RESULT.result 3 k) ∧ exec (.hsRetire m k) s = .next (s.wr HS.CMD_RESULT.result 3 k)) ∧
    ((s.stk k).fencing = none → s.hsState k ≠ hsFENCED → exec (.hsUnfence m k) s = .next (s.wr HS.CMD_RESULT.result 4 k) ∧
      exec (.hsRepair m k) s = .next (s.wr HS.CMD_RESULT.result 4 k) ∧ exec (.hsRetire m k) s = .next (s.wr HS.CMD_RESULT.result 4 k)) ∧
    (∀ unburnt : BitVec 256, s.hsState k = hsREPAIRING → ∃ t, exec (.repairDone k unburnt) s = .next t ∧ t.hsState k = hsFENCED ∧
      (t.stk k).remaps = (((s.stk k).remaps.zipIdx.filter (fun e => unburnt.getLsbD e.2)).map (·.1)) ∧
      t.rd HS.CMD_RESULT.result k = (if (t.stk k).remaps = [] then 2 else 5) ∧ t.sram = s.sram) ∧
    (∀ (trained pass : Bool) (lanes : BitVec 64), s.hsState k = hsTRAINING →
      (trained = true → pass = true → (∀ c, c < 32 → Assoc.get 0 (s.stk k).lanes c + lanes.toNat / 4 ^ c % 4 ≤ 2) → ∃ t, exec (.stackTrainingComplete k trained pass lanes) s = .next t ∧ t.hsState k = hsIN_SERVICE ∧
        (t.rd BIST.START_STACKS.pass).testBit k = true ∧ t.sram = s.sram) ∧
      ((trained = false ∨ pass = false ∨ ∃ c, c < 32 ∧ 2 < Assoc.get 0 (s.stk k).lanes c + lanes.toNat / 4 ^ c % 4) → ∃ t, exec (.stackTrainingComplete k trained pass lanes) s = .next t ∧
        t.hsState k = hsFENCED ∧ t.rd HS.FENCE_INFO.cause k = 5 ∧ (t.rd BIST.START_STACKS.not_pass).testBit k = true ∧ t.sram = s.sram)) ∧
    (∀ (pc bank row : Nat) (rest : List (Nat × Nat × Nat)), (s.stk k).copying = (pc, bank, row) :: rest → ∃ t, exec (.rowRemapDone k) s = .next t ∧
      (t.stk k).copying = rest ∧ (t.stk k).remaps = (s.stk k).remaps ++ [(pc, bank, row)] ∧ t.rd ECC.REMAP_LAST.row k = row % 2 ^ 16 ∧ t.sram = s.sram)) ∧
  -- R151: HS.CTRL: regions change mode where no data depends on it; a refused change reads back as it was and shows refused STATE.
  (∀ (s : State) (m : MasterId) (k : StackId) (v : Word), Admits s m .HS k 0x010 → k.val ≠ 0 →
    (s.hsState k ≠ hsIN_SERVICE → exec (.hsCtrlWrite m k v) s = .next (((s.wr HS.CTRL.region_mode (v.toNat % 256) k).wr HS.CTRL.auto_fence (bits v.toNat 8 8) k).wr
      HS.CTRL.auto_remap (bits v.toNat 9 9) k)) ∧
    (∀ p, s.hsState k = hsIN_SERVICE → s.holder k = some p → s.partState p ≠ 1 → s.rd HS.CTRL.region_mode k < 256 → v.toNat % 256 ≠ s.rd HS.CTRL.region_mode k →
      ∃ t, exec (.hsCtrlWrite m k v) s = .next t ∧ t.rd HS.CTRL.region_mode k = s.rd HS.CTRL.region_mode k ∧ t.rd HS.CMD_RESULT.result k = 4 ∧ t.hbm = s.hbm))

/-- In-bank lists reach their units, and their entries run. -/
def Obligations.ListsRun : Prop :=
  -- R31, R87, R178, R184 to R187, R204, R205: an IBU_LIST leaves its core for the dispatcher; there it is cut into entries which go to unit queues of
  -- at most 16, or is refused at a fence; a payload is written to the slate of a unit that has reached it and counted once.
  ((∀ (s : State) (c : CoreId) (n : StreamId) (i : Fin 64) (d : Desc) (p : Nat), let k := dw d.words 4 3 0
    s.descAt c n i = some d → s.partOfCore c = some p → d.phase = 1 →
    descKind d = 6 → (s.ibu.lists.any fun l => l.core == c.val && l.desc == d.id) = false → dw d.words 6 5 0 = 0 →
    ((s.core c).descs.any fun e => e.stream == n.val && e.id < d.id && e.phase == 1 && descKind e == 6 && dw e.words 4 3 0 == k &&
      !(s.ibu.lists.any fun l => l.core == c.val && l.desc == e.id)) = false →
    (s.holds p k = false ∨ s.stackServes k = false → exec (.ibuList c n i) s = .next (s.descFault c d fADDR_FAULT (k * 2 ^ 37))) ∧
    (∀ raw : List Byte, s.holds p k = true → s.stackServes k = true → dw d.words 5 15 0 ≠ 0 → s.rd IBU.CTRL.dispatch_en k ≠ 0 → (s.listsOf k).length < 64 →
      s.coreRead c (descLocal d) (32 * dw d.words 5 15 0) = some raw →
      ∃ t, exec (.ibuList c n i) s = .next t ∧ t.ibu.lists = s.ibu.lists ++ [IbuList.mk s.ibu.next k c n d.id p false raw (dw d.words 5 15 0) [] 0 [] [] 0 0 0 0 0 0] ∧
        t.ibu.next = s.ibu.next + 1 ∧ (t.stk k).users.testBit p = true ∧ t.cores = s.cores ∧ t.hbm = s.hbm ∧ t.sram = s.sram) ∧
    (s.holds p k = true → s.stackServes k = true → dw d.words 5 15 0 ≠ 0 → 64 ≤ (s.listsOf k).length → exec (.ibuList c n i) s = .next s)) ∧
  (∀ (s : State) (k : StackId) (l : Fin 64) (x : IbuList), (s.listsOf k)[l.val]? = some x →
    (x.arrived = true ∨ (∃ m ∈ s.listsOf k, m.arrived = false ∧ m.core = x.core ∧ m.stream = x.stream ∧ m.id < x.id) → exec (.ibuListArrival k l) s = .next s) ∧
    (x.arrived = false → (∀ m ∈ s.listsOf k, m.core = x.core → m.stream = x.stream → m.id < x.id → m.arrived = true) →
      (s.stackServes k = false → exec (.ibuListArrival k l) s = .next (s.setList { x with arrived := true, failed := [(0, ibABORTED, 0)], beat := s.beat.count })) ∧
      (s.stackServes k = true → exec (.ibuListArrival k l) s =
        .next ((s.setList { x with arrived := true, raw := [], entries := parseList x.count (x.count + 1) 0 x.raw, beat := s.beat.count }).dispatchAll k)))) ∧
  (∀ (s : State) (k : Nat), (∀ u, (s.unitQueue k u).length ≤ 16) → (∀ y ∈ s.ibu.lists, ∀ e ∈ y.entries, e.rest.Nodup) →
    (∀ u, ((s.dispatchAll k).unitQueue k u).length ≤ 16 ∧ s.unitQueue k u <+: (s.dispatchAll k).unitQueue k u) ∧
    (s.dispatchAll k).ibu.slate = s.ibu.slate ∧ (s.dispatchAll k).regs = s.regs ∧ (s.dispatchAll k).hbm = s.hbm) ∧
  (∀ (s : State) (k : StackId) (l : Fin 64) (idx : BitVec 16) (x : IbuList) (e : IbuEntry), (s.listsOf k)[l.val]? = some x →
    x.entries.find? (fun e => e.idx == idx.toNat) = some e → dw e.words 0 7 0 = 0x0F → s.stackServes k = true →
    exec (.payload k l idx) s = .next (e.rest.foldl (fun s u => s.payloadUnit k x.id idx.toNat u) s)) ∧
  (∀ (s : State) (k u : Nat) (x : IbuList) (e : IbuEntry), s.ibu.lists.find? (·.id == x.id) = some x → s.unitNext k u x = some e → s.unitRefuses k u = false → u < 1024 →
    dw e.words 2 13 0 + e.data.length ≤ 16384 →
    ∃ t, t = s.payloadUnit k x.id e.idx u ∧ t.slateBytes k u (dw e.words 2 13 0) e.data.length = e.data ∧
      (∀ k' v o n, v < 1024 → (k' ≠ k ∨ v ≠ u) → o + n ≤ 16384 → t.slateBytes k' v o n = s.slateBytes k' v o n) ∧
      t.rd IBU.CMDS.count k = (if e.ran = true then s.rd IBU.CMDS.count k else min (s.rd IBU.CMDS.count k + 1) (2 ^ 64 - 1)) ∧
      t.hbm = s.hbm ∧ t.sram = s.sram ∧ t.cores = s.cores)) ∧
  -- R187, R189 to R196, R200, R201, R205, R206: the next entry of a unit runs on it, or on the fallback executor where the unit is out of service; it
  -- fails where none serves it, a slate word is bad or its form is bad. A failed entry is recorded with its list, and the list's later entries for
  -- the unit are skipped.
  ((∀ (s : State) (k : StackId) (l : Fin 64) (u : Fin 1024) (x : IbuList) (e : IbuEntry), (s.listsOf k)[l.val]? = some x →
    s.unitNext k u x = some e → s.stackServes k = true →
    ∀ i op act, (i, op, act) ∈ [(Instr.rowdot k l u, 1, URun.rowdot), (Instr.gathersum k l u, 2, URun.gathersum), (Instr.axpy k l u, 3, URun.axpy),
        (Instr.minrelax k l u, 4, URun.minrelax), (Instr.hist k l u, 5, URun.hist), (Instr.selectIdx k l u, 6, URun.select), (Instr.ibuFill k l u, 7, URun.fill),
        (Instr.ibuCopy k l u, 8, URun.copy), (Instr.scrub k l u, 9, URun.scrub)] →
      dw e.words 0 7 0 = op →
      ((s.unit k u).bad = false → (s.unit k u).state = 0 → ibuMalformed e.words = false →
        ∀ (y : URun) (r0 r1 : Nat), act ⟨s.add IBU.CMDS.count 1 k, k, u, x.part, 0, none⟩ e.words = (y, r0, r1) →
        exec i s = .next (y.s.unitDone k u x e y.fail r0 r1 y.ce false)) ∧
      ((s.unit k u).bad = false → (s.unit k u).state ≠ 0 → (s.servedUnits k).contains u.val = true → ibuMalformed e.words = false → ∀ (y : URun) (r0 r1 : Nat),
        act ⟨(s.add IBU.CMDS.count 1 k).add IBU.FALLBACK.count 1 k, k, u, x.part, 0, none⟩ e.words = (y, r0, r1) →
        exec i s = .next (y.s.unitDone k u x e y.fail r0 r1 y.ce true)) ∧
      ((s.unit k u).bad = false → (s.unit k u).state ≠ 0 → (s.servedUnits k).contains u.val = false →
        exec i s = .next (s.unitDone k u x e (some (ibFAULT, 0)) 0 0 0 false)) ∧
      ((s.unit k u).bad = true →
        exec i s = .next ((s.setUnit k u { s.unit k u with bad := false }).unitDone k u x e (some (ibFAULT, 0)) 0 0 0 false)) ∧
      ((s.unit k u).bad = false → (s.unit k u).state = 0 → ibuMalformed e.words = true →
        exec i s = .next ((s.add IBU.CMDS.count 1 k).unitDone k u x e (some (ibCMD, 0)) 0 0 0 false))) ∧
  (∀ (s : State) (k u : Nat) (x : IbuList) (e : IbuEntry) (r0 r1 ce : Nat) (fb : Bool), x ∈ s.ibu.lists → s.unitNext k u x = some e →
    (∀ st a, ∃ y ∈ (s.unitDone k u x e (some (st, a)) r0 r1 ce fb).ibu.lists, y.id = x.id ∧ (e.idx, st, a) ∈ y.failed ∧
      ∀ f ∈ y.entries, e.idx ≤ f.idx → u ∉ f.rest) ∧
    (e.rest = [u] → (∀ g ∈ x.failed, g.1 ≠ e.idx) → ∃ y ∈ (s.unitDone k u x e none r0 r1 ce fb).ibu.lists, y.id = x.id ∧ x.done + e.span ≤ y.done ∧
      y.r0 = x.r0 + r0 ∧ y.r1 = x.r1 + r1 ∧ y.ce = x.ce + ce ∧ y.beat = s.beat.count)))

/-- FILL writes exactly its range, and a finished list its token. -/
def Obligations.FillsAndTokens : Prop :=
  -- R176, R177, R180, R196: FILL writes its 8-byte pattern over every granule of its range, in a BANK region and inside the unit's share; else it
  -- fails and writes nothing.
  (∀ (x : URun) (w : Nat), x.fail = none → dw w 0 7 0 = 7 → ibuMalformed w = false → x.unit < 1024 →
    (x.inReach (iLa w 0) (32 * iN w) = true →
      (x.fill w).1.fail = none ∧ (∀ i, i < iN w → (x.fill w).1.s.granBytes ((x.s.locOf x.stk (x.off (iLa w 0) + 32 * i)).granKey x.stk) =
        leBytes 8 (dw w 5 63 0) ++ leBytes 8 (dw w 5 63 0) ++ leBytes 8 (dw w 5 63 0) ++ leBytes 8 (dw w 5 63 0)) ∧
      (∀ key, (∀ i, i < iN w → key / 32 ≠ (x.s.locOf x.stk (x.off (iLa w 0) + 32 * i)).granKey x.stk) → (x.fill w).1.s.hbmByte key = x.s.hbmByte key) ∧
      (x.fill w).1.s.regs = x.s.regs ∧ (x.fill w).1.s.sram = x.s.sram) ∧
    (x.inReach (iLa w 0) (32 * iN w) = false → (x.fill w).1.s = x.s ∧ (x.fill w).1.fail = some (ibBOUNDS, x.addr (iLa w 0)))) ∧
  -- R200, R201: a list whose entries are all done or skipped writes its token to the core store, and an error in it ends the step of its core.
  (∀ (s : State) (k : StackId) (l : Fin 64) (x : IbuList) (d : Desc), (s.listsOf k)[l.val]? = some x → x.arrived = true → x.entries = [] → x.core < 512 →
    (s.core x.core).descs.find? (fun d => d.id == x.desc) = some d → s.sramGood (coreKey x.core (dw d.words 6 21 0)) 64 = true →
    (x.failed = [] → ∃ t, exec (.ibuToken k l) s = .next t ∧ t.sramBytes (coreKey x.core (dw d.words 6 21 0)) 64 = tokenBytes x none ∧
      t.ibu.lists.map (·.id) = (s.ibu.lists.filter (fun m => m.id != x.id)).map (·.id) ∧ t.rd IBU.LISTS.count k = min (s.rd IBU.LISTS.count k + 1) (2 ^ 32 - 1) ∧
      { d with phase := 2 } ∈ (t.core x.core).descs ∧ t.parts = s.parts ∧ t.hbm = s.hbm) ∧
    (∀ i st a, x.failed = [(i, st, a)] → ∃ t, exec (.ibuToken k l) s = .next t ∧ t.sramBytes (coreKey x.core (dw d.words 6 21 0)) 64 = tokenBytes x (some (i, st, a)) ∧
      t.rd CORE.STATUS.faulted x.core = 1 ∧ ∀ p, s.partOfCore x.core = some p → (s.part p).inStep = true → (s.part p).fault = none →
        (t.part p).fault = some (ibuFaultCode st, a)))

/-- R179, R205 to R207, R519: failed units and the commands of the IBU page. -/
def Obligations.UnitsLeaveService : Prop :=
  (∀ (s : State) (k : StackId) (u : Fin 1024), (s.unit k u).state = 0 →
    exec (.ibuResidueFail k u false) s = .next (s.add IBU.RETRIES.passed 1 k) ∧ exec (.ibuSlateUe k u true) s = .next (s.add IBU.RETRIES.slate_ce 1 k) ∧
    (∃ t, exec (.ibuResidueFail k u true) s = .next t ∧ (t.unit k u).state = 2 ∧ (t.unit k u).needPass = true ∧ t.rd IBU.LAST_FAIL.unit k = u ∧
      t.rd IBU.LAST_FAIL.cause k = 1 ∧ t.rd IBU.LAST_FAIL.valid k = 1 ∧ (t.rd (hdrStatus .IBU) k).testBit Ev.IBU_FAILED.bit = true ∧
      (((s.servedUnits k).length < 16) → u.val ∈ t.servedUnits k) ∧ t.sram = s.sram) ∧
    (∃ t, exec (.ibuSlateUe k u false) s = .next t ∧ (t.unit k u).state = 2 ∧ (t.unit k u).bad = true ∧ t.rd IBU.LAST_FAIL.cause k = 2 ∧ t.sram = s.sram)) ∧
  (∀ (s : State) (m : MasterId) (k : StackId) (u : Fin 1024), Admits s m .IBU k 0x040 →
    ((s.unit k u).state = 0 → (s.outUnits k).length < 16 → ∃ t, exec (.ibuDisable m k u) s = .next t ∧ (t.unit k u).state = 1 ∧ t.rd IBU.CMD_RESULT.result k = 2 ∧
      (t.rd (hdrStatus .IBU) k).testBit Ev.IBU_CMD_DONE.bit = true ∧ t.sram = s.sram) ∧
    ((s.unit k u).state = 0 → 16 ≤ (s.outUnits k).length → exec (.ibuDisable m k u) s = .next (s.wr IBU.CMD_RESULT.result 3 k)) ∧
    ((s.unit k u).state = 1 → (s.unit k u).needPass = false → ∃ t, exec (.ibuEnable m k u) s = .next t ∧ (t.unit k u).state = 0 ∧ t.rd IBU.CMD_RESULT.result k = 2 ∧ t.sram = s.sram) ∧
    (((s.unit k u).state ≠ 1 ∨ (s.unit k u).needPass = true) → exec (.ibuEnable m k u) s = .next (s.wr IBU.CMD_RESULT.result 4 k)) ∧
    (((s.unit k u).state = 1 ∨ (s.unit k u).state = 2) → s.testBusy btUnit (1024 * k.val + u.val) = false → ∃ t, exec (.ibuTest m k u) s = .next t ∧
      (t.unit k u).state = 3 ∧ t.rd IBU.CMD_RESULT.result k = 1 ∧ t.testBusy btUnit (1024 * k.val + u.val) = true ∧ t.sram = s.sram) ∧
    ((s.unit k u).state = 0 → exec (.ibuTest m k u) s = .next (s.wr IBU.CMD_RESULT.result 4 k)) ∧
    ((s.unit k u).state = 3 → exec (.ibuTest m k u) s = .next (s.wr IBU.CMD_RESULT.result 3 k) ∧ exec (.ibuDisable m k u) s = .next (s.wr IBU.CMD_RESULT.result 3 k)))

/-- JENQ and JDEQ: what is queued, delivered, refused or waited for. -/
def Obligations.EnqueueAndDequeue : Prop :=
  -- R216 to R219, R222, R224, R226, R227: JENQ puts its bytes into the queue as a packet, or more of the open one, and answers 0; a non-blocking one
  -- that would wait answers 1; a blocking one behind stalled producers waits; a stalled one takes one cell in its turn, and no arrival is lost that
  -- waits behind it.
  ((∀ (s : State) (c : CoreId) (n : StreamId) (ga gq gl : GReg) (flags : BitVec 11), s.canIssue c n = true →
    let addr := s.g c n ga % 2 ^ 22
    let len := s.g c n gl % 2 ^ 16
    let qv := s.g c n gq
    let k := 4096 * (if qv.testBit 15 then bits qv 14 12 else c.val / 64) + qv % 4096
    JenqForm addr len flags.toNat → s.jugRefuses c k false = none → flags.toNat.testBit 1 = false → s.openOf c n = none →
    (s.issued c n).midBusy (c / 64) (k / 4096) = false →
    (∀ bs, s.coreRead c addr len = some bs → (s.issued c n).firstProducer k = none → s.rd JUG.CTRL.enable (k / 4096) ≠ 0 → (s.queue k).maxCells = 0 → 64 ≤ s.generalFree (k / 4096) →
      s.generalFree (k / 4096) < 2 ^ 17 → (∀ p ∈ (s.queue k).pkts, p.id < (s.jug (k / 4096)).next) →
      ∃ t p, exec (.jenq c n ga gq gl flags) s = .next t ∧ (t.queue k).pkts.getLast? = some p ∧ p.data = bs ∧ p.closed = !flags.toNat.testBit 0 ∧
        t.g c n gl = 0 ∧ t.sn c n = snREADY ∧ (∀ r : GReg, r ≠ gl → t.g c n r = s.g c n r) ∧ t.sram = s.sram) ∧
    ((s.issued c n).firstProducer k ≠ none → flags.toNat.testBit 2 = true →
      exec (.jenq c n ga gq gl flags) s = .next ((((s.issued c n).setStrm c n { s.strm c n with jug := none }).setG c n gl 1).setSn c n snREADY)) ∧
    (∀ bs, s.coreRead c addr len = some bs → (s.issued c n).firstProducer k ≠ none → flags.toNat.testBit 2 = false →
      ∃ t, exec (.jenq c n ga gq gl flags) s = .next t ∧ t.sn c n = snJUG ∧ (∃ w, (t.strm c n).jug = some w ∧ w.stalled = true ∧ w.queue = k ∧ w.pos = 0) ∧
        (∀ r : GReg, t.g c n r = s.g c n r) ∧ t.sram = s.sram)) ∧
  (∀ (s : State) (c : CoreId) (n : StreamId) (w : JugWait), (s.strm c n).jug = some w → w.deq = false → s.sn c n = snJUG → w.stalled = true →
    (s.nextProducer (w.queue / 4096) = some w.queue → s.firstProducer w.queue = some (4 * c.val + n.val) →
      exec (.jenqResume c n) s =
        .next (((s.setJug (w.queue / 4096) { s.jug (w.queue / 4096) with rr := w.queue % 4096 }).jenqMove c n w 1).serveHeld (w.queue / 4096))) ∧
    (s.nextProducer (w.queue / 4096) ≠ some w.queue ∨ s.firstProducer w.queue ≠ some (4 * c.val + n.val) → exec (.jenqResume c n) s = .next s)) ∧
  (∀ (s s1 : State) (c : CoreId) (n : StreamId) (w : JugWait) (bs : List Byte) (k fuel : Nat) (p : QPkt), s.jenqRest c w = some bs → s.openOf c n = some (k, p) →
    s.fillCells w.queue p.id fuel bs = ([], s1) → w.reg < 32 → (s.jenqMove c n w fuel).g c n w.reg = 0 ∧ (s.jenqMove c n w fuel).sn c n = snREADY ∧
      ((s.jenqMove c n w fuel).strm c n).jug = none)) ∧
  -- R219 to R222, R225, R229, R230: JDEQ delivers what the queue can give now, answers EMPTY or waits; a waiting one is served in its turn, and not
  -- from a queue in ERROR. Whoever waits for a cell goes on after it. What a JDEQ of capacity 0 answers is log entry 51.
  ((∀ (s : State) (c : CoreId) (n : StreamId) (ga gq gr : GReg) (flags : BitVec 11), s.canIssue c n = true →
    let addr := s.g c n ga % 2 ^ 22
    let cap := s.g c n gr % 2 ^ 16
    let k := 4096 * (c.val / 64) + s.g c n gq % 4096
    let w : JugWait := ⟨true, k, gr, addr, cap, flags.toNat, 0, s.now, s.now * 2048 + 4 * c.val + n.val, false, 0⟩
    flags.toNat < 8 → addr % 64 = 0 → (s.g c n gq).testBit 15 = false → (cap ≠ 0 ∨ flags.toNat.testBit 1 = true) → s.jugRefuses c k true = none →
    (flags.toNat.testBit 1 = false → s.claimOf c n = none) → (flags.toNat.testBit 1 = true → (s.claimOf c n).map (·.1) = some k) →
    s.rd JUG.CTRL.enable (k / 4096) ≠ 0 → (s.issued c n).jdeqTurn c n w = true →
    (∀ p m, s.jdeqPlan c n w = some (p, m) → s.onChip k p m = true → cap ≠ 0 → addr + m ≤ 2 ^ 22 → s.sramGood (coreKey c addr) m = true →
      ∃ t : State, exec (.jdeq c n ga gq gr flags 0) s = .next (t.serveHeld (c.val / 64)) ∧ Delivered t c n gr addr p m) ∧
    (∀ p m, s.jdeqPlan c n w = some (p, m) → s.onChip k p m = true → cap = 0 →
      ∃ t : State, exec (.jdeq c n ga gq gr flags 0) s = .next (t.serveHeld (c.val / 64)) ∧ t.sn c n = snREADY ∧ t.sram = s.sram ∧
        t.g c n gr = ((if p.truncated = true then 2 ^ 18 else 0) + (if p.closed = true then p.data.length * 2 ^ 32 else 0)) % 2 ^ 64) ∧
    (s.jdeqPlan c n w = none → flags.toNat.testBit 0 = true →
      ∃ t : State, exec (.jdeq c n ga gq gr flags 0) s = .next (t.serveHeld (c.val / 64)) ∧ t.g c n gr = 2 ^ 20 ∧ t.sn c n = snREADY ∧ t.sram = s.sram) ∧
    (s.jdeqPlan c n w = none → flags.toNat.testBit 0 = false → flags.toNat.testBit 1 = false →
      ∃ t : State, exec (.jdeq c n ga gq gr flags 0) s = .next (t.serveHeld (c.val / 64)) ∧ t.sn c n = snJUG ∧ (t.strm c n).jug = some w ∧ t.sram = s.sram)) ∧
  (∀ (s : State) (c : CoreId) (n : StreamId) (w : JugWait) (p : QPkt) (m : Nat), (s.strm c n).jug = some w → w.deq = true → s.sn c n = snJUG → w.reg < 32 →
    s.rd JUG.CTRL.enable (w.queue / 4096) ≠ 0 → s.jdeqTurn c n w = true → s.jdeqPlan c n w = some (p, m) → s.onChip w.queue p m = true → w.len ≠ 0 →
    w.addr + m ≤ 2 ^ 22 → s.sramGood (coreKey c w.addr) m = true → (s.queue w.queue).error = false →
    ∃ t : State, exec (.jdeqResume c n 0) s = .next (t.serveHeld (w.queue / 4096)) ∧ Delivered t c n w.reg w.addr p m) ∧
  (∀ (s : State) (c : CoreId) (n : StreamId) (w : JugWait) (upset : Fin 4), (s.strm c n).jug = some w → w.deq = true → (s.queue w.queue).error = true →
    exec (.jdeqResume c n upset) s = .next s))

/-- Stranded tails, spills, refills, and the queue commands. -/
def Obligations.QueuesMoveAlone : Prop :=
  -- R225, R229, R230: a stranded tail is announced and the streams that wait on the queue go on; a spill run and a refill end.
  ((∀ (s : State) (t : TileId) (q : Fin 4096) (t0 : Nat), (s.queue (4096 * t.val + q.val)).timer = some t0 → (s.queue (4096 * t.val + q.val)).f 0 4 4 = 1 →
    (s.queue (4096 * t.val + q.val)).f 3 31 0 ≠ 0 → (s.queue (4096 * t.val + q.val)).hasContent = true → t0 + (s.queue (4096 * t.val + q.val)).f 3 31 0 ≤ s.now →
    ∃ u, exec (.queueStranded t q) s = .next u ∧ (u.queue (4096 * t.val + q.val)).timer = none ∧ (u.rd JUG.STRANDED.stranded t (q / 32)).testBit (q % 32) = true ∧
      (u.rd (hdrStatus .JUG) t).testBit 3 = true ∧ (u.queue (4096 * t.val + q.val)).pkts = (s.queue (4096 * t.val + q.val)).pkts ∧ u.sram = s.sram) ∧
  (∀ (s : State) (t : TileId) (g : Seg), (s.jug t).run = some g → g.cells ≠ [] → (∀ x ∈ g.cells, x ∈ (s.queue g.queue).cells) →
    ∃ u : State, exec (.spillRunDone t) s = .next (u.serveHeld t) ∧ (u.jug t).segs = (s.jug t).segs ++ [Seg.mk g.num g.queue g.cells g.cells] ∧
      u.rd JUG.SPILLED.cells t = min (s.rd JUG.SPILLED.cells t + g.cells.length) (2 ^ 64 - 1) ∧ u.sram = s.sram) ∧
  (∀ (s : State) (t : TileId) (g : Seg) (bs : List Byte) (s1 : State), (s.jug t).refill = some g.num → (s.jug t).segs.find? (fun h => h.num == g.num) = some g →
    ((s.setJug t { s.jug t with refill := none }).wr JUG.STATUS.refilling 0 t).readStack 130 (s.segAt t g.num).1 (s.segAt t g.num).2 (256 * g.base.length) .tile none = (.ok bs, s1) →
    ∃ u : State, exec (.refillDone t) s = .next (u.serveHeld t) ∧ (u.jug t).segs = (s.jug t).segs.filter (fun h => h.num != g.num) ∧
      u.rd JUG.REFILLED.cells t = min (s.rd JUG.REFILLED.cells t + g.cells.length) (2 ^ 64 - 1) ∧ u.sram = s.sram) ∧
  (∀ (s : State) (t : TileId), ((s.jug t).run = none → exec (.spillRunDone t) s = .next (s.serveHeld t)) ∧
    ((s.jug t).refill = none → exec (.refillDone t) s = .next (s.serveHeld t))) ∧
  (∀ (s : State) (t : TileId) (q : Fin 4096), (s.queue (4096 * t.val + q.val)).timer = none → exec (.queueStranded t q) s = .next s)) ∧
  -- R213 to R215, R219, R275: the queue commands of the JUG page, and what is refused.
  (∀ (s : State) (m : MasterId) (t : TileId), Admits s m .JUG t 0x054 →
    let k := s.selQueue t
    let d := (List.range 4).foldr (fun i a => a * 2 ^ 32 + s.rd JUG.QDESC.word t i) 0
    (s.configResult m t k d = 2 → ∃ u : State, exec (.qcmdConfig m t) s = .next ((u.serveHeld t).qcmdDone t 2) ∧ (u.queue k).desc = d ∧
      (u.queue k).pkts.map (fun p => (p.id, p.data, p.taken, p.closed)) = (s.queue k).pkts.map (fun p => (p.id, p.data, p.taken, p.closed)) ∧
      (∀ p ∈ (s.queue k).pkts, (∀ r ∈ (s.queue k).pkts, r.id = p.id → r = p) → p.gone = false →
        p.closed = true ∨ (bits (d / 2 ^ 64) 5 0 ≠ 0 ∧ bits (d / 2 ^ 64) 5 0 ≤ p.data.length / 256) → ∃ r ∈ (u.queue k).pkts, r.id = p.id ∧ r.avail = true) ∧ u.sram = s.sram) ∧
    (∀ u : State, (u.qcmdDone t 2).rd JUG.QCMD_RESULT.result t = 2 ∧ ((u.qcmdDone t 2).rd (hdrStatus .JUG) t).testBit Ev.QCMD_DONE.bit = true ∧
      (u.qcmdDone t 2).queues = u.queues) ∧
    (s.configResult m t k d ≠ 2 → exec (.qcmdConfig m t) s = .next (s.wr JUG.QCMD_RESULT.result (s.configResult m t k d) t)) ∧
    (∃ u, exec (.qcmdRead m t) s = .next u ∧ (∀ i, i < 4 → u.rd JUG.QDESC.word t i = bits ((s.queue k).desc / 2 ^ (32 * i)) 31 0) ∧
      u.rd JUG.QCMD_RESULT.result t = 2 ∧ u.queues = s.queues ∧ u.sram = s.sram) ∧
    (¬(16 ≤ m.val ∧ m.val < 32 ∧ (s.queue k).owner ≠ m.val - 16) →
      ((s.queue k).enabled = false ∨ (s.queue k).error = true ∨ s.partState (s.queue k).owner = 1 ∨ s.partState (s.queue k).owner = 3) →
      ∃ u, exec (.qcmdFlush m t) s = .next u ∧ (u.queue k).enabled = true ∧ u.rd JUG.QCMD_RESULT.result t = 2 ∧
        ((∀ q, (s.queue q).outside = []) → (u.queue k).error = false ∧ ∀ p ∈ (u.queue k).pkts, p.gone = true)) ∧
    (16 ≤ m.val → m.val < 32 → (s.queue k).owner ≠ m.val - 16 → exec (.qcmdFlush m t) s = .next (s.wr JUG.QCMD_RESULT.result 5 t)))

/-- Packets take effect in order and are answered. -/
def Obligations.PacketsArrive : Prop :=
  -- R242, R247, R250, R251, R255: a packet of partition traffic that comes next in its flow takes effect and is answered; one that may not is refused
  -- with its reason and a NACK; one that has been here before is answered again and changes nothing else; one that comes before its turn, or finds no
  -- cell, is held and not answered; and what the port or the tile does not take changes nothing. The compare value of a CAS is open (assumption 65).
  (∀ (s u : State) (t : TileId) (rx : Rx) (h : Head) (tc : Fin 8) (addr : BitVec 46) (data : List Byte) (f : RxFlow), Arrives s u t rx data.length → Unpaired u →
    (let p := reqPacket u t 1 tc rx h addr.toNat data.length 0 data
     u.flow (flowHome t p) = some f →
      (∀ (n : Nat) (v : State), NextOf f p → u.checkAddr t addr.toNat (max 1 data.length) h.job.toNat false = .ok n → u.arrWrite addr.toNat data = (true, v) →
        exec (.put t rx h tc addr data) s = .next ((v.setFlow (flowHome t p) (f.taken p.seq)).sendBack t rx.port (ackOf (v.globalTile t) p))) ∧
      (∀ r, NextOf f p → u.checkAddr t addr.toNat (max 1 data.length) h.job.toNat false = .error r → ∃ w : State,
        w = (u.refused t r p).setFlow (flowHome t p) (f.answered p.seq (nackOf (u.globalTile t) r p)) ∧
        exec (.put t rx h tc addr data) s = .next (w.sendBack t rx.port (nackOf (u.globalTile t) r p)) ∧
        w.rd MIDWAY.REFUSED.count t = min (u.rd MIDWAY.REFUSED.count t + 1) (2 ^ 16 - 1) ∧ (w.rd (hdrStatus .MIDWAY) t).testBit Ev.ARRIVAL_REFUSED.bit = true ∧
        w.sram = s.sram) ∧
      (f.isOld p.seq = true → u.answerHeld t p = false →
        (f.answers.find? (fun x => x.1 == p.seq) = none → exec (.put t rx h tc addr data) s = .next (u.sendBack t rx.port (ackOf (u.globalTile t) p))) ∧
        (∀ x, f.answers.find? (fun x => x.1 == p.seq) = some x → exec (.put t rx h tc addr data) s = .next (u.sendBack t rx.port x.2)))) ∧
    (∀ (op : Fin 8) (wide : Bool),
      let p := reqPacket u t 4 tc rx h addr.toNat data.length (op.val + (if wide then 8 else 0)) data
      let size := if wide then 8 else 4
      let a := addr.toNat / size * size
      u.flow (flowHome t p) = some f →
      (∀ (n : Nat) (bs : List Byte) (v : State), NextOf f p → u.checkAddr t a size h.job.toNat false = .ok n → u.arrRead a size = (some bs, v) →
        (∀ cmp, (v.arrWrite a (leBytes size (atomicOp op size (leNat bs) (leNat ((data.drop 8).take size)) cmp))).1 = true) →
        ∃ (cmp : Nat) (w : State) (x : Packet), v.arrWrite a (leBytes size (atomicOp op size (leNat bs) (leNat ((data.drop 8).take size)) cmp)) = (true, w) ∧
          x = answerOf (w.globalTile t) 5 addr.toNat 0 (leBytes 8 (leNat bs)) p ∧ exec (.atomicReq t rx h tc addr op wide data) s =
            .next ((w.setFlow (flowHome t p) (f.answered p.seq x)).sendBack t rx.port x)) ∧
      (f.isOld p.seq = false → f.early = [] → p.seq ≠ f.next →
        exec (.atomicReq t rx h tc addr op wide data) s = .next (u.setFlow (flowHome t p) { f with early := [(rx.port.val, p)] }))) ∧
    (∀ (queue : Fin 4096) (first last : Bool),
      let p := reqPacket u t 6 tc rx h queue.val data.length ((if first then 1 else 0) + (if last then 2 else 0)) data
      let k := 4096 * t.val + queue.val
      queue.val < 4080 → u.flow (flowHome t p) = some f → NextOf f p → f.placed = 0 → (u.queue k).enabled = true → (u.queue k).error = false → (u.queue k).remoteEn = true →
      u.rd MIDWAY.JOB_TAG.valid t (u.queue k).owner ≠ 0 → u.jobTag t (u.queue k).owner = h.job.toNat → u.running (u.queue k).owner = true →
      u.mayEnqueue k (flowWho p) = true → first = true → ∀ id, id = (u.newPkt k (some (flowWho p)) none).1 →
      (∀ v w : State, (u.newPkt k (some (flowWho p)) none).2.fillCells k id 20 data = ([], v) →
        w = ((if last then v.closePkt k id false else v.markAvail k id).unstall k (flowWho p)).jugEngine t →
        exec (.enq t rx h tc queue first last data) s =
          .next ((w.setFlow (flowHome t p) (f.taken p.seq)).sendBack t rx.port (ackOf (w.globalTile t) p))) ∧
      (∀ v : State, (u.newPkt k (some (flowWho p)) none).2.fillCells k id 20 data = (data, v) → data ≠ [] →
        exec (.enq t rx h tc queue first last data) s =
          .next (((u.stallOutside k (flowWho p) []).jugEngine t).setFlow (flowHome t p) { f with early := [(rx.port.val, p)] }))) ∧
    (∀ (queue : Fin 4096) (first last : Bool) (op : Fin 8) (wide : Bool) (length : Fin 4097) (slot : BitVec 16) (v : State),
      ∀ i ∈ [(Instr.put t rx h tc addr data, data.length), (.getReq t rx h addr length slot, 0), (.atomicReq t rx h tc addr op wide data, data.length),
        (.enq t rx h tc queue first last data, data.length)],
      (v.portReceives t rx = false → exec i.1 v = .next v) ∧
      (v.portReceives t rx = true → (v.rxCount t rx i.2).edpenOn t = false → exec i.1 v = .next (v.rxCount t rx i.2)))) ∧
  -- R247, R250: GET_REQ is answered with the bytes asked for, and refused as a PUT is; ACK, GET_RSP and ATOMIC_RSP end the packet in flight that they
  -- answer, and answers that no packet waits for change nothing.
  ((∀ (s u : State) (t : TileId) (rx : Rx) (h : Head) (addr : BitVec 46) (length : Fin 4097) (slot : BitVec 16) (f : RxFlow),
    Arrives s u t rx 0 → Unpaired u → let p := reqPacket u t 2 h.cls rx h addr.toNat length slot.toNat []
    u.flow (flowHome t p) = some f → NextOf f p →
    (∀ (n : Nat) (bs : List Byte) (v : State), u.checkAddr t addr.toNat (max 1 length) h.job.toNat false = .ok n → u.arrRead addr.toNat length = (some bs, v) →
      ∃ x, x = answerOf (v.globalTile t) 3 addr.toNat slot.toNat bs p ∧ exec (.getReq t rx h addr length slot) s =
        .next ((v.setFlow (flowHome t p) (f.answered p.seq x)).sendBack t rx.port x)) ∧
    (∀ r, u.checkAddr t addr.toNat (max 1 length) h.job.toNat false = .error r → exec (.getReq t rx h addr length slot) s =
      .next (((u.refused t r p).setFlow (flowHome t p) (f.answered p.seq (nackOf (u.globalTile t) r p))).sendBack t rx.port (nackOf (u.globalTile t) r p)))) ∧
  (∀ (s u : State) (t : TileId) (rx : Rx) (src : BitVec 18) (cls : Fin 8) (seq : BitVec 16), Arrives s u t rx 0 →
    let mine := u.fab.flights.find? (fun f => f.tile == t.val && f.pkt.dst == src.toNat && f.pkt.tc == cls.val && f.pkt.seq == seq.toNat)
    (∀ f, mine = some f → f.held = none → exec (.ack t rx src cls seq) s = .next (u.dropFlight f)) ∧
    (∀ f via a, mine = some f → f.held = some (via, a) → exec (.ack t rx src cls seq) s = .next ((u.dropFlight f).sendBack t via a)) ∧
    (mine = none → exec (.ack t rx src cls seq) s = .next u)) ∧
  (∀ (s u : State) (t : TileId) (rx : Rx) (src : BitVec 18) (slot : BitVec 16) (data : List Byte), Arrives s u t rx data.length →
    let mine := u.fab.flights.find? (fun f => f.tile == t.val && f.pkt.type == 2 && f.pkt.dst == src.toNat && f.pkt.aux == slot.toNat)
    (∀ f c d, mine = some f → f.held = none → u.flightDesc f = some (c, d) →
      exec (.getRsp t rx src slot data) s =
        .next ((u.dropFlight f).setDesc c { d with cache := d.cache ++ (data.zipIdx.map fun x => (src.toNat * 2 ^ 46 + f.pkt.addr + x.2, x.1)) })) ∧
    (mine = none → exec (.getRsp t rx src slot data) s = .next u)) ∧
  (∀ (s u : State) (t : TileId) (rx : Rx) (src : BitVec 18) (seq : BitVec 16) (old : Word64), Arrives s u t rx 8 →
    let mine := u.fab.flights.find? (fun f => f.tile == t.val && f.pkt.type == 4 && f.pkt.dst == src.toNat && f.pkt.seq == seq.toNat)
    (∀ f c d, mine = some f → f.held = none → u.flightDesc f = some (c, d) →
      let key := coreKey c (descLocal d + 16 * f.tag + 8)
      u.sramGood key 8 = true → u.wordsOf 2 key 8 = [] →
      ∃ w, exec (.atomicRsp t rx src seq old) s = .next w ∧ w.fab = (u.dropFlight f).fab ∧ w.sramBytes key 8 = leBytes 8 old.toNat ∧ w.regs = u.regs ∧ w.hbm = u.hbm) ∧
    (mine = none → exec (.atomicRsp t rx src seq old) s = .next u)))

/-- Unanswered packets are sent again; send queues are served. -/
def Obligations.PacketsAreSent : Prop :=
  -- R237, R250, R251: a packet that stays unanswered is sent again on the next port, three times, and then ends its partition's step in error; so
  -- does one lost with a tile, and one that is refused. A copy for the standby of a pair ends nobody's step (R292).
  ((∀ (s : State) (i : BitVec 16) (f : Flight), s.fab.flights[i.toNat]? = some f → f.tile < 8 →
    (s.timedOut f = true → f.port < 8 → f.resends < 3 → ∃ t, exec (.e2eTimeout i) s = .next t ∧
      t.rd MIDWAY.RESENDS.count f.tile = min (s.rd MIDWAY.RESENDS.count f.tile + 1) (2 ^ 32 - 1) ∧
      (∃ port, t.outbox = s.outbox ++ [.packet f.tile port f.pkt (f.pkt.crc 0)] ∧ { f with port := port, sentAt := s.now, resends := f.resends + 1 } ∈ t.fab.flights) ∧
      t.hbm = s.hbm ∧ t.sram = s.sram ∧ t.parts = s.parts) ∧
    (s.timedOut f = true → f.port < 8 → 3 ≤ f.resends → exec (.e2eTimeout i) s = .next (if f.copy then s else s.flightFault f fLINK_TIMEOUT)) ∧
    (s.timedOut f = false → exec (.e2eTimeout i) s = .next s ∧ exec (.linkTimeout i) s = .next s) ∧
    (f.port = 8 → s.timedOut f = true → exec (.linkTimeout i) s = .next (if s.midLost f then s.flightFault f fLINK_TIMEOUT else s))) ∧
  (∀ (s : State) (f : Flight) (code p : Nat), f.copy = false → s.flightDesc f = none → f.held = none → f.part = some p → (s.part p).inStep = true → (s.part p).fault = none →
    ((s.flightFault f code).part p).fault = some (code, f.pkt.addr) ∧ f ∉ (s.flightFault f code).fab.flights) ∧
  (∀ (s : State) (f : Flight) (code : Nat), f.copy = true → (s.flightFault f code).parts = s.parts ∧ f ∉ (s.flightFault f code).fab.flights) ∧
  (∀ (s u : State) (t : TileId) (rx : Rx) (src : BitVec 18) (cls : Fin 8) (seq : BitVec 16) (reason : Fin 16), Arrives s u t rx 0 → cls.val ≠ 1 →
    let mine := u.fab.flights.find? (fun f => f.tile == t.val && f.pkt.dst == src.toNat && f.pkt.tc == cls.val && f.pkt.seq == seq.toNat)
    (∀ f, mine = some f → exec (.nack t rx src cls seq reason) s = .next (u.flightFault f fEDPEN_REFUSED)) ∧
    (mine = none → exec (.nack t rx src cls seq reason) s = .next u))) ∧
  -- R227, R255, R265: a send queue's first message leaves as ENQ packets of its flow; one with a bad header is owed to the sender's next boundary,
  -- and one that no route takes ends the sender's step; a PACE record goes into its queue, or waits for it and is not dropped.
  ((∀ (s : State) (t : TileId) (q : Fin 4) (p : QPkt), let k := 4096 * t.val + 4068 + q.val
    (s.queue k).pkts.find? (fun p => !p.gone) = some p →
    let v := (s.freePkt k (p.cells.map fun i => (p.id, i))).dropPkt k p.id
    let u := v.setQueue k { v.queue k with lastDeq := s.beat.count % 2 ^ 32, timer := some s.now }
    let send := u.sendFlow t ⟨p.part, none, 0, 0, 0, false⟩ 6 (4 + q) (leNat (p.data.take 4)) (leNat ((p.data.drop 4).take 2)) (p.data.length - 32) 3 (p.data.drop 32) true
    let good := leNat (p.data.take 4) < 2 ^ 18 ∧ leNat ((p.data.drop 4).take 2) < 2 ^ 12 ∧ leNat ((p.data.drop 6).take 26) = 0
    (p.avail = true → p.closed = true → s.tileUp t = true →
      (∀ n, p.part = some n → p.data.length ≤ 32 ∨ ¬ good →
        exec (.sendQueueServe t q) s = .next (((u.setPart n { u.part n with owed := some fPACKET_FAULT }).jugEngine t).serveHeld t)) ∧
      (∀ w, 32 < p.data.length → p.data.length ≤ 32 + 4096 → good → send = some w → exec (.sendQueueServe t q) s = .next ((w.jugEngine t).serveHeld t)) ∧
      (∀ n, p.part = some n → 32 < p.data.length → p.data.length ≤ 32 + 4096 → good → send = none →
        exec (.sendQueueServe t q) s = .next (((u.partFault n fROUTE_FAULT 0).jugEngine t).serveHeld t))) ∧
    (p.avail = false ∨ p.closed = false ∨ s.tileUp t = false → exec (.sendQueueServe t q) s = .next s)) ∧
  (∀ (s : State) (t : TileId) (rx : Rx) (src : BitVec 18) (queue : Fin 4096) (data : BitVec 256) (u : State), s.portReceives t rx = true → u = s.rxCount t rx 32 →
    (u.queue (4096 * t.val + queue.val)).enabled = true → (u.queue (4096 * t.val + queue.val)).error = false → (u.queue (4096 * t.val + queue.val)).remoteEn = true →
    u.running (u.queue (4096 * t.val + queue.val)).owner = true →
    exec (.pace t rx src queue data) s = .next (u.fabricPut (4096 * t.val + queue.val) (leBytes 32 data.toNat))) ∧
  (∀ (s : State) (k : Nat) (bs : List Byte),
    (∀ w, (∀ o ∈ (s.queue k).outside, o.who ≠ 2 ^ 25) → s.putWhole k (2 ^ 25) bs = some w → s.fabricPut k bs = w) ∧
    ((∃ o ∈ (s.queue k).outside, o.who = 2 ^ 25) ∨ s.putWhole k (2 ^ 25) bs = none →
      ∃ o ∈ ((s.fabricPut k bs).queue k).outside, o.who = 2 ^ 25 ∧ o.bytes = bs)))

/-- Ports, Midway links, module numbers and routes. -/
def Obligations.FabricMoves : Prop :=
  -- R241, R267 to R269, R519: the states of a port: lanes, loss, training and its end, the port commands and their results.
  ((∀ (s : State) (i : PortId) (lane : Fin 4), s.rd EDPEN.STATUS.lanes_up i < 16 →
    ((s.rd EDPEN.STATUS.lanes_up i).testBit lane = true → s.pState i = pUP4 → ∃ t, exec (.laneFail i lane) s = .next t ∧ t.pState i = pUP3 ∧
      (t.rd EDPEN.STATUS.lanes_up i).testBit lane = false ∧ t.rd EDPEN.DOWNS.lanes i = min (s.rd EDPEN.DOWNS.lanes i + 1) (2 ^ 16 - 1) ∧
      (t.rd (hdrStatus .EDPEN) i).testBit Ev.LANE_DOWN.bit = true ∧ t.sram = s.sram) ∧
    ((s.rd EDPEN.STATUS.lanes_up i).testBit lane = true → s.pState i = pUP3 → exec (.laneFail i lane) s = exec (.portDown i) s) ∧
    ((s.rd EDPEN.STATUS.lanes_up i).testBit lane = false → exec (.laneFail i lane) s = .next s)) ∧
  (∀ (s : State) (i : PortId), ((s.pState i = pUP4 ∨ s.pState i = pUP3) → ∃ t, exec (.portDown i) s = .next t ∧ t.pState i = pDOWN ∧ t.rd EDPEN.STATUS.lanes_up i = 0 ∧
      t.rd EDPEN.DOWNS.ports i = min (s.rd EDPEN.DOWNS.ports i + 1) (2 ^ 16 - 1) ∧ (t.rd (hdrStatus .EDPEN) i).testBit Ev.PORT_DOWN.bit = true ∧ t.sram = s.sram) ∧
    (s.pState i ≠ pUP4 → s.pState i ≠ pUP3 → exec (.portDown i) s = .next s)) ∧
  (∀ (s : State) (i : PortId), s.pState i = pDOWN → s.rd EDPEN.CTRL.enable i ≠ 0 → s.tileUp (i / 8) = true →
    (∀ t0, (s.portSt i).attemptAt = some t0 → t0 + 1000000000 ≤ s.now) → exec (.portTrainStart i) s = .next (s.portTrain i)) ∧
  (∀ (s : State) (i : PortId), (s.portTrain i).pState i = pTRAINING ∧ ((s.portTrain i).portSt i).attemptAt = some s.now ∧ (s.portTrain i).sram = s.sram ∧
    let cr := [s.rd EDPEN.CREDIT0.tc0 i, s.rd EDPEN.CREDIT0.tc1 i, s.rd EDPEN.CREDIT1.tc2 i, s.rd EDPEN.CREDIT1.tc3 i,
               s.rd EDPEN.CREDIT2.tc4 i, s.rd EDPEN.CREDIT2.tc5 i, s.rd EDPEN.CREDIT3.tc6 i, s.rd EDPEN.CREDIT3.tc7 i]
    (8192 < cr.sum → ((s.portTrain i).portSt i).credits = (s.portSt i).credits) ∧
    (cr.sum ≤ 8192 → ∀ k, k < 8 → ((s.portTrain i).portSt i).credits / 2 ^ (16 * k) % 2 ^ 16 = cr.getD k 0)) ∧
  (∀ (s : State) (i : PortId) (lanes : BitVec 4) (margins : Word), s.pState i = pTRAINING → s.rd EDPEN.CTRL.lane_en i = 15 →
    (lanes = 15 → ∃ t, exec (.portTrainEnd i lanes margins) s = .next t ∧ t.pState i = pUP4 ∧ t.rd EDPEN.STATUS.lanes_up i = 15 ∧ t.rd EDPEN.LANE_MARGIN.margin i = margins.toNat ∧
      (t.rd (hdrStatus .EDPEN) i).testBit Ev.PORT_UP.bit = true ∧ ((s.portSt i).byCmd = true → t.rd EDPEN.CMD_RESULT.result i = 2)) ∧
    ((lanes = 7 ∨ lanes = 11 ∨ lanes = 13 ∨ lanes = 14) → ∃ t, exec (.portTrainEnd i lanes margins) s = .next t ∧ t.pState i = pUP3 ∧ t.rd EDPEN.STATUS.lanes_up i = lanes.toNat ∧
      (t.rd (hdrStatus .EDPEN) i).testBit Ev.LANE_DOWN.bit = true) ∧
    (lanes = 0 → ∃ t, exec (.portTrainEnd i lanes margins) s = .next t ∧ t.pState i = pDOWN ∧ t.rd EDPEN.STATUS.lanes_up i = 0 ∧
      ((s.portSt i).byCmd = true → t.rd EDPEN.CMD_RESULT.result i = 5))) ∧
  (∀ (s : State) (m : MasterId) (i : PortId), Admits s m .EDPEN i 0x040 →
    ((s.pState i = pUP4 ∨ s.pState i = pUP3 ∨ s.pState i = pDOWN) → ∃ t, exec (.portFence m i) s = .next t ∧ t.pState i = pFENCED ∧ t.rd EDPEN.CMD_RESULT.result i = 2 ∧ t.sram = s.sram) ∧
    (s.pState i = pFENCED → ((s.portSt i).passed = true ∨ (s.portSt i).tested = false) → exec (.portUnfence m i) s = .next ((s.portTrain i).trainByCmd i)) ∧
    (s.pState i = pDOWN → s.rd EDPEN.CTRL.enable i ≠ 0 → exec (.portRetrain m i) s = .next ((s.portTrain i).trainByCmd i)) ∧
    ((s.portTrain i).trainByCmd i).rd EDPEN.CMD_RESULT.result i = 1 ∧
    (s.pState i = pFENCED → s.testBusy btPort i = false → ∃ t, exec (.portTest m i) s = .next t ∧ t.pState i = pTESTING ∧ t.rd EDPEN.CMD_RESULT.result i = 1 ∧
      t.testBusy btPort i = true ∧ t.sram = s.sram) ∧
    (s.pState i ≠ pFENCED → exec (.portUnfence m i) s = .next (s.wr EDPEN.CMD_RESULT.result 4 i)) ∧
    (s.pState i ≠ pDOWN → exec (.portRetrain m i) s = .next (s.wr EDPEN.CMD_RESULT.result 4 i)))) ∧
  -- R234 to R236, R244, R245: Midway links and messages, module numbers and route entries.
  ((∀ (s : State) (t : TileId) (d : Fin 3), (s.linkUp t d = true → ∃ u, exec (.midwayLinkDown t d) s = .next u ∧ u.linkUp t d = false ∧ u.linkUp (t.val ^^^ 2 ^ d.val) d = false ∧
      u.rd MIDWAY.LINK_DOWNS.count t d = min (s.rd MIDWAY.LINK_DOWNS.count t d + 1) (2 ^ 16 - 1) ∧ (u.rd (hdrStatus .MIDWAY) t).testBit Ev.MIDWAY_LINK_DOWN.bit = true ∧ u.sram = s.sram) ∧
    (s.linkUp t d = false → exec (.midwayLinkDown t d) s = .next s)) ∧
  (∀ (s : State) (t : TileId) (d : Fin 3) (l : LinkState), Assoc.get none s.fab.links (linkKey t d) = some l → l.tries < 3 → l.downAt + (l.tries + 1) * 1000000000 ≤ s.now →
    s.tileLost t = false → s.tileLost (t.val ^^^ 2 ^ d.val) = false →
    (∃ u, exec (.midwayRetrain t d true) s = .next u ∧ u.linkUp t d = true ∧ u.linkUp (t.val ^^^ 2 ^ d.val) d = true ∧ Assoc.get none u.fab.links (linkKey t d) = none ∧
      (u.rd (hdrStatus .MIDWAY) t).testBit Ev.MIDWAY_LINK_UP.bit = true) ∧
    exec (.midwayRetrain t d false) s = .next (s.putFab { s.fab with links := Assoc.put none s.fab.links (linkKey t d) (some { l with tries := l.tries + 1 }) })) ∧
  (∀ (s : State) (src dst : TileId) (cls : Fin 3) (d : Fin 3) (resent : Fin 17) (m : MidMsg),
    s.fab.midway.find? (fun m => m.src == src.val && m.dst == dst.val && m.cls == cls.val) = some m →
    let v := s.add MIDWAY.LINK_RETRY.flits resent.val m.at_ d
    let arrived := fun (s : State) => let w := s.putFab { s.fab with midway := s.fab.midway.erase m }; if s.tileUp m.dst then w.midDeliver m.dst m.pkt else w
    (m.at_ = dst → exec (.midwayPacket src dst cls d resent) s = .next (arrived s)) ∧
    (m.at_ ≠ dst → s.nextLink m.at_ dst ≠ some d.val → exec (.midwayPacket src dst cls d resent) s = .next s) ∧
    (m.at_ ≠ dst → s.nextLink m.at_ dst = some d.val →
      (resent.val = 16 → exec (.midwayPacket src dst cls d resent) s = .next (v.linkDown m.at_ d)) ∧
      (resent.val < 16 → m.at_ ^^^ 2 ^ d.val = dst → exec (.midwayPacket src dst cls d resent) s = .next (arrived v)) ∧
      (resent.val < 16 → m.at_ ^^^ 2 ^ d.val ≠ dst →
        exec (.midwayPacket src dst cls d resent) s = .next (v.putFab { v.fab with midway := v.fab.midway.replace m { m with at_ := m.at_ ^^^ 2 ^ d.val } })))) ∧
  (∀ (s : State) (src dst : TileId) (cls d : Fin 3) (resent : Fin 17), (∀ m ∈ s.fab.midway, ¬(m.src = src.val ∧ m.dst = dst.val ∧ m.cls = cls.val)) →
    exec (.midwayPacket src dst cls d resent) s = .next s) ∧
  (∀ (s : State) (t u d : Nat), t < 8 → u < 8 → s.nextLink t u = some d → d < 3 ∧ s.linkUp t d = true ∧
    ∃ n, n < 7 ∧ t ∈ s.within u (n + 1) ∧ t ^^^ 2 ^ d ∈ s.within u n ∧ (∀ k, k ≤ n → t ∉ s.within u k) ∧
      ∀ e, e < d → s.linkUp t e = true → t ^^^ 2 ^ e ∉ s.within u n) ∧
  (∀ (s : State) (m : MasterId) (t : TileId) (v : Word), Admits s m .MIDWAY t 0x040 →
    ((∀ p, p < 16 → s.running p = true → s.holdsTile p t = false) → ∃ u, exec (.moduleIdWrite m t v) s = .next u ∧ u.rd MIDWAY.MODULE_ID.module t = v.toNat % 2 ^ 15 ∧
      u.rd MIDWAY.MODULE_ID.valid t = v.toNat / 2 ^ 31 ∧ u.sram = s.sram ∧
      ∀ x : TileId, u.tileLost x = false → u.idAgrees x = false → (u.rd (hdrStatus .MIDWAY) x).testBit Ev.MODULE_ID_MISMATCH.bit = true) ∧
    (∀ p, p < 16 → s.running p = true → s.holdsTile p t = true → exec (.moduleIdWrite m t v) s = .next s)) ∧
  (∀ (s : State) (m : MasterId) (t : TileId) (v : Word), Admits s m .MIDWAY t 0x050 → (m.val = 0 ∨ m.val = 1 ∨ m.val = 2 ∨ m.val = 6) →
    ∃ u, exec (.routeHiWrite m t v) s = .next u ∧ u.rd MIDWAY.ROUTE_HI.bits_hi t = v.toNat ∧
      u.route t (s.rd MIDWAY.ROUTE_SEL.entry t) = s.rd MIDWAY.ROUTE_LO.bits_lo t + v.toNat * 2 ^ 32 ∧ u.hbm = s.hbm ∧ u.sram = s.sram) ∧
  (∀ (s : State) (m : MasterId) (t : TileId) (v : Word), Admits s m .MIDWAY t 0x05C → (m.val = 0 ∨ m.val = 1 ∨ m.val = 2 ∨ m.val = 6) → v.toNat.testBit 31 = true →
    1 ≤ bits v.toNat 30 15 → bits v.toNat 30 15 ≤ 32768 → s.rd MIDWAY.STATUS.route_loading t = 0 →
    ∃ u, exec (.routeLoadCmd m t v) s = .next u ∧ u.rd MIDWAY.STATUS.route_loading t = 1 ∧ Assoc.get none u.fab.loads t = some (v.toNat % 32768, bits v.toNat 30 15) ∧ u.hbm = s.hbm) ∧
  (∀ (s : State) (t : TileId) (x : Nat × Nat), Assoc.get none s.fab.loads t = some x → ∃ u, exec (.routeLoadDone t) s = .next u ∧ u.rd MIDWAY.STATUS.route_loading t = 0 ∧
    Assoc.get none u.fab.loads t = none ∧ (u.rd (hdrStatus .MIDWAY) t).testBit Ev.ROUTE_LOAD_DONE.bit = true ∧ u.sram = s.sram))

/-- R137, R257, R259, R261, R266, R369: collectives begin, go on and end; PARTNER_PARKED ends those it names; a FLEET_ACCESS request is answered. The
layout of the answer is assumption 121. -/
def Obligations.CollectivesRun : Prop :=
  (∀ (s : State) (n : SlotId), (s.dueAlone n 0x07 = true → exec (.collLaunch n) s = .next (s.collLaunch n)) ∧ (s.dueAlone n 0x07 = false → exec (.collLaunch n) s = .next s)) ∧
  (∀ (s : State) (n : SlotId), s.running (s.slotOwner n) = false → s.collLaunch n = s.slotFire n) ∧
  (∀ (s : State) (t : TileId), exec (.collRound t) s = .next ((s.fab.colls.filter (fun c => c.tile == t.val)).foldl (fun s c => s.collRun c (collFuel c.ctx)) s)) ∧
  (∀ (s : State) (c : Coll) (fuel : Nat), c.complete = false → s.fab.held.any (s.collStray c) = true → s.collRun c (fuel + 1) = s.collFail c 3 fCOLL_FAULT) ∧
  (∀ (s u : State) (t : TileId) (rx : Rx) (h : Head) (rank : BitVec 18) (round : BitVec 19) (inst : Fin 512) (tag : BitVec 16) (data : List Byte), Arrives s u t rx data.length →
    let p := reqPacket u t 9 h.cls rx h (rank.toNat + round.toNat * 2 ^ 18 + inst.val * 2 ^ 37) data.length tag.toNat data
    let mine := (List.range 16).find? (fun n => u.holdsTile n t && u.is MIDWAY.JOB_TAG.valid t n && u.jobTag t n == h.job.toNat)
    (∀ n, mine = some n → u.running n = true → u.leading n = false → u.collFits t rx.port p = true → u.fab.held = [] →
      exec (.coll t rx h rank round inst tag data) s =
        .next ((u.putFab { u.fab with held := [CollMsg.mk t n tag.toNat rank.toNat round.toNat inst data h.src.toNat s.now] }).collsGo t)) ∧
    (∀ n, mine = some n → u.running n = false →
      exec (.coll t rx h rank round inst tag data) s = .next ((u.refused t 4 p).sendBack t rx.port (nackOf ((u.refused t 4 p).globalTile t) 4 p))) ∧
    (mine = none → exec (.coll t rx h rank round inst tag data) s = .next ((u.refused t 1 p).sendBack t rx.port (nackOf ((u.refused t 1 p).globalTile t) 1 p)))) ∧
  (∀ (s : State) (i : BitVec 6) (c : Coll), s.fab.colls[i.toNat]? = some c → c.complete = false → s.counting = true →
    (c.launch + cDeadline c.ctx ≤ s.beat.count → ∃ v u, u = (s.corePut c.core (cDst c.ctx) (leBytes (collBytes c.ctx (collDstCount c.ctx)) v)).2 ∧
      ∃ w, exec (.collDeadline i) s = .next w ∧ w.fab = (u.collFail c 1 fCOLL_TIMEOUT).fab ∧ w.parts = (u.collFail c 1 fCOLL_TIMEOUT).parts ∧
        w.sram = (u.collFail c 1 fCOLL_TIMEOUT).sram) ∧
    (s.beat.count < c.launch + cDeadline c.ctx → exec (.collDeadline i) s = .next s)) ∧
  (∀ (s : State) (i : BitVec 6) (c : Coll), s.fab.colls[i.toNat]? = some c →
    (∀ b, c.complete = true → c.bc = some b →
      exec (.collDone i) s = .next ((s.corePut c.core (cDst c.ctx) (collPack c.ctx ((resultOf c.ctx c.blocks).map (collOut c.ctx)))).2.collEnd c 0)) ∧
    (c.complete = false → exec (.collDone i) s = .next s)) ∧
  (∀ (s : State) (c : Coll) (status : Nat), c.tile < 8 → status < 256 → s.sramGood (coreKey c.core (cResult c.ctx)) 16 = true → (s.collEnd c status).rd MIDWAY.COLL_STATUS.last_status c.tile = status ∧
    (∀ d ∈ (s.collEnd c status).fab.colls, sameColl c d = false) ∧
    (s.collEnd c status).sramBytes (coreKey c.core (cResult c.ctx)) 8 = leBytes 8 (status + (if cClosing c.ctx then min c.amin (2 ^ 32 - 1) else 0) * 2 ^ 16)) ∧
  (∀ (s : State) (t : TileId) (rx : Rx) (src who : BitVec 18), (s.portReceives t rx = true → ∃ u, exec (.partnerParked t rx src who) s = .next u ∧
      (u.rd (hdrStatus .MIDWAY) t).testBit Ev.PARTNER_PARKED.bit = true ∧ ∀ c ∈ u.fab.colls, c.tile = t.val → c.list.contains who.toNat = true → c.complete = true) ∧
    (s.portReceives t rx = false → exec (.partnerParked t rx src who) s = .next s)) ∧
  (∀ (s u : State) (t : TileId) (rx : Rx) (src : BitVec 18) (aux : BitVec 16) (request : BitVec 128) (data : List Byte), s.portReceives t rx = true →
    u = s.rxCount t rx (16 + data.length) →
    (u.runs 6 = true → aux.toNat.testBit 15 = false → aux.toNat % 4 = 0 → request.toNat.testBit 28 = true →
      ∃ v status, v = u.busWrite FLEET (bits request.toNat 15 0) (bits request.toNat 27 16) (bits request.toNat 63 32) ∧
        exec (.fleetAccess t rx src aux request data) s = .next ((v.putFree (v.free + 1)).emit t rx.port
          ⟨0x14, 0, v.globalTile t, src.toNat, 0, 0, 8, 0, aux.toNat % 4 + 2 ^ 15, leBytes 4 status ++ leBytes 4 0, reverseRoute rx.route.toNat⟩)) ∧
    (u.runs 6 = false ∨ aux.toNat.testBit 15 = true → exec (.fleetAccess t rx src aux request data) s = .next u))

/-- Partition commands and pair mode. -/
def Obligations.PartitionsAreManaged : Prop :=
  -- R274, R279, R280: the partition commands: what each leaves, and what a state that does not admit it answers.
  (∀ (s : State) (m : MasterId) (p : PartId), Admits s m .MOD 0 (0x404 + 0x40 * p) →
    (s.configCheck p = 2 → ∃ t, exec (.partConfig m p) s = .next t ∧ t.rd MOD.PART_RESULT.result 0 p = 2 ∧
      (∀ h, h < 16 → t.holds p h = (s.rd MOD.PART_CFG.halves 0 p).testBit h) ∧ (t.part p).repeatable = s.is MOD.PART_CFG.repeatable 0 p ∧
      (t.part p).pairEn = s.is MOD.PART_CFG.pair_en 0 p ∧ (t.part p).standby = s.is MOD.PART_CFG.standby 0 p ∧
      t.partState p = (if s.partState p = 0 then 1 else s.partState p) ∧ t.sram = s.sram) ∧
    (s.configCheck p ≠ 2 → exec (.partConfig m p) s = .next (s.wr MOD.PART_RESULT.result (s.configCheck p) 0 p)) ∧
    ((s.partState p = 1 ∨ s.partState p = 3) →
      (∃ t, exec (.partRelease m p) s = .next t ∧ t.partState p = 0 ∧ t.rd MOD.PART_RESULT.result 0 p = 2 ∧ (∀ h, h < 16 → t.holds p h = false)) ∧
      (∃ t, exec (.partReset m p) s = .next t ∧ t.partState p = 1 ∧ t.rd MOD.PART_RESULT.result 0 p = 2 ∧ t.rd MOD.PART_COMMITS.count 0 p = 0 ∧
        t.rd MOD.PART_STEP.step 0 p = 0 ∧ t.rd MOD.PART_STATE.errors_run 0 p = 0 ∧ (t.part p).inStep = false) ∧
      (∃ t, exec (.partClear m p) s = .next t ∧ t.rd MOD.PART_RESULT.result 0 p = 2 ∧ ∀ b, b < 9 →
        (t.rd MOD.PART_STATE.causes 0 p).testBit b = (if b = 3 ∨ b = 5 ∨ b = 6 ∨ b = 7 ∨ b = 8 then false else (s.rd MOD.PART_STATE.causes 0 p).testBit b))) ∧
    (s.partState p ≠ 1 → s.partState p ≠ 3 → exec (.partRelease m p) s = .next (s.wr MOD.PART_RESULT.result 4 0 p) ∧
      exec (.partReset m p) s = .next (s.wr MOD.PART_RESULT.result 4 0 p) ∧ exec (.partClear m p) s = .next (s.wr MOD.PART_RESULT.result 4 0 p)) ∧
    (s.running p = true → exec (.partPark m p) s = .next ((s.setCause p 8).wr MOD.PART_RESULT.result 2 0 p)) ∧
    (s.running p = false → exec (.partPark m p) s = .next (s.wr MOD.PART_RESULT.result 4 0 p))) ∧
  -- R291 to R293: keep-alives, outcomes and silence of a partner in pair mode. The outcomes of a boundary are told with its step.
  ((∀ (s : State) (p : PartId), s.rd MOD.PART_STATE.paired 0 p ≠ 0 →
    (exec (.pairKeepalive p true) s = .next ((s.wr MOD.PAIR_STATUS.partner_present 1 0 p).setPart p { s.part p with heardAt := s.now })) ∧
    (s.running p = true → (s.part p).keptAt + 250 ≤ s.now → exec (.pairKeepalive p false) s =
      .next ((s.setPart p { s.part p with keptAt := s.now }).putOutbox (s.outbox ++ [.pair p (s.rd MOD.PART_STEP.step 0 p) none]))) ∧
    (s.running p = false ∨ s.now < (s.part p).keptAt + 250 → exec (.pairKeepalive p false) s = .next s) ∧
    (∀ o : StepOutcome, let told := (s.part p).partnerOutcomes.filter (·.1 != o.step.toNat)
      (∀ x ∈ (s.part p).ownOutcomes, x.1 ≠ o.step.toNat → ∀ y ∈ told, y.1 ≠ x.1) →
      ((∀ x ∈ (s.part p).ownOutcomes, x.1 ≠ o.step.toNat) → exec (.pairOutcome p o) s =
        .next ((s.wr MOD.PAIR_STATUS.partner_present 1 0 p).setPart p { s.part p with
          heardAt := s.now, partnerOutcomes := told ++ [(o.step.toNat, o.committed)] })) ∧
      (∀ own at_, (o.step.toNat, own, at_) ∈ (s.part p).ownOutcomes → (∀ x ∈ (s.part p).ownOutcomes, x.1 = o.step.toNat → x.2.1 = own) →
        ∃ t, exec (.pairOutcome p o) s = .next t ∧ (t.part p).ownOutcomes = (s.part p).ownOutcomes.filter (·.1 != o.step.toNat) ∧ (t.part p).partnerOutcomes = told ∧
          (own = o.committed → t.rd MOD.PART_STATE.paired 0 p = s.rd MOD.PART_STATE.paired 0 p ∧ t.rd MOD.PART_STATE.primary 0 p = s.rd MOD.PART_STATE.primary 0 p ∧
            t.fab = s.fab) ∧
          (own = true → o.committed = false → t.rd MOD.PART_STATE.paired 0 p = 0 ∧ t.rd MOD.PART_STATE.primary 0 p ≠ 0) ∧
          (own = false → o.committed = true → t.rd MOD.PART_STATE.paired 0 p = 0 ∧ t.rd MOD.PART_STATE.primary 0 p = 0 ∧ (t.rd MOD.PART_STATE.causes 0 p).testBit 7 = true))) ∧
    (s.running p = true → ((s.part p).heardAt + s.rd MOD.PAIR_CFG.timeout_beats 0 p ≤ s.now ∨
        ∃ o ∈ (s.part p).ownOutcomes, o.2.2 + s.rd MOD.PAIR_CFG.timeout_beats 0 p ≤ s.now) → ∃ t, exec (.pairTimeout p) s = .next t ∧
      t.rd MOD.PART_STATE.paired 0 p = 0 ∧ t.rd MOD.PART_STATE.primary 0 p = 1 ∧ t.rd MOD.PAIR_STATUS.partner_present 0 p = 0 ∧
      ∀ f ∈ t.fab.flights, f.part = some p.val → f.copy = false)) ∧
  (∀ (s : State) (p : PartId) (arrived : Bool) (o : StepOutcome), s.rd MOD.PART_STATE.paired 0 p = 0 →
    exec (.pairKeepalive p arrived) s = .next s ∧ exec (.pairOutcome p o) s = .next s ∧ exec (.pairTimeout p) s = .next s))

/-- R297, R299, R391, R519, R573: the tile commands, the end of a tile reset, and the loss of a tile. -/
def Obligations.TileCommands : Prop :=
  (∀ (s : State) (m : MasterId) (t : TileId), Admits s m .TILE t 0x040 → s.rd TILE.STATUS.state t ≠ 2 → (s.tile t).resetAt = none →
    (s.rd TILE.STATUS.state t = 0 → (∀ p, p < 16 → s.holdsTile p t = true → s.running p = false) → ∃ u, exec (.tileFence m t) s = .next u ∧ u.rd TILE.STATUS.state t = 1 ∧
      u.rd TILE.STATUS.cause t = 1 ∧ u.rd TILE.CMD_RESULT.result t = 2 ∧ (u.rd (hdrStatus .TILE) t).testBit Ev.TILE_FENCED.bit = true ∧
      (∀ i, i < 8 → u.pState (8 * t + i) = if s.pState (8 * t + i) = pTESTING then pTESTING else pFENCED) ∧ u.sram = s.sram) ∧
    (∀ p, p < 16 → s.rd TILE.STATUS.state t = 0 → s.holdsTile p t = true → s.running p = true → exec (.tileFence m t) s = .next (s.wr TILE.CMD_RESULT.result 3 t)) ∧
    (s.rd TILE.STATUS.state t = 1 → (((s.tile t).wasReset = true ∧ (s.tile t).passed = true) ∨ (s.rd TILE.STATUS.cause t = 1 ∧ (s.tile t).touched = false)) →
      ∃ u, exec (.tileUnfence m t) s = .next u ∧ u.rd TILE.STATUS.state t = 0 ∧ u.rd TILE.CMD_RESULT.result t = 2 ∧
        (∀ i, i < 8 → let x := s.portSt (8 * t + i)
          u.pState (8 * t + i) = (if s.portKept (8 * t + i) = true ∧ ¬(s.pState (8 * t + i) = pFENCED ∧ x.byTile = true ∧ (x.passed = true ∨ x.tested = false)) then s.pState (8 * t + i)
            else if s.rd EDPEN.CTRL.enable (8 * t + i) = 0 then pDOWN else pTRAINING)) ∧ u.sram = s.sram) ∧
    (s.rd TILE.STATUS.state t = 1 → s.railCutBit (4 * t) = false → s.railCutBit (4 * t + 1) = false → s.railCutBit (4 * t + 3) = false →
      ∃ u, exec (.tileReset m t) s = .next u ∧ u.rd TILE.CMD_RESULT.result t = 1 ∧ u.railState (4 * t) = 0 ∧ u.railState (4 * t + 1) = 0 ∧ (u.tile t).resetAt = some s.now ∧
        (∀ c, c / 64 = t.val → u.core c = CoreState.reset) ∧
        (∀ i, i < 8 → u.pState (8 * t + i) = if s.portKept (8 * t + i) then pFENCED else pDOWN)) ∧
    (s.rd TILE.STATUS.state t = 1 → s.testBusy btTile t = false → ∃ u, exec (.tileTest m t) s = .next u ∧ u.rd TILE.STATUS.state t = 2 ∧ u.rd TILE.CMD_RESULT.result t = 1 ∧
      u.testBusy btTile t = true ∧ u.sram = s.sram) ∧
    (s.rd TILE.STATUS.state t ≠ 1 → exec (.tileUnfence m t) s = .next (s.wr TILE.CMD_RESULT.result 4 t) ∧ exec (.tileReset m t) s = .next (s.wr TILE.CMD_RESULT.result 4 t) ∧
      exec (.tileTest m t) s = .next (s.wr TILE.CMD_RESULT.result (if s.rd TILE.STATUS.state t = 0 then 3 else 4) t))) ∧
  (∀ (s : State) (t : TileId) (t0 : Nat), (s.tile t).resetAt = some t0 → t0 + 2000000 ≤ s.now → s.rd TILE.STATUS.state t = 1 →
    ∃ u, exec (.tileResetDone t) s = .next u ∧ u.railState (4 * t) = 2 ∧ u.railState (4 * t + 1) = 2 ∧ u.rd TILE.CMD_RESULT.result t = 2 ∧
      (∀ k, k / 2 ^ 30 = t.val → u.sramByte k = 0) ∧ (∀ k, k / 2 ^ 30 ≠ t.val → u.sramByte k = s.sramByte k) ∧ (∀ i, i < 8 → u.pState (8 * t + i) = s.pState (8 * t + i))) ∧
  (∀ (s : State) (t : TileId), s.rd TILE.STATUS.state t ≠ 0 → exec (.tileLost t) s = .next s) ∧
  (∀ (s : State) (t : TileId), s.rd TILE.STATUS.state t = 0 → s.railGood (4 * t) = true → s.railGood (4 * t + 1) = true →
    ∃ u, exec (.tileLost t) s = .next u ∧ u.rd TILE.STATUS.state t = 1 ∧ u.rd TILE.STATUS.cause t = 2 ∧ (u.rd (hdrStatus .TILE) t).testBit Ev.TILE_LOST.bit = true ∧
      (∀ p, p < 16 → s.holdsTile p t = true → s.running p = true → (u.rd MOD.PART_STATE.causes 0 p).testBit 6 = true ∧
        ((s.part p).inStep = true → (s.part p).fault = none → (u.part p).fault = some (fTILE_LOST, coreAddr (64 * t) 0))) ∧
      (∀ i, i < 8 → u.pState (8 * t + i) = if s.portKept (8 * t + i) then s.pState (8 * t + i) else pDOWN) ∧ u.sram = s.sram)

/-- Doorbells, rings, interrupt pacing, and the endpoint's answers. -/
def Obligations.HostEndpoint : Prop :=
  -- R310, R312, R327, R332: a doorbell, enabling and resetting a ring, and the end of an interrupt interval.
  ((∀ (s : State) (m : MasterId) (n : RingId) (tail : BitVec 16), Admits s m .HOSTQ (n.val / 8) (0x050 + 0x40 * (n.val % 8)) →
    ((s.ring HOSTQ.RCTRL.enable n ≠ 1 ∨ tail.toNat < s.cmdSize n) → exec (.doorbell m n tail) s = .next (s.setRing HOSTQ.CMD_TAIL.tail n tail.toNat)) ∧
    (s.ring HOSTQ.RCTRL.enable n = 1 → s.cmdSize n ≤ tail.toNat → ∃ t, exec (.doorbell m n tail) s = .next t ∧ t.ring HOSTQ.CMD_TAIL.tail n = tail.toNat ∧
      t.ring HOSTQ.RCTRL.enable n = 0 ∧ t.ring HOSTQ.RSTATUS.reading n = 0 ∧ t.ring HOSTQ.RSTATUS.fault n = 1 ∧ (t.rd (hdrStatus .HOSTQ) (n.val / 8)).testBit 0 = true ∧ t.sram = s.sram)) ∧
  (∀ (s : State) (m : MasterId) (n : RingId) (v : Sys2Proof.Word), Admits s m .HOSTQ (n.val / 8) (0x040 + 0x40 * (n.val % 8)) →
    let valid := ringValid (s.ring HOSTQ.CMD_BASE.base n) (s.ring HOSTQ.CMD_SIZE.log2 n) && ringValid (s.ring HOSTQ.CMP_BASE.base n) (s.ring HOSTQ.CMP_SIZE.log2 n)
    (∃ t, exec (.ringEnable m n v) s = .next t ∧ t.ring HOSTQ.RCTRL.owner n = bits v.toNat 5 2 ∧ t.ring HOSTQ.RCTRL.irq_en n = bits v.toNat 6 6 ∧
      t.ring HOSTQ.RCTRL.vector n = bits v.toNat 12 7 ∧ t.ring HOSTQ.RCTRL.coalesce_us n = bits v.toNat 27 16 ∧ t.sram = s.sram ∧
      (s.is MOD.STATUS.rings_lost = false → valid = true → s.ring HOSTQ.CMD_TAIL.tail n < s.cmdSize n →
        t.ring HOSTQ.RCTRL.enable n = 1 ∧ t.ring HOSTQ.RSTATUS.reading n = 1 ∧ t.ring HOSTQ.RSTATUS.fault n = 0) ∧
      (s.is MOD.STATUS.rings_lost = false → valid = false → t.ring HOSTQ.RCTRL.enable n = 0 ∧ t.ring HOSTQ.RSTATUS.reading n = 0 ∧ t.ring HOSTQ.RSTATUS.fault n = 2)) ∧
    (∃ t, exec (.ringReset m n v) s = .next t ∧ t.ring HOSTQ.RCTRL.enable n = 0 ∧ t.sram = s.sram ∧ t.hbm = s.hbm ∧
      (∀ f, f ∈ [HOSTQ.CMD_TAIL.tail, HOSTQ.CMD_HEAD.head, HOSTQ.CMP_TAIL.tail, HOSTQ.CMP_HEAD.head] →
        t.ring f n = (if s.ring HOSTQ.OUTSTANDING.count n = 0 then 0 else s.ring f n)) ∧
      (s.ring HOSTQ.OUTSTANDING.count n = 0 → Assoc.get true t.host.phase n = true))) ∧
  (∀ (s : State) (n : Fin 65), (n.val < 64 → let i := Assoc.get RingIrq.reset s.host.irq n
      let v := s.ring HOSTQ.RCTRL.vector n
      i.owed = true → i.sentAt + s.ring HOSTQ.RCTRL.coalesce_us n * 1000 ≤ s.now → s.unconsumed n ≠ 0 →
      ∃ t, exec (.msixCoalesce n) s = .next t ∧ Assoc.get RingIrq.reset t.host.irq n = ⟨s.now, true, false⟩ ∧ t.regs = s.regs ∧
        ((s.msixWord (4 * v + 3)).testBit 0 = false → t.outbox = s.outbox ++ [.msix v]) ∧ ((s.msixWord (4 * v + 3)).testBit 0 = true → t.outbox = s.outbox ∧ t.host.pba.testBit v = true)) ∧
    (n.val = 64 → let v := s.rd HOSTQ.EVT_CTRL.vector
      s.host.evtIrq.owed = true → s.host.evtIrq.sentAt + s.rd HOSTQ.EVT_CTRL.coalesce_us * 1000 ≤ s.now → s.rd HOSTQ.EVT_TAIL.tail ≠ s.rd HOSTQ.EVT_HEAD.head →
      ∃ t, exec (.msixCoalesce n) s = .next t ∧ t.host.evtIrq = ⟨s.now, true, false⟩ ∧ t.regs = s.regs ∧
        ((s.msixWord (4 * v + 3)).testBit 0 = false → t.outbox = s.outbox ++ [.msix v]) ∧ ((s.msixWord (4 * v + 3)).testBit 0 = true → t.outbox = s.outbox ∧ t.host.pba.testBit v = true)))) ∧
  -- R172, R308, R309, R321: what the endpoint answers: bad BAR0 accesses, and reads and writes of BAR2, which count as accesses of HS0.
  ((∀ (s : State) (offset : BitVec 26) (size : Fin 4097), ¬((size.val = 4 ∨ size.val = 8) ∧ offset.toNat % size.val = 0) →
    exec (.bar0AccessBad offset size) s = .next (s.putOutbox (s.outbox ++ [.unsupportedRequest]))) ∧
  (∀ (s : State) (offset : BitVec 26) (size : Fin 4097), (size.val = 4 ∨ size.val = 8) → offset.toNat % size.val = 0 → exec (.bar0AccessBad offset size) s = .next s) ∧
  (∀ (s : State) (offset : BitVec 30) (size : Fin 4097) (data : List Byte), s.ringsUp = false →
    exec (.bar2Read offset size) s = .next (s.putOutbox (s.outbox ++ [.completerAbort])) ∧ exec (.bar2Write offset data) s = .next s) ∧
  (∀ (s : State) (offset : BitVec 30) (size : Fin 4097), s.ringsUp = true → offset.toNat + size.val ≤ 2 ^ 30 →
    (∀ i, i < size.val → errBytes (Assoc.get 0 s.hbmErr ((s.locOf 0 (ringBase + offset.toNat + i)).granKey 0)) = []) →
    exec (.bar2Read offset size) s = .next ((s.add HS.READ.bytes size 0).putOutbox (s.outbox ++ [.bytes ((List.range size.val).map fun i => s.hbmByte ((s.locOf 0 (ringBase + offset.toNat + i)).key 0))]))) ∧
  (∀ (s : State) (offset : BitVec 30) (size : Fin 4097) (i j : Nat), s.ringsUp = true → 0 < size.val →
    errBytes (Assoc.get 0 s.hbmErr ((s.locOf 0 (ringBase + offset.toNat / 32 * 32)).granKey 0)) = [i, j] →
    ∃ t, exec (.bar2Read offset size) s = .next t ∧ t.outbox.getLast? = some .completerAbort ∧ t.rd MOD.RING_UE.addr = ringBase + offset.toNat / 32 * 32 ∧
      (t.rd (hdrStatus .MOD)).testBit Ev.RING_UE.bit = true ∧ t.hbm = s.hbm ∧ t.sram = s.sram) ∧
  (∀ (s : State) (offset : BitVec 30) (data : List Byte), s.ringsUp = true → offset.toNat + data.length ≤ 2 ^ 30 →
    (∀ i, i < data.length → errBytes (Assoc.get 0 s.hbmErr ((s.locOf 0 (ringBase + offset.toNat + i)).granKey 0)) = []) →
    ∃ t, exec (.bar2Write offset data) s = .next t ∧ (∀ i, i < data.length → t.hbmByte ((s.locOf 0 (ringBase + offset.toNat + i)).key 0) = data.getD i 0) ∧
      (∀ x, (∀ i, i < data.length → x ≠ (s.locOf 0 (ringBase + offset.toNat + i)).key 0) → t.hbmByte x = s.hbmByte x) ∧ t.sram = s.sram ∧
      t.regs = (s.add HS.WRITE.bytes data.length 0).regs))

/-- Ring commands run and complete; the driver attaches, lives and is lost. -/
def Obligations.HostCommandsRun : Prop :=
  -- R38, R289, R312 to R321: HOSTIF reads an entry of the next ring, places, marks, copies or refuses, and writes the completion; with nothing to do
  -- it changes nothing.
  ((∀ (s : State) (n : Nat) (flip1 flip2 : BitVec 288), s.takesCmds = true → s.ringsUp = true → s.nextRing = some n →
    let off := ringBase + s.ring HOSTQ.CMD_BASE.base n * 4096 + 64 * s.ring HOSTQ.CMD_HEAD.head n
    let g := fun i => (s.locOf 0 (off + 32 * i)).granKey 0
    let bad := fun i (f : BitVec 288) => errBytes (Assoc.get 0 s.hbmErr (g i) ^^^ f.toNat)
    let e : Entry64 := BitVec.ofNat 512 (leNat (s.granBytes (g 0) ++ s.granBytes (g 1)))
    let r := s.refusal n e
    (bad 0 flip1 = [] → bad 1 flip2 = [] → ∃ t, exec (.hostCmdRead flip1 flip2) s = .next t ∧ t.host.cmds = s.host.cmds ++
        [⟨n, entryBits e 0 7 0, entryBits e 0 11 8, entryBits e 4 31 0, none, 0, if r = 0 then none else some (2, r, 0, 0), none, false, e⟩] ∧ t.host.rrLast = n ∧
      t.ring HOSTQ.CMD_HEAD.head n = (s.ring HOSTQ.CMD_HEAD.head n + 1) % s.cmdSize n % 2 ^ 16 ∧ t.hbm = s.hbm ∧ t.sram = s.sram) ∧
    (∀ i j, bad 0 flip1 = [i, j] → ∃ t c, exec (.hostCmdRead flip1 flip2) s = .next t ∧ t.host.cmds = s.host.cmds ++ [c] ∧ c.ring = n ∧ c.result = some (2, 0x5C, 0, 0) ∧ c.cmdId = 0 ∧ c.step = none ∧
      t.sram = s.sram)) ∧
  (∀ (s : State) (flip1 flip2 : BitVec 288), s.takesCmds = false ∨ s.ringsUp = false ∨ s.nextRing = none → exec (.hostCmdRead flip1 flip2) s = .next s) ∧
  (∀ (s : State) (n : RingId) (held : Bool) (c : HostCmd) (k : Nat) (u : State), s.checked n 1 held = some c → s.stateRefusal c.part 1 = 0 → s.masterCore c.part = some k →
    u.is MOD.PART_STATE.paired 0 c.part = false →
    s.putWhole (4096 * (k / 64) + 4080 + c.part) (2 ^ 24 + n) (leBytes 64 (c.entry.toNat - entryBits c.entry 8 31 0 * 2 ^ 64 + s.applyStep c % 2 ^ 32 * 2 ^ 64)) = some u →
    exec (if held then .programPlace n else .programCmd n) s = .next (u.setCmdOf n (fun d => { d with step := some (s.applyStep c), placed := u.beat.count, held := false }))) ∧
  (∀ (s : State) (n : RingId) (held : Bool) (c : HostCmd) (k : Nat), s.checked n 1 held = some c → s.stateRefusal c.part 1 = 0 → s.masterCore c.part = some k →
    s.putWhole (4096 * (k / 64) + 4080 + c.part) (2 ^ 24 + n) (leBytes 64 (c.entry.toNat - entryBits c.entry 8 31 0 * 2 ^ 64 + s.applyStep c % 2 ^ 32 * 2 ^ 64)) = none →
    (s.queue (4096 * (k / 64) + 4080 + c.part)).enabled = true →
    exec (if held then .programPlace n else .programCmd n) s =
      .next ((s.setCmdOf n (fun d => { d with held := true })).stallOutside (4096 * (k / 64) + 4080 + c.part) (2 ^ 24 + n) [])) ∧
  (∀ (s : State) (n : RingId) (held : Bool) (i : Instr) (op : Nat) (c : HostCmd),
    ((i = .programCmd n ∧ op = 1 ∧ held = false) ∨ (i = .programPlace n ∧ op = 1 ∧ held = true) ∨ (i = .loadCmd n ∧ op = 2 ∧ held = false) ∨
      (i = .readbackCmd n ∧ op = 3 ∧ held = false) ∨ (i = .markCmd n ∧ op = 4 ∧ held = false)) →
    (s.checked n op held = none → exec i s = .next s) ∧
    (s.checked n op held = some c → s.stateRefusal c.part op ≠ 0 →
      exec i s = .next (s.setCmdOf n (fun d => { d with result := some (2, s.stateRefusal c.part op, 0, 0) })))) ∧
  (∀ (s : State) (n : RingId) (c : HostCmd), s.checked n 4 false = some c → s.stateRefusal c.part 4 = 0 →
    exec (.markCmd n) s = .next (s.setCmdOf n (fun d => { d with step := some (s.applyStep c), placed := s.beat.count }))) ∧
  (∀ (s : State) (n : RingId) (c : HostCmd), (s.checked n 2 false = some c ∨ s.checked n 3 false = some c) → s.stateRefusal c.part c.opcode = 0 →
    let stage := entryBits c.entry 16 31 0
    let addr := entryBits c.entry 24 63 0
    let len := entryBits c.entry 32 31 0
    exec (if c.opcode = 2 then .loadCmd n else .readbackCmd n) s = .next (if s.copyOk c.part stage addr len then
      s.setCmdOf n (fun d => { d with copy := some (stage, addr, len), placed := s.beat.count }) else s.setCmdOf n (fun d => { d with result := some (2, 0x5A, 0, 0) }))) ∧
  (∀ (s u v : State) (n : RingId) (c : HostCmd) (stage addr len : Nat) (bs : List Byte), s.ringsUp = true →
    s.host.cmds.find? (fun d => d.ring == n.val && d.copy.isSome && d.result.isNone) = some c → c.copy = some (stage, addr, len) → s.copyOk c.part stage addr len = true →
    let at_ := ringBase + s.rd HOSTQ.STAGE_BASE.base * 4096 + stage
    (c.opcode = 2 → s.ringRead at_ len = (.ok bs, u) → u.memWrite c.part addr bs = (.ok (), v) →
      exec (.copyDone n) s = .next (v.mapCmds fun d => if d = c then { d with result := some (0, 0, len, 0) } else d)) ∧
    (c.opcode = 3 → s.memRead c.part addr len .tile = (.ok bs, u) → u.ringStore at_ bs = (none, v) →
      exec (.copyDone n) s = .next (v.mapCmds fun d => if d = c then { d with result := some (0, 0, len, 0) } else d)) ∧
    (∀ a, c.opcode = 2 → s.ringRead at_ len = (.error a, u) →
      exec (.copyDone n) s = .next (u.mapCmds fun d => if d = c then { d with result := some (2, 0x5C, 0, 0) } else d)) ∧
    (∀ code a, c.opcode = 3 → s.memRead c.part addr len .tile = (.error (code, a), u) →
      exec (.copyDone n) s = .next (u.mapCmds fun d => if d = c then { d with result := some (2, code, 0, 0) } else d))) ∧
  (∀ (s : State) (n : RingId) (c : HostCmd) (stage addr len : Nat), s.ringsUp = true →
    s.host.cmds.find? (fun d => d.ring == n.val && d.copy.isSome && d.result.isNone) = some c → c.copy = some (stage, addr, len) → s.copyOk c.part stage addr len = false →
    exec (.copyDone n) s = .next (s.mapCmds fun d => if d = c then { d with result := some (2, 0x5A, 0, 0) } else d)) ∧
  (∀ (s : State) (n : RingId), ((∀ d ∈ s.host.cmds, ¬(d.ring = n.val ∧ d.copy.isSome = true ∧ d.result = none)) → exec (.copyDone n) s = .next s) ∧
    ((∀ d ∈ s.host.cmds, ¬(d.ring = n.val ∧ d.result.isSome = true)) → exec (.completionWrite n) s = .next s)) ∧
  (∀ (s : State) (n : RingId) (c : HostCmd) (r : Nat × Nat × Nat × Nat), s.runs 5 = true → s.ringsUp = true →
    s.host.cmds.find? (fun d => d.ring == n.val && d.result.isSome) = some c → c.result = some r →
    let tail := s.ring HOSTQ.CMP_TAIL.tail n % s.cmpSize n
    let at_ := ringBase + (s.ring HOSTQ.CMP_BASE.base n * 4096 + 64 * tail)
    ∃ t, exec (.completionWrite n) s = .next t ∧ t.host.cmds = s.host.cmds.erase c ∧ t.ring HOSTQ.CMP_TAIL.tail n = (tail + 1) % s.cmpSize n % 2 ^ 16 ∧
      t.ring HOSTQ.OUTSTANDING.count n = (s.ring HOSTQ.OUTSTANDING.count n - 1) % 2 ^ 17 ∧ t.ring HOSTQ.DONE.count n = min (s.ring HOSTQ.DONE.count n + 1) (2 ^ 32 - 1) ∧
      (∀ i, i < 2 → t.granBytes ((s.locOf 0 (at_ + 32 * i)).granKey 0) =
        ((completionBytes c r s.beat.count (Assoc.get true s.host.phase n)).drop (32 * i)).take 32) ∧
      (∀ x, (∀ i, i < 2 → x / 32 ≠ (s.locOf 0 (at_ + 32 * i)).granKey 0) → t.hbmByte x = s.hbmByte x) ∧ t.sram = s.sram)) ∧
  -- R324 to R328: the driver attaches, lives, is lost and its partitions are reclaimed (Table 10.8).
  ((∀ (s : State) (m : MasterId) (version : BitVec 16), Admits s m .MOD 0 0x048 →
    (∃ t, exec (.driverAttach m version) s = .next t ∧ t.driver = 1 ∧ t.rd MOD.DRIVER_VER.version = version.toNat ∧ t.host.hbAt = s.now ∧
      (t.rd (hdrStatus .MOD)).testBit Ev.DRIVER_ATTACHED.bit = true ∧ t.sram = s.sram ∧
      ∀ p, p < 16 → ∀ b, b < 9 → (t.rd MOD.PART_STATE.causes 0 p).testBit b = (if s.driver = 2 ∧ b = 2 then false else (s.rd MOD.PART_STATE.causes 0 p).testBit b)) ∧
    (s.driver ≠ 1 → exec (.driverDetach m) s = .next s)) ∧
  (∀ (s : State) (m : MasterId), Admits s m .MOD 0 0x050 → exec (.heartbeat m) s = .next (if s.driver = 1 then s.putHost { s.host with hbAt := s.now } else s)) ∧
  (∀ (s : State), s.host.pausedAt = none →
    (s.driver ≠ 1 ∨ s.now < s.host.hbAt + 1000000000 → exec .heartbeatLost s = .next s) ∧
    (s.driver ≠ 2 ∨ s.is MOD.CTRL.reclaim_en = false ∨ s.now < s.host.lostAt + 600000000000 → exec .reclaim s = .next s)) ∧
  (∀ (s : State) (m : MasterId) (c : Instr) (cause : Nat), s.driver = 1 →
    ((c = .driverDetach m ∧ Admits s m .MOD 0 0x048 ∧ cause = 2) ∨ (c = .heartbeatLost ∧ s.host.hbAt + 1000000000 ≤ s.now ∧ s.host.pausedAt = none ∧ cause = 1) ∨
      (c = .endpointReset ∧ cause = 3)) →
    ∃ t, exec c s = .next t ∧ t.driver = 2 ∧ t.rd MOD.LOSS_CAUSE.cause = cause ∧ t.host.lostAt = s.now ∧ (t.rd (hdrStatus .MOD)).testBit Ev.HEARTBEAT_LOST.bit = true ∧
      (∀ n, n < 64 → t.ring HOSTQ.RCTRL.enable n = 0 ∧ t.ring HOSTQ.RSTATUS.reading n = 0) ∧
      (∀ p, p < 16 → (s.running p = true ∨ s.partState p = 3) → s.is MOD.CTRL.park_on_loss = true → (t.rd MOD.PART_STATE.causes 0 p).testBit 2 = true) ∧
      (∀ p, p < 16 → s.running p = true → s.is MOD.CTRL.park_on_loss = true → (t.part p).parkNext = true) ∧ (∀ p, p < 16 → t.partState p = s.partState p) ∧ t.sram = s.sram ∧
      (c = .endpointReset → t.host.msix = [])) ∧
  (∀ (s : State), s.driver ≠ 1 → exec .endpointReset s = .next (s.putHost { s.host with msix := [], pba := 0 })) ∧
  (∀ (s : State), s.driver = 2 → s.is MOD.CTRL.reclaim_en = true → s.host.lostAt + 600000000000 ≤ s.now → s.host.pausedAt = none →
    ∃ t, exec .reclaim s = .next t ∧ t.driver = 0 ∧ ∀ p, p < 16 → (s.rd MOD.PART_STATE.causes 0 p).testBit 2 = true → t.partState p = 0))

/-- Flash slots, trials and confirmation. -/
def Obligations.FlashUpdates : Prop :=
  -- R352 to R354, R376: UPDATE refuses what its state does not admit; a slot is erased, written, copied, committed, dropped or chosen for the next
  -- boot; the end of the operation shows its result.
  ((∀ (s : State) (m : MasterId) (k : Fin 2), Admits s m .FW 0 0x080 → UpdFree s →
    (¬((s.slot k = slEMPTY ∨ s.slot k = slINVALID ∨ s.slot k = slCONFIRMED) ∧ k.val ≠ s.bootSlot ∧ s.slot 0 ≠ slTRIAL ∧ s.slot 1 ≠ slTRIAL) →
      exec (.updBegin m k) s = .next (s.wr FW.UPD_RESULT.result 4)) ∧
    ((s.slot k = slEMPTY ∨ s.slot k = slINVALID ∨ s.slot k = slCONFIRMED) → k.val ≠ s.bootSlot → s.slot 0 ≠ slTRIAL → s.slot 1 ≠ slTRIAL →
      ∃ t, exec (.updBegin m k) s = .next t ∧ t.slot k = slWRITING ∧ t.verified k = false ∧ (∀ o, t.flashByte k o = 0xFF) ∧
        (∀ o, t.flashByte (1 - k.val) o = s.flashByte (1 - k.val) o) ∧ t.slot (1 - k.val) = s.slot (1 - k.val) ∧ t.rd FW.UPD_RESULT.result = 1 ∧ t.fw.op = some ⟨0, 1, 2, 0, none⟩ ∧ t.sram = s.sram) ∧
    (s.slot k = slWRITING → (∀ (type : Fin 4) (src : Fin 2) (bs : List Byte) (u : State), 1 ≤ type.val → type.val ≤ 3 →
        s.rd FW.UPD_DST.offset + s.rd FW.UPD_LEN.bytes ≤ regionSize type → s.readSrc src (s.rd FW.UPD_SRC.offset) (s.rd FW.UPD_LEN.bytes) = (some bs, u) →
        exec (.updWrite m k type src) s = .next ((u.flashWrite k (regionBase type + s.rd FW.UPD_DST.offset) bs).updRuns 2 2 0)) ∧
      (∀ (type : Fin 4) (src : Fin 2), 1 ≤ type.val → type.val ≤ 3 → regionSize type < s.rd FW.UPD_DST.offset + s.rd FW.UPD_LEN.bytes →
        exec (.updWrite m k type src) s = .next (s.updRuns 2 5 1)) ∧
      (∀ (type : Fin 4), 1 ≤ type.val → type.val ≤ 3 → ∃ t, exec (.updCopy m k type) s = .next t ∧ t.fw.op = some ⟨0, 3, 2, 0, none⟩ ∧ t.regs = (s.updRuns 3 2 0).regs ∧
        ∀ o, t.flashByte k o = (if regionBase type ≤ o ∧ o < regionBase type + regionSize type then s.flashByte s.bootSlot o else s.flashByte k o)) ∧
      (let fleet := s.is FW.CTRL.fleet_mode
       let refused := s.slotRefusal k (if fleet then [1, 2, 3, 7, 8] else [1, 2, 3, 4, 5, 6, 7, 8])
       (refused = none → ∃ t, exec (.updCommit m k) s = .next t ∧ t.slot k = slSTAGED ∧ t.verified k = !fleet ∧ t.fw.op = some ⟨0, 4, 2, 0, none⟩ ∧ t.sram = s.sram) ∧
       (∀ type r, refused = some (type, r) → ∃ t, exec (.updCommit m k) s = .next t ∧ t.slot k = slINVALID ∧ t.fw.op = some ⟨0, 4, 5, r, none⟩ ∧
         (t.rd (hdrStatus .FW)).testBit Ev.IMAGE_REFUSED.bit = true)) ∧
      (∃ t, exec (.updAbort m k) s = .next t ∧ t.slot k = slINVALID ∧ t.fw.op = some ⟨0, 5, 2, 0, none⟩ ∧ t.hbm = s.hbm)) ∧
    (s.slot k = slSTAGED → ∃ t, exec (.bootNext m k) s = .next t ∧ t.rd FW.BOOT_PREF.slot = (if (s.keepTouch 0).1 then k.val else s.rd FW.BOOT_PREF.slot) ∧
      t.slot k = slSTAGED ∧ t.fw.op = some ⟨0, 9, 2, 0, none⟩) ∧
    (s.slot k ≠ slWRITING → ∀ (type : Fin 4) (src : Fin 2), exec (.updWrite m k type src) s = .next (s.wr FW.UPD_RESULT.result 4) ∧
      exec (.updCopy m k type) s = .next (s.wr FW.UPD_RESULT.result 4) ∧ exec (.updCommit m k) s = .next (s.wr FW.UPD_RESULT.result 4) ∧
      exec (.updAbort m k) s = .next (s.wr FW.UPD_RESULT.result 4)) ∧
    (s.slot k ≠ slSTAGED → exec (.bootNext m k) s = .next (s.wr FW.UPD_RESULT.result 4)) ∧
    (s.slot k = slWRITING → ∀ (src : Fin 2), exec (.updWrite m k 0 src) s = .next (s.wr FW.UPD_RESULT.result 4) ∧ exec (.updCopy m k 0) s = .next (s.wr FW.UPD_RESULT.result 4))) ∧
  (∀ (s : State) (m : MasterId) (k : Fin 2) (type : Fin 4) (src : Fin 2), Admits s m .FW 0 0x080 →
    ∀ i ∈ [Instr.updBegin m k, .updWrite m k type src, .updCopy m k type, .updCommit m k, .updAbort m k, .bootNext m k, .confirm m, .prepare m k, .unprepare m],
      (s.runs 7 = false → exec i s = .next (s.wr FW.UPD_RESULT.result 4)) ∧
      (s.runs 7 = true → (s.fw.op ≠ none ∨ ∃ p, s.fw.prep = some p ∧ p.done = false) → exec i s = .next (s.wr FW.UPD_RESULT.result 3))) ∧
  (∀ (s : State), s.fw.op = none → exec .updateDone s = .next s) ∧
  (∀ (s : State) (o : FwOp), s.fw.op = some o → o.kind = 0 → s.mainRuns = true → s.runs 0 = false → exec .updateDone s = .next s) ∧
  (∀ (s : State) (o : FwOp), s.fw.op = some o → o.kind = 0 → (s.mainRuns = false ∨ s.runs 0 = true) → ∃ t, exec .updateDone s = .next t ∧ t.fw.op = none ∧ t.rd FW.UPD_RESULT.result = o.result % 8 ∧
    t.rd FW.UPD_RESULT.reason = o.reason % 16 ∧ (t.rd (hdrStatus .FW)).testBit Ev.UPDATE_DONE.bit = true ∧ t.sram = s.sram)) ∧
  -- R355, R359: in trial, CONFIRM and a day of trial raise the floors and confirm the running set; out of trial they do not.
  ((∀ (s : State) (m : MasterId) (c : Instr) (l main uc : Img), s.is FW.STATUS.trial = true → s.mainRuns = true → s.runs 7 = true → (s.keepTouch 0).1 = true →
    s.fw.loader = some l → s.fw.main = some main → s.fw.ucode = some uc →
    ((c = .confirm m ∧ Admits s m .FW 0 0x080 ∧ UpdFree s) ∨ (c = .autoConfirm ∧ s.is FW.CTRL.auto_confirm = true ∧ 1440 ≤ s.trialMin)) →
    ∃ t, exec c s = .next t ∧ (∀ i : Fin 3, t.rd FW.FLOOR.floor 0 i = max (s.rd FW.FLOOR.floor 0 i) ([l.svn, main.svn, uc.svn].getD i 0) % 2 ^ 32) ∧
      t.fw.confirmed = [l.hash, main.hash, uc.hash] ∧ t.rd FW.STATUS.trial = 0 ∧ (∀ k : Fin 2, t.slot k = (if s.slot k = slTRIAL then slCONFIRMED else s.slot k)) ∧
      (t.rd (hdrStatus .FW)).testBit Ev.CONFIRMED.bit = true ∧ t.sram = s.sram) ∧
  (∀ (s : State) (m : MasterId), Admits s m .FW 0 0x080 → UpdFree s → (s.is FW.STATUS.trial = false ∨ s.mainRuns = false) → exec (.confirm m) s = .next (s.wr FW.UPD_RESULT.result 4)) ∧
  (∀ (s : State), s.is FW.STATUS.trial = false ∨ s.mainRuns = false ∨ s.runs 7 = false ∨ s.is FW.CTRL.auto_confirm = false ∨ s.trialMin < 1440 → exec .autoConfirm s = .next s))

/-- Preparation, votes, activation and handover. -/
def Obligations.ActivationIsPrepared : Prop :=
  -- R356, R360: a preparation begins, ends with its images in force or with the reason it fails, and is withdrawn.
  ((∀ (s : State) (m : MasterId) (k : Fin 2), Admits s m .FW 0 0x080 → UpdFree s → s.fw.handover = none →
    (s.slot k = slSTAGED → s.fw.prep = none →
      exec (.prepare m k) s = .next (((s.wr FW.UPD_RESULT.result 1).wr FW.UPD_RESULT.reason 0).putFw { s.fw with prep := some ⟨k, false, none, none, 0⟩, prepFailed := 0 })) ∧
    (s.slot k ≠ slSTAGED ∨ s.fw.prep ≠ none → exec (.prepare m k) s = .next (s.wr FW.UPD_RESULT.result 4)) ∧
    (s.fw.prep ≠ none → ∃ t, exec (.unprepare m) s = .next t ∧ t.fw.prep = none ∧ t.rd FW.STATUS.prepared = 0 ∧ t.rd FW.UPD_RESULT.result = 2 ∧
      (t.rd (hdrStatus .FW)).testBit Ev.UPDATE_DONE.bit = true ∧ t.sram = s.sram) ∧
    (s.fw.prep = none → exec (.unprepare m) s = .next (s.wr FW.UPD_RESULT.result 4))) ∧
  (∀ (s : State) (p : Prep), s.fw.prep = some p → p.done = false → s.is FW.STATUS.mirrored = true → s.runs 7 = true →
    let main := s.flashImage p.slot 2
    let uc := s.flashImage p.slot 3
    let r2 := s.imageReason main 2 [1, 2, 3, 4, 5, 6, 7, 9, 10]
    let r3 := s.imageReason uc 3 [1, 2, 3, 4, 5, 6, 7, 11]
    (∀ r, ((r2 ≠ 0 ∧ r = r2) ∨ (r2 = 0 ∧ r3 ≠ 0 ∧ r = r3)) → ∃ t, exec .prepareDone s = .next t ∧ t.fw.prep = none ∧ t.fw.prepFailed = 1 ∧ t.slot p.slot = slINVALID ∧
      t.rd FW.UPD_RESULT.result = 5 ∧ t.rd FW.UPD_RESULT.reason = r % 16 ∧ (t.rd (hdrStatus .FW)).testBit Ev.IMAGE_REFUSED.bit = true ∧ t.sram = s.sram) ∧
    (∀ v u, r2 = 0 → r3 = 0 → s.settingsSelect main.img = (.error v, u) → ∃ t, exec .prepareDone s = .next t ∧ t.fw.prep = none ∧ t.fw.prepFailed = 2 ∧
      t.rd FW.UPD_RESULT.result = 5 ∧ (t.rd (hdrStatus .FW)).testBit Ev.MIGRATION_FAILED.bit = true) ∧
    (∀ a u, r2 = 0 → r3 = 0 → s.settingsSelect main.img = (.ok a, u) → ∃ t q, exec .prepareDone s = .next t ∧ t.fw.prep = some q ∧ q.slot = p.slot ∧ q.done = true ∧
      q.main = some main.img ∧ q.ucode = some uc.img ∧ t.rd FW.STATUS.prepared = 1 ∧ t.rd FW.UPD_RESULT.result = 2 ∧ (t.rd (hdrStatus .FW)).testBit Ev.UPDATE_DONE.bit = true)) ∧
  (∀ (s : State), ((∀ p, s.fw.prep = some p → p.done = true) ∨ s.is FW.STATUS.mirrored = false ∨ s.runs 7 = false) → exec .prepareDone s = .next s)) ∧
  -- R264, R361 to R366: votes and verdicts arrive and are closed, a ready module with the named release activates at its slot, and its cores hand
  -- over.
  ((∀ (s u : State) (t : TileId) (rx : Rx) (aux : BitVec 16) (data : BitVec 128), s.portReceives t rx = true → u = s.rxCount t rx 16 → u.ccRuns = true →
    data.toNat % 2 ^ 16 = u.rd FW.CC_GROUP.group →
    (aux.toNat % 2 = 1 → exec (.curtainVote t rx aux data) s = .next (u.wr FW.CC_STATUS.verdict (if data.toNat.testBit 48 then 1 else 2))) ∧
    (aux.toNat % 2 = 0 → u.is FW.CC_COORD.valid = true → u.rd FW.CC_COORD.tile = u.globalTile t → ∃ v, exec (.curtainVote t rx aux data) s = .next v ∧ v.regs = u.regs ∧
      let from_ := data.toNat / 2 ^ 16 % 2 ^ 18
      Assoc.get none v.fw.votes (voteKey data.toNat from_) = some (from_, data.toNat.testBit 48))) ∧
  (∀ (s : State) (t : TileId) (rx : Rx) (aux : BitVec 16) (data : BitVec 128),
    (s.portReceives t rx = false → exec (.curtainVote t rx aux data) s = .next s) ∧
    (s.portReceives t rx = true → ((s.rxCount t rx 16).ccRuns = false ∨ data.toNat % 2 ^ 16 ≠ (s.rxCount t rx 16).rd FW.CC_GROUP.group) →
      exec (.curtainVote t rx aux data) s = .next (s.rxCount t rx 16))) ∧
  (∀ (s : State) (n : SlotId), s.ccRuns = true → s.armed n = true → s.slotAction n = 4 → s.counting = true → s.slotTarget n ≤ s.beat.count + s.rd FW.CC_CLOSE.beats →
    s.is FW.CC_COORD.valid = true → s.rd FW.CC_COORD.tile / 8 = s.ownModule (s.rd FW.CC_COORD.tile % 8) → s.fw.closed ≠ some (s.slotTarget n) →
    exec (.voteClose n) s = .next (s.groupVotes.foldl (fun u x => u.sendMgmt none (s.rd FW.CC_COORD.tile % 8) 0x12 x.1 0 1
      (voteBytes (u.rd FW.CC_GROUP.group) (s.rd FW.CC_COORD.tile) (decide (s.votesReady ≥ s.rd FW.CC_MEMBERS.count)) 0)) (s.putFw { s.fw with closed := some (s.slotTarget n) }))) ∧
  (∀ (s : State) (n : SlotId), s.ccRuns = false ∨ s.armed n = false ∨ s.slotAction n ≠ 4 ∨ s.counting = false ∨ s.beat.count + s.rd FW.CC_CLOSE.beats < s.slotTarget n ∨
    s.is FW.CC_COORD.valid = false ∨ s.fw.closed = some (s.slotTarget n) → exec (.voteClose n) s = .next s) ∧
  (∀ (s : State), (s.fw.emergencyAt = none ∨ s.fw.emergency = true ∨ ∃ t0, s.fw.emergencyAt = some t0 ∧ s.now < t0 + 10000000000) → exec .emergencyWindowEnd s = .next s) ∧
  (∀ (s : State) (t0 : Nat), s.fw.emergencyAt = some t0 → s.fw.emergency = false → t0 + 10000000000 ≤ s.now →
    ∃ t, exec .emergencyWindowEnd s = .next t ∧ t.fw.emergencyAt = none ∧ t.sram = s.sram ∧ t.hbm = s.hbm) ∧
  (∀ (s : State), s.counting = true → s.beat.count / 2 ^ 20 ≠ s.fw.alignAt → ∃ t, exec .alignmentExchange s = .next t ∧ t.fw.alignAt = s.beat.count / 2 ^ 20 ∧ t.sram = s.sram ∧
    (s.is MIDWAY.BEAT_PARENT.valid s.mgmtTile = true → s.rd BEAT.CTRL.role = 0 → s.is FW.CC_COORD.valid = false → ∀ p ps, s.upPorts s.mgmtTile = p :: ps → s.routeOk s.mgmtTile (s.rd MIDWAY.BEAT_PARENT.tile s.mgmtTile) = true →
      let data := Config.alignBytes (4 * s.beat.count) 0 0 (s.is BEAT.STATUS.epoch_valid) s.errBound (s.rd BEAT.ROOT_ID.root_tile)
      let pkt : Packet := ⟨0x10, 0, s.globalTile s.mgmtTile, s.rd MIDWAY.BEAT_PARENT.tile s.mgmtTile, 0, 0, 32, 0, 0, leBytes 32 data.toNat,
        s.routeTo s.mgmtTile (s.rd MIDWAY.BEAT_PARENT.tile s.mgmtTile)⟩
      t.outbox = s.outbox ++ [.packet s.mgmtTile p pkt (pkt.crc 0)])) ∧
  (∀ (s : State), s.counting = false ∨ s.beat.count / 2 ^ 20 = s.fw.alignAt → exec .alignmentExchange s = .next s) ∧
  (∀ (s : State) (n : SlotId) (p : Prep) (main uc : Img), s.dueAlone n 0x04 = true → s.ready = true → (s.keepTouch 0).1 = true → s.fw.prep = some p → p.main = some main → p.ucode = some uc →
    s.slotParam0 n % 2 ^ 16 = s.rd FW.CC_GROUP.group → main.release = s.slotParam1 n → p.slot < 2 →
    ∃ t, exec (.fwActivate n) s = .next t ∧ t.fw.handover = some (p.slot, s.slotParam0 n % 2 ^ 16, s.now, 1) ∧ t.fw.ucode = some uc ∧ t.rd FW.BOOT_PREF.slot = p.slot ∧
      t.bootSlot = p.slot ∧ t.rd FW.REL.release 0 1 = uc.release % 2 ^ 32 ∧ t.sram = s.sram) ∧
  (∀ (s : State) (n : SlotId), s.dueAlone n 0x04 = true →
    (s.ready = false ∨ s.fw.prep = none ∨ (∃ p, s.fw.prep = some p ∧ (s.slotParam0 n % 2 ^ 16 ≠ s.rd FW.CC_GROUP.group ∨ ∀ x, p.main = some x → x.release ≠ s.slotParam1 n))) →
    ∃ t, exec (.fwActivate n) s = .next t ∧ t.fw = s.fw ∧ t.rd FW.CC_STATUS.outcome = 2 ∧ t.rd FW.CC_STATUS.verdict = 0 ∧ (t.rd (hdrStatus .FW)).testBit Ev.DEFERRED.bit = true ∧
      t.sram = s.sram) ∧
  (∀ (s : State) (n : SlotId), s.dueAlone n 0x04 = false → exec (.fwActivate n) s = .next s) ∧
  (∀ (s : State), s.fw.handover = none → exec .handoverMaster s = .next s ∧ exec .handoverMirrored s = .next s) ∧
  (∀ (s : State) (slot group at_ : Nat) (p : Prep) (img : Img), s.fw.handover = some (slot, group, at_, 1) → s.fw.prep = some p → p.main = some img →
    ∃ t, exec .handoverMaster s = .next t ∧ t.fw.main = some img ∧ t.fw.handover = some (slot, group, at_, 2) ∧ t.fw.prep = none ∧ t.rd SAFE.STATUS.supervision = 1 ∧
      t.rd FW.CC_STATUS.outcome = 1 ∧ (t.rd (hdrStatus .FW)).testBit Ev.ACTIVATED.bit = true ∧
      (s.alive (s.rd SAFE.STATUS.master != 2) = true → t.rd SAFE.STATUS.master = coreNo (s.rd SAFE.STATUS.master != 2))) ∧
  (∀ (s : State) (slot group at_ : Nat), s.fw.handover = some (slot, group, at_, 2) → s.rd SAFE.STATUS.supervision ≠ 2 →
    ∃ t, exec .handoverMirrored s = .next t ∧ t.fw.handover = none ∧ t.rd SAFE.STATUS.supervision = 0 ∧ t.rd FW.STATUS.mirrored = 1 ∧
      t.alive (s.rd SAFE.STATUS.master == 1) = true ∧ (t.rd (hdrStatus .SAFE)).testBit Ev.MC_MIRRORED.bit = true))

/-- Images start; configuration blobs and recovery images are written. -/
def Obligations.ImagesAndSettings : Prop :=
  -- R335, R350, R357, R358: pushed and flash images start the main firmware and the tile microcode, or are refused; a migration that fails has its
  -- consequence.
  ((∀ (s : State) (m : MasterId) (c : Instr) (type : Nat), Admits s m .FW 0 0x078 → ((c = .pushMain m ∧ type = 2) ∨ (c = .pushMicrocode m ∧ type = 3)) →
    (s.rd FW.STATUS.stage ≠ type + 2 ∨ s.updateServes = false → exec c s = .next (s.wr FW.PUSH_RESULT.result 4)) ∧
    (s.rd FW.STATUS.stage = type + 2 → s.updateServes = true →
      (∀ u, s.readSrc 0 (s.rd FW.PUSH_OFFSET.offset) (s.rd FW.PUSH_LEN.bytes) = (none, u) →
        exec c s = .next (((u.wr FW.PUSH_RESULT.result 5).wr FW.PUSH_RESULT.reason 1).imageRefused type 1 1)) ∧
      (∀ bs u, s.readSrc 0 (s.rd FW.PUSH_OFFSET.offset) (s.rd FW.PUSH_LEN.bytes) = (some bs, u) →
        let r := u.startReason (imageOf bs) type
        let ok := (u.wr FW.PUSH_RESULT.result 2).wr FW.PUSH_RESULT.reason 0
        (r = 0 → type = 3 → ∃ t, exec c s = .next t ∧ t.fw.ucode = some (imageOf bs).img ∧ t.rd FW.STATUS.stage = 6 ∧ t.rd FW.PUSH_RESULT.result = 2 ∧
          t.rd FW.REL.release 0 1 = (imageOf bs).img.release % 2 ^ 32 ∧ t.rd FW.STATUS.ucode_flash = 0 ∧ (t.rd (hdrStatus .FW)).testBit Ev.STARTED.bit = true) ∧
        (r = 0 → type = 2 → (∀ a v, ok.settingsSelect (imageOf bs).img = (.ok a, v) → exec c s = .next (v.mainUp (imageOf bs).img a)) ∧
          (∀ w v, ok.settingsSelect (imageOf bs).img = (.error w, v) →
            exec c s = .next ((v.raise Ev.MIGRATION_FAILED 0 [w, (imageOf bs).img.setVer]).bootFlash 2))) ∧
        (r ≠ 0 → let refused := ((u.wr FW.PUSH_RESULT.result 5).wr FW.PUSH_RESULT.reason r).imageRefused type r 1
          (refused.rd FW.PUSH_RESULT.reason = r % 16 ∧ (refused.rd (hdrStatus .FW)).testBit Ev.IMAGE_REFUSED.bit = true ∧ refused.rd FW.STATUS.stage = u.rd FW.STATUS.stage) ∧
          exec c s = .next (if type = 2 ∧ r = 11 then refused.bootFlash 2 else refused))))) ∧
  (∀ (s u : State) (c : Instr) (m : MasterId) (type : Nat), (s.rd FW.STATUS.stage = 4 ∧ type = 2 ∨ s.rd FW.STATUS.stage = 5 ∧ type = 3) → s.updateServes = true →
    ((c = .pushFlash m ∧ Admits s m .FW 0 0x078 ∧ u = (s.wr FW.PUSH_RESULT.result 2).wr FW.PUSH_RESULT.reason 0) ∨
      (c = .pushTimeout ∧ (s.fw.stageAt + 60000000000 ≤ s.now ∨ s.is FW.CTRL.push_wait = false) ∧ u = s)) →
    exec c s = .next (u.bootFlash type) ∧
    let k := u.bootSlot
    let v := u.raise Ev.BOOT_FALLBACK 0 [type, k]
    let x := u.flashImage k type
    (v.startReason x type = 0 → type = 3 → (u.bootFlash type).fw.ucode = some x.img ∧ (u.bootFlash type).rd FW.STATUS.stage = 6 ∧ (u.bootFlash type).rd FW.STATUS.ucode_flash = 1) ∧
    (v.startReason x type = 0 → type = 2 → (∀ a w, v.settingsSelect x.img = (.ok a, w) → u.bootFlash type = w.mainUp x.img a) ∧
      (∀ e w, v.settingsSelect x.img = (.error e, w) → u.bootFlash type = (w.raise Ev.MIGRATION_FAILED 0 [e, x.img.setVer]).revert 1)) ∧
    (v.startReason x type ≠ 0 → u.bootFlash type = (v.imageRefused type (v.startReason x type) 3).revert 2)) ∧
  (∀ (s : State) (m : MasterId), (s.rd FW.STATUS.stage ≠ 4 ∧ s.rd FW.STATUS.stage ≠ 5) ∨ s.updateServes = false →
    (Admits s m .FW 0 0x078 → exec (.pushFlash m) s = .next (s.wr FW.PUSH_RESULT.result 4)) ∧ exec .pushTimeout s = .next s) ∧
  (∀ (s : State), s.now < s.fw.stageAt + 60000000000 → s.is FW.CTRL.push_wait = true → exec .pushTimeout s = .next s) ∧
  (∀ (s : State) (img : Img) (a : Nat), (s.mainUp img a).fw.main = some img ∧ (s.mainUp img a).rd FW.STATUS.stage = (if s.fw.ucode.isSome then 6 else 5) ∧
    (s.mainUp img a).rd FW.COMPONENTS.running = 0x3FF ∧ (s.mainUp img a).rd FW.SVN.svn 0 1 = img.svn % 2 ^ 32 ∧ (s.mainUp img a).rd FW.REL.release 0 0 = img.release % 2 ^ 32 ∧
    (s.mainUp img a).rd FW.SETTINGS.area = a % 2 ∧ (s.mainUp img a).host.deferred = [])) ∧
  -- R338, R345: configuration blobs are written and read, and a recovery image goes to a slot; the end of each operation shows its result.
  ((∀ (s : State) (m : MasterId) (src : Fin 2), Admits s m .FW 0 0x0AC →
    (s.fw.op = none → s.rd FW.STATUS.stage < 3 ∨ (s.mainRuns = true ∧ s.runs 7 = false) →
      exec (.cfgWrite m src) s = .next ((s.wr FW.CFG_RESULT.result 4).wr FW.CFG_RESULT.reason 0)) ∧
    (s.fw.op = none → 3 ≤ s.rd FW.STATUS.stage → (s.mainRuns = false ∨ s.runs 7 = true) → s.is FW.STATUS.trial = true →
      exec (.cfgWrite m src) s = .next ((s.wr FW.CFG_RESULT.result 4).wr FW.CFG_RESULT.reason 4))) ∧
  (∀ (s u v : State) (m : MasterId) (src : Fin 2) (h body : List Byte), Admits s m .FW 0 0x0AC → 3 ≤ s.rd FW.STATUS.stage → s.fw.op = none → s.is FW.STATUS.trial = false →
    (s.mainRuns = false ∨ s.runs 7 = true) → s.readSrc src (s.rd FW.CFG_OFFSET.offset) 64 = (some h, u) → u.readSrc src (s.rd FW.CFG_OFFSET.offset + 64) (leAt h 0x0C 2) = (some body, v) →
    let r := blobReason h body
    (r = 0 → (v.mainRuns = false ∨ leAt h 4 2 = v.rd FW.SETTINGS.version) → ∃ t, exec (.cfgWrite m src) s = .next t ∧ t.rd FW.CFG_RESULT.result = 1 ∧
      t.fw.op = some ⟨1, 1, 2, 0, some (1 - v.areaInUse.getD 1, h ++ body)⟩ ∧ t.sram = v.sram) ∧
    (r ≠ 0 → ∃ t, exec (.cfgWrite m src) s = .next t ∧ t.rd FW.CFG_RESULT.result = 5 ∧ t.rd FW.CFG_RESULT.reason = r % 16 ∧ t.keep = v.keep) ∧
    (r = 0 → v.mainRuns = true → leAt h 4 2 ≠ v.rd FW.SETTINGS.version → ∃ t, exec (.cfgWrite m src) s = .next t ∧ t.rd FW.CFG_RESULT.result = 5 ∧ t.rd FW.CFG_RESULT.reason = 2 ∧
      t.keep = v.keep)) ∧
  (∀ (s : State) (m : MasterId) (dst : Fin 2) (a : Nat), Admits s m .FW 0 0x0AC → s.fw.op = none → s.areaInUse = some a → (s.mainRuns = false ∨ s.runs 7 = true) →
    ∃ t o, exec (.cfgRead m dst) s = .next t ∧ t.rd FW.CFG_RESULT.result = 1 ∧ t.fw.op = some o ∧ o.kind = 1 ∧ o.op = 2 ∧
      (dst = 1 → s.rd FW.CFG_OFFSET.offset + (s.areaHeader a ++ s.areaBody a).length ≤ bufferSize → o.result = 2 ∧
        t.bufRead (s.rd FW.CFG_OFFSET.offset) (s.areaHeader a ++ s.areaBody a).length = s.areaHeader a ++ s.areaBody a)) ∧
  (∀ (s : State) (m : MasterId) (dst : Fin 2), Admits s m .FW 0 0x0AC → s.fw.op = none → s.areaInUse = none →
    exec (.cfgRead m dst) s = .next ((s.wr FW.CFG_RESULT.result 4).wr FW.CFG_RESULT.reason 0)) ∧
  (∀ (s : State) (m : MasterId) (k : Fin 2), Admits s m .FW 0 0x0C4 →
    let bs := s.bufRead 0 (min (s.rd FW.REC_LEN.bytes) bufferSize)
    let r := s.imageReason (imageOf bs) 1 [1, 2, 3, 4, 5, 6, 7]
    (s.rd FW.STATUS.stage ≠ 1 → s.fw.op = none → exec (.recCmd m k) s = .next (s.wr FW.PUSH_RESULT.result 4)) ∧
    (s.rd FW.STATUS.stage = 1 → s.fw.op = none → r = 0 → ∃ t, exec (.recCmd m k) s = .next t ∧ t.rd FW.PUSH_RESULT.result = 1 ∧ t.fw.op = some ⟨2, k, 2, 0, none⟩ ∧
      (∀ i, i < bs.length → t.flashByte k (regionBase 1 + i) = bs.getD i 0)) ∧
    (s.rd FW.STATUS.stage = 1 → s.fw.op = none → r ≠ 0 → ∃ t, exec (.recCmd m k) s = .next t ∧ t.rd FW.PUSH_RESULT.result = 5 ∧ t.rd FW.PUSH_RESULT.reason = r % 16 ∧ t.fw.slotA = s.fw.slotA)) ∧
  (∀ (s : State) (o : FwOp), s.fw.op = some o → s.rd FW.STATUS.stage ≠ 3 → s.rd FW.STATUS.stage ≠ 1 →
    (o.kind = 1 → o.blob = none → ∃ t, exec .updateDone s = .next t ∧ t.fw.op = none ∧ t.rd FW.CFG_RESULT.result = o.result % 8 ∧ t.rd FW.CFG_RESULT.reason = o.reason % 16) ∧
    (∀ a bs, o.kind = 1 → o.blob = some (a, bs) → ∃ t, exec .updateDone s = .next t ∧ t.fw.op = none ∧ t.rd FW.CFG_RESULT.result = o.result % 8 ∧
      t.keep = (s.areaWrite a (leAt bs 4 2) (match s.areaInUse with | some u => s.areaGen u + 1 | none => leAt bs 8 4) (leAt bs 0x10 4) (bs.drop 64)).keep) ∧
    (o.kind = 2 → ∃ t, exec .updateDone s = .next t ∧ t.fw.op = none ∧ t.rd FW.PUSH_RESULT.result = 2 ∧ t.rd FW.PUSH_RESULT.reason = 0)))

/-- Component faults, quotes, and the access tables' commands. -/
def Obligations.FirmwareServes : Prop :=
  -- R368, R369, R373, R374: a component that faults restarts, or is held at the third fault of a minute; a quote is asked for and made.
  ((∀ (s : State) (c : Fin 10), s.runs c = true →
    let recent := s.fw.faults.filter fun f => f.1 == c.val && s.now < f.2 + 60000000000
    (c.val = 1 → recent.any (fun f => s.now < f.2 + 1000000000) = false) →
    (recent.length < 2 → ∃ t, exec (.componentFault c) s = .next t ∧ t.rd FW.COMP_RESTARTS.last = c.val ∧ t.rd FW.COMP_RESTARTS.count = min (s.rd FW.COMP_RESTARTS.count + 1) (2 ^ 16 - 1) ∧
      t.runs c = true ∧ (t.rd (hdrStatus .FW)).testBit Ev.COMPONENT_RESTART.bit = true ∧ t.sram = s.sram) ∧
    (2 ≤ recent.length → ∃ t, exec (.componentFault c) s = .next t ∧ t.runs c = false ∧ (t.rd FW.COMPONENTS.held).testBit c = true ∧
      (∀ d : Fin 10, d ≠ c → t.runs d = s.runs d) ∧ (t.rd (hdrStatus .FW)).testBit Ev.COMPONENT_HELD.bit = true ∧ t.sram = s.sram) ∧
    (∀ o, c.val = 7 → s.fw.op = some o → ∃ t, exec (.componentFault c) s = .next t ∧ t.fw.op = some { o with result := 5, blob := none })) ∧
  (∀ (s : State) (c : Fin 10), s.runs c = false → exec (.componentFault c) s = .next s) ∧
  (∀ (s : State) (m : MasterId) (dst : Fin 2), Admits s m .SEC 0 0x0B4 →
    (s.fw.quote ≠ none → exec (.quoteCmd m dst) s = .next (s.wr SEC.QUOTE_RESULT.result 3)) ∧
    (s.fw.quote = none →
    (s.rd SEC.LEAVES_LEFT.count ≠ 0 → (∀ t0, s.fw.quoteAt = some t0 → t0 + s.rd SEC.CTRL.quote_gap_s * 1000000000 ≤ s.now) → s.mainRuns = true → s.is SEC.STATUS.zeroized = false →
      ∃ t nonce, exec (.quoteCmd m dst) s = .next t ∧ t.rd SEC.QUOTE_RESULT.result = 1 ∧ t.rd SEC.STATUS.busy = 1 ∧ t.fw.quote = some (dst.val, s.rd SEC.QUOTE_DST.offset, nonce)) ∧
    ((s.rd SEC.LEAVES_LEFT.count = 0 ∨ s.is SEC.STATUS.zeroized = true ∨ s.mainRuns = false ∨
        ∃ t0, s.fw.quoteAt = some t0 ∧ s.now < t0 + s.rd SEC.CTRL.quote_gap_s * 1000000000) → exec (.quoteCmd m dst) s = .next (s.wr SEC.QUOTE_RESULT.result 4)))) ∧
  (∀ (s : State) (off nonce : Nat), s.fw.quote = some (1, off, nonce) → s.runs 9 = true →
    (s.rd SEC.LEAF_NEXT.leaf < s.rd SEC.LEAF_RESERVED.leaf ∨
      (s.rd SEC.LEAF_NEXT.leaf < s.rd SEC.LEAF_RESERVED.leaf + 64 ∧ s.rd SEC.LEAF_RESERVED.leaf + 64 < 2 ^ 21 ∧ (s.keepTouch 0).1 = true)) →
    off + ((s.quoteBody nonce (s.rd SEC.LEAF_NEXT.leaf)).length + 2820) ≤ bufferSize →
    ∃ t, exec .quoteDone s = .next t ∧ t.rd SEC.LEAF_NEXT.leaf = (s.rd SEC.LEAF_NEXT.leaf + 1) % 2 ^ 21 ∧ t.rd SEC.LEAVES_LEFT.count = (s.rd SEC.LEAVES_LEFT.count - 1) % 2 ^ 21 ∧
      t.rd SEC.QUOTE_RESULT.result = 2 ∧ t.rd SEC.STATUS.busy = 0 ∧ t.fw.quote = none ∧ t.fw.quoteAt = some s.now ∧ (t.rd (hdrStatus .SEC)).testBit Ev.QUOTE_DONE.bit = true ∧
      (s.rd SEC.LEAF_NEXT.leaf < s.rd SEC.LEAF_RESERVED.leaf → t.bufRead off (s.quoteBody nonce (s.rd SEC.LEAF_NEXT.leaf)).length = s.quoteBody nonce (s.rd SEC.LEAF_NEXT.leaf))) ∧
  (∀ (s : State) (q : Nat × Nat × Nat), s.fw.quote = some q → s.runs 9 = true → s.rd SEC.LEAF_RESERVED.leaf ≤ s.rd SEC.LEAF_NEXT.leaf → (s.keepTouch 0).1 = false →
    ∃ t, exec .quoteDone s = .next t ∧ t.rd SEC.QUOTE_RESULT.result = 5 ∧ t.rd SEC.LEAF_NEXT.leaf = s.rd SEC.LEAF_NEXT.leaf ∧ t.fw.quote = none ∧ t.hbm = s.hbm) ∧
  (∀ (s : State), s.fw.quote = none ∨ s.runs 9 = false → exec .quoteDone s = .next s)) ∧
  -- R377, R378, R544: the access tables' commands; a refused one names its reason.
  (∀ (s : State) (m : MasterId), Admits s m .ACL 0 0x054 →
    (s.aclPage = none → ∃ t, exec (.aclRead m) s = .next t ∧ t.rd ACL.RESULT.result = 5 ∧ (t.rd (hdrStatus .ACL)).testBit Ev.ACL_REFUSED.bit = true ∧ t.acl = s.acl) ∧
    (s.is ACL.CTRL.lock = true → ∀ c, c = .aclWrite m ∨ c = .aclDefault m → ∃ t, exec c s = .next t ∧ t.rd ACL.RESULT.result = 3 ∧
      (t.rd (hdrStatus .ACL)).testBit Ev.ACL_REFUSED.bit = true ∧ t.acl = s.acl) ∧
    (∀ pg i, s.aclPage = some (pg, i) → ∃ t, exec (.aclRead m) s = .next t ∧ t.rd ACL.RESULT.result = 2 ∧ t.acl = s.acl ∧
      ∀ j, j < 4 → t.rd ACL.TABLE.entries 0 j = s.aclTable pg i / 2 ^ (32 * j) % 2 ^ 32) ∧
    (∀ pg i, s.aclPage = some (pg, i) → s.is ACL.CTRL.lock = false →
      let new := (List.range 4).foldl (fun a j => a + s.rd ACL.TABLE.entries 0 j * 2 ^ (32 * j)) 0
      (aclRuleBad pg (s.aclTable pg i) new (s.is BIST.SCAN.unlocked) = false → ∃ t, exec (.aclWrite m) s = .next t ∧ t.rd ACL.RESULT.result = 2 ∧ t.aclTable pg i = new ∧
        ∀ k : MasterId, t.reaches k pg i = true → t.entry k pg i = aclEntryOf new k) ∧
      (aclRuleBad pg (s.aclTable pg i) new (s.is BIST.SCAN.unlocked) = true → ∃ t, exec (.aclWrite m) s = .next t ∧ t.rd ACL.RESULT.result = 4 ∧ t.acl = s.acl) ∧
      ∃ t, exec (.aclDefault m) s = .next t ∧ t.rd ACL.RESULT.result = 2 ∧ t.aclTable pg i = t.aclStartTable pg i) ∧
    (Admits s m .ACL 0 0x010 → exec (.aclLock m) s = .next (s.wr ACL.CTRL.lock 1)))

/-- Power orders, and rails rising and falling group by group. -/
def Obligations.PowerMoves : Prop :=
  -- R388 to R393: PWR.CMD and the rack's orders move the module's power state (Table 12.3).
  ((∀ (s : State) (m : MasterId), Admits s m .PWR 0 0x068 →
    (s.pwr = pSTANDBY → s.is PWR.RACK.hold = false → s.mayRaise = true → ∃ t, exec (.pwrUp m) s = .next t ∧ t.pwr = pSEQ_UP ∧ t.rd PWR.CMD_RESULT.result = 1 ∧
      t.power.seq = some (true, 1, s.now) ∧ t.power.byCmd = true ∧ t.sram = s.sram ∧ t.hbm = s.hbm) ∧
    ((s.pwr = pON ∨ s.pwr = pHELD ∨ s.pwr = pCUT ∨ (s.pwr = pSTANDBY ∧ (s.is PWR.RACK.hold = true ∨ s.mayRaise = false))) → exec (.pwrUp m) s = .next (s.wr PWR.CMD_RESULT.result 4)) ∧
    ((s.pwr = pSTANDBY ∨ s.pwr = pHELD ∨ s.pwr = pCUT) → exec (.pwrDown m) s = .next (s.wr PWR.CMD_RESULT.result 4)) ∧
    ((s.pwr = pSEQ_UP ∨ s.pwr = pSEQ_DOWN) → exec (.pwrUp m) s = .next (s.wr PWR.CMD_RESULT.result 3) ∧ exec (.pwrDown m) s = .next (s.wr PWR.CMD_RESULT.result 3)) ∧
    (s.pwr = pON → (∃ p, p < 16 ∧ s.running p = true) → exec (.pwrDown m) s = .next (s.wr PWR.CMD_RESULT.result 3)) ∧
    (s.pwr = pON → (∀ p, p < 16 → s.running p = false) → ∃ t, exec (.pwrDown m) s = .next t ∧ t.pwr = pSEQ_DOWN ∧ t.rd PWR.CMD_RESULT.result = 1 ∧
      t.power.seq = some (false, 7, s.now))) ∧
  (∀ (s : State) (m : MasterId) (grace : BitVec 16), Admits s m .PWR 0 0x064 → (m.val = TRAY ∨ m.val = SAFENET) →
    (∃ t, exec (.rackOff m grace) s = .next t ∧ t.rd PWR.RACK.hold = 1 ∧ t.rd PWR.RACK.grace_ms = min grace.toNat 60000 ∧ (t.rd (hdrStatus .PWR)).testBit Ev.RACK_OFF.bit = true ∧
      (s.pwr = pSTANDBY ∨ s.pwr = pHELD ∨ s.pwr = pCUT ∨ s.pwr = pSEQ_DOWN → t.pwr = s.pwr ∧ t.sram = s.sram) ∧
      (s.pwr = pON → (∃ p, p < 16 ∧ s.running p = true) → t.pwr = pON ∧ t.power.rackAt = some s.now ∧
        ∀ p, p < 16 → s.running p = true → (t.rd MOD.PART_STATE.causes 0 p).testBit 8 = true ∧ (t.part p).parkNext = true) ∧
      (s.pwr = pON → (∀ p, p < 16 → s.running p = false) → t.pwr = pSEQ_DOWN ∧ t.power.seq = some (false, 7, s.now) ∧ ∀ p, p < 16 → s.partState p = 3 → t.partState p = 1) ∧
      (∀ g a, s.pwr = pSEQ_UP → s.power.seq = some (true, g, a) → t.pwr = pSEQ_DOWN ∧ t.power.seq = some (false, g, s.now) ∧ t.power.byCmd = false)) ∧
    exec (.rackRelease m) s = .next (if s.pwr = pHELD then (s.wr PWR.RACK.hold 0).wr PWR.STATUS.state pSTANDBY else s.wr PWR.RACK.hold 0)) ∧
  (∀ (s : State) (m : MasterId) (grace : BitVec 16), Admits s m .PWR 0 0x064 → m.val ≠ TRAY → m.val ≠ SAFENET →
    exec (.rackOff m grace) s = .next (s.countDenied m .PWR 0) ∧ exec (.rackRelease m) s = .next (s.countDenied m .PWR 0)) ∧
  (∀ (s : State), s.power.rackAt = none ∨ s.pwr ≠ pON ∨ (∃ a, s.power.rackAt = some a ∧ s.now < a + s.rd PWR.RACK.grace_ms * 1000000) → exec .rackGraceExpire s = .next s) ∧
  (∀ (s : State) (a : Nat), s.power.rackAt = some a → s.pwr = pON → a + s.rd PWR.RACK.grace_ms * 1000000 ≤ s.now →
    ∃ t, exec .rackGraceExpire s = .next t ∧ t.pwr = pSEQ_DOWN ∧ t.power.seq = some (false, 7, s.now) ∧ ∀ p, p < 16 → (s.running p = true ∨ s.partState p = 3) → t.partState p = 1)) ∧
  -- R388 to R390: the rails rise and fall group by group; a rail that misses its window turns the sequence round.
  ((∀ (s : State) (fails : List (StartBlock × Bool)) (g at_ : Nat), s.power.seq = some (true, g, at_) → s.pwr = pSEQ_UP → at_ + s.power.gap * 1000 ≤ s.now →
    (∀ n, n ∈ s.groupRails g → s.railWanted n = true → s.railGood n = true ∧ (s.rail n).goodAt.getD 0 + s.power.gap * 1000 ≤ s.now) →
    (g < 7 → ∃ t, exec (.railGroupGood fails) s = .next t ∧ t.power.seq = some (true, g + 1, s.now) ∧ t.pwr = pSEQ_UP ∧ t.sram = s.sram) ∧
    (7 ≤ g → ∃ t, exec (.railGroupGood fails) s = .next t ∧ t.power.seq = none ∧ t.pwr = pON ∧ t.rd PWR.CMD_RESULT.result = (if s.power.byCmd then 2 else s.rd PWR.CMD_RESULT.result))) ∧
  (∀ (s : State) (fails : List (StartBlock × Bool)), (s.pwr ≠ pSEQ_UP ∨ (∀ g a, s.power.seq ≠ some (true, g, a)) ∨
      (∃ g a n, s.power.seq = some (true, g, a) ∧ n ∈ s.groupRails g ∧ s.railWanted n = true ∧ s.railGood n = false)) → exec (.railGroupGood fails) s = .next s) ∧
  (∀ (s : State) (n : RailId) (g at_ : Nat), n.val < 51 → s.power.seq = some (true, g, at_) → s.pwr = pSEQ_UP → s.railRd RAIL.CFG.group n = g → s.railWanted n = true →
    s.railGood n = false → ((s.rail n).enabledAt.getD at_) + Assoc.get 20 s.power.windows n * 100000 ≤ s.now →
    ∃ t, exec (.railWindowMissed n) s = .next t ∧ t.pwr = pSEQ_DOWN ∧ t.power.seq = some (false, g, s.now) ∧ t.railState n = 3 ∧
      (t.rd (hdrStatus .PWR)).testBit Ev.SEQ_FAULT.bit = true ∧ t.rd PWR.CMD_RESULT.result = (if s.power.byCmd then 5 else s.rd PWR.CMD_RESULT.result)) ∧
  (∀ (s : State) (n : RailId) (g at_ : Nat), s.power.seq = some (true, g, at_) → (s.railGood n = true ∨ s.now < ((s.rail n).enabledAt.getD at_) + Assoc.get 20 s.power.windows n * 100000) →
    exec (.railWindowMissed n) s = .next s) ∧
  (∀ (s : State) (g at_ : Nat), s.power.seq = some (false, g, at_) →
    (s.notDown g = [] → ∃ t, exec .railGroupDown s = .next t ∧ (1 < g → t.power.seq = some (false, g - 1, s.now) ∧ t.pwr = s.pwr) ∧
      (g ≤ 1 → t.power.seq = none ∧ t.pwr = (if s.pwr = pCUT then pCUT else if s.is PWR.RACK.hold = true then pHELD else pSTANDBY))) ∧
    (s.now < at_ + s.power.downT * 100000 → exec .seqDownTimeout s = .next s) ∧
    (∀ n ns, s.notDown g = n :: ns → exec .railGroupDown s = .next s ∧ (at_ + s.power.downT * 100000 ≤ s.now →
      ∃ t, exec .seqDownTimeout s = .next t ∧ (t.rd (hdrStatus .PWR)).testBit Ev.SEQ_FAULT.bit = true ∧ (1 < g → t.power.seq = some (false, g - 1, s.now)) ∧ (g ≤ 1 → t.power.seq = none)))))

/-- Rail samples, energy, limits and cuts; the loss of a memory domain. -/
def Obligations.RailsAreWatched : Prop :=
  -- R386, R394, R397, R417, R465: a sample of a rail is kept and its energy added up; over-current cuts the rail; its limits are written in order or
  -- not at all.
  ((∀ (s : State) (n : RailId) (mA : BitVec 20) (mV : BitVec 12) (w : List (BitVec 32)), ∃ t, exec (.railSample n mA mV w) s = .next t ∧
    (t.rail n).hist = ((mA.toNat, mV.toNat) :: (s.rail n).hist).take 4000 ∧ (t.rail n).energy = (s.rail n).energy + mA.toNat * mV.toNat / 4 ∧
    (s.railDown n = false → s.railCutBit n = false → 2 * winSum ((mA.toNat, mV.toNat) :: (s.rail n).hist) 8 > 2400 * s.railRd RAIL.LIM_1MS.a10 n →
      t.railCutBit n = true ∧ t.railState n = 4 ∧ (t.rd (hdrStatus .PWR)).testBit Ev.RAIL_CUT.bit = true ∧ t.sfActive sfOC = true)) ∧
  (∀ (s : State) (m : MasterId) (n : RailId) (which : Fin 3) (v : BitVec 16), Admits s m .RAIL (n.val / 8) (0x040 + 0x40 * (n.val % 8) + 4 * which.val) →
    let l := fun (k : Nat) (f : Fld) => if which.val = k then v.toNat else s.railRd f n
    exec (.limitWrite m n which v) s = .next (
      if l 0 RAIL.LIM_1MS.a10 ≤ l 1 RAIL.LIM_20US.a10 ∧ l 1 RAIL.LIM_20US.a10 ≤ l 2 RAIL.LIM_2US.a10 ∧ 10 * l 2 RAIL.LIM_2US.a10 ≤ 14 * l 0 RAIL.LIM_1MS.a10 ∧
        14 * l 0 RAIL.LIM_1MS.a10 ≤ 10 * s.railRd RAIL.FULL_SCALE.a10 n
      then s.railWr (if which.val = 0 then RAIL.LIM_1MS.a10 else if which.val = 1 then RAIL.LIM_20US.a10 else RAIL.LIM_2US.a10) n v.toNat else s))) ∧
  -- R17, R237, R269, R322: the loss of a tile's memory domain takes the tile, both its stacks, its partitions' steps, the Midway messages it held
  -- and, for CT0, the rings; a second one changes nothing.
  (∀ (s : State) (t : TileId), (s.tileLost t = true → exec (.memoryDomainFault t) s = .next s) ∧
    (s.tileLost t = false → ∃ u, exec (.memoryDomainFault t) s = .next u ∧ u.tileLost t = true ∧ u.rd TILE.STATUS.cause t = 2 ∧
      (u.rd (hdrStatus .TILE) t).testBit Ev.TILE_LOST.bit = true ∧ (∀ k, k / 2 = t.val → s.hsState k ≠ hsRETIRED → u.hsState k = hsOFF) ∧
      (∀ i, i < 8 → u.pState (8 * t + i) = if s.portKept (8 * t + i) then pFENCED else pDOWN) ∧ (∀ d, d < 3 → u.linkUp t d = false) ∧
      (∀ m ∈ u.fab.midway, m.at_ ≠ t.val ∧ m.dst ≠ t.val) ∧
      (∀ p, p < 16 → s.holdsTile p t = true → (s.running p = true ∨ s.partState p = 3) → (u.rd MOD.PART_STATE.causes 0 p).testBit 6 = true) ∧
      (t.val = 0 → u.rd MOD.STATUS.rings_lost = 1 ∧ (u.rd (hdrStatus .MOD)).testBit Ev.RINGS_LOST.bit = true ∧ u.host.cmds = [] ∧ ∀ n, n < 64 → u.ring HOSTQ.RCTRL.enable n = 0) ∧
      (t.val ≠ 0 → u.rd MOD.STATUS.rings_lost = s.rd MOD.STATUS.rings_lost)))

/-- Caps, budgets, operating points and throttling. -/
def Obligations.PowerIsCapped : Prop :=
  -- R393, R406: a written cap is clamped, and the module's cap is the smallest of the four; R411: an unreachable cap is told.
  ((∀ (s : State) (m : MasterId) (rack : Bool) (v : BitVec 16), Admits s m .PWR 0 (if rack then 0x040 else 0x044) → (rack = true → m.val = TRAY ∨ m.val = SAFENET) →
    ∃ t, exec (.capWrite m rack v) s = .next t ∧ t.rd (if rack then PWR.CAP_RACK.limit_w else PWR.CAP_HOST.limit_w) = max 1500 (min 4800 v.toNat) ∧
      t.rd PWR.CAP_MODULE.limit_w = min (min (t.rd PWR.CAP_RACK.limit_w) (t.rd PWR.CAP_HOST.limit_w)) (min (t.rd PWR.CAP_THERMAL.limit_w) (t.rd PWR.CAP_SAFETY.limit_w)) ∧
      t.rd PWR.CAP_THERMAL.limit_w = s.rd PWR.CAP_THERMAL.limit_w ∧ t.rd PWR.CAP_SAFETY.limit_w = s.rd PWR.CAP_SAFETY.limit_w ∧ t.sram = s.sram) ∧
  (∀ (s : State) (m : MasterId) (v : BitVec 16), Admits s m .PWR 0 0x040 → m.val ≠ TRAY → m.val ≠ SAFENET → exec (.capWrite m true v) s = .next (s.countDenied m .PWR 0)) ∧
  (∀ (s : State) (a : Nat), s.moduleMw > s.rd PWR.CAP_MODULE.limit_w * 1000 → s.allFloor = true → s.power.overAt = some a → a + 10000000 ≤ s.now →
    s.is PWR.STATUS.cap_unreachable = false →
    ∃ t, exec .capUnreachable s = .next t ∧ t.rd PWR.STATUS.cap_unreachable = 1 ∧ (t.rd (hdrStatus .PWR)).testBit Ev.CAP_UNREACHABLE.bit = true ∧ t.sram = s.sram) ∧
  (∀ (s : State) (a : Nat), s.moduleMw ≤ s.rd PWR.CAP_MODULE.limit_w * 1000 → s.power.underAt = some a → a + 100000000 ≤ s.now →
    ∃ t, exec .capUnreachable s = .next t ∧ t.rd PWR.STATUS.cap_unreachable = 0 ∧ t.power.overAt = none ∧ t.sram = s.sram) ∧
  (∀ (s : State), (s.moduleMw > s.rd PWR.CAP_MODULE.limit_w * 1000 → s.allFloor = false ∨ s.power.overAt = none ∨ ∃ a, s.power.overAt = some a ∧ s.now < a + 10000000) →
    (s.moduleMw ≤ s.rd PWR.CAP_MODULE.limit_w * 1000 → s.power.underAt = none ∨ ∃ a, s.power.underAt = some a ∧ s.now < a + 100000000) →
    exec .capUnreachable s = .next s.capWatch ∧ s.capWatch.regs = s.regs)) ∧
  -- R399, R404, R405, R408, R413: a change of operating point completes, clocks are skipped and gated, an episode of throttling ends, POWER makes its
  -- pass.
  ((∀ (s : State) (k : TileId) (g a : Nat), (s.tpow k).move = some (g, a) → g < 8 → nearTarget (psMv g) (((s.rail (4 * k)).hist.headD (0, 0)).2) = true → s.grant k = g → (s.tpow k).volt = g →
    ∃ t, exec (.psChangeDone k) s = .next t ∧ t.point k = g ∧ (t.tpow k).move = none ∧ t.sram = s.sram) ∧
  (∀ (s : State) (k : TileId), ((s.tpow k).move = none ∨ ∃ m, (s.tpow k).move = some m ∧ nearTarget (psMv m.1) (((s.rail (4 * k)).hist.headD (0, 0)).2) = false) →
    exec (.psChangeDone k) s = .next s) ∧
  (∀ (s : State) (k : TileId), s.now < (s.tpow k).skipAt + 1000000 → exec (.skipTick k) s = .next s) ∧
  (∀ (s : State) (k : TileId), ((s.tpow k).episodeAt = none ∨ (s.tpow k).freeAt = none ∨ ∃ f, (s.tpow k).freeAt = some f ∧ s.now < f + 100000000) → exec (.throttleEnd k) s = .next s) ∧
  (∀ (s : State) (busy slots : List (Fin 101)), (s.runs 2 = false ∨ s.pwr ≠ pON ∨ s.now < s.power.tickAt + 1000000) → exec (.powerTick busy slots) s = .next s) ∧
  (∀ (s : State) (k : TileId), (s.tpow k).skipAt + 1000000 ≤ s.now →
    ∃ t, exec (.skipTick k) s = .next t ∧ (t.tpow k).skipAt = s.now ∧ t.sram = s.sram ∧
      (∀ f, (s.tpow k).floorAt = some f → f + 1000000 ≤ s.now → t.rd PWR.TILE_PS.duty 0 k = (s.rd PWR.TILE_PS.duty 0 k - 1) % 16) ∧
      ((s.tpow k).floorAt = none → s.capHeld = true → t.rd PWR.TILE_PS.duty 0 k = s.rd PWR.TILE_PS.duty 0 k) ∧
      ((s.tpow k).floorAt = none → s.capHeld = false → s.tileMw k * 10 < (s.tpow k).budget * 9 → t.rd PWR.TILE_PS.duty 0 k = min 15 (s.rd PWR.TILE_PS.duty 0 k + 1))) ∧
  (∀ (s : State) (c : CoreId), s.corePresent c = true → s.coreIdle c = true → ∃ t, exec (.coreGate c) s = .next t ∧ t.isGated c = true ∧ t.regs = s.regs ∧ t.cores = s.cores) ∧
  (∀ (s : State) (k : TileId) (a f : Nat), (s.tpow k).episodeAt = some a → (s.tpow k).freeAt = some f → f + 100000000 ≤ s.now →
    ∃ t, exec (.throttleEnd k) s = .next t ∧ (t.tpow k).episodeAt = none ∧ (t.tpow k).seen = 0 ∧ (t.rd (hdrStatus .PWR)).testBit Ev.THROTTLE_END.bit = true ∧ t.sram = s.sram) ∧
  (∀ (s : State) (busy slots : List (Fin 101)), s.runs 2 = true → s.pwr = pON → s.power.tickAt + 1000000 ≤ s.now →
    ∃ t, exec (.powerTick busy slots) s = .next t ∧ t.power.tickAt = s.now ∧ t.sram = s.sram ∧ (∀ k : TileId, (t.tpow k).lateN = 0 ∧ (t.tpow k).lateSum = 0 ∧ (t.tpow k).actN = 0) ∧
      (s.sfActive sfCF = false → t.rd SAFE.STATUS.safe_floor = 0) ∧ (s.is PWR.CTRL.tr_en = false → t.power.relax = s.power.relax)))

/-- R425 to R431: demands are queued and served; readings are taken, and sensors and converters are trusted, failed and restored. -/
def Obligations.SensorsAreRead : Prop :=
  (∀ (s : State) (n : SlotId), (s.dueAlone n 0x09 = true → exec (.sensorDemand n) s =
      .next ((s.slotFire n).putTherm { s.therm with demands := demandInsert 0 (1, s.slotParam0 n % 8) s.therm.demands })) ∧
    (s.dueAlone n 0x09 = false → exec (.sensorDemand n) s = .next s)) ∧
  (∀ (s : State), exec .safetyNetDemand s = .next (s.putTherm { s.therm with demands := demandInsert 0 (0, 7) s.therm.demands })) ∧
  (∀ (s : State) (m : MasterId) (groups : Fin 8), Admits s m .THERM 0 0x050 →
    ((∃ d ∈ s.therm.demands, d.1 = 3) → exec (.sensorDemandCmd m groups) s = .next (s.wr THERM.CMD_RESULT.result 3)) ∧
    ((∀ d ∈ s.therm.demands, d.1 ≠ 3) → exec (.sensorDemandCmd m groups) s =
      .next ((s.wr THERM.CMD_RESULT.result 1).putTherm { s.therm with demands := demandInsert 0 (3, groups.val) s.therm.demands }))) ∧
  (∀ (s : State) (readings : List Reading) (source : Fin 4) (d : Nat × Nat) (ds : List (Nat × Nat)), s.therm.demands = d :: ds → d.1 = source.val →
    ∃ t, exec (.demandComplete source readings) s = .next t ∧ t.therm.demands = ds ∧ t.rd THERM.DEMANDS.count = min (s.rd THERM.DEMANDS.count + 1) (2 ^ 32 - 1) ∧ (source.val ≠ 0 → t.sram = s.sram) ∧
      (source.val = 3 → t.rd THERM.CMD_RESULT.result = 2) ∧
      (∀ n r, (n, r) ∈ (groupSensors d.2).zip readings → r.late = false → -160 ≤ sext 16 r.temp.toNat → sext 16 r.temp.toNat ≤ 1200 →
        (s.conv (if n < 64 then n / 4 else if n < 96 then 16 + (n - 64) / 2 else 32)).failed = false → (t.sens n).temp = sext 16 r.temp.toNat ∧ (t.sens n).source = source.val)) ∧
  (∀ (s : State) (readings : List Reading) (source : Fin 4), ((∀ d ∈ s.therm.demands, d.1 ≠ source.val) ∨
      (∃ d e ds, s.therm.demands = e :: ds ∧ e.1 ≠ source.val ∧ ds.find? (fun x => x.1 == source.val) = some d ∧ (e.2 &&& d.2) ≠ 0)) →
    exec (.demandComplete source readings) s = .next s) ∧
  (∀ (s : State) (c : Fin 33) (bad : Bool), ((∃ d ∈ s.therm.demands, d.2.testBit (if c.val < 16 then 0 else if c.val < 32 then 1 else 2) = true) ∨ s.now < (s.conv c).idleAt + 25000) →
    exec (.refCheck c bad) s = .next s) ∧
  (∀ (s : State) (c : Fin 33) (bad : Bool), (∀ d, d ∈ s.therm.demands → d.2.testBit (if c.val < 16 then 0 else if c.val < 32 then 1 else 2) = false) → (s.conv c).idleAt + 25000 ≤ s.now →
    (¬(bad = true ∧ (s.conv c).refBad = 1 ∧ (s.conv c).failed = false) → exec (.refCheck c bad) s = .next (s.setConv c { s.conv c with refBad := if bad then 1 else 0, idleAt := s.now })) ∧
    (bad = true → (s.conv c).refBad = 1 → (s.conv c).failed = false → ∃ t, exec (.refCheck c bad) s = .next t ∧ (t.conv c).failed = true ∧
      (∀ n, n ∈ convSensors c → (t.sens n).state = ssFAILED) ∧ t.rd THERM.REF_FAILS.count = min (s.rd THERM.REF_FAILS.count + 1) (2 ^ 16 - 1))) ∧
  (∀ (s : State) (m : MasterId) (n : Fin 128), Admits s m .THERM 0 0x050 →
    (n.val < 100 → (s.sens n).state = ssFAILED → ∃ t, exec (.sensorRestore m n) s = .next t ∧ (t.sens n).state = ssPENDING ∧ (t.sens n).goods = 0 ∧ (t.sens n).restoring = true ∧
      t.rd THERM.CMD_RESULT.result = 2 ∧ (t.rd THERM.FAILED.failed 0 (n.val / 32)).testBit (n.val % 32) = false) ∧
    ((100 ≤ n.val ∨ (s.sens n).state ≠ ssFAILED) → exec (.sensorRestore m n) s = .next (s.wr THERM.CMD_RESULT.result 4)))

/-- Trip comparators and the thermal cap. -/
def Obligations.HeatIsBounded : Prop :=
  -- R439 to R441: a trip comparator latches the trip and takes the power away; it is released, and cleared by TRAY or SAFE ten seconds later.
  ((∀ (s : State) (n : Fin 100), (s.safety.sites.contains n.val = true → exec (.tripComparator n) s = .next s) ∧
    (s.safety.sites.contains n.val = false → s.is THERM.TRIP.latched = true →
      exec (.tripComparator n) s = .next ((s.setSens n { s.sens n with tripped := true }).wr THERM.TRIP.released 0)) ∧
    ((s.sens n).tripped = false → exec (.comparatorRelease n) s = .next s)) ∧
  (∀ (s : State) (n : Fin 100), s.safety.sites.contains n.val = false → s.is THERM.TRIP.latched = false → ∃ t, exec (.tripComparator n) s = .next t ∧ (t.sens n).tripped = true ∧
    t.rd THERM.TRIP.latched = 1 ∧ t.rd THERM.TRIP.site = n.val ∧ t.rd THERM.TRIP.released = 0 ∧ t.rd SAFE.OUTPUTS.thermtrip_n = 0 ∧ t.sfActive sfOT = true ∧
    (t.rd (hdrStatus .THERM)).testBit Ev.THERMTRIP.bit = true ∧ (s.pwr ≠ pSTANDBY → t.pwr = pCUT) ∧ (s.pwr ≠ pSTANDBY → s.pwr ≠ pCUT → ∀ p, p < 16 → t.running p = false)) ∧
  (∀ (s : State) (n : Fin 100), (s.sens n).tripped = true →
    ((∃ k, k < 100 ∧ k ≠ n.val ∧ (s.sens k).tripped = true) → exec (.comparatorRelease n) s = .next (s.setSens n { s.sens n with tripped := false })) ∧
    ((∀ k, k < 100 → k ≠ n.val → (s.sens k).tripped = false) → ∃ t, exec (.comparatorRelease n) s = .next t ∧ (t.sens n).tripped = false ∧ t.rd THERM.TRIP.released = 1 ∧
      t.therm.releasedAt = s.now ∧ t.sram = s.sram ∧ t.hbm = s.hbm)) ∧
  (∀ (s : State) (m : MasterId), Admits s m .THERM 0 0x050 →
    (m.val ≠ SAFENET → m.val ≠ TRAY → exec (.tripClear m) s = .next (s.wr THERM.CMD_RESULT.result 5)) ∧
    ((m.val = SAFENET ∨ m.val = TRAY) → s.is THERM.TRIP.released = true → s.therm.releasedAt + 10000000000 ≤ s.now → ∃ t, exec (.tripClear m) s = .next t ∧
      t.rd THERM.TRIP.latched = 0 ∧ t.rd SAFE.OUTPUTS.thermtrip_n = 1 ∧ t.sfActive sfOT = false ∧ t.rd THERM.CMD_RESULT.result = 2 ∧ t.sram = s.sram) ∧
    ((m.val = SAFENET ∨ m.val = TRAY) → (s.is THERM.TRIP.released = false ∨ s.now < s.therm.releasedAt + 10000000000) → exec (.tripClear m) s = .next (s.wr THERM.CMD_RESULT.result 4)))) ∧
  -- R437: the thermal cap follows inlet temperature and flow: it falls at once, and rises by 100 W or more after ten seconds.
  ((∀ (s : State), (s.runs 3 = false ∨ s.now < s.therm.capAt + 100000000) → exec .thermalCapUpdate s = .next s) ∧
  ∀ (s : State), s.runs 3 = true → s.therm.capAt + 100000000 ≤ s.now →
    let i := if (s.coolant 0).trusted then cIn (sext 16 (s.rd THERM.COOLANT_T.inlet)) else cIn 360
    let f := if (s.coolant 2).trusted then cFlow (s.rd THERM.FLOW.flow) else 4800
    let new := max 1500 (min 4800 (min i f))
    let cur := s.rd PWR.CAP_THERMAL.limit_w
    ∃ t, exec .thermalCapUpdate s = .next t ∧ t.rd THERM.CAP_TERMS.c_in = i % 2 ^ 16 ∧ t.rd THERM.CAP_TERMS.c_flow = f % 2 ^ 16 ∧ t.therm.capAt = s.now ∧ t.sram = s.sram ∧
      (new ≤ cur → t.rd PWR.CAP_THERMAL.limit_w = new ∧ t.therm.riseAt = none) ∧
      (cur < new → new < cur + 100 → t.rd PWR.CAP_THERMAL.limit_w = cur ∧ t.therm.riseAt = none) ∧
      (cur + 100 ≤ new → s.therm.riseAt = none → t.rd PWR.CAP_THERMAL.limit_w = cur ∧ t.therm.riseAt = some s.now) ∧
      (∀ a, cur + 100 ≤ new → s.therm.riseAt = some a → t.rd PWR.CAP_THERMAL.limit_w = (if a + 10000000000 ≤ s.now then new else cur)))

/-- Cooling channels, setpoints, and leaks. -/
def Obligations.CoolingActs : Prop :=
  -- R442 to R447: a channel is kicked, answers, tries again, fails and is cleared (Table 13.5).
  ((∀ (s : State) (m : MasterId) (c : Fin 4), Admits s m .COOL 0 0x090 →
    (s.chState c = cOFF → (s.chan c).stopped = false → ∃ t, exec (.coolKick m c) s = .next t ∧ t.chState c = cKICK ∧ t.rd COOL.DRIVE.attempt 0 c = 1 ∧ (t.chan c).kickAt = s.now ∧
      t.rd COOL.DRIVE.mv 0 c = 1000 ∧ t.rd COOL.CMD_RESULT.result = 2 ∧ t.sram = s.sram) ∧
    (s.chState c ≠ cOFF ∨ (s.chan c).stopped = true → exec (.coolKick m c) s = .next (s.wr COOL.CMD_RESULT.result 4)) ∧
    (s.chState c = cFAULT_START → ∃ t, exec (.coolClear m c) s = .next t ∧ t.chState c = cKICK ∧ t.rd COOL.DRIVE.attempt 0 c = 1 ∧ t.rd COOL.CMD_RESULT.result = 2) ∧
    (s.chState c = cFAULT_RUN → s.aboveFor c 0 10000000000 = true → ∃ t, exec (.coolClear m c) s = .next t ∧ t.chState c = cRUNNING ∧ t.inFault c = false ∧
      (t.rd (hdrStatus .COOL)).testBit Ev.COOL_CLEARED.bit = true ∧ t.rd COOL.CMD_RESULT.result = 2) ∧
    (s.chState c ≠ cFAULT_START → (s.chState c ≠ cFAULT_RUN ∨ s.aboveFor c 0 10000000000 = false) → exec (.coolClear m c) s = .next (s.wr COOL.CMD_RESULT.result 4))) ∧
  (∀ (s : State) (c : Fin 4) (rpm : BitVec 16),
    (s.chState c ≠ cKICK ∨ rpm.toNat < s.rd COOL.CFG.limit_rpm 0 c → exec (.kickAnswered c rpm) s = .next (s.noteTach c rpm.toNat)) ∧
    (s.chState c ≠ cRUNNING ∨ s.rd COOL.CFG.limit_rpm 0 c ≤ rpm.toNat → exec (.channelBelowLimit c rpm) s = .next (s.noteTach c rpm.toNat)) ∧
    (s.chState c ≠ cKICK ∨ s.now < (s.chan c).kickAt + 3000000000 → exec (.kickTimeout c) s = .next s) ∧
    (s.chState c ≠ cRETRY_WAIT ∨ s.now < (s.chan c).kickAt + 5000000000 → exec (.kickRetry c) s = .next s)) ∧
  (∀ (s : State) (c : Fin 4) (rpm : BitVec 16), s.rd COOL.CFG.limit_rpm 0 c ≤ rpm.toNat →
    (∃ t, exec (.kickAnswered c rpm) s = .next t ∧ t.rd COOL.TACH.rpm 0 c = rpm.toNat ∧ t.rd COOL.TACH.below 0 c = 0 ∧ (t.chan c).belowAt = none) ∧
    (∀ a, s.chState c = cKICK → (s.chan c).aboveAt = some a → max a (s.chan c).kickAt + 100000000 ≤ s.now →
      ∃ t, exec (.kickAnswered c rpm) s = .next t ∧ t.chState c = cRUNNING ∧ t.inFault c = false)) ∧
  (∀ (s : State) (c : Fin 4) (rpm : BitVec 16), rpm.toNat < s.rd COOL.CFG.limit_rpm 0 c →
    (∃ t, exec (.channelBelowLimit c rpm) s = .next t ∧ t.rd COOL.TACH.rpm 0 c = rpm.toNat ∧ t.rd COOL.TACH.below 0 c = 1 ∧ (t.chan c).aboveAt = none) ∧
    (∀ a, s.chState c = cRUNNING → (s.chan c).belowAt = some a → a + 1000000000 ≤ s.now →
      ∃ t, exec (.channelBelowLimit c rpm) s = .next t ∧ t.chState c = cFAULT_RUN ∧ t.inFault c = true ∧ (t.chan (c.val ^^^ 1)).partner = true ∧
        (t.rd (hdrStatus .COOL)).testBit (if c.val < 2 then Ev.PUMP_FAULT.bit else Ev.BLOWER_FAULT.bit) = true)) ∧
  (∀ (s : State) (c : Fin 4), s.chState c = cKICK → (s.chan c).kickAt + 3000000000 ≤ s.now →
    (s.rd COOL.DRIVE.attempt 0 c < 3 → ∃ t, exec (.kickTimeout c) s = .next t ∧ t.chState c = cRETRY_WAIT ∧ t.rd COOL.DRIVE.mv 0 c = 0) ∧
    (3 ≤ s.rd COOL.DRIVE.attempt 0 c → ∃ t, exec (.kickTimeout c) s = .next t ∧ t.chState c = cFAULT_START ∧ t.inFault c = true ∧
      (t.rd (hdrStatus .COOL)).testBit (if c.val < 2 then Ev.PUMP_FAULT.bit else Ev.BLOWER_FAULT.bit) = true)) ∧
  (∀ (s : State) (c : Fin 4), s.chState c = cRETRY_WAIT → (s.chan c).kickAt + 5000000000 ≤ s.now →
    ∃ t, exec (.kickRetry c) s = .next t ∧ t.chState c = cKICK ∧ t.rd COOL.DRIVE.attempt 0 c = (s.rd COOL.DRIVE.attempt 0 c + 1) % 4 ∧ (t.chan c).kickAt = s.now)) ∧
  -- R448 to R450, R467: the setpoints, the table mode, the coolant's polls and the first stage of a cooling failure.
  ((∀ (s : State), (s.runs 4 = false ∨ ∃ t0, (s.chan 0).setAt = some t0 ∧ s.now < t0 + 100000000) → exec .coolingPi s = .next s) ∧
  (∀ (s : State), (s.rd COOL.STATUS.mode ≠ 2 ∨ ∃ c, c < 4 ∧ s.setFresh c = true) → exec .tableMode s = .next s) ∧
  (∀ (s : State), (s.sfActive sfCF = true ∨ (s.tachFailure = false ∧ s.hotFailure = false)) → exec .coolingFailure s = .next s) ∧
  (∀ (s : State), s.runs 4 = true → (∀ t0, (s.chan 0).setAt = some t0 → t0 + 100000000 ≤ s.now) →
    ∃ t, exec .coolingPi s = .next t ∧ t.rd COOL.STATUS.mode ≠ 1 ∧ t.sram = s.sram ∧ (∀ c, c < 4 → (t.chan c).setAt = some s.now) ∧
      ∀ c, c < 2 → (t.chan c).integral = (s.chan c).integral + s.rd COOL.PI.ki * (s.hottestDie - 8 * s.rd COOL.TARGET.t_c)) ∧
  (∀ (s : State), s.rd COOL.STATUS.mode = 2 → (∀ c, c < 4 → s.setFresh c = false) →
    ∃ t, exec .tableMode s = .next t ∧ t.rd COOL.STATUS.mode = 1 ∧ (t.rd (hdrStatus .COOL)).testBit Ev.TABLE_MODE.bit = true ∧ t.sram = s.sram) ∧
  (∀ (s : State) (inlet outlet flow : BitVec 16), s.twState 5 ≠ twOFF → s.twState 5 ≠ twSTUCK → ∃ t, exec (.coolantPoll (some inlet) (some outlet) (some flow)) s = .next t ∧
    t.rd THERM.COOLANT_T.inlet = toPat 16 (sext 16 inlet.toNat / 2) ∧ t.rd THERM.COOLANT_T.outlet = toPat 16 (sext 16 outlet.toNat / 2) ∧ t.rd THERM.FLOW.flow = flow.toNat ∧
    (∀ k, k < 3 → (t.coolant k).fails = 0 ∧ ((t.coolant k).trusted = true ↔ ((s.coolant k).trusted = true ∨ 10 ≤ (s.coolant k).goods + 1))) ∧ t.sram = s.sram) ∧
  (∀ (s : State) (k : Nat), k < 3 → (s.coolant k).fails = 2 → ∃ t, exec (.coolantPoll none none none) s = .next t ∧ (t.coolant k).trusted = false ∧ t.rd THERM.STATUS.coolant_ok = 0 ∧
    (t.rd (hdrStatus .COOL)).testBit Ev.COOLANT_UNTRUSTED.bit = true) ∧
  (∀ (s : State), s.sfActive sfCF = false → (s.tachFailure = true ∨ s.hotFailure = true) → ∃ t, exec .coolingFailure s = .next t ∧ t.sfActive sfCF = true ∧ t.safety.cfAt = some s.now ∧
    t.rd PWR.CAP_SAFETY.limit_w = 1500 ∧ t.rd SAFE.STATUS.safe_floor ≠ 0 ∧ (t.rd (hdrStatus .COOL)).testBit Ev.COOLING_FAILURE.bit = true ∧ t.sram = s.sram)) ∧
  -- R451 to R453: leaks are sampled, detected, seen open, and cleared by TRAY or SAFE.
  ((∀ (s : State) (i : Fin 4 → Fin 3), s.safety.paused = true → exec (.leakSample (i 0) (i 1) (i 2) (i 3)) s = .next s) ∧
  (∀ (s : State) (n : Fin 4), (s.leakEnabled n = false ∨ (s.leak n).wet < 50 ∨ (s.rd LEAK.STATUS.wet_seen).testBit n = true → exec (.leakDetected n) s = .next s) ∧
    (s.leakEnabled n = false ∨ (s.leak n).openAt = none ∨ (s.leak n).openTold = true ∨ (∃ t0, (s.leak n).openAt = some t0 ∧ s.now < t0 + 100000000) →
      exec (.leakOpen n) s = .next s)) ∧
  (∀ (s : State) (i : Fin 4 → Fin 3), s.safety.paused = false → ∃ t, exec (.leakSample (i 0) (i 1) (i 2) (i 3)) s = .next t ∧ t.sram = s.sram ∧ t.hbm = s.hbm ∧
    ∀ n : Fin 4, (t.leak n).wet = (if i n = 1 then min 50 ((s.leak n).wet + 1) else 0) ∧ t.rd LEAK.STATUS.input / 4 ^ n.val % 4 = (i n).val) ∧
  (∀ (s : State) (n : Fin 4), s.leakEnabled n = true → 50 ≤ (s.leak n).wet → (s.rd LEAK.STATUS.wet_seen).testBit n = false → ∃ t, exec (.leakDetected n) s = .next t ∧
    t.rd LEAK.STATUS.latched = 1 ∧ t.rd LEAK.STATUS.kill = 1 ∧ t.rd SAFE.OUTPUTS.pwr_kill_n = 0 ∧ (t.rd LEAK.STATUS.wet_seen).testBit n = true ∧ t.sfActive sfLK = true ∧
    (t.rd (hdrStatus .LEAK)).testBit Ev.LEAK.bit = true ∧ (s.pwr ≠ pSTANDBY → t.pwr = pCUT) ∧ (s.is LEAK.CTRL.pump_stop = true → t.chState 0 = cOFF ∧ t.chState 1 = cOFF)) ∧
  (∀ (s : State) (n : Fin 4) (t0 : Nat), s.leakEnabled n = true → (s.leak n).openAt = some t0 → t0 + 100000000 ≤ s.now → (s.leak n).openTold = false →
    ∃ t, exec (.leakOpen n) s = .next t ∧ (t.leak n).openTold = true ∧ t.rd LEAK.OPEN_COUNT.count = min (s.rd LEAK.OPEN_COUNT.count + 1) (2 ^ 16 - 1) ∧
      (t.rd (hdrStatus .LEAK)).testBit Ev.LEAK_OPEN.bit = true ∧ t.sram = s.sram) ∧
  (∀ (s : State) (m : MasterId), Admits s m .LEAK 0 0x04C →
    (m.val ≠ SAFENET → m.val ≠ TRAY → exec (.leakClear m) s = .next (s.wr LEAK.CMD_RESULT.result 5)) ∧
    ((m.val = SAFENET ∨ m.val = TRAY) → s.leaksDry = false → exec (.leakClear m) s = .next (s.wr LEAK.CMD_RESULT.result 4)) ∧
    ((m.val = SAFENET ∨ m.val = TRAY) → s.leaksDry = true → ∃ t, exec (.leakClear m) s = .next t ∧ t.rd LEAK.STATUS.latched = 0 ∧ t.rd LEAK.STATUS.kill = 0 ∧
      t.rd SAFE.OUTPUTS.pwr_kill_n = 1 ∧ t.sfActive sfLK = false ∧ t.rd LEAK.CMD_RESULT.result = 2 ∧ (t.chan 0).stopped = false ∧ t.sram = s.sram)))

/-- Safety Net acts, and its cuts are released. -/
def Obligations.SafetyNetActs : Prop :=
  -- R460, R467, R474: Safety Net's own faults, the cut of a cooling failure and its end, and the staged actions without supervision.
  ((∀ (s : State) (oscillator : Bool), ∃ t, exec (.snFault oscillator) s = .next t ∧ t.safety.snRestart = true ∧ t.safety.paused = true ∧ t.safety.snAt = some s.now ∧
    t.rd SAFE.SN_FAULTS.count = min (s.rd SAFE.SN_FAULTS.count + 1) (2 ^ 16 - 1) ∧ (t.rd (hdrStatus .SAFE)).testBit Ev.SN_FAULT.bit = true ∧
    (s.safety.snAt = none → t.pwr = s.pwr ∧ t.rd SAFE.OUTPUTS.sys_shdn_n = s.rd SAFE.OUTPUTS.sys_shdn_n) ∧
    (∀ t0, s.safety.snAt = some t0 → s.now < t0 + 10000000000 → 1 ≤ s.safety.snCount → t.pwr = pCUT ∧ t.rd SAFE.OUTPUTS.sys_shdn_n = 0 ∧ t.safety.snCut = true)) ∧
  (∀ (s : State), (s.safety.snRestart = false → exec .snRestartDone s = .next s) ∧
    (s.floorDue = false ∨ s.is SAFE.STATUS.safe_floor = true → exec .safeFloor s = .next s) ∧
    ((s.sfActive sfCF = false ∨ s.safety.cfCut = true ∨ s.cfEnded = false) → exec .cfEnd s = .next s) ∧
    ((s.sfActive sfCF = false ∨ s.safety.cfAt = none ∨ (∃ t0, s.safety.cfAt = some t0 ∧ s.now < t0 + s.rd SAFE.PARAM.word 0 0 % 65536 * 1000000000) ∨ s.safety.cfCut = true ∨
      s.cfEnded = true ∨ s.pwr = pSTANDBY ∨ s.pwr = pCUT) → exec .cfCut s = .next s) ∧
    ((s.safety.noneAt = none ∨ (∃ t0, s.safety.noneAt = some t0 ∧ s.safety.restartAt = none ∧ s.now < t0 + 1000000000) ∨
      (∃ r, s.safety.restartAt = some r ∧ s.now < r + 60000000000) ∨ s.rd SAFE.PARAM.word 0 1 % 16 ≤ s.rd SAFE.RESTARTS.attempts ∨ s.is SAFE.CTRL.restart_en = false ∨
      s.railCutBit 51 = true ∨ s.is BIST.SCAN.unlocked = true) → exec .noneWarmRestart s = .next s)) ∧
  (∀ (s : State), s.safety.snRestart = true → exec .snRestartDone s = .next (s.putSafety { s.safety with snRestart := false, paused := false })) ∧
  (∀ (s : State) (t0 : Nat), s.sfActive sfCF = true → s.safety.cfAt = some t0 → t0 + s.rd SAFE.PARAM.word 0 0 % 65536 * 1000000000 ≤ s.now → s.safety.cfCut = false → s.cfEnded = false →
    s.pwr = pON → ∃ t, exec .cfCut s = .next t ∧ t.pwr = pCUT ∧ t.safety.cfCut = true ∧ t.rd SAFE.OUTPUTS.sys_shdn_n = 0 ∧ t.power.seq = some (false, 7, s.now) ∧ ∀ p, p < 16 → t.running p = false) ∧
  (∀ (s : State), s.sfActive sfCF = true → s.safety.cfCut = false → s.cfEnded = true → ∃ t, exec .cfEnd s = .next t ∧ t.sfActive sfCF = false ∧ t.safety.cfAt = none ∧
    (t.rd (hdrStatus .SAFE)).testBit Ev.SAFETY_CLEARED.bit = true ∧ (s.floorDue = false → t.rd SAFE.STATUS.safe_floor = 0) ∧ t.sram = s.sram) ∧
  (∀ (s : State), s.floorDue = true → s.is SAFE.STATUS.safe_floor = false → ∃ t, exec .safeFloor s = .next t ∧ t.rd SAFE.STATUS.safe_floor = 1 ∧ t.sram = s.sram ∧
    (t.rd (hdrStatus .SAFE)).testBit Ev.SAFE_FLOOR.bit = true ∧
    ∀ k : TileId, (∀ m, (s.tpow k).move = some m → m.1 ≠ 7) → t.point k = max 7 (s.point k)) ∧
  (∀ (s : State) (t0 : Nat), s.safety.noneAt = some t0 → ((s.safety.restartAt = none ∧ t0 + 1000000000 ≤ s.now) ∨ ∃ r, s.safety.restartAt = some r ∧ r + 60000000000 ≤ s.now) → s.rd SAFE.RESTARTS.attempts < s.rd SAFE.PARAM.word 0 1 % 16 →
    s.is SAFE.CTRL.restart_en = true → s.railCutBit 51 = false → s.is BIST.SCAN.unlocked = false → ∃ t, exec .noneWarmRestart s = .next t ∧ t.fw.restart = true ∧
      t.rd SAFE.RESTARTS.attempts = s.rd SAFE.RESTARTS.attempts + 1 ∧ t.safety.restartAt = some s.now ∧ t.rd FW.STATUS.stage = 0 ∧ t.sram = s.sram)) ∧
  -- R465, R466: a rail comes on again and a cut is released, from HOST, TRAY or SAFE alone, when what caused them is gone.
  (∀ (s : State) (m : MasterId) (n : Fin 64), Admits s m .SAFE 0 0x064 →
    (m.val ≠ HOST → m.val ≠ TRAY → m.val ≠ SAFENET → exec (.railOn m n) s = .next (s.wr SAFE.CMD_RESULT.result 5) ∧ exec (.cutRelease m) s = .next (s.wr SAFE.CMD_RESULT.result 5)) ∧
    ((m.val = HOST ∨ m.val = TRAY ∨ m.val = SAFENET) →
      ((52 ≤ n.val ∨ s.railCutBit n = false) → exec (.railOn m n) s = .next (s.wr SAFE.CMD_RESULT.result 4)) ∧
      (n.val < 52 → s.railCutBit n = true → ∃ t, exec (.railOn m n) s = .next t ∧ t.railCutBit n = false ∧ t.rd SAFE.CMD_RESULT.result = 2 ∧ t.sram = s.sram ∧
        (t.railState n = 0 ∨ t.railState n = 1) ∧ (n.val = 51 → t.railState n = 1)) ∧
      (s.pwr ≠ pCUT → exec (.cutRelease m) s = .next (s.wr SAFE.CMD_RESULT.result 4)) ∧
      (s.pwr = pCUT → s.is THERM.TRIP.latched = false → s.is LEAK.STATUS.latched = false → s.railCutBit 48 = false → s.railCutBit 49 = false → s.railCutBit 50 = false →
        s.safety.cfCut = false → s.safety.snCut = false → exec (.cutRelease m) s = .next ((((s.wr PWR.STATUS.state (if s.is PWR.RACK.hold then pHELD else pSTANDBY)).wr SAFE.STATUS.cut 0).wr
          SAFE.OUTPUTS.sys_shdn_n 1).wr SAFE.CMD_RESULT.result 2)) ∧
      (s.pwr = pCUT → s.is THERM.TRIP.latched = false → s.is LEAK.STATUS.latched = false → s.railCutBit 48 = false → s.railCutBit 49 = false → s.railCutBit 50 = false →
        s.safety.cfCut = true → s.cfEnded = true → s.safety.snCut = false → ∃ t, exec (.cutRelease m) s = .next t ∧
          t.pwr = (if s.is PWR.RACK.hold then pHELD else pSTANDBY) ∧ t.rd SAFE.STATUS.cut = 0 ∧ t.rd SAFE.OUTPUTS.sys_shdn_n = 1 ∧ t.rd SAFE.CMD_RESULT.result = 2 ∧
          t.sfActive sfCF = false ∧ t.safety.cfCut = false ∧ t.safety.cfAt = none ∧ t.sram = s.sram) ∧
      ((s.is THERM.TRIP.latched = true ∨ s.is LEAK.STATUS.latched = true ∨ s.railCutBit 48 = true ∨ s.railCutBit 49 = true ∨ s.railCutBit 50 = true ∨
        (s.safety.cfCut = true ∧ s.cfEnded = false) ∨ s.safety.snCut = true) → exec (.cutRelease m) s = .next (s.wr SAFE.CMD_RESULT.result 4))))

/-- R358, R469 to R473: the management cores kick, are lost, rejoin, and the watchdog output toggles; after a takeover an entry that was read and not
placed is in its ring again. -/
def Obligations.PairIsSupervised : Prop :=
  (∀ (s : State) (m : MasterId), Admits s m .SAFE 0 0x058 → exec (.safeKick m) s =
    .next (if m.val = 1 then s.putSafety { s.safety with kickA := s.now } else if m.val = 2 then s.putSafety { s.safety with kickB := s.now } else s)) ∧
  (∀ (s : State) (b : Bool) (cause : Fin 4), (s.alive b = false ∨ (cause.val = 0 ∧ s.now < s.kickAt b + 50000000)) → exec (.mcLost b cause) s = .next s) ∧
  (∀ (s : State) (b : Bool) (cause : Fin 4), (cause.val = 0 → s.kickAt b + 50000000 ≤ s.now) → s.alive b = true → s.fw.handover = none →
    (s.rd SAFE.STATUS.supervision = 0 → s.alive (!b) = true → ∃ t, exec (.mcLost b cause) s = .next t ∧ t.alive b = false ∧ t.alive (!b) = true ∧ t.rd SAFE.STATUS.supervision = 1 ∧
      t.sfActive sfMW = true ∧ t.rd FW.STATUS.mirrored = 0 ∧ t.sram = s.sram ∧
      (s.rd SAFE.STATUS.master = coreNo b → t.rd SAFE.STATUS.master = coreNo (!b) ∧ t.rd SAFE.TAKEOVERS.count = min (s.rd SAFE.TAKEOVERS.count + 1) (2 ^ 16 - 1) ∧
        t.rd SAFE.TAKEOVERS.last_cause = cause.val + 1 ∧ (t.rd (hdrStatus .SAFE)).testBit Ev.MC_TAKEOVER.bit = true ∧
        t.host.cmds = s.host.cmds.filter (fun c => !c.unplaced) ∧
        ∀ (n : RingId) (c : HostCmd), s.host.cmds.filter HostCmd.unplaced = [c] → c.ring = n → t.ring HOSTQ.CMD_HEAD.head n =
          (s.ring HOSTQ.CMD_HEAD.head n + s.cmdSize n - 1) % s.cmdSize n % 2 ^ 16 ∧ t.ring HOSTQ.OUTSTANDING.count n = s.ring HOSTQ.OUTSTANDING.count n - 1) ∧
      (s.rd SAFE.STATUS.master ≠ coreNo b → t.rd SAFE.STATUS.master = s.rd SAFE.STATUS.master)) ∧
    (s.rd SAFE.STATUS.supervision = 1 → s.rd SAFE.STATUS.master = coreNo b → (cause.val ≠ 3 ∨ s.is FW.STATUS.trial = false) → ∃ t, exec (.mcLost b cause) s = .next t ∧
      t.rd SAFE.STATUS.supervision = 2 ∧ t.rd SAFE.STATUS.master = 0 ∧ t.rd FW.COMPONENTS.running = 0 ∧ t.safety.noneAt = some s.now ∧ t.sfActive sfMW = true ∧
      (t.rd (hdrStatus .SAFE)).testBit Ev.MC_BOTH_LOST.bit = true)) ∧
  (∀ (s : State) (b : Bool), s.rd SAFE.STATUS.supervision = 1 → s.mainRuns = true → s.alive (!b) = true → s.alive b = false → s.isOut b = false → s.fw.handover = none →
    ∃ t, exec (.mcRejoin b) s = .next t ∧ t.alive b = true ∧ t.kickAt b = s.now ∧ t.rd SAFE.STATUS.supervision = 0 ∧ t.rd FW.STATUS.mirrored = 1 ∧ t.sfActive sfMW = false ∧
      (t.rd (hdrStatus .SAFE)).testBit Ev.MC_MIRRORED.bit = true ∧ t.sram = s.sram) ∧
  (∀ (s : State) (b : Bool), (s.rd SAFE.STATUS.supervision ≠ 1 ∨ s.mainRuns = false ∨ s.alive (!b) = false ∨ s.alive b = true ∨ s.isOut b = true ∨ s.fw.handover ≠ none) →
    exec (.mcRejoin b) s = .next s) ∧
  (∀ (s : State), ((s.rd SAFE.STATUS.master = 0 ∧ s.alive true = false ∧ s.alive false = false) ∨ (∃ b, s.wdogCore = coreNo b ∧ (s.alive b = false ∨ s.kickAt b + 50000000 ≤ s.now)) ∨ s.rd FW.STATUS.stage = 1 ∨
    s.now < s.safety.wdogAt + 45000000) → exec .wdogToggle s = .next s) ∧
  (∀ (s : State) (b : Bool), (s.rd SAFE.STATUS.master = coreNo b ∨ (s.rd SAFE.STATUS.master = 0 ∧ s.alive (!b) = false)) → s.alive b = true → s.now < s.kickAt b + 50000000 → s.rd FW.STATUS.stage ≠ 1 → s.safety.wdogAt + 45000000 ≤ s.now →
    exec .wdogToggle s = .next ((s.wr SAFE.OUTPUTS.wdog_out (1 - s.rd SAFE.OUTPUTS.wdog_out)).putSafety { s.safety with wdogAt := s.now }))

/-- R11, R335, R339, R461, R557, R563, R564: the block starts and resets: cold start, cold reset, loss of standby power, warm reset and warm start. -/
def Obligations.BlockStarts : Prop :=
  (∀ (s : State), ∃ t, exec .coldReset s = .next t ∧ t.counting = false ∧ t.pwr = pSTANDBY ∧ t.sram = [] ∧ t.hbm = [] ∧ t.host.cmds = [] ∧ t.queues = [] ∧ t.cores = [] ∧ t.fw.main = none ∧
    (∀ p, p < 16 → t.partState p = 0) ∧ (∀ n, n < 96 → t.armed n = false) ∧ (∀ n, n < 52 → t.railState n = 0) ∧ t.rd SAFE.TAKEOVERS.count = s.rd SAFE.TAKEOVERS.count ∧
    t.keep.bytes = s.keep.bytes ∧ t.outbox = s.outbox ∧ t.pending = s.pending ∧ t.now = s.now) ∧
  (∀ (s : State) (straps : BitVec 5) (passed failed : BitVec 8) (sites : List (Fin 100)) (link : BitVec 7), (s.fw.cold = true → exec .vstbyFail s = .next s) ∧
    (s.fw.cold = false → exec (.coldStart straps passed failed sites link) s = .next s) ∧
    ((s.fw.restart = false ∨ s.fw.cold = true ∨ s.railGood 51 = false ∨ s.is BIST.SCAN.unlocked = true) → exec .warmStart s = .next s)) ∧
  (∀ (s : State), s.fw.cold = false → ∃ t, exec .vstbyFail s = .next t ∧ t.fw.cold = true ∧ t.railState 51 = 0 ∧ t.alive false = false ∧ t.alive true = false ∧ t.rd SAFE.STATUS.master = 0 ∧
    t.rd FW.COMPONENTS.running = 0 ∧ (s.pwr ≠ pSTANDBY → t.pwr = pCUT)) ∧
  (∀ (s : State) (straps : BitVec 5) (passed failed : BitVec 8) (sites : List (Fin 100)) (link : BitVec 7), s.fw.cold = true →
    ∃ t, exec (.coldStart straps passed failed sites link) s = .next t ∧ t.fw.cold = false ∧ t.railState 51 = 2 ∧ t.alive false = true ∧ t.rd KEEP.STATUS.ready = 1 ∧
      t.rd THERM.TRIP.threshold_c = tripThreshold (straps.toNat % 4) ∧ t.rd TW.TGT.address 4 = 0x40 + straps.toNat / 4 % 8 ∧ t.rd SAFE.SELFTEST.pass = (passed &&& ~~~failed).toNat ∧
      t.rd SAFE.SELFTEST.fail = failed.toNat ∧ t.rd MOD.LINK.rate = link.toNat % 8 ∧ (t.rd FW.STATUS.stage = 1 ∨ t.rd FW.STATUS.stage = 2 ∨ t.rd FW.STATUS.stage = 3) ∧
      (t.rd FW.STATUS.stage = 2 → t.fw.loader ≠ none ∧ t.fw.area ≠ none)) ∧
  (∀ (s : State), ∃ t, exec .warmReset s = .next t ∧ t.fw.restart = true ∧ t.fw.main = none ∧ t.rd FW.COMPONENTS.running = 0 ∧ t.rd FW.STATUS.stage = 0 ∧ t.bootSlot = s.bootSlot % 2 ∧
    t.sram = s.sram ∧ t.hbm = s.hbm ∧ t.pwr = s.pwr ∧ t.parts = s.parts ∧ (∀ p, p < 16 → t.partState p = s.partState p) ∧ (∀ n, n < 96 → t.armed n = s.armed n)) ∧
  (∀ (s : State), s.fw.restart = true → s.fw.cold = false → s.railGood 51 = true → s.is BIST.SCAN.unlocked = false → ∃ t, exec .warmStart s = .next t ∧ t.fw.restart = false ∧
    t.alive false = true ∧ t.alive true = false ∧ t.kickAt false = s.now ∧ t.rd FW.STATUS.master = 1 ∧ t.sram = s.sram ∧ t.pwr = s.pwr ∧
    (t.rd FW.STATUS.stage = 1 ∨ t.rd FW.STATUS.stage = 3 ∨ t.rd FW.STATUS.stage = 4))

/-- Two-wire transfers, retries, hang cures and attention requests. -/
def Obligations.TwoWirePorts : Prop :=
  -- R488, R490 to R494, R502, R504, R508: a controller port starts the first transaction of the highest priority, loses it, ends it, retries it; the
  -- host's transfers and the status polls of the rails' regulators.
  ((∀ (s : State) (n : TwId) (x : Tx), n.val ≠ 4 → s.twState n = twIDLE → (s.twp n).waitStop = false → (s.twp n).freeAt + 1000 ≤ s.now → nextTx (s.twp n).queue = some x →
    (∃ t, exec (.twStart n false) s = .next t ∧ t.twState n = twBUSY ∧ (t.twp n).active = some x ∧ (t.twp n).queue = (s.twp n).queue.erase x ∧ t.sram = s.sram ∧
      ∃ pre, t.outbox = s.outbox ++ pre ++ [Out.twoWire n x.addr (if x.pec ∧ x.rd = 0 then x.wr ++ [pec8 (BitVec.ofNat 8 (2 * x.addr) :: x.wr)] else x.wr) x.rd] ∧
        (∀ g, x.page = some g → Assoc.get none (s.twp n).pages x.addr ≠ some g → pre = [Out.twoWire n x.addr [0x00, BitVec.ofNat 8 g] 0]) ∧
        (x.page = none ∨ (∃ g, x.page = some g ∧ Assoc.get none (s.twp n).pages x.addr = some g) → pre = [])) ∧
    (∃ t, exec (.twStart n true) s = .next t ∧ t.twState n = twIDLE ∧ (t.twp n).active = none ∧ (t.twp n).waitStop = true ∧ t.rd TW.ARB_LOST.count n = min (s.rd TW.ARB_LOST.count n + 1) (2 ^ 16 - 1) ∧
      (x.losses < 15 → t.outbox = s.outbox ∧ (t.twp n).queue = { x with losses := x.losses + 1 } :: (s.twp n).queue.erase x) ∧
      (15 ≤ x.losses → (t.twp n).queue = (s.twp n).queue.erase x ∧ (t.rd (hdrStatus .TW) n).testBit Ev.TW_XFER_FAIL.bit = true ∧
        (x.kind = 4 → t.rd TW.XFER_RESULT.result n = 5 ∧ t.rd TW.XFER_RESULT.reason n = 2)))) ∧
  (∀ (s : State) (n : TwId) (lost : Bool), (n.val = 4 ∨ s.twState n ≠ twIDLE ∨ (s.twp n).waitStop = true ∨ s.now < (s.twp n).freeAt + 1000 ∨ nextTx (s.twp n).queue = none) →
    exec (.twStart n lost) s = .next s) ∧
  (∀ (s : State) (n : TwId) (nack bad : Bool) (data : List Byte), n.val ≠ 4 →
    (s.twState n = twIDLE → exec (.twStop n nack bad data) s = .next (s.setTwp n { s.twp n with waitStop := false, freeAt := s.now })) ∧
    (s.twState n ≠ twIDLE → s.twState n ≠ twBUSY → exec (.twStop n nack bad data) s = .next s)) ∧
  (∀ (s : State) (n : TwId) (x : Tx) (data : List Byte), n.val ≠ 4 → s.twState n = twBUSY → (s.twp n).active = some x → x.kind ≠ 1 →
    (x.tries < 2 → ∀ nack bad : Bool, (nack = true ∨ (bad = true ∧ x.pec = true)) → ∃ t, exec (.twStop n nack bad data) s = .next t ∧ t.twState n = twIDLE ∧
      (t.twp n).queue = { x with tries := x.tries + 1 } :: (s.twp n).queue ∧ t.rd TW.XFERS.count n = s.rd TW.XFERS.count n ∧
      (nack = true → t.rd TW.NACKS.count n = min (s.rd TW.NACKS.count n + 1) (2 ^ 16 - 1)) ∧ (nack = false → t.rd TW.PEC_ERR.count n = min (s.rd TW.PEC_ERR.count n + 1) (2 ^ 16 - 1))) ∧
    (2 ≤ x.tries → ∃ t, exec (.twStop n true false data) s = .next t ∧ (t.twp n).queue = (s.twp n).queue ∧ (t.rd (hdrStatus .TW) n).testBit Ev.TW_XFER_FAIL.bit = true ∧
      (x.kind = 4 → t.rd TW.XFER_RESULT.result n = 5 ∧ t.rd TW.XFER_RESULT.reason n = 1)) ∧
    (x.kind = 4 → ∃ t, exec (.twStop n false false data) s = .next t ∧ t.twState n = twIDLE ∧ t.rd TW.XFER_RESULT.result n = 2 ∧ t.rd TW.XFER_RESULT.reason n = 0 ∧
      t.rd TW.XFERS.count n = min (s.rd TW.XFERS.count n + 1) (2 ^ 32 - 1) ∧ t.sram = s.sram ∧ t.hbm = s.hbm ∧ t.outbox = s.outbox) ∧
    ((x.kind = 0 ∨ x.kind = 3) → exec (.twStop n false false data) s = .next ((s.twIdle n).add TW.XFERS.count 1 n)) ∧
    (x.kind = 2 → x.rd = 1 → ∀ b : Byte, b.toNat < 32 → ∃ t y, exec (.twStop n false false [b]) s = .next t ∧ Assoc.get 0x14 t.tw.exps x.rail = b.toNat ∧
      y.wr = [0x01, 0x80] ∧ y.kind = 2 ∧ y.rail = x.rail ∧ (s.twState (s.railRd RAIL.CFG.port x.rail) ≠ twOFF → s.railRd RAIL.CFG.port x.rail ≠ n.val →
        (t.twp (s.railRd RAIL.CFG.port x.rail)).queue = (s.twp (s.railRd RAIL.CFG.port x.rail)).queue ++ [y])) ∧
    (x.kind = 2 → x.rd = 1 → ∀ b : Byte, 32 ≤ b.toNat → ∃ t, exec (.twStop n false false [b]) s = .next t ∧ t.tw.exps = s.tw.exps ∧ (t.rd (hdrStatus .TW) n).testBit Ev.TW_XFER_FAIL.bit = true)) ∧
  (∀ (s : State) (m : MasterId) (n : TwId) (v : Word), Admits s m .TW n 0x060 → ((m.val ≠ HOST ∧ m.val ≠ 1 ∧ m.val ≠ 2) ∨ v.toNat.testBit 31 = false) →
    exec (.xfer m n v) s = .next s) ∧
  (∀ (s : State) (m : MasterId) (n : TwId) (v : Word), Admits s m .TW n 0x060 → (m.val = HOST ∨ m.val = 1 ∨ m.val = 2) → v.toNat.testBit 31 = true →
    ((n.val = 4 ∨ s.twState n = twOFF ∨ s.twState n = twSTUCK ∨ (n.val < 2 ∧ 4 < bits v.toNat 12 8 + bits v.toNat 20 16 + (if v.toNat.testBit 29 then 1 else 0))) → exec (.xfer m n v) s = .next (s.wr TW.XFER_RESULT.result 4 n)) ∧
    (n.val ≠ 4 → s.twState n ≠ twOFF → s.twState n ≠ twSTUCK → (n.val < 2 → bits v.toNat 12 8 + bits v.toNat 20 16 + (if v.toNat.testBit 29 then 1 else 0) ≤ 4) →
      (s.xferRuns n = true → exec (.xfer m n v) s = .next (s.wr TW.XFER_RESULT.result 3 n)) ∧
      (s.xferRuns n = false → ∃ t x, exec (.xfer m n v) s = .next t ∧ t.rd TW.XFER_RESULT.result n = 1 ∧ (t.twp n).queue = (s.twp n).queue ++ [x] ∧ x.kind = 4 ∧
        x.addr = v.toNat % 128 ∧ x.rd = bits v.toNat 20 16 ∧ x.pec = v.toNat.testBit 29 ∧
        x.wr = ((List.range 8).flatMap fun j => leBytes 4 (s.rd TW.XFER_DATA.data n j)).take (bits v.toNat 12 8)))) ∧
  (∀ (s : State) (n : RailId) (port : Nat), s.railRd RAIL.CFG.port n = port → s.runs 2 = true → s.twState port ≠ twOFF → s.twState port ≠ twSTUCK →
    (∃ t, exec (.statusPoll n none) s = .next t ∧ Assoc.get 0 t.tw.pollFails n = (Assoc.get 0 s.tw.pollFails n + 1) % 3 ∧
      (Assoc.get 0 s.tw.pollFails n = 2 → (t.rd (hdrStatus .TW) port).testBit Ev.TW_XFER_FAIL.bit = true) ∧ t.sram = s.sram) ∧
    (∀ w : BitVec 16, ∃ t, exec (.statusPoll n (some w)) s = .next t ∧ Assoc.get 0 t.tw.pollFails n = 0 ∧ t.rd TW.XFERS.count port = min (s.rd TW.XFERS.count port + 1) (2 ^ 32 - 1) ∧
      (w = 0 → t.outbox = s.outbox ∧ t.tw.ports = s.tw.ports) ∧
      (w ≠ 0 → (∃ x, (t.twp port).queue = (s.twp port).queue ++ [x] ∧ x.kind = 3 ∧ x.wr = [0x03] ∧ x.addr = s.railRd RAIL.CFG.address n) ∧
        (s.phaseTold n w.toNat = false → (t.rd (hdrStatus .SAFE)).testBit Ev.PHASE_FAULT.bit = true ∧
          ∀ b, b < 16 → w.toNat.testBit b = true → Assoc.get none t.tw.postedAt (16 * n + b) = some s.now) ∧
        (s.phaseTold n w.toNat = true → t.tw.postedAt = s.tw.postedAt)))) ∧
  (∀ (s : State) (n : RailId) (answer : Option (BitVec 16)), (s.runs 2 = false ∨ s.twState (s.railRd RAIL.CFG.port n) = twOFF ∨ s.twState (s.railRd RAIL.CFG.port n) = twSTUCK) →
    exec (.statusPoll n answer) s = .next s)) ∧
  -- R488, R489, R493: a bus that hangs is cured, or found stuck; stretching that lasts too long ends a transaction; attention requests.
  ((∀ (s : State) (n : TwId) (low : Bool) (clocks : Fin 10) (width : BitVec 10),
    ((s.twState n ≠ twIDLE ∨ n.val = 4) → exec (.busStuck n) s = .next s ∧ exec (.barkerRequest n width) s = .next s) ∧
    (s.twState n ≠ twBUSY → exec (.stretchTimeout n low) s = .next s) ∧
    ((s.twState n ≠ twSTUCK ∨ (s.twp n).cureFailed = true) → exec (.twFreed n clocks) s = .next s ∧ exec (.twStuck n) s = .next s) ∧
    ((s.twState n ≠ twSTUCK ∨ (s.twp n).cureFailed = false ∨ s.now < (s.twp n).cureAt + 1000000000) → exec (.cureRetry n) s = .next s)) ∧
  (∀ (s : State) (n : TwId), s.twState n = twIDLE → n.val ≠ 4 → ∃ t, exec (.busStuck n) s = .next t ∧ t.twState n = twSTUCK ∧ t.rd TW.STATUS.sda n = 0 ∧ (t.twp n).attempts = 1 ∧
    (t.twp n).cureAt = s.now ∧ (t.twp n).cureFailed = false ∧ (t.twp n).queue = (s.twp n).queue) ∧
  (∀ (s : State) (n : TwId), s.twState n = twSTUCK → (s.twp n).cureFailed = false →
    (∀ clocks : Fin 10, ∃ t, exec (.twFreed n clocks) s = .next t ∧ t.twState n = twIDLE ∧ t.rd TW.HANG_CURES.cures n = min (s.rd TW.HANG_CURES.cures n + 1) (2 ^ 16 - 1) ∧
      (t.twp n).freeAt = s.now ∧ (t.rd (hdrStatus .TW) n).testBit Ev.TW_FREED.bit = true ∧ (t.twp n).queue = (s.twp n).queue) ∧
    (∃ t, exec (.twStuck n) s = .next t ∧ t.twState n = twSTUCK ∧ (t.twp n).cureFailed = true ∧ (t.twp n).cureAt = s.now ∧ (t.twp n).queue = [] ∧
      t.rd TW.HANG_CURES.failed n = min (s.rd TW.HANG_CURES.failed n + 1) (2 ^ 16 - 1) ∧ (t.rd (hdrStatus .TW) n).testBit Ev.TW_STUCK.bit = true)) ∧
  (∀ (s : State) (n : TwId), s.twState n = twSTUCK → (s.twp n).cureFailed = true → (s.twp n).cureAt + 1000000000 ≤ s.now →
    exec (.cureRetry n) s = .next (s.setTwp n { s.twp n with cureFailed := false, cureAt := s.now, attempts := (s.twp n).attempts + 1 })) ∧
  (∀ (s : State) (n : TwId) (low : Bool), s.twState n = twBUSY → ∃ t, exec (.stretchTimeout n low) s = .next t ∧ t.rd TW.STRETCH_TO.count n = min (s.rd TW.STRETCH_TO.count n + 1) (2 ^ 16 - 1) ∧
    (low = false → t.twState n = twIDLE) ∧ (low = true → n.val ≠ 4 → t.twState n = twSTUCK) ∧ (n.val = 4 → t.twState n = twIDLE ∧ t.tw.buf = [] ∧ t.tw.wptr = none) ∧
    (∀ x, (s.twp n).active = some x → x.tries < 2 → (t.twp n).queue = { x with tries := x.tries + 1 } :: (s.twp n).queue) ∧
    (∀ x, (s.twp n).active = some x → 2 ≤ x.tries → (t.rd (hdrStatus .TW) n).testBit Ev.TW_XFER_FAIL.bit = true)) ∧
  (∀ (s : State) (n : TwId) (width : BitVec 10), n.val ≠ 4 → s.twState n = twIDLE →
    (20 ≤ width.toNat → width.toNat ≤ 200 → s.is TW.CTRL.barker_en n = true → ∃ t, exec (.barkerRequest n width) s = .next t ∧
      t.rd TW.BARKER.count n = min (s.rd TW.BARKER.count n + 1) (2 ^ 16 - 1) ∧ (t.twp n).reads = 0 ∧ t.outbox = s.outbox ∧
      ∃ x, (t.twp n).queue = (s.twp n).queue ++ [x] ∧ x.kind = 1 ∧ x.addr = 0x0D ∧ x.rd = 1) ∧
    (width.toNat < 20 ∨ (width.toNat ≤ 200 ∧ s.is TW.CTRL.barker_en n = false) → exec (.barkerRequest n width) s = .next s) ∧
    (200 < width.toNat → ∃ t, exec (.barkerRequest n width) s = .next t ∧ t.rd TW.PROTO_ERR.count n = min (s.rd TW.PROTO_ERR.count n + 1) (2 ^ 16 - 1) ∧
      (t.rd (hdrStatus .TW) n).testBit Ev.TW_PROTO.bit = true)) ∧
  (∀ (s : State) (n : TwId) (x : Tx) (b : Byte) (bad : Bool), n.val ≠ 4 → s.twState n = twBUSY → (s.twp n).active = some x → x.kind = 1 →
    (∃ t, exec (.twStop n false bad [b]) s = .next t ∧ t.rd TW.BARKER.last_addr n = b.toNat / 2 ∧ (t.rd (hdrStatus .TW) n).testBit Ev.TW_BARKER.bit = true ∧
      ((s.twp n).reads + 1 < 16 → (t.twp n).queue = x :: (s.twp n).queue ∧ (t.twp n).reads = (s.twp n).reads + 1)) ∧
    (∃ t, exec (.twStop n true bad [b]) s = .next t ∧ (t.twp n).reads = 0 ∧ (t.twp n).queue = (s.twp n).queue ∧ t.rd TW.NACKS.count n = min (s.rd TW.NACKS.count n + 1) (2 ^ 16 - 1) ∧
      ((s.twp n).reads = 0 → t.rd TW.BARKER.spurious n = min (s.rd TW.BARKER.spurious n + 1) (2 ^ 8 - 1)))))

/-- R495 to R501: the target on TW4: a write is kept until its STOP and then committed in whole words, a read answers the pointer's bytes, the target
sleeps and wakes, and asks for attention. -/
def Obligations.TargetAnswers : Prop :=
  (∀ (s : State) (addr : BitVec 7) (hi lo : Byte) (data : List Byte) (count : BitVec 16), s.twState 4 = twIDLE → addr.toNat = s.rd TW.TGT.address 4 →
    exec (.tw4Access addr (some (hi :: lo :: data)) count) s =
      .next ((s.wr TW.STATUS.state twBUSY 4).putTw { s.tw with wptr := some (hi.toNat * 256 + lo.toNat), buf := bufPlaces (hi.toNat * 256 + lo.toNat) data }) ∧
    (∃ t bs, exec (.tw4Access addr none count) s = .next t ∧ t.twState 4 = twBUSY ∧ t.outbox.getLast? = some (Out.bytes bs) ∧ bs.length = count.toNat ∧ t.sram = s.sram)) ∧
  (∀ (s : State) (addr : BitVec 7) (wr : Option (List Byte)) (count : BitVec 16), addr.toNat ≠ s.rd TW.TGT.address 4 → (addr.toNat ≠ 0x0D ∨ wr ≠ none ∨ s.tw.attnAt = none) →
    exec (.tw4Access addr wr count) s = .next s) ∧
  (∀ (s : State) (nack bad : Bool) (data : List Byte),
    (s.twState 4 = twBUSY → s.tw.wptr = none → ∃ t, exec (.twStop 4 nack bad data) s = .next t ∧ t.twState 4 = twIDLE ∧ t.tw.lastAt = s.now ∧
      t.rd TW.XFERS.count 4 = min (s.rd TW.XFERS.count 4 + 1) (2 ^ 32 - 1) ∧ t.outbox = s.outbox) ∧
    ((s.twState 4 ≠ twBUSY ∨ s.tw.wptr ≠ none) → exec (.twStop 4 nack bad data) s = .next s)) ∧
  (∀ (s : State) (addr : BitVec 7) (wr : Option (List Byte)) (count : BitVec 16),
    ((s.twState 4 ≠ twIDLE ∧ (s.twState 4 ≠ twBUSY ∨ s.tw.wptr ≠ none)) → exec (.tw4Access addr wr count) s = .next s) ∧
    (∀ stop : Bool, (s.twState 4 ≠ twBUSY ∨ s.tw.wptr = none) → exec (.tw4Commit stop) s = .next s) ∧
    (s.twState 4 ≠ twBUSY → exec .tw4ProtocolReset s = .next s) ∧
    ((s.twState 4 ≠ twIDLE ∨ s.is TW.CTRL.sleep_en 4 = false ∨ s.now < s.tw.lastAt + 100000000 ∨ (s.pwr ≠ pSTANDBY ∧ s.pwr ≠ pHELD)) → exec .tw4Sleep s = .next s) ∧
    ((s.twState 4 ≠ twSLEEP ∨ addr.toNat ≠ s.rd TW.TGT.address 4) → exec (.tw4Wake addr) s = .next s) ∧
    ((s.tw.attnDue = false ∨ s.targetIdle = false) → exec .attnSet s = .next s) ∧
    ((s.tw.attnAt = none ∨ s.targetIdle = false ∨ ∃ a, s.tw.attnAt = some a ∧ s.now < a + 100000000) → exec .attnRepeat s = .next s)) ∧
  (∀ (s : State) (addr : BitVec 7) (count : BitVec 16) (a : Nat), s.twState 4 = twIDLE → addr.toNat = 0x0D → s.rd TW.TGT.address 4 ≠ 0x0D → s.tw.attnAt = some a →
    ∃ t, exec (.tw4Access addr none count) s = .next t ∧ t.twState 4 = twBUSY ∧ t.tw.attnAt = none ∧ t.outbox = s.outbox ++ [Out.bytes [BitVec.ofNat 8 (2 * s.rd TW.TGT.address 4)]]) ∧
  (∀ (s : State) (p v : Nat) (stop : Bool), s.twState 4 = twBUSY → s.tw.wptr = some p → s.tw.buf = bufPlaces p (leBytes 4 v) → p % 4 = 0 → v < 2 ^ 32 →
    exec (.tw4Commit stop) s = .next (
      let t := ((s.putTw { s.tw with buf := [], wptr := none }).wr TW.TGT_STATUS.pointer p 4).pointerWrite p v
      if stop ∧ t.twState 4 = twBUSY then (((t.add TW.XFERS.count 1 4).twIdle 4).putTw { ((t.add TW.XFERS.count 1 4).twIdle 4).tw with lastAt := t.now }) else t)) ∧
  (∀ (s : State) (p : Nat) (b : Byte), s.twState 4 = twBUSY → s.tw.wptr = some p → s.tw.buf = bufPlaces p [b] → ∃ t, exec (.tw4Commit true) s = .next t ∧
    t.rd TW.TGT_STATUS.partial 4 = 1 ∧ t.rd TW.TGT_STATUS.pointer 4 = p % 2 ^ 16 ∧ t.twState 4 = twIDLE ∧ t.tw.buf = [] ∧ t.outbox = s.outbox) ∧
  (∀ (s : State), s.twState 4 = twBUSY → ∃ t, exec .tw4ProtocolReset s = .next t ∧ t.twState 4 = twIDLE ∧ t.tw.buf = [] ∧ t.tw.wptr = none ∧
    t.rd TW.TGT_STATUS.pointer 4 = s.rd TW.TGT_STATUS.pointer 4 ∧ t.rd TW.PROTO_ERR.count 4 = min (s.rd TW.PROTO_ERR.count 4 + 1) (2 ^ 16 - 1)) ∧
  (∀ (s : State), s.twState 4 = twIDLE → s.is TW.CTRL.sleep_en 4 = true → s.tw.lastAt + 100000000 ≤ s.now → (s.pwr = pSTANDBY ∨ s.pwr = pHELD) →
    exec .tw4Sleep s = .next (s.wr TW.STATUS.state twSLEEP 4)) ∧
  (∀ (s : State) (addr : BitVec 7), s.twState 4 = twSLEEP → addr.toNat = s.rd TW.TGT.address 4 → ∃ t, exec (.tw4Wake addr) s = .next t ∧ t.twState 4 = twBUSY ∧
    (t.rd (hdrStatus .TW) 4).testBit Ev.TW_WAKE.bit = true ∧ t.sram = s.sram) ∧
  (∀ (s : State), s.targetIdle = true →
    (s.tw.attnDue = true → ∃ t, exec .attnSet s = .next t ∧ t.outbox = s.outbox ++ [Out.barker] ∧ t.tw.attnDue = false ∧ t.tw.attnAt = some s.now ∧ t.twState 4 = twIDLE) ∧
    (∀ a, s.tw.attnAt = some a → a + 100000000 ≤ s.now → ∃ t, exec .attnRepeat s = .next t ∧ t.outbox = s.outbox ++ [Out.barker] ∧ t.tw.attnAt = some s.now ∧ t.twState 4 = twIDLE))

/-- Offline tests, their results and repairs; the scan port. -/
def Obligations.TestsRun : Prop :=
  -- R509 to R513, R515, R517 to R519, R428: offline tests: their start and cancelling, a slice's outcome, repairs, and how a block leaves its test.
  ((∀ (s : State) (m : MasterId) (type : Fin 16) (inst : BitVec 16), Admits s m .BIST 0 0x040 →
    (bistNames type inst.toNat = false → exec (.bistTest m type inst) s = .next (s.wr BIST.CMD_RESULT.result 4)) ∧
    (bistNames type inst.toNat = true → (s.bistIdle type inst.toNat = false ∨ s.testBusy type inst.toNat = true ∨ (type.val = btLink ∧ s.testBusy type (otherEnd inst.toNat) = true)) → exec (.bistTest m type inst) s = .next (s.wr BIST.CMD_RESULT.result 3)) ∧
    (bistNames type inst.toNat = true → s.bistIdle type inst.toNat = true → s.testBusy type inst.toNat = false → (type.val = btLink → s.testBusy type (otherEnd inst.toNat) = false) →
      ∃ t r, exec (.bistTest m type inst) s = .next t ∧ t.tests = s.tests ++ [r] ∧ r.type = type.val ∧ r.inst = inst.toNat ∧ r.total = testSlices type ∧ r.done = 0 ∧ r.result = 0 ∧
        r.sliceAt = s.now ∧ t.rd BIST.CMD_RESULT.result = 1) ∧
    (∀ r, s.testOf type inst.toNat = some r → r.result = 0 → ∃ t, exec (.bistCancel m type inst) s = .next t ∧ t.rd BIST.CMD_RESULT.result = 2 ∧
      t.testOf type inst.toNat = some { r with cut := if r.cut = 0 then 2 else r.cut }) ∧
    ((s.testOf type inst.toNat = none ∨ ∃ r, s.testOf type inst.toNat = some r ∧ r.result ≠ 0) → exec (.bistCancel m type inst) s = .next (s.wr BIST.CMD_RESULT.result 4))) ∧
  (∀ (s : State) (type : Fin 16) (inst : BitVec 16) (count expect : Word) (sig bad : Bool) (found : List Found),
    (s.testOf type inst.toNat = none → exec (.sliceEnd type inst count expect sig bad found) s = .next s ∧ exec (.sliceCut type inst count expect sig bad found) s = .next s ∧
      exec (.reinitDone type inst) s = .next s) ∧
    (∀ r, s.testOf type inst.toNat = some r → (r.result ≠ 0 ∨ r.cut ≠ 0) → exec (.sliceEnd type inst count expect sig bad found) s = .next s) ∧
    (∀ r, s.testOf type inst.toNat = some r → r.result ≠ 0 → exec (.sliceCut type inst count expect sig bad found) s = .next s)) ∧
  (∀ (s : State) (type : Fin 16) (inst : BitVec 16) (count expect : Word) (sig bad : Bool) (r : TestRun), s.testOf type inst.toNat = some r → r.result = 0 →
    (r.cut = 0 →
      ((bad = true ∨ expect.toNat < count.toNat ∨ (count = expect ∧ sig = false)) → exec (.sliceEnd type inst count expect sig bad []) s =
        .next (s.setTest { r with result := 3, count := count.toNat, expect := expect.toNat, sig := sig })) ∧
      (bad = false → count.toNat < expect.toNat → exec (.sliceEnd type inst count expect sig bad []) s =
        .next (s.setTest { r with result := 4, count := count.toNat, expect := expect.toNat, sig := sig })) ∧
      (bad = false → count = expect → sig = true → exec (.sliceEnd type inst count expect sig bad []) s =
        .next (s.setTest (if r.done + 1 = r.total then { r with done := r.done + 1, result := 2 } else { r with done := r.done + 1, sliceAt := s.now }))) ∧
      (s.now < r.sliceAt + s.rd BIST.CTRL.slice_ms * 1000000 → exec (.sliceCut type inst count expect sig bad []) s = .next s) ∧
      (r.sliceAt + s.rd BIST.CTRL.slice_ms * 1000000 ≤ s.now → bad = false → count.toNat < expect.toNat → exec (.sliceCut type inst count expect sig bad []) s =
        .next (s.setTest { r with cut := 1, result := 4, count := count.toNat, expect := expect.toNat, sig := sig }))) ∧
    (r.cut ≠ 0 → bad = false → count.toNat < expect.toNat → exec (.sliceCut type inst count expect sig bad []) s =
      .next (s.setTest { r with result := 4, count := count.toNat, expect := expect.toNat, sig := sig }))) ∧
  (∀ (s : State) (type : Fin 16) (inst : BitVec 16) (count : Word) (r : TestRun) (f : Found), s.testOf type inst.toNat = some r → r.result = 0 → r.cut = 0 → f.memory.val < 2 →
    (s.keep.repairs.filter fun x => x.1 == (foundBlock f r).1 && x.2.1 == (foundBlock f r).2 && x.2.2.1 == f.memory.val && x.2.2.2 / 128 == foundRow f / 128).length < 4 →
    ∃ t, exec (.sliceEnd type inst count count true false [f]) s = .next t ∧ t.keep.repairs = s.keep.repairs ++ [((foundBlock f r).1, (foundBlock f r).2, f.memory.val, foundRow f)] ∧
      (t.testOf type inst.toNat).map (·.done) = some (r.done + 1) ∧ t.rd BIST.FLOG_COUNT.count = min (s.rd BIST.FLOG_COUNT.count + 1) (2 ^ 16 - 1) ∧
      t.failLog.head? = some ((foundBlock f r).1 + (foundBlock f r).2 % 2 ^ 16 * 256 + f.memory.val * 2 ^ 24, f.address.toNat, f.bit.toNat + 2 ^ 16, s.beat.count % 2 ^ 32) ∧
      (t.rd (hdrStatus .BIST)).testBit Ev.REPAIR.bit = true) ∧
  (∀ (s : State) (type : Fin 16) (inst : BitVec 16) (r : TestRun), s.testOf type inst.toNat = some r →
    (r.result = 0 → exec (.reinitDone type inst) s = .next s) ∧
    (r.result ≠ 0 → ∃ t, exec (.reinitDone type inst) s = .next t ∧ t.testOf type inst.toNat = none ∧ t.testLog.head? = some ⟨r, s.beat.count % 2 ^ 32⟩ ∧
      (t.rd (hdrStatus .BIST)).testBit Ev.TEST_DONE.bit = true ∧
      (type.val = btStack → r.inst < 16 → (t.stk r.inst).passed = decide (r.result = 2) ∧ (s.hsState r.inst = hsTESTING → t.hsState r.inst = hsFENCED) ∧ t.rd HS.CMD_RESULT.result r.inst = 2 ∧
        (r.result = 2 → ∀ u, u < 1024 → (s.unit r.inst u).state = 2 → r.units.contains u = false → (t.unit r.inst u).state = 1 ∧ (t.unit r.inst u).needPass = false)) ∧
      (type.val = btPort → t.pState r.inst = pFENCED ∧ (t.portSt r.inst).passed = decide (r.result = 2)) ∧
      (btLink ≤ type.val → type.val ≤ btMeter → t.rd BIST.CMD_RESULT.result = 2 ∧ t.rd BIST.CMD_RESULT.test = r.result % 8 ∧
        (type.val = btConverter → r.result = 2 → (t.conv r.inst).failed = false) ∧ (type.val = btMeter → r.inst < 52 → r.result = 2 → t.meterFailed r.inst = false)))) ∧
  (∀ (s : State) (n : RailId),
    ((s.rail n).refBad = true → s.meterFailed n = false → ∃ t, exec (.meterCheck n true) s = .next t ∧ t.meterFailed n = true ∧ (t.rd (hdrStatus .BIST)).testBit Ev.METER_FAULT.bit = true) ∧
    ((s.rail n).refBad = false → exec (.meterCheck n true) s = .next (s.setRail n { s.rail n with refBad := true })) ∧
    ((s.rail n).refBad = true → s.meterFailed n = true → exec (.meterCheck n true) s = .next (s.setRail n { s.rail n with refBad := false })) ∧
    (exec (.meterCheck n false) s = .next (s.setRail n { s.rail n with refBad := false })))) ∧
  -- R520, R521: the scan port opens in STANDBY, HELD and CUT alone, after the secrets are gone.
  ((∀ (s : State) (m : MasterId), Admits s m .BIST 0 0x090 →
    ((m.val = HOST ∨ m.val = TRAY) → s.scanAllowed = true → ∃ t, exec (.scanCmd m) s = .next t ∧ t.rd SEC.STATUS.zeroized = 1 ∧ t.rd BIST.SCAN.unlocked = 1 ∧ t.rd FW.STATUS.stage = 0 ∧
      t.rd FW.COMPONENTS.running = 0 ∧ (t.rd (hdrStatus .BIST)).testBit Ev.SCAN_UNLOCKED.bit = true ∧ t.sram = s.sram) ∧
    (((m.val ≠ HOST ∧ m.val ≠ TRAY) ∨ s.scanAllowed = false) → exec (.scanCmd m) s = .next s)) ∧
  (∀ s : State, s.scanAllowed = true → (∃ t, exec .scanUnlockInstr s = .next t ∧ t.rd SEC.STATUS.zeroized = 1 ∧ t.rd BIST.SCAN.unlocked = 1 ∧ t.scanIr = 2) ∧
    exec .extest s = .next (s.putScanIr 1)) ∧
  (∀ s : State, (s.pwr = pON ∨ s.pwr = pSEQ_UP ∨ s.pwr = pSEQ_DOWN) → exec .scanUnlockInstr s = .next s ∧ exec .extest s = .next s))

/-- The event recorder, and the ageing indicators. -/
def Obligations.RecorderAndAgeing : Prop :=
  -- R522 to R528: samples reach the open bank of every period that carries the quantity, periods close or extend, closed banks are written.
  ((∀ (s : State) (id i : BitVec 16) (v : Int), s.is RECORD.CTRL.en = true → s.counting = true → i.toNat < recInstances id.toNat → s.recReading id.toNat i.toNat = some v →
    (id.toNat < 16 → ∃ t, exec (.recordSample id i) s = .next t ∧ t.regs = s.regs ∧ ∀ p, p < 4 → (t.recPeriod p).closed = (s.recPeriod p).closed ∧
      (s.rd RECORD.PERIOD.s 0 p = 0 → (t.recPeriod p).live = (s.recPeriod p).live) ∧
      (s.rd RECORD.PERIOD.s 0 p ≠ 0 → ∀ x ∈ (s.recPeriod p).live.slots, x.id = id.toNat → x.inst = i.toNat → 0 < x.samples → ∃ y ∈ (t.recPeriod p).live.slots, y.id = x.id ∧ y.inst = x.inst ∧
        y.samples = min (x.samples + 1) (2 ^ 32 - 1) ∧ y.least = min x.least v ∧ y.most = max x.most v ∧ y.sum = max (-(2 ^ 63)) (min (x.sum + v) (2 ^ 63 - 1)) ∧
        ∀ k, k < x.bins.length → k ≠ x.bin v → y.bins.getD k 0 = x.bins.getD k 0) ∧
      ∀ x ∈ (s.recPeriod p).live.slots, (x.id ≠ id.toNat ∨ x.inst ≠ i.toNat) → x ∈ (t.recPeriod p).live.slots) ∧
    (16 ≤ id.toNat → ∃ t, exec (.recordSample id i) s = .next t ∧ Assoc.get 0 t.recorder.last (65536 * id.toNat + i.toNat) = v.toNat ∧ t.regs = s.regs)) ∧
  (∀ (s : State) (id i : BitVec 16), (s.is RECORD.CTRL.en = false ∨ s.counting = false ∨ recInstances id.toNat ≤ i.toNat ∨ s.recReading id.toNat i.toNat = none) →
    exec (.recordSample id i) s = .next s) ∧
  (∀ (s : State) (p : Fin 4), ((s.is RECORD.CTRL.en = false ∨ s.counting = false ∨ s.rd RECORD.PERIOD.s 0 p = 0 ∨
      s.beat.count / (s.rd RECORD.PERIOD.s 0 p * 1000000000) = (s.recPeriod p).count) → exec (.periodEnd p) s = .next s) ∧
    ((s.runs 8 = false ∨ s.recWaiting.head? ≠ some p.val ∨ (s.recPeriod p).closed = none) → exec (.recordWrite p) s = .next s)) ∧
  (∀ (s : State) (p : Fin 4), s.is RECORD.CTRL.en = true → s.counting = true → s.rd RECORD.PERIOD.s 0 p ≠ 0 →
    s.beat.count / (s.rd RECORD.PERIOD.s 0 p * 1000000000) ≠ (s.recPeriod p).count → (s.recPeriod p).live.slots ≠ [] →
    ∃ t, exec (.periodEnd p) s = .next t ∧ (t.recPeriod p).count = s.beat.count / (s.rd RECORD.PERIOD.s 0 p * 1000000000) ∧
      ((s.recPeriod p).closed = none → (∃ b, (t.recPeriod p).closed = some b ∧ b.slots = (s.recPeriod p).live.slots ∧
          b.stop = s.beat.count / (s.rd RECORD.PERIOD.s 0 p * 1000000000) * (s.rd RECORD.PERIOD.s 0 p * 1000000000)) ∧
        (∀ x ∈ (t.recPeriod p).live.slots, x.samples = 0) ∧ (t.rd RECORD.STATUS.pending).testBit p = true) ∧
      (∀ b, (s.recPeriod p).closed = some b → (t.recPeriod p).closed = some b ∧ (t.recPeriod p).live.slots = (s.recPeriod p).live.slots ∧ (t.recPeriod p).live.extended = true ∧
        t.rd RECORD.EXTENDED.count = min (s.rd RECORD.EXTENDED.count + 1) (2 ^ 16 - 1) ∧ (t.rd (hdrStatus .RECORD)).testBit Ev.RECORD_EXTENDED.bit = true)) ∧
  (∀ (s : State) (p : Fin 4) (b : RecBank), s.runs 8 = true → s.recWaiting.head? = some p.val → (s.recPeriod p).closed = some b →
    ∃ t, exec (.recordWrite p) s = .next t ∧ (t.recPeriod p).closed = none ∧ t.rd RECORD.SEQ.seq = (s.rd RECORD.SEQ.seq + 1) % 2 ^ 32 ∧
      t.rd RECORD.LAST.seq 0 p = s.rd RECORD.SEQ.seq % 2 ^ 32 ∧ (t.rd RECORD.STATUS.pending).testBit p = false ∧ (t.recPeriod p).live = (s.recPeriod p).live ∧ t.sram = s.sram ∧
      (s.is RECORD.CTRL.ring_en = false → t.rd RECORD.RING_TAIL.offset = s.rd RECORD.RING_TAIL.offset) ∧
      ((b.slots.filter (·.saturated)).length ≠ 0 → (t.rd (hdrStatus .RECORD)).testBit Ev.RECORD_SATURATED.bit = true)) ∧
  (∀ (s : State) (p seq : Nat) (b : RecBank), (∀ x ∈ b.slots, x.bins.length = 6) → (s.nativeRecord p seq b).1.length = 32 + 64 * b.slots.length ∧
    (s.nativeRecord p seq b).1.take 4 = leBytes 4 0x53585243)) ∧
  -- R478 to R480, R369: a slot wakes its component with its tag, and RECORDER takes the ageing indicators' samples once per day.
  (∀ (s : State) (n : SlotId) (day : BitVec 32) (delay rpm : List (BitVec 16)),
    (s.dueAlone n actMcEvent = true → ∃ t, exec (.mcEvent n day delay rpm) s = .next t ∧ (∃ o, t.outbox = s.outbox ++ Out.wake (s.slotParam0 n % 16) (s.slotParam1 n) :: o) ∧
      t.rd SCHED.SLOT_COUNT.count 0 n = min (s.rd SCHED.SLOT_COUNT.count 0 n + 1) (2 ^ 32 - 1) ∧ t.sram = s.sram ∧
      ((s.slotParam0 n % 16 ≠ 8 ∨ s.runs 8 = false ∨ s.is AGE.CTRL.en = false ∨ day.toNat = s.rd AGE.DAY.day) → t.age = s.age) ∧
      (s.slotParam0 n % 16 = 8 → s.runs 8 = true → s.is AGE.CTRL.en = true → day.toNat ≠ s.rd AGE.DAY.day → t.rd AGE.DAY.day = day.toNat ∧
        ∀ i, 24 ≤ i → i < 40 → (t.ageOf i).samples.head? = some (day.toNat, (s.stk (i - 24)).remaps.length) ∧ (t.ageOf i).samples.length ≤ 90 ∧
          ((s.ageOf i).samples.length < 13 → (t.ageOf i).days = 0xFFFF ∧ (t.ageOf i).days90 = 0xFFFF ∧ ((s.ageOf i).alarm = true ∨ 0xFFFF < s.rd AGE.ALARM_DAYS.days ∨ (t.ageOf i).alarm = false)) ∧
          ((s.ageOf i).atLimit = false → ((t.ageOf i).atLimit = true ↔ 256 ≤ (s.stk (i - 24)).remaps.length)))) ∧
    (s.dueAlone n actMcEvent = false → exec (.mcEvent n day delay rpm) s = .next s))

/-- R535 to R538: the event registers of every page: a cleared status bit, the enables, the events written by hand. -/
def Obligations.EventRegisters : Prop :=
  ∀ (s : State) (m : MasterId) (page : BitVec 14) (v : Word) (pg : Page) (i : Nat), pageOf page.toNat = some (pg, i) →
    (Admits s m pg i 0x018 → ∃ t, exec (.evtStatusWrite m page v) s = .next t ∧ (∀ b, b < 32 → (t.rd (hdrStatus pg) i).testBit b = ((s.rd (hdrStatus pg) i).testBit b && !v.toNat.testBit b)) ∧
      ((t.rd (hdrStatus pg) i &&& s.rd (hdrEnable pg) i) = 0 → t.outbox = s.outbox ∧ t.host = s.host) ∧
      ((t.rd (hdrStatus pg) i &&& s.rd (hdrEnable pg) i) ≠ 0 → s.is (hdrMsix pg) i = true → (s.msixWord (4 * s.rd (hdrVector pg) i + 3)).testBit 0 = false →
        t.outbox = s.outbox ++ [Out.msix (s.rd (hdrVector pg) i)]) ∧ t.hbm = s.hbm ∧ t.sram = s.sram) ∧
    (Admits s m pg i 0x01C → ∃ t, exec (.evtEnableWrite m page v) s = .next t ∧ t.rd (hdrEnable pg) i = v.toNat % 2 ^ pg.eventBits ∧ t.rd (hdrStatus pg) i = s.rd (hdrStatus pg) i ∧
      ((s.rd (hdrStatus pg) i &&& v.toNat % 2 ^ pg.eventBits) ≠ 0 → s.is (hdrMsix pg) i = true → (s.msixWord (4 * s.rd (hdrVector pg) i + 3)).testBit 0 = false →
        t.outbox = s.outbox ++ [Out.msix (s.rd (hdrVector pg) i)]) ∧ t.hbm = s.hbm ∧ t.sram = s.sram) ∧
    (Admits s m pg i 0x020 → ∃ t, exec (.evtForce m page v) s = .next t ∧ (∀ b, b < pg.eventBits → v.toNat.testBit b = true → (t.rd (hdrStatus pg) i).testBit b = true) ∧
      ((∀ b, b < pg.eventBits → v.toNat.testBit b = false) → t = s) ∧ t.sram = s.sram) ∧
    (Denies s m pg i 0x01C → ∃ t, exec (.evtEnableWrite m page v) s = .next t ∧ t.rd ACL.DENIED.master = m.val ∧ t.rd (hdrEnable pg) i = s.rd (hdrEnable pg) i ∧ t.outbox = s.outbox) ∧
    (Denies s m pg i 0x020 → ∃ t, exec (.evtForce m page v) s = .next t ∧ t.rd ACL.DENIED.master = m.val ∧ t.rd (hdrStatus pg) i = s.rd (hdrStatus pg) i ∧ t.outbox = s.outbox) ∧
    ((Denies s m pg i 0x018 → ∃ t, exec (.evtStatusWrite m page v) s = .next t ∧ t.rd ACL.DENIED.master = m.val ∧ t.rd ACL.DENIED_PAGE.page = pg.number i ∧
      t.rd ACL.DENIED.count = min (s.rd ACL.DENIED.count + 1) (2 ^ 16 - 1) ∧ t.rd (hdrStatus pg) i = s.rd (hdrStatus pg) i))

/-- Register writes under the access tables, persistent fields, reads that clear and latch. -/
def Obligations.RegisterAccess : Prop :=
  -- R332, R334, R533, R534, R540, R544, R545, R550, R551: a register write: an allowed one stores, a denied one is counted and changes nothing, a
  -- persistent field goes to the keep store, an absent or offline page does nothing, a vector that is unmasked while it is pending is sent.
  ((∀ (s : State) (m : MasterId) (page : BitVec 14) (word : BitVec 10) (v : Word), (pageOf page.toNat = none ∨ ∃ pg i, pageOf page.toNat = some (pg, i) ∧ s.offline pg i = true) →
    exec (.registerWrite m page word v) s = .next s ∧ exec (.evtStatusWrite m page v) s = .next s ∧ exec (.evtEnableWrite m page v) s = .next s ∧ exec (.evtForce m page v) s = .next s) ∧
  (∀ (s : State) (m : MasterId) (v : Word),
    (Admits s m .RECORD 0 0x044 → exec (.registerWrite m 0x040 0x011 v) s = .next (s.wr RECORD.RING_SIZE.pages v.toNat)) ∧
    (Admits s m .RECORD 0 0x050 → exec (.registerWrite m 0x040 0x014 v) s = .next s) ∧
    (Admits s m .TW 4 0x0A4 → ∃ t, exec (.registerWrite m 0x03C 0x029 v) s = .next t ∧ t.outbox = s.outbox ∧
      ∀ b, b < 8 → (t.rd TW.ATTN.causes 4).testBit b = ((s.rd TW.ATTN.causes 4).testBit b && !v.toNat.testBit b)) ∧
    (Denies s m .RECORD 0 0x044 → exec (.registerWrite m 0x040 0x011 v) s =
      .next (((s.wr ACL.DENIED.count (min (s.rd ACL.DENIED.count + 1) (2 ^ 16 - 1))).wr ACL.DENIED.master m).wr ACL.DENIED_PAGE.page 0x40)) ∧
    (exec (.registerWrite m 0x028 0x016 v) s = exec (.safeKick m) s)) ∧
  (∀ (s : State) (m : MasterId) (n : Fin 64) (v : Word), Admits s m .HOSTQ 0 (0x80C + 0x10 * n.val) →
    ∃ t, exec (.registerWrite m 0x008 (BitVec.ofNat 10 (0x203 + 4 * n.val)) v) s = .next t ∧ t.msixWord (4 * n.val + 3) = v.toNat % 2 ∧ t.regs = s.regs ∧ t.hbm = s.hbm ∧ t.sram = s.sram ∧
      (v.toNat.testBit 0 = false → s.host.pba.testBit n = true → t.outbox = s.outbox ++ [Out.msix n] ∧ t.host.pba.testBit n = false) ∧
      ((v.toNat.testBit 0 = true ∨ s.host.pba.testBit n = false) → t.outbox = s.outbox ∧ t.host.pba = s.host.pba)) ∧
  (∀ (s : State) (m : MasterId) (v : Word), Admits s m .LEAK 0 0x010 → s.worn 0x40 = false → ∃ t, exec (.rwpWrite m 2 v) s = .next t ∧ t.sram = s.sram ∧
    (s.mayPersist m .LEAK 0 = true → t.rd LEAK.CTRL.en % 2 ^ 4 = v.toNat % 2 ^ 4 ∧ t.rd LEAK.CTRL.pump_stop % 2 = v.toNat / 2 ^ 4 % 2 ∧
      (s.rd LEAK.CTRL.en % 2 ^ 4 ≠ v.toNat % 2 ^ 4 → t.keepWord 0x4008 = v.toNat % 2 ^ 5)) ∧
    (s.mayPersist m .LEAK 0 = false → t.rd LEAK.CTRL.en = s.rd LEAK.CTRL.en ∧ t.rd LEAK.CTRL.pump_stop = s.rd LEAK.CTRL.pump_stop ∧ t.keep.bytes = s.keep.bytes ∧
      (s.rd LEAK.CTRL.en % 2 ^ 4 ≠ v.toNat % 2 ^ 4 → t.rd ACL.DENIED.count = min (s.rd ACL.DENIED.count + 1) (2 ^ 16 - 1) ∧ t.rd ACL.DENIED.master = m.val))) ∧
  (∀ (s : State) (m : MasterId) (v : Word), Admits s m .LEAK 0 0x010 → s.worn 0x40 = true → ∃ t, exec (.rwpWrite m 2 v) s = .next t ∧ t.rd LEAK.CTRL.en = s.rd LEAK.CTRL.en ∧
    t.rd LEAK.CTRL.pump_stop = s.rd LEAK.CTRL.pump_stop ∧ t.keep.bytes = s.keep.bytes) ∧
  (∀ (s : State) (m : MasterId) (v : Word), s.worn 0x40 = false →
    (Admits s m .FW 0 0x010 → s.mayPersist m .FW 0 = true → ∃ t, exec (.rwpWrite m 0 v) s = .next t ∧ t.rd FW.CTRL.fleet_mode % 2 = v.toNat % 2 ∧
      t.rd FW.CTRL.auto_confirm % 2 = v.toNat / 2 % 2 ∧ t.rd FW.CTRL.push_wait = v.toNat / 4 % 2 ∧ t.sram = s.sram) ∧
    (Admits s m .SEC 0 0x010 → s.mayPersist m .SEC 0 = true → ∃ t, exec (.rwpWrite m 1 v) s = .next t ∧ t.rd SEC.CTRL.quote_gap_s % 2 ^ 16 = v.toNat % 2 ^ 16 ∧ t.sram = s.sram))) ∧
  -- R542, R543: a read clears what a read clears, and the LO word of a latching pair keeps its HI word for its reader.
  ((∀ (s : State) (m : MasterId), s.mayRead m .SAFE 0 = true →
    exec (.rcRead m 0x028 0x01F) s = .next ((s.wr SAFE.SN_FAULTS.count 0).putOutbox (s.outbox ++ [Out.readData m (s.rd SAFE.SN_FAULTS.count % 2 ^ 16)]))) ∧
  (∀ (s : State) (m : MasterId) (page : BitVec 14) (word : BitVec 10),
    (wordHas page.toNat (4 * word.toNat) (fun x => x.f.acc == .rc) = false → exec (.rcRead m page word) s = .next s) ∧
    (wordHas page.toNat (4 * word.toNat) (fun x => latchingPair x.f && x.shift == 0) = false → exec (.latchingLoRead m page word) s = .next s)) ∧
  (∀ (s : State) (m : MasterId), s.mayRead m .SAFE 0 = false → ∃ t, exec (.rcRead m 0x028 0x01F) s = .next t ∧ t.outbox = s.outbox ++ [Out.readData m 0] ∧
    t.rd SAFE.SN_FAULTS.count = s.rd SAFE.SN_FAULTS.count ∧ t.rd ACL.DENIED.count = min (s.rd ACL.DENIED.count + 1) (2 ^ 16 - 1) ∧ t.rd ACL.DENIED.master = m.val) ∧
  (∀ (s : State) (m : MasterId), s.hostServed m .BEAT 0 0x040 = true → s.mayRead m .BEAT 0 = true → ∃ t, exec (.latchingLoRead m 0x001 0x010) s = .next t ∧
    t.outbox = s.outbox ++ [Out.readData m (s.beat.count % 2 ^ 32)] ∧ t.regs = s.regs ∧ ∀ b : BeatState, ((t.putBeat b).busRead m 0x001 0x044).1 = s.beat.count / 2 ^ 32))
end

