-- ==== Sys2Proof/Laws/Assoc.lean ====
section
/-! SUPPORT. The sparse maps: a read after a write, and the rising order of their keys. -/

namespace Sys2Proof.Machine

variable {α : Type}

/-- The keys of a map rise. -/
abbrev Rising (m : Assoc α) : Prop := Assoc.rising m = true

theorem Assoc.get_ins (d : α) (k : Nat) (v : α) (m : Assoc α) (a : Nat) :
    Assoc.get d (Assoc.ins k v m) a = if a = k then v else Assoc.get d m a := by
  induction m with
  | nil => simp [Assoc.ins, Assoc.get]
  | cons x m ih =>
    obtain ⟨k', v'⟩ := x
    simp only [Assoc.ins]
    split
    · simp [Assoc.get]
    · split
      · subst_vars; simp only [Assoc.get]; split <;> simp_all
      · simp only [Assoc.get, ih]; split <;> simp_all
        omega

theorem Assoc.get_del (d : α) (k : Nat) (m : Assoc α) (a : Nat) :
    Assoc.get d (Assoc.del k m) a = if a = k then d else Assoc.get d m a := by
  induction m with
  | nil => simp [Assoc.del, Assoc.get]
  | cons x m ih =>
    obtain ⟨k', v'⟩ := x
    simp only [Assoc.del]
    split
    · subst_vars; simp only [ih, Assoc.get]; split <;> simp_all
    · simp only [Assoc.get, ih]; split <;> simp_all
      omega

/-- A read after a write gives the value written; every other key reads as before. -/
theorem Assoc.get_put [DecidableEq α] (d : α) (m : Assoc α) (k : Nat) (v : α) (a : Nat) :
    Assoc.get d (Assoc.put d m k v) a = if a = k then v else Assoc.get d m a := by
  simp only [Assoc.put]
  split
  · subst_vars; rw [Assoc.get_del]
  · rw [Assoc.get_ins]

/-- The same for a map that is read with another default elsewhere. -/
theorem Assoc.get_put_ne [DecidableEq α] (d d' : α) (m : Assoc α) (k : Nat) (v : α) (a : Nat) (h : a ≠ k) :
    Assoc.get d' (Assoc.put d m k v) a = Assoc.get d' m a := by
  simp only [Assoc.put]
  split
  · rw [Assoc.get_del, if_neg h]
  · rw [Assoc.get_ins, if_neg h]

theorem rising_cons_cons (a b : Nat) (x y : α) (m : Assoc α) : Rising ((a, x) :: (b, y) :: m) ↔ a < b ∧ Rising ((b, y) :: m) := by
  simp only [Rising, Assoc.rising, Bool.and_eq_true, decide_eq_true_eq]

/-- Every key of a map is above a bound. -/
def Assoc.above (k : Nat) (m : Assoc α) : Prop := ∀ x ∈ m, k < x.1

theorem rising_cons (a : Nat) (x : α) (m : Assoc α) : Rising ((a, x) :: m) ↔ Assoc.above a m ∧ Rising m := by
  induction m generalizing a x with
  | nil => simp [Assoc.rising, Assoc.above]
  | cons y m ih =>
    obtain ⟨b, y⟩ := y
    constructor
    · intro h
      obtain ⟨hab, hr⟩ := (rising_cons_cons a b x y m).mp h
      refine ⟨fun z hz => ?_, hr⟩
      cases hz with
      | head => exact hab
      | tail _ hz => exact Nat.lt_trans hab (((ih b y).mp hr).1 z hz)
    · intro h
      exact (rising_cons_cons a b x y m).mpr ⟨h.1 (b, y) (List.mem_cons_self ..), h.2⟩

theorem Assoc.above_ins (a k : Nat) (v : α) (m : Assoc α) (hk : a < k) (h : Assoc.above a m) : Assoc.above a (Assoc.ins k v m) := by
  induction m with
  | nil => intro x hx; simp only [Assoc.ins, List.mem_singleton] at hx; subst hx; exact hk
  | cons y m ih =>
    obtain ⟨b, y⟩ := y
    have hb : a < b := h (b, y) (List.mem_cons_self ..)
    have hm : Assoc.above a m := fun z hz => h z (List.mem_cons_of_mem _ hz)
    intro x hx
    simp only [Assoc.ins] at hx
    split at hx
    · cases hx with
      | head => exact hk
      | tail _ hx => exact h x hx
    · split at hx
      · cases hx with
        | head => exact hk
        | tail _ hx => exact hm x hx
      · cases hx with
        | head => exact hb
        | tail _ hx => exact ih hm x hx

theorem Assoc.rising_ins (k : Nat) (v : α) (m : Assoc α) (h : Rising m) : Rising (Assoc.ins k v m) := by
  induction m with
  | nil => rfl
  | cons y m ih =>
    obtain ⟨b, y⟩ := y
    obtain ⟨ha, hr⟩ := (rising_cons b y m).mp h
    simp only [Assoc.ins]
    split
    · exact (rising_cons_cons ..).mpr ⟨‹_›, h⟩
    · split
      · subst_vars; exact (rising_cons _ v m).mpr ⟨ha, hr⟩
      · exact (rising_cons b y _).mpr ⟨Assoc.above_ins b k v m (by omega) ha, ih hr⟩

theorem Assoc.above_del (a k : Nat) (m : Assoc α) (h : Assoc.above a m) : Assoc.above a (Assoc.del k m) := by
  induction m with
  | nil => exact h
  | cons y m ih =>
    obtain ⟨b, y⟩ := y
    have hm : Assoc.above a m := fun z hz => h z (List.mem_cons_of_mem _ hz)
    simp only [Assoc.del]
    split
    · exact ih hm
    · intro x hx
      cases hx with
      | head => exact h (b, y) (List.mem_cons_self ..)
      | tail _ hx => exact ih hm x hx

theorem Assoc.rising_del (k : Nat) (m : Assoc α) (h : Rising m) : Rising (Assoc.del k m) := by
  induction m with
  | nil => exact h
  | cons y m ih =>
    obtain ⟨b, y⟩ := y
    obtain ⟨ha, hr⟩ := (rising_cons b y m).mp h
    simp only [Assoc.del]
    split
    · exact ih hr
    · exact (rising_cons b y _).mpr ⟨Assoc.above_del b k m ha, ih hr⟩

/-- A write keeps the keys rising. -/
theorem Assoc.rising_put [DecidableEq α] (d : α) (m : Assoc α) (k : Nat) (v : α) (h : Rising m) : Rising (Assoc.put d m k v) := by
  simp only [Assoc.put]
  split
  · exact Assoc.rising_del k m h
  · exact Assoc.rising_ins k v m h

theorem Assoc.rising_filter (p : Nat × α → Bool) (m : Assoc α) (h : Rising m) : Rising (m.filter p) := by
  induction m with
  | nil => exact h
  | cons y m ih =>
    obtain ⟨b, y⟩ := y
    obtain ⟨ha, hr⟩ := (rising_cons b y m).mp h
    simp only [List.filter_cons]
    split
    · exact (rising_cons b y _).mpr ⟨fun x hx => ha x ((List.mem_filter.mp hx).1), ih hr⟩
    · exact ih hr

/-- A write lists no default. -/
theorem Assoc.put_lists [DecidableEq α] (d : α) (m : Assoc α) (k : Nat) (v : α) (x : Nat × α) (hx : x ∈ Assoc.put d m k v) :
    (x = (k, v) ∧ v ≠ d) ∨ (x ∈ m) := by
  have del : ∀ m : Assoc α, x ∈ Assoc.del k m → x ∈ m := by
    intro m
    induction m with
    | nil => exact id
    | cons y m ih =>
      obtain ⟨b, y⟩ := y
      simp only [Assoc.del]
      split
      · exact fun h => List.mem_cons_of_mem _ (ih h)
      · intro h
        cases h with
        | head => exact List.mem_cons_self ..
        | tail _ h => exact List.mem_cons_of_mem _ (ih h)
  have ins : ∀ m : Assoc α, x ∈ Assoc.ins k v m → x = (k, v) ∨ x ∈ m := by
    intro m
    induction m with
    | nil => intro h; exact .inl (by simpa [Assoc.ins] using h)
    | cons y m ih =>
      obtain ⟨b, y⟩ := y
      simp only [Assoc.ins]
      split
      · intro h
        cases h with
        | head => exact .inl rfl
        | tail _ h => exact .inr h
      · split
        · intro h
          cases h with
          | head => exact .inl rfl
          | tail _ h => exact .inr (List.mem_cons_of_mem _ h)
        · intro h
          cases h with
          | head => exact .inr (List.mem_cons_self ..)
          | tail _ h => exact (ih h).imp id (List.mem_cons_of_mem _)
  simp only [Assoc.put] at hx
  split at hx
  · exact .inr (del m hx)
  · exact (ins m hx).imp (fun h => ⟨h, ‹_›⟩) id

end Sys2Proof.Machine
end

