-- ==== Sys2Proof/Laws/State.lean ====
section
/-! SUPPORT. One lemma per field of State per update of a field. -/

namespace Sys2Proof.Machine.State

variable (s : State)

section pending
variable (x : List Instr)
@[simp] theorem putPending_pending : (s.putPending x).pending = x := rfl
@[simp] theorem putPending_now : (s.putPending x).now = s.now := rfl
@[simp] theorem putPending_free : (s.putPending x).free = s.free := rfl
@[simp] theorem putPending_regs : (s.putPending x).regs = s.regs := rfl
@[simp] theorem putPending_beat : (s.putPending x).beat = s.beat := rfl
@[simp] theorem putPending_slotStop : (s.putPending x).slotStop = s.slotStop := rfl
@[simp] theorem putPending_host : (s.putPending x).host = s.host := rfl
@[simp] theorem putPending_hbm : (s.putPending x).hbm = s.hbm := rfl
@[simp] theorem putPending_hbmErr : (s.putPending x).hbmErr = s.hbmErr := rfl
@[simp] theorem putPending_stacks : (s.putPending x).stackParts = s.stackParts := rfl
@[simp] theorem putPending_sram : (s.putPending x).sram = s.sram := rfl
@[simp] theorem putPending_sramBad : (s.putPending x).sramBad = s.sramBad := rfl
@[simp] theorem putPending_parts : (s.putPending x).parts = s.parts := rfl
@[simp] theorem putPending_tiles : (s.putPending x).tiles = s.tiles := rfl
@[simp] theorem putPending_energy : (s.putPending x).energy = s.energy := rfl
@[simp] theorem putPending_cores : (s.putPending x).cores = s.cores := rfl
@[simp] theorem putPending_queues : (s.putPending x).queues = s.queues := rfl
@[simp] theorem putPending_jugs : (s.putPending x).jugs = s.jugs := rfl
@[simp] theorem putPending_fab : (s.putPending x).fab = s.fab := rfl
@[simp] theorem putPending_ibu : (s.putPending x).ibu = s.ibu := rfl
@[simp] theorem putPending_tests : (s.putPending x).tests = s.tests := rfl
@[simp] theorem putPending_testLog : (s.putPending x).testLog = s.testLog := rfl
@[simp] theorem putPending_failLog : (s.putPending x).failLog = s.failLog := rfl
@[simp] theorem putPending_scanIr : (s.putPending x).scanIr = s.scanIr := rfl
@[simp] theorem putPending_keep : (s.putPending x).keep = s.keep := rfl
@[simp] theorem putPending_fw : (s.putPending x).fw = s.fw := rfl
@[simp] theorem putPending_power : (s.putPending x).power = s.power := rfl
@[simp] theorem putPending_therm : (s.putPending x).therm = s.therm := rfl
@[simp] theorem putPending_cool : (s.putPending x).cool = s.cool := rfl
@[simp] theorem putPending_safety : (s.putPending x).safety = s.safety := rfl
@[simp] theorem putPending_age : (s.putPending x).age = s.age := rfl
@[simp] theorem putPending_tw : (s.putPending x).tw = s.tw := rfl
@[simp] theorem putPending_recorder : (s.putPending x).recorder = s.recorder := rfl
@[simp] theorem putPending_acl : (s.putPending x).acl = s.acl := rfl
@[simp] theorem putPending_aclStart : (s.putPending x).aclStart = s.aclStart := rfl
@[simp] theorem putPending_latches : (s.putPending x).latches = s.latches := rfl
@[simp] theorem putPending_outbox : (s.putPending x).outbox = s.outbox := rfl
end pending

section now
variable (x : Nat)
@[simp] theorem putNow_pending : (s.putNow x).pending = s.pending := rfl
@[simp] theorem putNow_now : (s.putNow x).now = x := rfl
@[simp] theorem putNow_free : (s.putNow x).free = s.free := rfl
@[simp] theorem putNow_regs : (s.putNow x).regs = s.regs := rfl
@[simp] theorem putNow_beat : (s.putNow x).beat = s.beat := rfl
@[simp] theorem putNow_slotStop : (s.putNow x).slotStop = s.slotStop := rfl
@[simp] theorem putNow_host : (s.putNow x).host = s.host := rfl
@[simp] theorem putNow_hbm : (s.putNow x).hbm = s.hbm := rfl
@[simp] theorem putNow_hbmErr : (s.putNow x).hbmErr = s.hbmErr := rfl
@[simp] theorem putNow_stacks : (s.putNow x).stackParts = s.stackParts := rfl
@[simp] theorem putNow_sram : (s.putNow x).sram = s.sram := rfl
@[simp] theorem putNow_sramBad : (s.putNow x).sramBad = s.sramBad := rfl
@[simp] theorem putNow_parts : (s.putNow x).parts = s.parts := rfl
@[simp] theorem putNow_tiles : (s.putNow x).tiles = s.tiles := rfl
@[simp] theorem putNow_energy : (s.putNow x).energy = s.energy := rfl
@[simp] theorem putNow_cores : (s.putNow x).cores = s.cores := rfl
@[simp] theorem putNow_queues : (s.putNow x).queues = s.queues := rfl
@[simp] theorem putNow_jugs : (s.putNow x).jugs = s.jugs := rfl
@[simp] theorem putNow_fab : (s.putNow x).fab = s.fab := rfl
@[simp] theorem putNow_ibu : (s.putNow x).ibu = s.ibu := rfl
@[simp] theorem putNow_tests : (s.putNow x).tests = s.tests := rfl
@[simp] theorem putNow_testLog : (s.putNow x).testLog = s.testLog := rfl
@[simp] theorem putNow_failLog : (s.putNow x).failLog = s.failLog := rfl
@[simp] theorem putNow_scanIr : (s.putNow x).scanIr = s.scanIr := rfl
@[simp] theorem putNow_keep : (s.putNow x).keep = s.keep := rfl
@[simp] theorem putNow_fw : (s.putNow x).fw = s.fw := rfl
@[simp] theorem putNow_power : (s.putNow x).power = s.power := rfl
@[simp] theorem putNow_therm : (s.putNow x).therm = s.therm := rfl
@[simp] theorem putNow_cool : (s.putNow x).cool = s.cool := rfl
@[simp] theorem putNow_safety : (s.putNow x).safety = s.safety := rfl
@[simp] theorem putNow_age : (s.putNow x).age = s.age := rfl
@[simp] theorem putNow_tw : (s.putNow x).tw = s.tw := rfl
@[simp] theorem putNow_recorder : (s.putNow x).recorder = s.recorder := rfl
@[simp] theorem putNow_acl : (s.putNow x).acl = s.acl := rfl
@[simp] theorem putNow_aclStart : (s.putNow x).aclStart = s.aclStart := rfl
@[simp] theorem putNow_latches : (s.putNow x).latches = s.latches := rfl
@[simp] theorem putNow_outbox : (s.putNow x).outbox = s.outbox := rfl
end now

section free
variable (x : Nat)
@[simp] theorem putFree_pending : (s.putFree x).pending = s.pending := rfl
@[simp] theorem putFree_now : (s.putFree x).now = s.now := rfl
@[simp] theorem putFree_free : (s.putFree x).free = x := rfl
@[simp] theorem putFree_regs : (s.putFree x).regs = s.regs := rfl
@[simp] theorem putFree_beat : (s.putFree x).beat = s.beat := rfl
@[simp] theorem putFree_slotStop : (s.putFree x).slotStop = s.slotStop := rfl
@[simp] theorem putFree_host : (s.putFree x).host = s.host := rfl
@[simp] theorem putFree_hbm : (s.putFree x).hbm = s.hbm := rfl
@[simp] theorem putFree_hbmErr : (s.putFree x).hbmErr = s.hbmErr := rfl
@[simp] theorem putFree_stacks : (s.putFree x).stackParts = s.stackParts := rfl
@[simp] theorem putFree_sram : (s.putFree x).sram = s.sram := rfl
@[simp] theorem putFree_sramBad : (s.putFree x).sramBad = s.sramBad := rfl
@[simp] theorem putFree_parts : (s.putFree x).parts = s.parts := rfl
@[simp] theorem putFree_tiles : (s.putFree x).tiles = s.tiles := rfl
@[simp] theorem putFree_energy : (s.putFree x).energy = s.energy := rfl
@[simp] theorem putFree_cores : (s.putFree x).cores = s.cores := rfl
@[simp] theorem putFree_queues : (s.putFree x).queues = s.queues := rfl
@[simp] theorem putFree_jugs : (s.putFree x).jugs = s.jugs := rfl
@[simp] theorem putFree_fab : (s.putFree x).fab = s.fab := rfl
@[simp] theorem putFree_ibu : (s.putFree x).ibu = s.ibu := rfl
@[simp] theorem putFree_tests : (s.putFree x).tests = s.tests := rfl
@[simp] theorem putFree_testLog : (s.putFree x).testLog = s.testLog := rfl
@[simp] theorem putFree_failLog : (s.putFree x).failLog = s.failLog := rfl
@[simp] theorem putFree_scanIr : (s.putFree x).scanIr = s.scanIr := rfl
@[simp] theorem putFree_keep : (s.putFree x).keep = s.keep := rfl
@[simp] theorem putFree_fw : (s.putFree x).fw = s.fw := rfl
@[simp] theorem putFree_power : (s.putFree x).power = s.power := rfl
@[simp] theorem putFree_therm : (s.putFree x).therm = s.therm := rfl
@[simp] theorem putFree_cool : (s.putFree x).cool = s.cool := rfl
@[simp] theorem putFree_safety : (s.putFree x).safety = s.safety := rfl
@[simp] theorem putFree_age : (s.putFree x).age = s.age := rfl
@[simp] theorem putFree_tw : (s.putFree x).tw = s.tw := rfl
@[simp] theorem putFree_recorder : (s.putFree x).recorder = s.recorder := rfl
@[simp] theorem putFree_acl : (s.putFree x).acl = s.acl := rfl
@[simp] theorem putFree_aclStart : (s.putFree x).aclStart = s.aclStart := rfl
@[simp] theorem putFree_latches : (s.putFree x).latches = s.latches := rfl
@[simp] theorem putFree_outbox : (s.putFree x).outbox = s.outbox := rfl
end free

section regs
variable (x : Assoc Nat)
@[simp] theorem putRegs_pending : (s.putRegs x).pending = s.pending := rfl
@[simp] theorem putRegs_now : (s.putRegs x).now = s.now := rfl
@[simp] theorem putRegs_free : (s.putRegs x).free = s.free := rfl
@[simp] theorem putRegs_regs : (s.putRegs x).regs = x := rfl
@[simp] theorem putRegs_beat : (s.putRegs x).beat = s.beat := rfl
@[simp] theorem putRegs_slotStop : (s.putRegs x).slotStop = s.slotStop := rfl
@[simp] theorem putRegs_host : (s.putRegs x).host = s.host := rfl
@[simp] theorem putRegs_hbm : (s.putRegs x).hbm = s.hbm := rfl
@[simp] theorem putRegs_hbmErr : (s.putRegs x).hbmErr = s.hbmErr := rfl
@[simp] theorem putRegs_stacks : (s.putRegs x).stackParts = s.stackParts := rfl
@[simp] theorem putRegs_sram : (s.putRegs x).sram = s.sram := rfl
@[simp] theorem putRegs_sramBad : (s.putRegs x).sramBad = s.sramBad := rfl
@[simp] theorem putRegs_parts : (s.putRegs x).parts = s.parts := rfl
@[simp] theorem putRegs_tiles : (s.putRegs x).tiles = s.tiles := rfl
@[simp] theorem putRegs_energy : (s.putRegs x).energy = s.energy := rfl
@[simp] theorem putRegs_cores : (s.putRegs x).cores = s.cores := rfl
@[simp] theorem putRegs_queues : (s.putRegs x).queues = s.queues := rfl
@[simp] theorem putRegs_jugs : (s.putRegs x).jugs = s.jugs := rfl
@[simp] theorem putRegs_fab : (s.putRegs x).fab = s.fab := rfl
@[simp] theorem putRegs_ibu : (s.putRegs x).ibu = s.ibu := rfl
@[simp] theorem putRegs_tests : (s.putRegs x).tests = s.tests := rfl
@[simp] theorem putRegs_testLog : (s.putRegs x).testLog = s.testLog := rfl
@[simp] theorem putRegs_failLog : (s.putRegs x).failLog = s.failLog := rfl
@[simp] theorem putRegs_scanIr : (s.putRegs x).scanIr = s.scanIr := rfl
@[simp] theorem putRegs_keep : (s.putRegs x).keep = s.keep := rfl
@[simp] theorem putRegs_fw : (s.putRegs x).fw = s.fw := rfl
@[simp] theorem putRegs_power : (s.putRegs x).power = s.power := rfl
@[simp] theorem putRegs_therm : (s.putRegs x).therm = s.therm := rfl
@[simp] theorem putRegs_cool : (s.putRegs x).cool = s.cool := rfl
@[simp] theorem putRegs_safety : (s.putRegs x).safety = s.safety := rfl
@[simp] theorem putRegs_age : (s.putRegs x).age = s.age := rfl
@[simp] theorem putRegs_tw : (s.putRegs x).tw = s.tw := rfl
@[simp] theorem putRegs_recorder : (s.putRegs x).recorder = s.recorder := rfl
@[simp] theorem putRegs_acl : (s.putRegs x).acl = s.acl := rfl
@[simp] theorem putRegs_aclStart : (s.putRegs x).aclStart = s.aclStart := rfl
@[simp] theorem putRegs_latches : (s.putRegs x).latches = s.latches := rfl
@[simp] theorem putRegs_outbox : (s.putRegs x).outbox = s.outbox := rfl
end regs

section beat
variable (x : BeatState)
@[simp] theorem putBeat_pending : (s.putBeat x).pending = s.pending := rfl
@[simp] theorem putBeat_now : (s.putBeat x).now = s.now := rfl
@[simp] theorem putBeat_free : (s.putBeat x).free = s.free := rfl
@[simp] theorem putBeat_regs : (s.putBeat x).regs = s.regs := rfl
@[simp] theorem putBeat_beat : (s.putBeat x).beat = x := rfl
@[simp] theorem putBeat_slotStop : (s.putBeat x).slotStop = s.slotStop := rfl
@[simp] theorem putBeat_host : (s.putBeat x).host = s.host := rfl
@[simp] theorem putBeat_hbm : (s.putBeat x).hbm = s.hbm := rfl
@[simp] theorem putBeat_hbmErr : (s.putBeat x).hbmErr = s.hbmErr := rfl
@[simp] theorem putBeat_stacks : (s.putBeat x).stackParts = s.stackParts := rfl
@[simp] theorem putBeat_sram : (s.putBeat x).sram = s.sram := rfl
@[simp] theorem putBeat_sramBad : (s.putBeat x).sramBad = s.sramBad := rfl
@[simp] theorem putBeat_parts : (s.putBeat x).parts = s.parts := rfl
@[simp] theorem putBeat_tiles : (s.putBeat x).tiles = s.tiles := rfl
@[simp] theorem putBeat_energy : (s.putBeat x).energy = s.energy := rfl
@[simp] theorem putBeat_cores : (s.putBeat x).cores = s.cores := rfl
@[simp] theorem putBeat_queues : (s.putBeat x).queues = s.queues := rfl
@[simp] theorem putBeat_jugs : (s.putBeat x).jugs = s.jugs := rfl
@[simp] theorem putBeat_fab : (s.putBeat x).fab = s.fab := rfl
@[simp] theorem putBeat_ibu : (s.putBeat x).ibu = s.ibu := rfl
@[simp] theorem putBeat_tests : (s.putBeat x).tests = s.tests := rfl
@[simp] theorem putBeat_testLog : (s.putBeat x).testLog = s.testLog := rfl
@[simp] theorem putBeat_failLog : (s.putBeat x).failLog = s.failLog := rfl
@[simp] theorem putBeat_scanIr : (s.putBeat x).scanIr = s.scanIr := rfl
@[simp] theorem putBeat_keep : (s.putBeat x).keep = s.keep := rfl
@[simp] theorem putBeat_fw : (s.putBeat x).fw = s.fw := rfl
@[simp] theorem putBeat_power : (s.putBeat x).power = s.power := rfl
@[simp] theorem putBeat_therm : (s.putBeat x).therm = s.therm := rfl
@[simp] theorem putBeat_cool : (s.putBeat x).cool = s.cool := rfl
@[simp] theorem putBeat_safety : (s.putBeat x).safety = s.safety := rfl
@[simp] theorem putBeat_age : (s.putBeat x).age = s.age := rfl
@[simp] theorem putBeat_tw : (s.putBeat x).tw = s.tw := rfl
@[simp] theorem putBeat_recorder : (s.putBeat x).recorder = s.recorder := rfl
@[simp] theorem putBeat_acl : (s.putBeat x).acl = s.acl := rfl
@[simp] theorem putBeat_aclStart : (s.putBeat x).aclStart = s.aclStart := rfl
@[simp] theorem putBeat_latches : (s.putBeat x).latches = s.latches := rfl
@[simp] theorem putBeat_outbox : (s.putBeat x).outbox = s.outbox := rfl
end beat

section slotStop
variable (x : Nat)
@[simp] theorem putSlotStop_pending : (s.putSlotStop x).pending = s.pending := rfl
@[simp] theorem putSlotStop_now : (s.putSlotStop x).now = s.now := rfl
@[simp] theorem putSlotStop_free : (s.putSlotStop x).free = s.free := rfl
@[simp] theorem putSlotStop_regs : (s.putSlotStop x).regs = s.regs := rfl
@[simp] theorem putSlotStop_beat : (s.putSlotStop x).beat = s.beat := rfl
@[simp] theorem putSlotStop_slotStop : (s.putSlotStop x).slotStop = x := rfl
@[simp] theorem putSlotStop_host : (s.putSlotStop x).host = s.host := rfl
@[simp] theorem putSlotStop_hbm : (s.putSlotStop x).hbm = s.hbm := rfl
@[simp] theorem putSlotStop_hbmErr : (s.putSlotStop x).hbmErr = s.hbmErr := rfl
@[simp] theorem putSlotStop_stacks : (s.putSlotStop x).stackParts = s.stackParts := rfl
@[simp] theorem putSlotStop_sram : (s.putSlotStop x).sram = s.sram := rfl
@[simp] theorem putSlotStop_sramBad : (s.putSlotStop x).sramBad = s.sramBad := rfl
@[simp] theorem putSlotStop_parts : (s.putSlotStop x).parts = s.parts := rfl
@[simp] theorem putSlotStop_tiles : (s.putSlotStop x).tiles = s.tiles := rfl
@[simp] theorem putSlotStop_energy : (s.putSlotStop x).energy = s.energy := rfl
@[simp] theorem putSlotStop_cores : (s.putSlotStop x).cores = s.cores := rfl
@[simp] theorem putSlotStop_queues : (s.putSlotStop x).queues = s.queues := rfl
@[simp] theorem putSlotStop_jugs : (s.putSlotStop x).jugs = s.jugs := rfl
@[simp] theorem putSlotStop_fab : (s.putSlotStop x).fab = s.fab := rfl
@[simp] theorem putSlotStop_ibu : (s.putSlotStop x).ibu = s.ibu := rfl
@[simp] theorem putSlotStop_tests : (s.putSlotStop x).tests = s.tests := rfl
@[simp] theorem putSlotStop_testLog : (s.putSlotStop x).testLog = s.testLog := rfl
@[simp] theorem putSlotStop_failLog : (s.putSlotStop x).failLog = s.failLog := rfl
@[simp] theorem putSlotStop_scanIr : (s.putSlotStop x).scanIr = s.scanIr := rfl
@[simp] theorem putSlotStop_keep : (s.putSlotStop x).keep = s.keep := rfl
@[simp] theorem putSlotStop_fw : (s.putSlotStop x).fw = s.fw := rfl
@[simp] theorem putSlotStop_power : (s.putSlotStop x).power = s.power := rfl
@[simp] theorem putSlotStop_therm : (s.putSlotStop x).therm = s.therm := rfl
@[simp] theorem putSlotStop_cool : (s.putSlotStop x).cool = s.cool := rfl
@[simp] theorem putSlotStop_safety : (s.putSlotStop x).safety = s.safety := rfl
@[simp] theorem putSlotStop_age : (s.putSlotStop x).age = s.age := rfl
@[simp] theorem putSlotStop_tw : (s.putSlotStop x).tw = s.tw := rfl
@[simp] theorem putSlotStop_recorder : (s.putSlotStop x).recorder = s.recorder := rfl
@[simp] theorem putSlotStop_acl : (s.putSlotStop x).acl = s.acl := rfl
@[simp] theorem putSlotStop_aclStart : (s.putSlotStop x).aclStart = s.aclStart := rfl
@[simp] theorem putSlotStop_latches : (s.putSlotStop x).latches = s.latches := rfl
@[simp] theorem putSlotStop_outbox : (s.putSlotStop x).outbox = s.outbox := rfl
end slotStop

section host
variable (x : HostState)
@[simp] theorem putHost_pending : (s.putHost x).pending = s.pending := rfl
@[simp] theorem putHost_now : (s.putHost x).now = s.now := rfl
@[simp] theorem putHost_free : (s.putHost x).free = s.free := rfl
@[simp] theorem putHost_regs : (s.putHost x).regs = s.regs := rfl
@[simp] theorem putHost_beat : (s.putHost x).beat = s.beat := rfl
@[simp] theorem putHost_slotStop : (s.putHost x).slotStop = s.slotStop := rfl
@[simp] theorem putHost_host : (s.putHost x).host = x := rfl
@[simp] theorem putHost_hbm : (s.putHost x).hbm = s.hbm := rfl
@[simp] theorem putHost_hbmErr : (s.putHost x).hbmErr = s.hbmErr := rfl
@[simp] theorem putHost_stacks : (s.putHost x).stackParts = s.stackParts := rfl
@[simp] theorem putHost_sram : (s.putHost x).sram = s.sram := rfl
@[simp] theorem putHost_sramBad : (s.putHost x).sramBad = s.sramBad := rfl
@[simp] theorem putHost_parts : (s.putHost x).parts = s.parts := rfl
@[simp] theorem putHost_tiles : (s.putHost x).tiles = s.tiles := rfl
@[simp] theorem putHost_energy : (s.putHost x).energy = s.energy := rfl
@[simp] theorem putHost_cores : (s.putHost x).cores = s.cores := rfl
@[simp] theorem putHost_queues : (s.putHost x).queues = s.queues := rfl
@[simp] theorem putHost_jugs : (s.putHost x).jugs = s.jugs := rfl
@[simp] theorem putHost_fab : (s.putHost x).fab = s.fab := rfl
@[simp] theorem putHost_ibu : (s.putHost x).ibu = s.ibu := rfl
@[simp] theorem putHost_tests : (s.putHost x).tests = s.tests := rfl
@[simp] theorem putHost_testLog : (s.putHost x).testLog = s.testLog := rfl
@[simp] theorem putHost_failLog : (s.putHost x).failLog = s.failLog := rfl
@[simp] theorem putHost_scanIr : (s.putHost x).scanIr = s.scanIr := rfl
@[simp] theorem putHost_keep : (s.putHost x).keep = s.keep := rfl
@[simp] theorem putHost_fw : (s.putHost x).fw = s.fw := rfl
@[simp] theorem putHost_power : (s.putHost x).power = s.power := rfl
@[simp] theorem putHost_therm : (s.putHost x).therm = s.therm := rfl
@[simp] theorem putHost_cool : (s.putHost x).cool = s.cool := rfl
@[simp] theorem putHost_safety : (s.putHost x).safety = s.safety := rfl
@[simp] theorem putHost_age : (s.putHost x).age = s.age := rfl
@[simp] theorem putHost_tw : (s.putHost x).tw = s.tw := rfl
@[simp] theorem putHost_recorder : (s.putHost x).recorder = s.recorder := rfl
@[simp] theorem putHost_acl : (s.putHost x).acl = s.acl := rfl
@[simp] theorem putHost_aclStart : (s.putHost x).aclStart = s.aclStart := rfl
@[simp] theorem putHost_latches : (s.putHost x).latches = s.latches := rfl
@[simp] theorem putHost_outbox : (s.putHost x).outbox = s.outbox := rfl
end host

section hbm
variable (x : List Host.Cell)
@[simp] theorem putHbm_pending : (s.putHbm x).pending = s.pending := rfl
@[simp] theorem putHbm_now : (s.putHbm x).now = s.now := rfl
@[simp] theorem putHbm_free : (s.putHbm x).free = s.free := rfl
@[simp] theorem putHbm_regs : (s.putHbm x).regs = s.regs := rfl
@[simp] theorem putHbm_beat : (s.putHbm x).beat = s.beat := rfl
@[simp] theorem putHbm_slotStop : (s.putHbm x).slotStop = s.slotStop := rfl
@[simp] theorem putHbm_host : (s.putHbm x).host = s.host := rfl
@[simp] theorem putHbm_hbm : (s.putHbm x).hbm = x := rfl
@[simp] theorem putHbm_hbmErr : (s.putHbm x).hbmErr = s.hbmErr := rfl
@[simp] theorem putHbm_stacks : (s.putHbm x).stackParts = s.stackParts := rfl
@[simp] theorem putHbm_sram : (s.putHbm x).sram = s.sram := rfl
@[simp] theorem putHbm_sramBad : (s.putHbm x).sramBad = s.sramBad := rfl
@[simp] theorem putHbm_parts : (s.putHbm x).parts = s.parts := rfl
@[simp] theorem putHbm_tiles : (s.putHbm x).tiles = s.tiles := rfl
@[simp] theorem putHbm_energy : (s.putHbm x).energy = s.energy := rfl
@[simp] theorem putHbm_cores : (s.putHbm x).cores = s.cores := rfl
@[simp] theorem putHbm_queues : (s.putHbm x).queues = s.queues := rfl
@[simp] theorem putHbm_jugs : (s.putHbm x).jugs = s.jugs := rfl
@[simp] theorem putHbm_fab : (s.putHbm x).fab = s.fab := rfl
@[simp] theorem putHbm_ibu : (s.putHbm x).ibu = s.ibu := rfl
@[simp] theorem putHbm_tests : (s.putHbm x).tests = s.tests := rfl
@[simp] theorem putHbm_testLog : (s.putHbm x).testLog = s.testLog := rfl
@[simp] theorem putHbm_failLog : (s.putHbm x).failLog = s.failLog := rfl
@[simp] theorem putHbm_scanIr : (s.putHbm x).scanIr = s.scanIr := rfl
@[simp] theorem putHbm_keep : (s.putHbm x).keep = s.keep := rfl
@[simp] theorem putHbm_fw : (s.putHbm x).fw = s.fw := rfl
@[simp] theorem putHbm_power : (s.putHbm x).power = s.power := rfl
@[simp] theorem putHbm_therm : (s.putHbm x).therm = s.therm := rfl
@[simp] theorem putHbm_cool : (s.putHbm x).cool = s.cool := rfl
@[simp] theorem putHbm_safety : (s.putHbm x).safety = s.safety := rfl
@[simp] theorem putHbm_age : (s.putHbm x).age = s.age := rfl
@[simp] theorem putHbm_tw : (s.putHbm x).tw = s.tw := rfl
@[simp] theorem putHbm_recorder : (s.putHbm x).recorder = s.recorder := rfl
@[simp] theorem putHbm_acl : (s.putHbm x).acl = s.acl := rfl
@[simp] theorem putHbm_aclStart : (s.putHbm x).aclStart = s.aclStart := rfl
@[simp] theorem putHbm_latches : (s.putHbm x).latches = s.latches := rfl
@[simp] theorem putHbm_outbox : (s.putHbm x).outbox = s.outbox := rfl
end hbm

section hbmErr
variable (x : Assoc Nat)
@[simp] theorem putHbmErr_pending : (s.putHbmErr x).pending = s.pending := rfl
@[simp] theorem putHbmErr_now : (s.putHbmErr x).now = s.now := rfl
@[simp] theorem putHbmErr_free : (s.putHbmErr x).free = s.free := rfl
@[simp] theorem putHbmErr_regs : (s.putHbmErr x).regs = s.regs := rfl
@[simp] theorem putHbmErr_beat : (s.putHbmErr x).beat = s.beat := rfl
@[simp] theorem putHbmErr_slotStop : (s.putHbmErr x).slotStop = s.slotStop := rfl
@[simp] theorem putHbmErr_host : (s.putHbmErr x).host = s.host := rfl
@[simp] theorem putHbmErr_hbm : (s.putHbmErr x).hbm = s.hbm := rfl
@[simp] theorem putHbmErr_hbmErr : (s.putHbmErr x).hbmErr = x := rfl
@[simp] theorem putHbmErr_stacks : (s.putHbmErr x).stackParts = s.stackParts := rfl
@[simp] theorem putHbmErr_sram : (s.putHbmErr x).sram = s.sram := rfl
@[simp] theorem putHbmErr_sramBad : (s.putHbmErr x).sramBad = s.sramBad := rfl
@[simp] theorem putHbmErr_parts : (s.putHbmErr x).parts = s.parts := rfl
@[simp] theorem putHbmErr_tiles : (s.putHbmErr x).tiles = s.tiles := rfl
@[simp] theorem putHbmErr_energy : (s.putHbmErr x).energy = s.energy := rfl
@[simp] theorem putHbmErr_cores : (s.putHbmErr x).cores = s.cores := rfl
@[simp] theorem putHbmErr_queues : (s.putHbmErr x).queues = s.queues := rfl
@[simp] theorem putHbmErr_jugs : (s.putHbmErr x).jugs = s.jugs := rfl
@[simp] theorem putHbmErr_fab : (s.putHbmErr x).fab = s.fab := rfl
@[simp] theorem putHbmErr_ibu : (s.putHbmErr x).ibu = s.ibu := rfl
@[simp] theorem putHbmErr_tests : (s.putHbmErr x).tests = s.tests := rfl
@[simp] theorem putHbmErr_testLog : (s.putHbmErr x).testLog = s.testLog := rfl
@[simp] theorem putHbmErr_failLog : (s.putHbmErr x).failLog = s.failLog := rfl
@[simp] theorem putHbmErr_scanIr : (s.putHbmErr x).scanIr = s.scanIr := rfl
@[simp] theorem putHbmErr_keep : (s.putHbmErr x).keep = s.keep := rfl
@[simp] theorem putHbmErr_fw : (s.putHbmErr x).fw = s.fw := rfl
@[simp] theorem putHbmErr_power : (s.putHbmErr x).power = s.power := rfl
@[simp] theorem putHbmErr_therm : (s.putHbmErr x).therm = s.therm := rfl
@[simp] theorem putHbmErr_cool : (s.putHbmErr x).cool = s.cool := rfl
@[simp] theorem putHbmErr_safety : (s.putHbmErr x).safety = s.safety := rfl
@[simp] theorem putHbmErr_age : (s.putHbmErr x).age = s.age := rfl
@[simp] theorem putHbmErr_tw : (s.putHbmErr x).tw = s.tw := rfl
@[simp] theorem putHbmErr_recorder : (s.putHbmErr x).recorder = s.recorder := rfl
@[simp] theorem putHbmErr_acl : (s.putHbmErr x).acl = s.acl := rfl
@[simp] theorem putHbmErr_aclStart : (s.putHbmErr x).aclStart = s.aclStart := rfl
@[simp] theorem putHbmErr_latches : (s.putHbmErr x).latches = s.latches := rfl
@[simp] theorem putHbmErr_outbox : (s.putHbmErr x).outbox = s.outbox := rfl
end hbmErr

section stackParts
variable (x : Assoc StackState)
@[simp] theorem putStacks_pending : (s.putStacks x).pending = s.pending := rfl
@[simp] theorem putStacks_now : (s.putStacks x).now = s.now := rfl
@[simp] theorem putStacks_free : (s.putStacks x).free = s.free := rfl
@[simp] theorem putStacks_regs : (s.putStacks x).regs = s.regs := rfl
@[simp] theorem putStacks_beat : (s.putStacks x).beat = s.beat := rfl
@[simp] theorem putStacks_slotStop : (s.putStacks x).slotStop = s.slotStop := rfl
@[simp] theorem putStacks_host : (s.putStacks x).host = s.host := rfl
@[simp] theorem putStacks_hbm : (s.putStacks x).hbm = s.hbm := rfl
@[simp] theorem putStacks_hbmErr : (s.putStacks x).hbmErr = s.hbmErr := rfl
@[simp] theorem putStacks_stacks : (s.putStacks x).stackParts = x := rfl
@[simp] theorem putStacks_sram : (s.putStacks x).sram = s.sram := rfl
@[simp] theorem putStacks_sramBad : (s.putStacks x).sramBad = s.sramBad := rfl
@[simp] theorem putStacks_parts : (s.putStacks x).parts = s.parts := rfl
@[simp] theorem putStacks_tiles : (s.putStacks x).tiles = s.tiles := rfl
@[simp] theorem putStacks_energy : (s.putStacks x).energy = s.energy := rfl
@[simp] theorem putStacks_cores : (s.putStacks x).cores = s.cores := rfl
@[simp] theorem putStacks_queues : (s.putStacks x).queues = s.queues := rfl
@[simp] theorem putStacks_jugs : (s.putStacks x).jugs = s.jugs := rfl
@[simp] theorem putStacks_fab : (s.putStacks x).fab = s.fab := rfl
@[simp] theorem putStacks_ibu : (s.putStacks x).ibu = s.ibu := rfl
@[simp] theorem putStacks_tests : (s.putStacks x).tests = s.tests := rfl
@[simp] theorem putStacks_testLog : (s.putStacks x).testLog = s.testLog := rfl
@[simp] theorem putStacks_failLog : (s.putStacks x).failLog = s.failLog := rfl
@[simp] theorem putStacks_scanIr : (s.putStacks x).scanIr = s.scanIr := rfl
@[simp] theorem putStacks_keep : (s.putStacks x).keep = s.keep := rfl
@[simp] theorem putStacks_fw : (s.putStacks x).fw = s.fw := rfl
@[simp] theorem putStacks_power : (s.putStacks x).power = s.power := rfl
@[simp] theorem putStacks_therm : (s.putStacks x).therm = s.therm := rfl
@[simp] theorem putStacks_cool : (s.putStacks x).cool = s.cool := rfl
@[simp] theorem putStacks_safety : (s.putStacks x).safety = s.safety := rfl
@[simp] theorem putStacks_age : (s.putStacks x).age = s.age := rfl
@[simp] theorem putStacks_tw : (s.putStacks x).tw = s.tw := rfl
@[simp] theorem putStacks_recorder : (s.putStacks x).recorder = s.recorder := rfl
@[simp] theorem putStacks_acl : (s.putStacks x).acl = s.acl := rfl
@[simp] theorem putStacks_aclStart : (s.putStacks x).aclStart = s.aclStart := rfl
@[simp] theorem putStacks_latches : (s.putStacks x).latches = s.latches := rfl
@[simp] theorem putStacks_outbox : (s.putStacks x).outbox = s.outbox := rfl
end stackParts

section sram
variable (x : List Host.Cell)
@[simp] theorem putSram_pending : (s.putSram x).pending = s.pending := rfl
@[simp] theorem putSram_now : (s.putSram x).now = s.now := rfl
@[simp] theorem putSram_free : (s.putSram x).free = s.free := rfl
@[simp] theorem putSram_regs : (s.putSram x).regs = s.regs := rfl
@[simp] theorem putSram_beat : (s.putSram x).beat = s.beat := rfl
@[simp] theorem putSram_slotStop : (s.putSram x).slotStop = s.slotStop := rfl
@[simp] theorem putSram_host : (s.putSram x).host = s.host := rfl
@[simp] theorem putSram_hbm : (s.putSram x).hbm = s.hbm := rfl
@[simp] theorem putSram_hbmErr : (s.putSram x).hbmErr = s.hbmErr := rfl
@[simp] theorem putSram_stacks : (s.putSram x).stackParts = s.stackParts := rfl
@[simp] theorem putSram_sram : (s.putSram x).sram = x := rfl
@[simp] theorem putSram_sramBad : (s.putSram x).sramBad = s.sramBad := rfl
@[simp] theorem putSram_parts : (s.putSram x).parts = s.parts := rfl
@[simp] theorem putSram_tiles : (s.putSram x).tiles = s.tiles := rfl
@[simp] theorem putSram_energy : (s.putSram x).energy = s.energy := rfl
@[simp] theorem putSram_cores : (s.putSram x).cores = s.cores := rfl
@[simp] theorem putSram_queues : (s.putSram x).queues = s.queues := rfl
@[simp] theorem putSram_jugs : (s.putSram x).jugs = s.jugs := rfl
@[simp] theorem putSram_fab : (s.putSram x).fab = s.fab := rfl
@[simp] theorem putSram_ibu : (s.putSram x).ibu = s.ibu := rfl
@[simp] theorem putSram_tests : (s.putSram x).tests = s.tests := rfl
@[simp] theorem putSram_testLog : (s.putSram x).testLog = s.testLog := rfl
@[simp] theorem putSram_failLog : (s.putSram x).failLog = s.failLog := rfl
@[simp] theorem putSram_scanIr : (s.putSram x).scanIr = s.scanIr := rfl
@[simp] theorem putSram_keep : (s.putSram x).keep = s.keep := rfl
@[simp] theorem putSram_fw : (s.putSram x).fw = s.fw := rfl
@[simp] theorem putSram_power : (s.putSram x).power = s.power := rfl
@[simp] theorem putSram_therm : (s.putSram x).therm = s.therm := rfl
@[simp] theorem putSram_cool : (s.putSram x).cool = s.cool := rfl
@[simp] theorem putSram_safety : (s.putSram x).safety = s.safety := rfl
@[simp] theorem putSram_age : (s.putSram x).age = s.age := rfl
@[simp] theorem putSram_tw : (s.putSram x).tw = s.tw := rfl
@[simp] theorem putSram_recorder : (s.putSram x).recorder = s.recorder := rfl
@[simp] theorem putSram_acl : (s.putSram x).acl = s.acl := rfl
@[simp] theorem putSram_aclStart : (s.putSram x).aclStart = s.aclStart := rfl
@[simp] theorem putSram_latches : (s.putSram x).latches = s.latches := rfl
@[simp] theorem putSram_outbox : (s.putSram x).outbox = s.outbox := rfl
end sram

section sramBad
variable (x : Assoc Nat)
@[simp] theorem putSramBad_pending : (s.putSramBad x).pending = s.pending := rfl
@[simp] theorem putSramBad_now : (s.putSramBad x).now = s.now := rfl
@[simp] theorem putSramBad_free : (s.putSramBad x).free = s.free := rfl
@[simp] theorem putSramBad_regs : (s.putSramBad x).regs = s.regs := rfl
@[simp] theorem putSramBad_beat : (s.putSramBad x).beat = s.beat := rfl
@[simp] theorem putSramBad_slotStop : (s.putSramBad x).slotStop = s.slotStop := rfl
@[simp] theorem putSramBad_host : (s.putSramBad x).host = s.host := rfl
@[simp] theorem putSramBad_hbm : (s.putSramBad x).hbm = s.hbm := rfl
@[simp] theorem putSramBad_hbmErr : (s.putSramBad x).hbmErr = s.hbmErr := rfl
@[simp] theorem putSramBad_stacks : (s.putSramBad x).stackParts = s.stackParts := rfl
@[simp] theorem putSramBad_sram : (s.putSramBad x).sram = s.sram := rfl
@[simp] theorem putSramBad_sramBad : (s.putSramBad x).sramBad = x := rfl
@[simp] theorem putSramBad_parts : (s.putSramBad x).parts = s.parts := rfl
@[simp] theorem putSramBad_tiles : (s.putSramBad x).tiles = s.tiles := rfl
@[simp] theorem putSramBad_energy : (s.putSramBad x).energy = s.energy := rfl
@[simp] theorem putSramBad_cores : (s.putSramBad x).cores = s.cores := rfl
@[simp] theorem putSramBad_queues : (s.putSramBad x).queues = s.queues := rfl
@[simp] theorem putSramBad_jugs : (s.putSramBad x).jugs = s.jugs := rfl
@[simp] theorem putSramBad_fab : (s.putSramBad x).fab = s.fab := rfl
@[simp] theorem putSramBad_ibu : (s.putSramBad x).ibu = s.ibu := rfl
@[simp] theorem putSramBad_tests : (s.putSramBad x).tests = s.tests := rfl
@[simp] theorem putSramBad_testLog : (s.putSramBad x).testLog = s.testLog := rfl
@[simp] theorem putSramBad_failLog : (s.putSramBad x).failLog = s.failLog := rfl
@[simp] theorem putSramBad_scanIr : (s.putSramBad x).scanIr = s.scanIr := rfl
@[simp] theorem putSramBad_keep : (s.putSramBad x).keep = s.keep := rfl
@[simp] theorem putSramBad_fw : (s.putSramBad x).fw = s.fw := rfl
@[simp] theorem putSramBad_power : (s.putSramBad x).power = s.power := rfl
@[simp] theorem putSramBad_therm : (s.putSramBad x).therm = s.therm := rfl
@[simp] theorem putSramBad_cool : (s.putSramBad x).cool = s.cool := rfl
@[simp] theorem putSramBad_safety : (s.putSramBad x).safety = s.safety := rfl
@[simp] theorem putSramBad_age : (s.putSramBad x).age = s.age := rfl
@[simp] theorem putSramBad_tw : (s.putSramBad x).tw = s.tw := rfl
@[simp] theorem putSramBad_recorder : (s.putSramBad x).recorder = s.recorder := rfl
@[simp] theorem putSramBad_acl : (s.putSramBad x).acl = s.acl := rfl
@[simp] theorem putSramBad_aclStart : (s.putSramBad x).aclStart = s.aclStart := rfl
@[simp] theorem putSramBad_latches : (s.putSramBad x).latches = s.latches := rfl
@[simp] theorem putSramBad_outbox : (s.putSramBad x).outbox = s.outbox := rfl
end sramBad

section parts
variable (x : Assoc PartState)
@[simp] theorem putParts_pending : (s.putParts x).pending = s.pending := rfl
@[simp] theorem putParts_now : (s.putParts x).now = s.now := rfl
@[simp] theorem putParts_free : (s.putParts x).free = s.free := rfl
@[simp] theorem putParts_regs : (s.putParts x).regs = s.regs := rfl
@[simp] theorem putParts_beat : (s.putParts x).beat = s.beat := rfl
@[simp] theorem putParts_slotStop : (s.putParts x).slotStop = s.slotStop := rfl
@[simp] theorem putParts_host : (s.putParts x).host = s.host := rfl
@[simp] theorem putParts_hbm : (s.putParts x).hbm = s.hbm := rfl
@[simp] theorem putParts_hbmErr : (s.putParts x).hbmErr = s.hbmErr := rfl
@[simp] theorem putParts_stacks : (s.putParts x).stackParts = s.stackParts := rfl
@[simp] theorem putParts_sram : (s.putParts x).sram = s.sram := rfl
@[simp] theorem putParts_sramBad : (s.putParts x).sramBad = s.sramBad := rfl
@[simp] theorem putParts_parts : (s.putParts x).parts = x := rfl
@[simp] theorem putParts_tiles : (s.putParts x).tiles = s.tiles := rfl
@[simp] theorem putParts_energy : (s.putParts x).energy = s.energy := rfl
@[simp] theorem putParts_cores : (s.putParts x).cores = s.cores := rfl
@[simp] theorem putParts_queues : (s.putParts x).queues = s.queues := rfl
@[simp] theorem putParts_jugs : (s.putParts x).jugs = s.jugs := rfl
@[simp] theorem putParts_fab : (s.putParts x).fab = s.fab := rfl
@[simp] theorem putParts_ibu : (s.putParts x).ibu = s.ibu := rfl
@[simp] theorem putParts_tests : (s.putParts x).tests = s.tests := rfl
@[simp] theorem putParts_testLog : (s.putParts x).testLog = s.testLog := rfl
@[simp] theorem putParts_failLog : (s.putParts x).failLog = s.failLog := rfl
@[simp] theorem putParts_scanIr : (s.putParts x).scanIr = s.scanIr := rfl
@[simp] theorem putParts_keep : (s.putParts x).keep = s.keep := rfl
@[simp] theorem putParts_fw : (s.putParts x).fw = s.fw := rfl
@[simp] theorem putParts_power : (s.putParts x).power = s.power := rfl
@[simp] theorem putParts_therm : (s.putParts x).therm = s.therm := rfl
@[simp] theorem putParts_cool : (s.putParts x).cool = s.cool := rfl
@[simp] theorem putParts_safety : (s.putParts x).safety = s.safety := rfl
@[simp] theorem putParts_age : (s.putParts x).age = s.age := rfl
@[simp] theorem putParts_tw : (s.putParts x).tw = s.tw := rfl
@[simp] theorem putParts_recorder : (s.putParts x).recorder = s.recorder := rfl
@[simp] theorem putParts_acl : (s.putParts x).acl = s.acl := rfl
@[simp] theorem putParts_aclStart : (s.putParts x).aclStart = s.aclStart := rfl
@[simp] theorem putParts_latches : (s.putParts x).latches = s.latches := rfl
@[simp] theorem putParts_outbox : (s.putParts x).outbox = s.outbox := rfl
end parts

section tiles
variable (x : Assoc TileState)
@[simp] theorem putTiles_pending : (s.putTiles x).pending = s.pending := rfl
@[simp] theorem putTiles_now : (s.putTiles x).now = s.now := rfl
@[simp] theorem putTiles_free : (s.putTiles x).free = s.free := rfl
@[simp] theorem putTiles_regs : (s.putTiles x).regs = s.regs := rfl
@[simp] theorem putTiles_beat : (s.putTiles x).beat = s.beat := rfl
@[simp] theorem putTiles_slotStop : (s.putTiles x).slotStop = s.slotStop := rfl
@[simp] theorem putTiles_host : (s.putTiles x).host = s.host := rfl
@[simp] theorem putTiles_hbm : (s.putTiles x).hbm = s.hbm := rfl
@[simp] theorem putTiles_hbmErr : (s.putTiles x).hbmErr = s.hbmErr := rfl
@[simp] theorem putTiles_stacks : (s.putTiles x).stackParts = s.stackParts := rfl
@[simp] theorem putTiles_sram : (s.putTiles x).sram = s.sram := rfl
@[simp] theorem putTiles_sramBad : (s.putTiles x).sramBad = s.sramBad := rfl
@[simp] theorem putTiles_parts : (s.putTiles x).parts = s.parts := rfl
@[simp] theorem putTiles_tiles : (s.putTiles x).tiles = x := rfl
@[simp] theorem putTiles_energy : (s.putTiles x).energy = s.energy := rfl
@[simp] theorem putTiles_cores : (s.putTiles x).cores = s.cores := rfl
@[simp] theorem putTiles_queues : (s.putTiles x).queues = s.queues := rfl
@[simp] theorem putTiles_jugs : (s.putTiles x).jugs = s.jugs := rfl
@[simp] theorem putTiles_fab : (s.putTiles x).fab = s.fab := rfl
@[simp] theorem putTiles_ibu : (s.putTiles x).ibu = s.ibu := rfl
@[simp] theorem putTiles_tests : (s.putTiles x).tests = s.tests := rfl
@[simp] theorem putTiles_testLog : (s.putTiles x).testLog = s.testLog := rfl
@[simp] theorem putTiles_failLog : (s.putTiles x).failLog = s.failLog := rfl
@[simp] theorem putTiles_scanIr : (s.putTiles x).scanIr = s.scanIr := rfl
@[simp] theorem putTiles_keep : (s.putTiles x).keep = s.keep := rfl
@[simp] theorem putTiles_fw : (s.putTiles x).fw = s.fw := rfl
@[simp] theorem putTiles_power : (s.putTiles x).power = s.power := rfl
@[simp] theorem putTiles_therm : (s.putTiles x).therm = s.therm := rfl
@[simp] theorem putTiles_cool : (s.putTiles x).cool = s.cool := rfl
@[simp] theorem putTiles_safety : (s.putTiles x).safety = s.safety := rfl
@[simp] theorem putTiles_age : (s.putTiles x).age = s.age := rfl
@[simp] theorem putTiles_tw : (s.putTiles x).tw = s.tw := rfl
@[simp] theorem putTiles_recorder : (s.putTiles x).recorder = s.recorder := rfl
@[simp] theorem putTiles_acl : (s.putTiles x).acl = s.acl := rfl
@[simp] theorem putTiles_aclStart : (s.putTiles x).aclStart = s.aclStart := rfl
@[simp] theorem putTiles_latches : (s.putTiles x).latches = s.latches := rfl
@[simp] theorem putTiles_outbox : (s.putTiles x).outbox = s.outbox := rfl
end tiles

section energy
variable (x : Assoc Nat)
@[simp] theorem putEnergy_pending : (s.putEnergy x).pending = s.pending := rfl
@[simp] theorem putEnergy_now : (s.putEnergy x).now = s.now := rfl
@[simp] theorem putEnergy_free : (s.putEnergy x).free = s.free := rfl
@[simp] theorem putEnergy_regs : (s.putEnergy x).regs = s.regs := rfl
@[simp] theorem putEnergy_beat : (s.putEnergy x).beat = s.beat := rfl
@[simp] theorem putEnergy_slotStop : (s.putEnergy x).slotStop = s.slotStop := rfl
@[simp] theorem putEnergy_host : (s.putEnergy x).host = s.host := rfl
@[simp] theorem putEnergy_hbm : (s.putEnergy x).hbm = s.hbm := rfl
@[simp] theorem putEnergy_hbmErr : (s.putEnergy x).hbmErr = s.hbmErr := rfl
@[simp] theorem putEnergy_stacks : (s.putEnergy x).stackParts = s.stackParts := rfl
@[simp] theorem putEnergy_sram : (s.putEnergy x).sram = s.sram := rfl
@[simp] theorem putEnergy_sramBad : (s.putEnergy x).sramBad = s.sramBad := rfl
@[simp] theorem putEnergy_parts : (s.putEnergy x).parts = s.parts := rfl
@[simp] theorem putEnergy_tiles : (s.putEnergy x).tiles = s.tiles := rfl
@[simp] theorem putEnergy_energy : (s.putEnergy x).energy = x := rfl
@[simp] theorem putEnergy_cores : (s.putEnergy x).cores = s.cores := rfl
@[simp] theorem putEnergy_queues : (s.putEnergy x).queues = s.queues := rfl
@[simp] theorem putEnergy_jugs : (s.putEnergy x).jugs = s.jugs := rfl
@[simp] theorem putEnergy_fab : (s.putEnergy x).fab = s.fab := rfl
@[simp] theorem putEnergy_ibu : (s.putEnergy x).ibu = s.ibu := rfl
@[simp] theorem putEnergy_tests : (s.putEnergy x).tests = s.tests := rfl
@[simp] theorem putEnergy_testLog : (s.putEnergy x).testLog = s.testLog := rfl
@[simp] theorem putEnergy_failLog : (s.putEnergy x).failLog = s.failLog := rfl
@[simp] theorem putEnergy_scanIr : (s.putEnergy x).scanIr = s.scanIr := rfl
@[simp] theorem putEnergy_keep : (s.putEnergy x).keep = s.keep := rfl
@[simp] theorem putEnergy_fw : (s.putEnergy x).fw = s.fw := rfl
@[simp] theorem putEnergy_power : (s.putEnergy x).power = s.power := rfl
@[simp] theorem putEnergy_therm : (s.putEnergy x).therm = s.therm := rfl
@[simp] theorem putEnergy_cool : (s.putEnergy x).cool = s.cool := rfl
@[simp] theorem putEnergy_safety : (s.putEnergy x).safety = s.safety := rfl
@[simp] theorem putEnergy_age : (s.putEnergy x).age = s.age := rfl
@[simp] theorem putEnergy_tw : (s.putEnergy x).tw = s.tw := rfl
@[simp] theorem putEnergy_recorder : (s.putEnergy x).recorder = s.recorder := rfl
@[simp] theorem putEnergy_acl : (s.putEnergy x).acl = s.acl := rfl
@[simp] theorem putEnergy_aclStart : (s.putEnergy x).aclStart = s.aclStart := rfl
@[simp] theorem putEnergy_latches : (s.putEnergy x).latches = s.latches := rfl
@[simp] theorem putEnergy_outbox : (s.putEnergy x).outbox = s.outbox := rfl
end energy

section cores
variable (x : Assoc CoreState)
@[simp] theorem putCores_pending : (s.putCores x).pending = s.pending := rfl
@[simp] theorem putCores_now : (s.putCores x).now = s.now := rfl
@[simp] theorem putCores_free : (s.putCores x).free = s.free := rfl
@[simp] theorem putCores_regs : (s.putCores x).regs = s.regs := rfl
@[simp] theorem putCores_beat : (s.putCores x).beat = s.beat := rfl
@[simp] theorem putCores_slotStop : (s.putCores x).slotStop = s.slotStop := rfl
@[simp] theorem putCores_host : (s.putCores x).host = s.host := rfl
@[simp] theorem putCores_hbm : (s.putCores x).hbm = s.hbm := rfl
@[simp] theorem putCores_hbmErr : (s.putCores x).hbmErr = s.hbmErr := rfl
@[simp] theorem putCores_stacks : (s.putCores x).stackParts = s.stackParts := rfl
@[simp] theorem putCores_sram : (s.putCores x).sram = s.sram := rfl
@[simp] theorem putCores_sramBad : (s.putCores x).sramBad = s.sramBad := rfl
@[simp] theorem putCores_parts : (s.putCores x).parts = s.parts := rfl
@[simp] theorem putCores_tiles : (s.putCores x).tiles = s.tiles := rfl
@[simp] theorem putCores_energy : (s.putCores x).energy = s.energy := rfl
@[simp] theorem putCores_cores : (s.putCores x).cores = x := rfl
@[simp] theorem putCores_queues : (s.putCores x).queues = s.queues := rfl
@[simp] theorem putCores_jugs : (s.putCores x).jugs = s.jugs := rfl
@[simp] theorem putCores_fab : (s.putCores x).fab = s.fab := rfl
@[simp] theorem putCores_ibu : (s.putCores x).ibu = s.ibu := rfl
@[simp] theorem putCores_tests : (s.putCores x).tests = s.tests := rfl
@[simp] theorem putCores_testLog : (s.putCores x).testLog = s.testLog := rfl
@[simp] theorem putCores_failLog : (s.putCores x).failLog = s.failLog := rfl
@[simp] theorem putCores_scanIr : (s.putCores x).scanIr = s.scanIr := rfl
@[simp] theorem putCores_keep : (s.putCores x).keep = s.keep := rfl
@[simp] theorem putCores_fw : (s.putCores x).fw = s.fw := rfl
@[simp] theorem putCores_power : (s.putCores x).power = s.power := rfl
@[simp] theorem putCores_therm : (s.putCores x).therm = s.therm := rfl
@[simp] theorem putCores_cool : (s.putCores x).cool = s.cool := rfl
@[simp] theorem putCores_safety : (s.putCores x).safety = s.safety := rfl
@[simp] theorem putCores_age : (s.putCores x).age = s.age := rfl
@[simp] theorem putCores_tw : (s.putCores x).tw = s.tw := rfl
@[simp] theorem putCores_recorder : (s.putCores x).recorder = s.recorder := rfl
@[simp] theorem putCores_acl : (s.putCores x).acl = s.acl := rfl
@[simp] theorem putCores_aclStart : (s.putCores x).aclStart = s.aclStart := rfl
@[simp] theorem putCores_latches : (s.putCores x).latches = s.latches := rfl
@[simp] theorem putCores_outbox : (s.putCores x).outbox = s.outbox := rfl
end cores

section queues
variable (x : Assoc Queue)
@[simp] theorem putQueues_pending : (s.putQueues x).pending = s.pending := rfl
@[simp] theorem putQueues_now : (s.putQueues x).now = s.now := rfl
@[simp] theorem putQueues_free : (s.putQueues x).free = s.free := rfl
@[simp] theorem putQueues_regs : (s.putQueues x).regs = s.regs := rfl
@[simp] theorem putQueues_beat : (s.putQueues x).beat = s.beat := rfl
@[simp] theorem putQueues_slotStop : (s.putQueues x).slotStop = s.slotStop := rfl
@[simp] theorem putQueues_host : (s.putQueues x).host = s.host := rfl
@[simp] theorem putQueues_hbm : (s.putQueues x).hbm = s.hbm := rfl
@[simp] theorem putQueues_hbmErr : (s.putQueues x).hbmErr = s.hbmErr := rfl
@[simp] theorem putQueues_stacks : (s.putQueues x).stackParts = s.stackParts := rfl
@[simp] theorem putQueues_sram : (s.putQueues x).sram = s.sram := rfl
@[simp] theorem putQueues_sramBad : (s.putQueues x).sramBad = s.sramBad := rfl
@[simp] theorem putQueues_parts : (s.putQueues x).parts = s.parts := rfl
@[simp] theorem putQueues_tiles : (s.putQueues x).tiles = s.tiles := rfl
@[simp] theorem putQueues_energy : (s.putQueues x).energy = s.energy := rfl
@[simp] theorem putQueues_cores : (s.putQueues x).cores = s.cores := rfl
@[simp] theorem putQueues_queues : (s.putQueues x).queues = x := rfl
@[simp] theorem putQueues_jugs : (s.putQueues x).jugs = s.jugs := rfl
@[simp] theorem putQueues_fab : (s.putQueues x).fab = s.fab := rfl
@[simp] theorem putQueues_ibu : (s.putQueues x).ibu = s.ibu := rfl
@[simp] theorem putQueues_tests : (s.putQueues x).tests = s.tests := rfl
@[simp] theorem putQueues_testLog : (s.putQueues x).testLog = s.testLog := rfl
@[simp] theorem putQueues_failLog : (s.putQueues x).failLog = s.failLog := rfl
@[simp] theorem putQueues_scanIr : (s.putQueues x).scanIr = s.scanIr := rfl
@[simp] theorem putQueues_keep : (s.putQueues x).keep = s.keep := rfl
@[simp] theorem putQueues_fw : (s.putQueues x).fw = s.fw := rfl
@[simp] theorem putQueues_power : (s.putQueues x).power = s.power := rfl
@[simp] theorem putQueues_therm : (s.putQueues x).therm = s.therm := rfl
@[simp] theorem putQueues_cool : (s.putQueues x).cool = s.cool := rfl
@[simp] theorem putQueues_safety : (s.putQueues x).safety = s.safety := rfl
@[simp] theorem putQueues_age : (s.putQueues x).age = s.age := rfl
@[simp] theorem putQueues_tw : (s.putQueues x).tw = s.tw := rfl
@[simp] theorem putQueues_recorder : (s.putQueues x).recorder = s.recorder := rfl
@[simp] theorem putQueues_acl : (s.putQueues x).acl = s.acl := rfl
@[simp] theorem putQueues_aclStart : (s.putQueues x).aclStart = s.aclStart := rfl
@[simp] theorem putQueues_latches : (s.putQueues x).latches = s.latches := rfl
@[simp] theorem putQueues_outbox : (s.putQueues x).outbox = s.outbox := rfl
end queues

section jugs
variable (x : Assoc JugTile)
@[simp] theorem putJugs_pending : (s.putJugs x).pending = s.pending := rfl
@[simp] theorem putJugs_now : (s.putJugs x).now = s.now := rfl
@[simp] theorem putJugs_free : (s.putJugs x).free = s.free := rfl
@[simp] theorem putJugs_regs : (s.putJugs x).regs = s.regs := rfl
@[simp] theorem putJugs_beat : (s.putJugs x).beat = s.beat := rfl
@[simp] theorem putJugs_slotStop : (s.putJugs x).slotStop = s.slotStop := rfl
@[simp] theorem putJugs_host : (s.putJugs x).host = s.host := rfl
@[simp] theorem putJugs_hbm : (s.putJugs x).hbm = s.hbm := rfl
@[simp] theorem putJugs_hbmErr : (s.putJugs x).hbmErr = s.hbmErr := rfl
@[simp] theorem putJugs_stacks : (s.putJugs x).stackParts = s.stackParts := rfl
@[simp] theorem putJugs_sram : (s.putJugs x).sram = s.sram := rfl
@[simp] theorem putJugs_sramBad : (s.putJugs x).sramBad = s.sramBad := rfl
@[simp] theorem putJugs_parts : (s.putJugs x).parts = s.parts := rfl
@[simp] theorem putJugs_tiles : (s.putJugs x).tiles = s.tiles := rfl
@[simp] theorem putJugs_energy : (s.putJugs x).energy = s.energy := rfl
@[simp] theorem putJugs_cores : (s.putJugs x).cores = s.cores := rfl
@[simp] theorem putJugs_queues : (s.putJugs x).queues = s.queues := rfl
@[simp] theorem putJugs_jugs : (s.putJugs x).jugs = x := rfl
@[simp] theorem putJugs_fab : (s.putJugs x).fab = s.fab := rfl
@[simp] theorem putJugs_ibu : (s.putJugs x).ibu = s.ibu := rfl
@[simp] theorem putJugs_tests : (s.putJugs x).tests = s.tests := rfl
@[simp] theorem putJugs_testLog : (s.putJugs x).testLog = s.testLog := rfl
@[simp] theorem putJugs_failLog : (s.putJugs x).failLog = s.failLog := rfl
@[simp] theorem putJugs_scanIr : (s.putJugs x).scanIr = s.scanIr := rfl
@[simp] theorem putJugs_keep : (s.putJugs x).keep = s.keep := rfl
@[simp] theorem putJugs_fw : (s.putJugs x).fw = s.fw := rfl
@[simp] theorem putJugs_power : (s.putJugs x).power = s.power := rfl
@[simp] theorem putJugs_therm : (s.putJugs x).therm = s.therm := rfl
@[simp] theorem putJugs_cool : (s.putJugs x).cool = s.cool := rfl
@[simp] theorem putJugs_safety : (s.putJugs x).safety = s.safety := rfl
@[simp] theorem putJugs_age : (s.putJugs x).age = s.age := rfl
@[simp] theorem putJugs_tw : (s.putJugs x).tw = s.tw := rfl
@[simp] theorem putJugs_recorder : (s.putJugs x).recorder = s.recorder := rfl
@[simp] theorem putJugs_acl : (s.putJugs x).acl = s.acl := rfl
@[simp] theorem putJugs_aclStart : (s.putJugs x).aclStart = s.aclStart := rfl
@[simp] theorem putJugs_latches : (s.putJugs x).latches = s.latches := rfl
@[simp] theorem putJugs_outbox : (s.putJugs x).outbox = s.outbox := rfl
end jugs

section fab
variable (x : FabState)
@[simp] theorem putFab_pending : (s.putFab x).pending = s.pending := rfl
@[simp] theorem putFab_now : (s.putFab x).now = s.now := rfl
@[simp] theorem putFab_free : (s.putFab x).free = s.free := rfl
@[simp] theorem putFab_regs : (s.putFab x).regs = s.regs := rfl
@[simp] theorem putFab_beat : (s.putFab x).beat = s.beat := rfl
@[simp] theorem putFab_slotStop : (s.putFab x).slotStop = s.slotStop := rfl
@[simp] theorem putFab_host : (s.putFab x).host = s.host := rfl
@[simp] theorem putFab_hbm : (s.putFab x).hbm = s.hbm := rfl
@[simp] theorem putFab_hbmErr : (s.putFab x).hbmErr = s.hbmErr := rfl
@[simp] theorem putFab_stacks : (s.putFab x).stackParts = s.stackParts := rfl
@[simp] theorem putFab_sram : (s.putFab x).sram = s.sram := rfl
@[simp] theorem putFab_sramBad : (s.putFab x).sramBad = s.sramBad := rfl
@[simp] theorem putFab_parts : (s.putFab x).parts = s.parts := rfl
@[simp] theorem putFab_tiles : (s.putFab x).tiles = s.tiles := rfl
@[simp] theorem putFab_energy : (s.putFab x).energy = s.energy := rfl
@[simp] theorem putFab_cores : (s.putFab x).cores = s.cores := rfl
@[simp] theorem putFab_queues : (s.putFab x).queues = s.queues := rfl
@[simp] theorem putFab_jugs : (s.putFab x).jugs = s.jugs := rfl
@[simp] theorem putFab_fab : (s.putFab x).fab = x := rfl
@[simp] theorem putFab_ibu : (s.putFab x).ibu = s.ibu := rfl
@[simp] theorem putFab_tests : (s.putFab x).tests = s.tests := rfl
@[simp] theorem putFab_testLog : (s.putFab x).testLog = s.testLog := rfl
@[simp] theorem putFab_failLog : (s.putFab x).failLog = s.failLog := rfl
@[simp] theorem putFab_scanIr : (s.putFab x).scanIr = s.scanIr := rfl
@[simp] theorem putFab_keep : (s.putFab x).keep = s.keep := rfl
@[simp] theorem putFab_fw : (s.putFab x).fw = s.fw := rfl
@[simp] theorem putFab_power : (s.putFab x).power = s.power := rfl
@[simp] theorem putFab_therm : (s.putFab x).therm = s.therm := rfl
@[simp] theorem putFab_cool : (s.putFab x).cool = s.cool := rfl
@[simp] theorem putFab_safety : (s.putFab x).safety = s.safety := rfl
@[simp] theorem putFab_age : (s.putFab x).age = s.age := rfl
@[simp] theorem putFab_tw : (s.putFab x).tw = s.tw := rfl
@[simp] theorem putFab_recorder : (s.putFab x).recorder = s.recorder := rfl
@[simp] theorem putFab_acl : (s.putFab x).acl = s.acl := rfl
@[simp] theorem putFab_aclStart : (s.putFab x).aclStart = s.aclStart := rfl
@[simp] theorem putFab_latches : (s.putFab x).latches = s.latches := rfl
@[simp] theorem putFab_outbox : (s.putFab x).outbox = s.outbox := rfl
end fab

section ibu
variable (x : IbuState)
@[simp] theorem putIbu_pending : (s.putIbu x).pending = s.pending := rfl
@[simp] theorem putIbu_now : (s.putIbu x).now = s.now := rfl
@[simp] theorem putIbu_free : (s.putIbu x).free = s.free := rfl
@[simp] theorem putIbu_regs : (s.putIbu x).regs = s.regs := rfl
@[simp] theorem putIbu_beat : (s.putIbu x).beat = s.beat := rfl
@[simp] theorem putIbu_slotStop : (s.putIbu x).slotStop = s.slotStop := rfl
@[simp] theorem putIbu_host : (s.putIbu x).host = s.host := rfl
@[simp] theorem putIbu_hbm : (s.putIbu x).hbm = s.hbm := rfl
@[simp] theorem putIbu_hbmErr : (s.putIbu x).hbmErr = s.hbmErr := rfl
@[simp] theorem putIbu_stacks : (s.putIbu x).stackParts = s.stackParts := rfl
@[simp] theorem putIbu_sram : (s.putIbu x).sram = s.sram := rfl
@[simp] theorem putIbu_sramBad : (s.putIbu x).sramBad = s.sramBad := rfl
@[simp] theorem putIbu_parts : (s.putIbu x).parts = s.parts := rfl
@[simp] theorem putIbu_tiles : (s.putIbu x).tiles = s.tiles := rfl
@[simp] theorem putIbu_energy : (s.putIbu x).energy = s.energy := rfl
@[simp] theorem putIbu_cores : (s.putIbu x).cores = s.cores := rfl
@[simp] theorem putIbu_queues : (s.putIbu x).queues = s.queues := rfl
@[simp] theorem putIbu_jugs : (s.putIbu x).jugs = s.jugs := rfl
@[simp] theorem putIbu_fab : (s.putIbu x).fab = s.fab := rfl
@[simp] theorem putIbu_ibu : (s.putIbu x).ibu = x := rfl
@[simp] theorem putIbu_tests : (s.putIbu x).tests = s.tests := rfl
@[simp] theorem putIbu_testLog : (s.putIbu x).testLog = s.testLog := rfl
@[simp] theorem putIbu_failLog : (s.putIbu x).failLog = s.failLog := rfl
@[simp] theorem putIbu_scanIr : (s.putIbu x).scanIr = s.scanIr := rfl
@[simp] theorem putIbu_keep : (s.putIbu x).keep = s.keep := rfl
@[simp] theorem putIbu_fw : (s.putIbu x).fw = s.fw := rfl
@[simp] theorem putIbu_power : (s.putIbu x).power = s.power := rfl
@[simp] theorem putIbu_therm : (s.putIbu x).therm = s.therm := rfl
@[simp] theorem putIbu_cool : (s.putIbu x).cool = s.cool := rfl
@[simp] theorem putIbu_safety : (s.putIbu x).safety = s.safety := rfl
@[simp] theorem putIbu_age : (s.putIbu x).age = s.age := rfl
@[simp] theorem putIbu_tw : (s.putIbu x).tw = s.tw := rfl
@[simp] theorem putIbu_recorder : (s.putIbu x).recorder = s.recorder := rfl
@[simp] theorem putIbu_acl : (s.putIbu x).acl = s.acl := rfl
@[simp] theorem putIbu_aclStart : (s.putIbu x).aclStart = s.aclStart := rfl
@[simp] theorem putIbu_latches : (s.putIbu x).latches = s.latches := rfl
@[simp] theorem putIbu_outbox : (s.putIbu x).outbox = s.outbox := rfl
end ibu

section tests
variable (x : List TestRun)
@[simp] theorem putTests_pending : (s.putTests x).pending = s.pending := rfl
@[simp] theorem putTests_now : (s.putTests x).now = s.now := rfl
@[simp] theorem putTests_free : (s.putTests x).free = s.free := rfl
@[simp] theorem putTests_regs : (s.putTests x).regs = s.regs := rfl
@[simp] theorem putTests_beat : (s.putTests x).beat = s.beat := rfl
@[simp] theorem putTests_slotStop : (s.putTests x).slotStop = s.slotStop := rfl
@[simp] theorem putTests_host : (s.putTests x).host = s.host := rfl
@[simp] theorem putTests_hbm : (s.putTests x).hbm = s.hbm := rfl
@[simp] theorem putTests_hbmErr : (s.putTests x).hbmErr = s.hbmErr := rfl
@[simp] theorem putTests_stacks : (s.putTests x).stackParts = s.stackParts := rfl
@[simp] theorem putTests_sram : (s.putTests x).sram = s.sram := rfl
@[simp] theorem putTests_sramBad : (s.putTests x).sramBad = s.sramBad := rfl
@[simp] theorem putTests_parts : (s.putTests x).parts = s.parts := rfl
@[simp] theorem putTests_tiles : (s.putTests x).tiles = s.tiles := rfl
@[simp] theorem putTests_energy : (s.putTests x).energy = s.energy := rfl
@[simp] theorem putTests_cores : (s.putTests x).cores = s.cores := rfl
@[simp] theorem putTests_queues : (s.putTests x).queues = s.queues := rfl
@[simp] theorem putTests_jugs : (s.putTests x).jugs = s.jugs := rfl
@[simp] theorem putTests_fab : (s.putTests x).fab = s.fab := rfl
@[simp] theorem putTests_ibu : (s.putTests x).ibu = s.ibu := rfl
@[simp] theorem putTests_tests : (s.putTests x).tests = x := rfl
@[simp] theorem putTests_testLog : (s.putTests x).testLog = s.testLog := rfl
@[simp] theorem putTests_failLog : (s.putTests x).failLog = s.failLog := rfl
@[simp] theorem putTests_scanIr : (s.putTests x).scanIr = s.scanIr := rfl
@[simp] theorem putTests_keep : (s.putTests x).keep = s.keep := rfl
@[simp] theorem putTests_fw : (s.putTests x).fw = s.fw := rfl
@[simp] theorem putTests_power : (s.putTests x).power = s.power := rfl
@[simp] theorem putTests_therm : (s.putTests x).therm = s.therm := rfl
@[simp] theorem putTests_cool : (s.putTests x).cool = s.cool := rfl
@[simp] theorem putTests_safety : (s.putTests x).safety = s.safety := rfl
@[simp] theorem putTests_age : (s.putTests x).age = s.age := rfl
@[simp] theorem putTests_tw : (s.putTests x).tw = s.tw := rfl
@[simp] theorem putTests_recorder : (s.putTests x).recorder = s.recorder := rfl
@[simp] theorem putTests_acl : (s.putTests x).acl = s.acl := rfl
@[simp] theorem putTests_aclStart : (s.putTests x).aclStart = s.aclStart := rfl
@[simp] theorem putTests_latches : (s.putTests x).latches = s.latches := rfl
@[simp] theorem putTests_outbox : (s.putTests x).outbox = s.outbox := rfl
end tests

section testLog
variable (x : List TestLog)
@[simp] theorem putTestLog_pending : (s.putTestLog x).pending = s.pending := rfl
@[simp] theorem putTestLog_now : (s.putTestLog x).now = s.now := rfl
@[simp] theorem putTestLog_free : (s.putTestLog x).free = s.free := rfl
@[simp] theorem putTestLog_regs : (s.putTestLog x).regs = s.regs := rfl
@[simp] theorem putTestLog_beat : (s.putTestLog x).beat = s.beat := rfl
@[simp] theorem putTestLog_slotStop : (s.putTestLog x).slotStop = s.slotStop := rfl
@[simp] theorem putTestLog_host : (s.putTestLog x).host = s.host := rfl
@[simp] theorem putTestLog_hbm : (s.putTestLog x).hbm = s.hbm := rfl
@[simp] theorem putTestLog_hbmErr : (s.putTestLog x).hbmErr = s.hbmErr := rfl
@[simp] theorem putTestLog_stacks : (s.putTestLog x).stackParts = s.stackParts := rfl
@[simp] theorem putTestLog_sram : (s.putTestLog x).sram = s.sram := rfl
@[simp] theorem putTestLog_sramBad : (s.putTestLog x).sramBad = s.sramBad := rfl
@[simp] theorem putTestLog_parts : (s.putTestLog x).parts = s.parts := rfl
@[simp] theorem putTestLog_tiles : (s.putTestLog x).tiles = s.tiles := rfl
@[simp] theorem putTestLog_energy : (s.putTestLog x).energy = s.energy := rfl
@[simp] theorem putTestLog_cores : (s.putTestLog x).cores = s.cores := rfl
@[simp] theorem putTestLog_queues : (s.putTestLog x).queues = s.queues := rfl
@[simp] theorem putTestLog_jugs : (s.putTestLog x).jugs = s.jugs := rfl
@[simp] theorem putTestLog_fab : (s.putTestLog x).fab = s.fab := rfl
@[simp] theorem putTestLog_ibu : (s.putTestLog x).ibu = s.ibu := rfl
@[simp] theorem putTestLog_tests : (s.putTestLog x).tests = s.tests := rfl
@[simp] theorem putTestLog_testLog : (s.putTestLog x).testLog = x := rfl
@[simp] theorem putTestLog_failLog : (s.putTestLog x).failLog = s.failLog := rfl
@[simp] theorem putTestLog_scanIr : (s.putTestLog x).scanIr = s.scanIr := rfl
@[simp] theorem putTestLog_keep : (s.putTestLog x).keep = s.keep := rfl
@[simp] theorem putTestLog_fw : (s.putTestLog x).fw = s.fw := rfl
@[simp] theorem putTestLog_power : (s.putTestLog x).power = s.power := rfl
@[simp] theorem putTestLog_therm : (s.putTestLog x).therm = s.therm := rfl
@[simp] theorem putTestLog_cool : (s.putTestLog x).cool = s.cool := rfl
@[simp] theorem putTestLog_safety : (s.putTestLog x).safety = s.safety := rfl
@[simp] theorem putTestLog_age : (s.putTestLog x).age = s.age := rfl
@[simp] theorem putTestLog_tw : (s.putTestLog x).tw = s.tw := rfl
@[simp] theorem putTestLog_recorder : (s.putTestLog x).recorder = s.recorder := rfl
@[simp] theorem putTestLog_acl : (s.putTestLog x).acl = s.acl := rfl
@[simp] theorem putTestLog_aclStart : (s.putTestLog x).aclStart = s.aclStart := rfl
@[simp] theorem putTestLog_latches : (s.putTestLog x).latches = s.latches := rfl
@[simp] theorem putTestLog_outbox : (s.putTestLog x).outbox = s.outbox := rfl
end testLog

section failLog
variable (x : List (Nat × Nat × Nat × Nat))
@[simp] theorem putFailLog_pending : (s.putFailLog x).pending = s.pending := rfl
@[simp] theorem putFailLog_now : (s.putFailLog x).now = s.now := rfl
@[simp] theorem putFailLog_free : (s.putFailLog x).free = s.free := rfl
@[simp] theorem putFailLog_regs : (s.putFailLog x).regs = s.regs := rfl
@[simp] theorem putFailLog_beat : (s.putFailLog x).beat = s.beat := rfl
@[simp] theorem putFailLog_slotStop : (s.putFailLog x).slotStop = s.slotStop := rfl
@[simp] theorem putFailLog_host : (s.putFailLog x).host = s.host := rfl
@[simp] theorem putFailLog_hbm : (s.putFailLog x).hbm = s.hbm := rfl
@[simp] theorem putFailLog_hbmErr : (s.putFailLog x).hbmErr = s.hbmErr := rfl
@[simp] theorem putFailLog_stacks : (s.putFailLog x).stackParts = s.stackParts := rfl
@[simp] theorem putFailLog_sram : (s.putFailLog x).sram = s.sram := rfl
@[simp] theorem putFailLog_sramBad : (s.putFailLog x).sramBad = s.sramBad := rfl
@[simp] theorem putFailLog_parts : (s.putFailLog x).parts = s.parts := rfl
@[simp] theorem putFailLog_tiles : (s.putFailLog x).tiles = s.tiles := rfl
@[simp] theorem putFailLog_energy : (s.putFailLog x).energy = s.energy := rfl
@[simp] theorem putFailLog_cores : (s.putFailLog x).cores = s.cores := rfl
@[simp] theorem putFailLog_queues : (s.putFailLog x).queues = s.queues := rfl
@[simp] theorem putFailLog_jugs : (s.putFailLog x).jugs = s.jugs := rfl
@[simp] theorem putFailLog_fab : (s.putFailLog x).fab = s.fab := rfl
@[simp] theorem putFailLog_ibu : (s.putFailLog x).ibu = s.ibu := rfl
@[simp] theorem putFailLog_tests : (s.putFailLog x).tests = s.tests := rfl
@[simp] theorem putFailLog_testLog : (s.putFailLog x).testLog = s.testLog := rfl
@[simp] theorem putFailLog_failLog : (s.putFailLog x).failLog = x := rfl
@[simp] theorem putFailLog_scanIr : (s.putFailLog x).scanIr = s.scanIr := rfl
@[simp] theorem putFailLog_keep : (s.putFailLog x).keep = s.keep := rfl
@[simp] theorem putFailLog_fw : (s.putFailLog x).fw = s.fw := rfl
@[simp] theorem putFailLog_power : (s.putFailLog x).power = s.power := rfl
@[simp] theorem putFailLog_therm : (s.putFailLog x).therm = s.therm := rfl
@[simp] theorem putFailLog_cool : (s.putFailLog x).cool = s.cool := rfl
@[simp] theorem putFailLog_safety : (s.putFailLog x).safety = s.safety := rfl
@[simp] theorem putFailLog_age : (s.putFailLog x).age = s.age := rfl
@[simp] theorem putFailLog_tw : (s.putFailLog x).tw = s.tw := rfl
@[simp] theorem putFailLog_recorder : (s.putFailLog x).recorder = s.recorder := rfl
@[simp] theorem putFailLog_acl : (s.putFailLog x).acl = s.acl := rfl
@[simp] theorem putFailLog_aclStart : (s.putFailLog x).aclStart = s.aclStart := rfl
@[simp] theorem putFailLog_latches : (s.putFailLog x).latches = s.latches := rfl
@[simp] theorem putFailLog_outbox : (s.putFailLog x).outbox = s.outbox := rfl
end failLog

section scanIr
variable (x : Nat)
@[simp] theorem putScanIr_pending : (s.putScanIr x).pending = s.pending := rfl
@[simp] theorem putScanIr_now : (s.putScanIr x).now = s.now := rfl
@[simp] theorem putScanIr_free : (s.putScanIr x).free = s.free := rfl
@[simp] theorem putScanIr_regs : (s.putScanIr x).regs = s.regs := rfl
@[simp] theorem putScanIr_beat : (s.putScanIr x).beat = s.beat := rfl
@[simp] theorem putScanIr_slotStop : (s.putScanIr x).slotStop = s.slotStop := rfl
@[simp] theorem putScanIr_host : (s.putScanIr x).host = s.host := rfl
@[simp] theorem putScanIr_hbm : (s.putScanIr x).hbm = s.hbm := rfl
@[simp] theorem putScanIr_hbmErr : (s.putScanIr x).hbmErr = s.hbmErr := rfl
@[simp] theorem putScanIr_stacks : (s.putScanIr x).stackParts = s.stackParts := rfl
@[simp] theorem putScanIr_sram : (s.putScanIr x).sram = s.sram := rfl
@[simp] theorem putScanIr_sramBad : (s.putScanIr x).sramBad = s.sramBad := rfl
@[simp] theorem putScanIr_parts : (s.putScanIr x).parts = s.parts := rfl
@[simp] theorem putScanIr_tiles : (s.putScanIr x).tiles = s.tiles := rfl
@[simp] theorem putScanIr_energy : (s.putScanIr x).energy = s.energy := rfl
@[simp] theorem putScanIr_cores : (s.putScanIr x).cores = s.cores := rfl
@[simp] theorem putScanIr_queues : (s.putScanIr x).queues = s.queues := rfl
@[simp] theorem putScanIr_jugs : (s.putScanIr x).jugs = s.jugs := rfl
@[simp] theorem putScanIr_fab : (s.putScanIr x).fab = s.fab := rfl
@[simp] theorem putScanIr_ibu : (s.putScanIr x).ibu = s.ibu := rfl
@[simp] theorem putScanIr_tests : (s.putScanIr x).tests = s.tests := rfl
@[simp] theorem putScanIr_testLog : (s.putScanIr x).testLog = s.testLog := rfl
@[simp] theorem putScanIr_failLog : (s.putScanIr x).failLog = s.failLog := rfl
@[simp] theorem putScanIr_scanIr : (s.putScanIr x).scanIr = x := rfl
@[simp] theorem putScanIr_keep : (s.putScanIr x).keep = s.keep := rfl
@[simp] theorem putScanIr_fw : (s.putScanIr x).fw = s.fw := rfl
@[simp] theorem putScanIr_power : (s.putScanIr x).power = s.power := rfl
@[simp] theorem putScanIr_therm : (s.putScanIr x).therm = s.therm := rfl
@[simp] theorem putScanIr_cool : (s.putScanIr x).cool = s.cool := rfl
@[simp] theorem putScanIr_safety : (s.putScanIr x).safety = s.safety := rfl
@[simp] theorem putScanIr_age : (s.putScanIr x).age = s.age := rfl
@[simp] theorem putScanIr_tw : (s.putScanIr x).tw = s.tw := rfl
@[simp] theorem putScanIr_recorder : (s.putScanIr x).recorder = s.recorder := rfl
@[simp] theorem putScanIr_acl : (s.putScanIr x).acl = s.acl := rfl
@[simp] theorem putScanIr_aclStart : (s.putScanIr x).aclStart = s.aclStart := rfl
@[simp] theorem putScanIr_latches : (s.putScanIr x).latches = s.latches := rfl
@[simp] theorem putScanIr_outbox : (s.putScanIr x).outbox = s.outbox := rfl
end scanIr

section keep
variable (x : KeepState)
@[simp] theorem putKeep_pending : (s.putKeep x).pending = s.pending := rfl
@[simp] theorem putKeep_now : (s.putKeep x).now = s.now := rfl
@[simp] theorem putKeep_free : (s.putKeep x).free = s.free := rfl
@[simp] theorem putKeep_regs : (s.putKeep x).regs = s.regs := rfl
@[simp] theorem putKeep_beat : (s.putKeep x).beat = s.beat := rfl
@[simp] theorem putKeep_slotStop : (s.putKeep x).slotStop = s.slotStop := rfl
@[simp] theorem putKeep_host : (s.putKeep x).host = s.host := rfl
@[simp] theorem putKeep_hbm : (s.putKeep x).hbm = s.hbm := rfl
@[simp] theorem putKeep_hbmErr : (s.putKeep x).hbmErr = s.hbmErr := rfl
@[simp] theorem putKeep_stacks : (s.putKeep x).stackParts = s.stackParts := rfl
@[simp] theorem putKeep_sram : (s.putKeep x).sram = s.sram := rfl
@[simp] theorem putKeep_sramBad : (s.putKeep x).sramBad = s.sramBad := rfl
@[simp] theorem putKeep_parts : (s.putKeep x).parts = s.parts := rfl
@[simp] theorem putKeep_tiles : (s.putKeep x).tiles = s.tiles := rfl
@[simp] theorem putKeep_energy : (s.putKeep x).energy = s.energy := rfl
@[simp] theorem putKeep_cores : (s.putKeep x).cores = s.cores := rfl
@[simp] theorem putKeep_queues : (s.putKeep x).queues = s.queues := rfl
@[simp] theorem putKeep_jugs : (s.putKeep x).jugs = s.jugs := rfl
@[simp] theorem putKeep_fab : (s.putKeep x).fab = s.fab := rfl
@[simp] theorem putKeep_ibu : (s.putKeep x).ibu = s.ibu := rfl
@[simp] theorem putKeep_tests : (s.putKeep x).tests = s.tests := rfl
@[simp] theorem putKeep_testLog : (s.putKeep x).testLog = s.testLog := rfl
@[simp] theorem putKeep_failLog : (s.putKeep x).failLog = s.failLog := rfl
@[simp] theorem putKeep_scanIr : (s.putKeep x).scanIr = s.scanIr := rfl
@[simp] theorem putKeep_keep : (s.putKeep x).keep = x := rfl
@[simp] theorem putKeep_fw : (s.putKeep x).fw = s.fw := rfl
@[simp] theorem putKeep_power : (s.putKeep x).power = s.power := rfl
@[simp] theorem putKeep_therm : (s.putKeep x).therm = s.therm := rfl
@[simp] theorem putKeep_cool : (s.putKeep x).cool = s.cool := rfl
@[simp] theorem putKeep_safety : (s.putKeep x).safety = s.safety := rfl
@[simp] theorem putKeep_age : (s.putKeep x).age = s.age := rfl
@[simp] theorem putKeep_tw : (s.putKeep x).tw = s.tw := rfl
@[simp] theorem putKeep_recorder : (s.putKeep x).recorder = s.recorder := rfl
@[simp] theorem putKeep_acl : (s.putKeep x).acl = s.acl := rfl
@[simp] theorem putKeep_aclStart : (s.putKeep x).aclStart = s.aclStart := rfl
@[simp] theorem putKeep_latches : (s.putKeep x).latches = s.latches := rfl
@[simp] theorem putKeep_outbox : (s.putKeep x).outbox = s.outbox := rfl
end keep

section fw
variable (x : FwState)
@[simp] theorem putFw_pending : (s.putFw x).pending = s.pending := rfl
@[simp] theorem putFw_now : (s.putFw x).now = s.now := rfl
@[simp] theorem putFw_free : (s.putFw x).free = s.free := rfl
@[simp] theorem putFw_regs : (s.putFw x).regs = s.regs := rfl
@[simp] theorem putFw_beat : (s.putFw x).beat = s.beat := rfl
@[simp] theorem putFw_slotStop : (s.putFw x).slotStop = s.slotStop := rfl
@[simp] theorem putFw_host : (s.putFw x).host = s.host := rfl
@[simp] theorem putFw_hbm : (s.putFw x).hbm = s.hbm := rfl
@[simp] theorem putFw_hbmErr : (s.putFw x).hbmErr = s.hbmErr := rfl
@[simp] theorem putFw_stacks : (s.putFw x).stackParts = s.stackParts := rfl
@[simp] theorem putFw_sram : (s.putFw x).sram = s.sram := rfl
@[simp] theorem putFw_sramBad : (s.putFw x).sramBad = s.sramBad := rfl
@[simp] theorem putFw_parts : (s.putFw x).parts = s.parts := rfl
@[simp] theorem putFw_tiles : (s.putFw x).tiles = s.tiles := rfl
@[simp] theorem putFw_energy : (s.putFw x).energy = s.energy := rfl
@[simp] theorem putFw_cores : (s.putFw x).cores = s.cores := rfl
@[simp] theorem putFw_queues : (s.putFw x).queues = s.queues := rfl
@[simp] theorem putFw_jugs : (s.putFw x).jugs = s.jugs := rfl
@[simp] theorem putFw_fab : (s.putFw x).fab = s.fab := rfl
@[simp] theorem putFw_ibu : (s.putFw x).ibu = s.ibu := rfl
@[simp] theorem putFw_tests : (s.putFw x).tests = s.tests := rfl
@[simp] theorem putFw_testLog : (s.putFw x).testLog = s.testLog := rfl
@[simp] theorem putFw_failLog : (s.putFw x).failLog = s.failLog := rfl
@[simp] theorem putFw_scanIr : (s.putFw x).scanIr = s.scanIr := rfl
@[simp] theorem putFw_keep : (s.putFw x).keep = s.keep := rfl
@[simp] theorem putFw_fw : (s.putFw x).fw = x := rfl
@[simp] theorem putFw_power : (s.putFw x).power = s.power := rfl
@[simp] theorem putFw_therm : (s.putFw x).therm = s.therm := rfl
@[simp] theorem putFw_cool : (s.putFw x).cool = s.cool := rfl
@[simp] theorem putFw_safety : (s.putFw x).safety = s.safety := rfl
@[simp] theorem putFw_age : (s.putFw x).age = s.age := rfl
@[simp] theorem putFw_tw : (s.putFw x).tw = s.tw := rfl
@[simp] theorem putFw_recorder : (s.putFw x).recorder = s.recorder := rfl
@[simp] theorem putFw_acl : (s.putFw x).acl = s.acl := rfl
@[simp] theorem putFw_aclStart : (s.putFw x).aclStart = s.aclStart := rfl
@[simp] theorem putFw_latches : (s.putFw x).latches = s.latches := rfl
@[simp] theorem putFw_outbox : (s.putFw x).outbox = s.outbox := rfl
end fw

section power
variable (x : PowerState)
@[simp] theorem putPower_pending : (s.putPower x).pending = s.pending := rfl
@[simp] theorem putPower_now : (s.putPower x).now = s.now := rfl
@[simp] theorem putPower_free : (s.putPower x).free = s.free := rfl
@[simp] theorem putPower_regs : (s.putPower x).regs = s.regs := rfl
@[simp] theorem putPower_beat : (s.putPower x).beat = s.beat := rfl
@[simp] theorem putPower_slotStop : (s.putPower x).slotStop = s.slotStop := rfl
@[simp] theorem putPower_host : (s.putPower x).host = s.host := rfl
@[simp] theorem putPower_hbm : (s.putPower x).hbm = s.hbm := rfl
@[simp] theorem putPower_hbmErr : (s.putPower x).hbmErr = s.hbmErr := rfl
@[simp] theorem putPower_stacks : (s.putPower x).stackParts = s.stackParts := rfl
@[simp] theorem putPower_sram : (s.putPower x).sram = s.sram := rfl
@[simp] theorem putPower_sramBad : (s.putPower x).sramBad = s.sramBad := rfl
@[simp] theorem putPower_parts : (s.putPower x).parts = s.parts := rfl
@[simp] theorem putPower_tiles : (s.putPower x).tiles = s.tiles := rfl
@[simp] theorem putPower_energy : (s.putPower x).energy = s.energy := rfl
@[simp] theorem putPower_cores : (s.putPower x).cores = s.cores := rfl
@[simp] theorem putPower_queues : (s.putPower x).queues = s.queues := rfl
@[simp] theorem putPower_jugs : (s.putPower x).jugs = s.jugs := rfl
@[simp] theorem putPower_fab : (s.putPower x).fab = s.fab := rfl
@[simp] theorem putPower_ibu : (s.putPower x).ibu = s.ibu := rfl
@[simp] theorem putPower_tests : (s.putPower x).tests = s.tests := rfl
@[simp] theorem putPower_testLog : (s.putPower x).testLog = s.testLog := rfl
@[simp] theorem putPower_failLog : (s.putPower x).failLog = s.failLog := rfl
@[simp] theorem putPower_scanIr : (s.putPower x).scanIr = s.scanIr := rfl
@[simp] theorem putPower_keep : (s.putPower x).keep = s.keep := rfl
@[simp] theorem putPower_fw : (s.putPower x).fw = s.fw := rfl
@[simp] theorem putPower_power : (s.putPower x).power = x := rfl
@[simp] theorem putPower_therm : (s.putPower x).therm = s.therm := rfl
@[simp] theorem putPower_cool : (s.putPower x).cool = s.cool := rfl
@[simp] theorem putPower_safety : (s.putPower x).safety = s.safety := rfl
@[simp] theorem putPower_age : (s.putPower x).age = s.age := rfl
@[simp] theorem putPower_tw : (s.putPower x).tw = s.tw := rfl
@[simp] theorem putPower_recorder : (s.putPower x).recorder = s.recorder := rfl
@[simp] theorem putPower_acl : (s.putPower x).acl = s.acl := rfl
@[simp] theorem putPower_aclStart : (s.putPower x).aclStart = s.aclStart := rfl
@[simp] theorem putPower_latches : (s.putPower x).latches = s.latches := rfl
@[simp] theorem putPower_outbox : (s.putPower x).outbox = s.outbox := rfl
end power

section therm
variable (x : ThermState)
@[simp] theorem putTherm_pending : (s.putTherm x).pending = s.pending := rfl
@[simp] theorem putTherm_now : (s.putTherm x).now = s.now := rfl
@[simp] theorem putTherm_free : (s.putTherm x).free = s.free := rfl
@[simp] theorem putTherm_regs : (s.putTherm x).regs = s.regs := rfl
@[simp] theorem putTherm_beat : (s.putTherm x).beat = s.beat := rfl
@[simp] theorem putTherm_slotStop : (s.putTherm x).slotStop = s.slotStop := rfl
@[simp] theorem putTherm_host : (s.putTherm x).host = s.host := rfl
@[simp] theorem putTherm_hbm : (s.putTherm x).hbm = s.hbm := rfl
@[simp] theorem putTherm_hbmErr : (s.putTherm x).hbmErr = s.hbmErr := rfl
@[simp] theorem putTherm_stacks : (s.putTherm x).stackParts = s.stackParts := rfl
@[simp] theorem putTherm_sram : (s.putTherm x).sram = s.sram := rfl
@[simp] theorem putTherm_sramBad : (s.putTherm x).sramBad = s.sramBad := rfl
@[simp] theorem putTherm_parts : (s.putTherm x).parts = s.parts := rfl
@[simp] theorem putTherm_tiles : (s.putTherm x).tiles = s.tiles := rfl
@[simp] theorem putTherm_energy : (s.putTherm x).energy = s.energy := rfl
@[simp] theorem putTherm_cores : (s.putTherm x).cores = s.cores := rfl
@[simp] theorem putTherm_queues : (s.putTherm x).queues = s.queues := rfl
@[simp] theorem putTherm_jugs : (s.putTherm x).jugs = s.jugs := rfl
@[simp] theorem putTherm_fab : (s.putTherm x).fab = s.fab := rfl
@[simp] theorem putTherm_ibu : (s.putTherm x).ibu = s.ibu := rfl
@[simp] theorem putTherm_tests : (s.putTherm x).tests = s.tests := rfl
@[simp] theorem putTherm_testLog : (s.putTherm x).testLog = s.testLog := rfl
@[simp] theorem putTherm_failLog : (s.putTherm x).failLog = s.failLog := rfl
@[simp] theorem putTherm_scanIr : (s.putTherm x).scanIr = s.scanIr := rfl
@[simp] theorem putTherm_keep : (s.putTherm x).keep = s.keep := rfl
@[simp] theorem putTherm_fw : (s.putTherm x).fw = s.fw := rfl
@[simp] theorem putTherm_power : (s.putTherm x).power = s.power := rfl
@[simp] theorem putTherm_therm : (s.putTherm x).therm = x := rfl
@[simp] theorem putTherm_cool : (s.putTherm x).cool = s.cool := rfl
@[simp] theorem putTherm_safety : (s.putTherm x).safety = s.safety := rfl
@[simp] theorem putTherm_age : (s.putTherm x).age = s.age := rfl
@[simp] theorem putTherm_tw : (s.putTherm x).tw = s.tw := rfl
@[simp] theorem putTherm_recorder : (s.putTherm x).recorder = s.recorder := rfl
@[simp] theorem putTherm_acl : (s.putTherm x).acl = s.acl := rfl
@[simp] theorem putTherm_aclStart : (s.putTherm x).aclStart = s.aclStart := rfl
@[simp] theorem putTherm_latches : (s.putTherm x).latches = s.latches := rfl
@[simp] theorem putTherm_outbox : (s.putTherm x).outbox = s.outbox := rfl
end therm

section cool
variable (x : CoolState)
@[simp] theorem putCool_pending : (s.putCool x).pending = s.pending := rfl
@[simp] theorem putCool_now : (s.putCool x).now = s.now := rfl
@[simp] theorem putCool_free : (s.putCool x).free = s.free := rfl
@[simp] theorem putCool_regs : (s.putCool x).regs = s.regs := rfl
@[simp] theorem putCool_beat : (s.putCool x).beat = s.beat := rfl
@[simp] theorem putCool_slotStop : (s.putCool x).slotStop = s.slotStop := rfl
@[simp] theorem putCool_host : (s.putCool x).host = s.host := rfl
@[simp] theorem putCool_hbm : (s.putCool x).hbm = s.hbm := rfl
@[simp] theorem putCool_hbmErr : (s.putCool x).hbmErr = s.hbmErr := rfl
@[simp] theorem putCool_stacks : (s.putCool x).stackParts = s.stackParts := rfl
@[simp] theorem putCool_sram : (s.putCool x).sram = s.sram := rfl
@[simp] theorem putCool_sramBad : (s.putCool x).sramBad = s.sramBad := rfl
@[simp] theorem putCool_parts : (s.putCool x).parts = s.parts := rfl
@[simp] theorem putCool_tiles : (s.putCool x).tiles = s.tiles := rfl
@[simp] theorem putCool_energy : (s.putCool x).energy = s.energy := rfl
@[simp] theorem putCool_cores : (s.putCool x).cores = s.cores := rfl
@[simp] theorem putCool_queues : (s.putCool x).queues = s.queues := rfl
@[simp] theorem putCool_jugs : (s.putCool x).jugs = s.jugs := rfl
@[simp] theorem putCool_fab : (s.putCool x).fab = s.fab := rfl
@[simp] theorem putCool_ibu : (s.putCool x).ibu = s.ibu := rfl
@[simp] theorem putCool_tests : (s.putCool x).tests = s.tests := rfl
@[simp] theorem putCool_testLog : (s.putCool x).testLog = s.testLog := rfl
@[simp] theorem putCool_failLog : (s.putCool x).failLog = s.failLog := rfl
@[simp] theorem putCool_scanIr : (s.putCool x).scanIr = s.scanIr := rfl
@[simp] theorem putCool_keep : (s.putCool x).keep = s.keep := rfl
@[simp] theorem putCool_fw : (s.putCool x).fw = s.fw := rfl
@[simp] theorem putCool_power : (s.putCool x).power = s.power := rfl
@[simp] theorem putCool_therm : (s.putCool x).therm = s.therm := rfl
@[simp] theorem putCool_cool : (s.putCool x).cool = x := rfl
@[simp] theorem putCool_safety : (s.putCool x).safety = s.safety := rfl
@[simp] theorem putCool_age : (s.putCool x).age = s.age := rfl
@[simp] theorem putCool_tw : (s.putCool x).tw = s.tw := rfl
@[simp] theorem putCool_recorder : (s.putCool x).recorder = s.recorder := rfl
@[simp] theorem putCool_acl : (s.putCool x).acl = s.acl := rfl
@[simp] theorem putCool_aclStart : (s.putCool x).aclStart = s.aclStart := rfl
@[simp] theorem putCool_latches : (s.putCool x).latches = s.latches := rfl
@[simp] theorem putCool_outbox : (s.putCool x).outbox = s.outbox := rfl
end cool

section safety
variable (x : SafetyState)
@[simp] theorem putSafety_pending : (s.putSafety x).pending = s.pending := rfl
@[simp] theorem putSafety_now : (s.putSafety x).now = s.now := rfl
@[simp] theorem putSafety_free : (s.putSafety x).free = s.free := rfl
@[simp] theorem putSafety_regs : (s.putSafety x).regs = s.regs := rfl
@[simp] theorem putSafety_beat : (s.putSafety x).beat = s.beat := rfl
@[simp] theorem putSafety_slotStop : (s.putSafety x).slotStop = s.slotStop := rfl
@[simp] theorem putSafety_host : (s.putSafety x).host = s.host := rfl
@[simp] theorem putSafety_hbm : (s.putSafety x).hbm = s.hbm := rfl
@[simp] theorem putSafety_hbmErr : (s.putSafety x).hbmErr = s.hbmErr := rfl
@[simp] theorem putSafety_stacks : (s.putSafety x).stackParts = s.stackParts := rfl
@[simp] theorem putSafety_sram : (s.putSafety x).sram = s.sram := rfl
@[simp] theorem putSafety_sramBad : (s.putSafety x).sramBad = s.sramBad := rfl
@[simp] theorem putSafety_parts : (s.putSafety x).parts = s.parts := rfl
@[simp] theorem putSafety_tiles : (s.putSafety x).tiles = s.tiles := rfl
@[simp] theorem putSafety_energy : (s.putSafety x).energy = s.energy := rfl
@[simp] theorem putSafety_cores : (s.putSafety x).cores = s.cores := rfl
@[simp] theorem putSafety_queues : (s.putSafety x).queues = s.queues := rfl
@[simp] theorem putSafety_jugs : (s.putSafety x).jugs = s.jugs := rfl
@[simp] theorem putSafety_fab : (s.putSafety x).fab = s.fab := rfl
@[simp] theorem putSafety_ibu : (s.putSafety x).ibu = s.ibu := rfl
@[simp] theorem putSafety_tests : (s.putSafety x).tests = s.tests := rfl
@[simp] theorem putSafety_testLog : (s.putSafety x).testLog = s.testLog := rfl
@[simp] theorem putSafety_failLog : (s.putSafety x).failLog = s.failLog := rfl
@[simp] theorem putSafety_scanIr : (s.putSafety x).scanIr = s.scanIr := rfl
@[simp] theorem putSafety_keep : (s.putSafety x).keep = s.keep := rfl
@[simp] theorem putSafety_fw : (s.putSafety x).fw = s.fw := rfl
@[simp] theorem putSafety_power : (s.putSafety x).power = s.power := rfl
@[simp] theorem putSafety_therm : (s.putSafety x).therm = s.therm := rfl
@[simp] theorem putSafety_cool : (s.putSafety x).cool = s.cool := rfl
@[simp] theorem putSafety_safety : (s.putSafety x).safety = x := rfl
@[simp] theorem putSafety_age : (s.putSafety x).age = s.age := rfl
@[simp] theorem putSafety_tw : (s.putSafety x).tw = s.tw := rfl
@[simp] theorem putSafety_recorder : (s.putSafety x).recorder = s.recorder := rfl
@[simp] theorem putSafety_acl : (s.putSafety x).acl = s.acl := rfl
@[simp] theorem putSafety_aclStart : (s.putSafety x).aclStart = s.aclStart := rfl
@[simp] theorem putSafety_latches : (s.putSafety x).latches = s.latches := rfl
@[simp] theorem putSafety_outbox : (s.putSafety x).outbox = s.outbox := rfl
end safety

section age
variable (x : AgeState)
@[simp] theorem putAge_pending : (s.putAge x).pending = s.pending := rfl
@[simp] theorem putAge_now : (s.putAge x).now = s.now := rfl
@[simp] theorem putAge_free : (s.putAge x).free = s.free := rfl
@[simp] theorem putAge_regs : (s.putAge x).regs = s.regs := rfl
@[simp] theorem putAge_beat : (s.putAge x).beat = s.beat := rfl
@[simp] theorem putAge_slotStop : (s.putAge x).slotStop = s.slotStop := rfl
@[simp] theorem putAge_host : (s.putAge x).host = s.host := rfl
@[simp] theorem putAge_hbm : (s.putAge x).hbm = s.hbm := rfl
@[simp] theorem putAge_hbmErr : (s.putAge x).hbmErr = s.hbmErr := rfl
@[simp] theorem putAge_stacks : (s.putAge x).stackParts = s.stackParts := rfl
@[simp] theorem putAge_sram : (s.putAge x).sram = s.sram := rfl
@[simp] theorem putAge_sramBad : (s.putAge x).sramBad = s.sramBad := rfl
@[simp] theorem putAge_parts : (s.putAge x).parts = s.parts := rfl
@[simp] theorem putAge_tiles : (s.putAge x).tiles = s.tiles := rfl
@[simp] theorem putAge_energy : (s.putAge x).energy = s.energy := rfl
@[simp] theorem putAge_cores : (s.putAge x).cores = s.cores := rfl
@[simp] theorem putAge_queues : (s.putAge x).queues = s.queues := rfl
@[simp] theorem putAge_jugs : (s.putAge x).jugs = s.jugs := rfl
@[simp] theorem putAge_fab : (s.putAge x).fab = s.fab := rfl
@[simp] theorem putAge_ibu : (s.putAge x).ibu = s.ibu := rfl
@[simp] theorem putAge_tests : (s.putAge x).tests = s.tests := rfl
@[simp] theorem putAge_testLog : (s.putAge x).testLog = s.testLog := rfl
@[simp] theorem putAge_failLog : (s.putAge x).failLog = s.failLog := rfl
@[simp] theorem putAge_scanIr : (s.putAge x).scanIr = s.scanIr := rfl
@[simp] theorem putAge_keep : (s.putAge x).keep = s.keep := rfl
@[simp] theorem putAge_fw : (s.putAge x).fw = s.fw := rfl
@[simp] theorem putAge_power : (s.putAge x).power = s.power := rfl
@[simp] theorem putAge_therm : (s.putAge x).therm = s.therm := rfl
@[simp] theorem putAge_cool : (s.putAge x).cool = s.cool := rfl
@[simp] theorem putAge_safety : (s.putAge x).safety = s.safety := rfl
@[simp] theorem putAge_age : (s.putAge x).age = x := rfl
@[simp] theorem putAge_tw : (s.putAge x).tw = s.tw := rfl
@[simp] theorem putAge_recorder : (s.putAge x).recorder = s.recorder := rfl
@[simp] theorem putAge_acl : (s.putAge x).acl = s.acl := rfl
@[simp] theorem putAge_aclStart : (s.putAge x).aclStart = s.aclStart := rfl
@[simp] theorem putAge_latches : (s.putAge x).latches = s.latches := rfl
@[simp] theorem putAge_outbox : (s.putAge x).outbox = s.outbox := rfl
end age

section tw
variable (x : TwState)
@[simp] theorem putTw_pending : (s.putTw x).pending = s.pending := rfl
@[simp] theorem putTw_now : (s.putTw x).now = s.now := rfl
@[simp] theorem putTw_free : (s.putTw x).free = s.free := rfl
@[simp] theorem putTw_regs : (s.putTw x).regs = s.regs := rfl
@[simp] theorem putTw_beat : (s.putTw x).beat = s.beat := rfl
@[simp] theorem putTw_slotStop : (s.putTw x).slotStop = s.slotStop := rfl
@[simp] theorem putTw_host : (s.putTw x).host = s.host := rfl
@[simp] theorem putTw_hbm : (s.putTw x).hbm = s.hbm := rfl
@[simp] theorem putTw_hbmErr : (s.putTw x).hbmErr = s.hbmErr := rfl
@[simp] theorem putTw_stacks : (s.putTw x).stackParts = s.stackParts := rfl
@[simp] theorem putTw_sram : (s.putTw x).sram = s.sram := rfl
@[simp] theorem putTw_sramBad : (s.putTw x).sramBad = s.sramBad := rfl
@[simp] theorem putTw_parts : (s.putTw x).parts = s.parts := rfl
@[simp] theorem putTw_tiles : (s.putTw x).tiles = s.tiles := rfl
@[simp] theorem putTw_energy : (s.putTw x).energy = s.energy := rfl
@[simp] theorem putTw_cores : (s.putTw x).cores = s.cores := rfl
@[simp] theorem putTw_queues : (s.putTw x).queues = s.queues := rfl
@[simp] theorem putTw_jugs : (s.putTw x).jugs = s.jugs := rfl
@[simp] theorem putTw_fab : (s.putTw x).fab = s.fab := rfl
@[simp] theorem putTw_ibu : (s.putTw x).ibu = s.ibu := rfl
@[simp] theorem putTw_tests : (s.putTw x).tests = s.tests := rfl
@[simp] theorem putTw_testLog : (s.putTw x).testLog = s.testLog := rfl
@[simp] theorem putTw_failLog : (s.putTw x).failLog = s.failLog := rfl
@[simp] theorem putTw_scanIr : (s.putTw x).scanIr = s.scanIr := rfl
@[simp] theorem putTw_keep : (s.putTw x).keep = s.keep := rfl
@[simp] theorem putTw_fw : (s.putTw x).fw = s.fw := rfl
@[simp] theorem putTw_power : (s.putTw x).power = s.power := rfl
@[simp] theorem putTw_therm : (s.putTw x).therm = s.therm := rfl
@[simp] theorem putTw_cool : (s.putTw x).cool = s.cool := rfl
@[simp] theorem putTw_safety : (s.putTw x).safety = s.safety := rfl
@[simp] theorem putTw_age : (s.putTw x).age = s.age := rfl
@[simp] theorem putTw_tw : (s.putTw x).tw = x := rfl
@[simp] theorem putTw_recorder : (s.putTw x).recorder = s.recorder := rfl
@[simp] theorem putTw_acl : (s.putTw x).acl = s.acl := rfl
@[simp] theorem putTw_aclStart : (s.putTw x).aclStart = s.aclStart := rfl
@[simp] theorem putTw_latches : (s.putTw x).latches = s.latches := rfl
@[simp] theorem putTw_outbox : (s.putTw x).outbox = s.outbox := rfl
end tw

section recorder
variable (x : RecState)
@[simp] theorem putRecorder_pending : (s.putRecorder x).pending = s.pending := rfl
@[simp] theorem putRecorder_now : (s.putRecorder x).now = s.now := rfl
@[simp] theorem putRecorder_free : (s.putRecorder x).free = s.free := rfl
@[simp] theorem putRecorder_regs : (s.putRecorder x).regs = s.regs := rfl
@[simp] theorem putRecorder_beat : (s.putRecorder x).beat = s.beat := rfl
@[simp] theorem putRecorder_slotStop : (s.putRecorder x).slotStop = s.slotStop := rfl
@[simp] theorem putRecorder_host : (s.putRecorder x).host = s.host := rfl
@[simp] theorem putRecorder_hbm : (s.putRecorder x).hbm = s.hbm := rfl
@[simp] theorem putRecorder_hbmErr : (s.putRecorder x).hbmErr = s.hbmErr := rfl
@[simp] theorem putRecorder_stacks : (s.putRecorder x).stackParts = s.stackParts := rfl
@[simp] theorem putRecorder_sram : (s.putRecorder x).sram = s.sram := rfl
@[simp] theorem putRecorder_sramBad : (s.putRecorder x).sramBad = s.sramBad := rfl
@[simp] theorem putRecorder_parts : (s.putRecorder x).parts = s.parts := rfl
@[simp] theorem putRecorder_tiles : (s.putRecorder x).tiles = s.tiles := rfl
@[simp] theorem putRecorder_energy : (s.putRecorder x).energy = s.energy := rfl
@[simp] theorem putRecorder_cores : (s.putRecorder x).cores = s.cores := rfl
@[simp] theorem putRecorder_queues : (s.putRecorder x).queues = s.queues := rfl
@[simp] theorem putRecorder_jugs : (s.putRecorder x).jugs = s.jugs := rfl
@[simp] theorem putRecorder_fab : (s.putRecorder x).fab = s.fab := rfl
@[simp] theorem putRecorder_ibu : (s.putRecorder x).ibu = s.ibu := rfl
@[simp] theorem putRecorder_tests : (s.putRecorder x).tests = s.tests := rfl
@[simp] theorem putRecorder_testLog : (s.putRecorder x).testLog = s.testLog := rfl
@[simp] theorem putRecorder_failLog : (s.putRecorder x).failLog = s.failLog := rfl
@[simp] theorem putRecorder_scanIr : (s.putRecorder x).scanIr = s.scanIr := rfl
@[simp] theorem putRecorder_keep : (s.putRecorder x).keep = s.keep := rfl
@[simp] theorem putRecorder_fw : (s.putRecorder x).fw = s.fw := rfl
@[simp] theorem putRecorder_power : (s.putRecorder x).power = s.power := rfl
@[simp] theorem putRecorder_therm : (s.putRecorder x).therm = s.therm := rfl
@[simp] theorem putRecorder_cool : (s.putRecorder x).cool = s.cool := rfl
@[simp] theorem putRecorder_safety : (s.putRecorder x).safety = s.safety := rfl
@[simp] theorem putRecorder_age : (s.putRecorder x).age = s.age := rfl
@[simp] theorem putRecorder_tw : (s.putRecorder x).tw = s.tw := rfl
@[simp] theorem putRecorder_recorder : (s.putRecorder x).recorder = x := rfl
@[simp] theorem putRecorder_acl : (s.putRecorder x).acl = s.acl := rfl
@[simp] theorem putRecorder_aclStart : (s.putRecorder x).aclStart = s.aclStart := rfl
@[simp] theorem putRecorder_latches : (s.putRecorder x).latches = s.latches := rfl
@[simp] theorem putRecorder_outbox : (s.putRecorder x).outbox = s.outbox := rfl
end recorder

section acl
variable (x : Assoc (Option Nat))
@[simp] theorem putAcl_pending : (s.putAcl x).pending = s.pending := rfl
@[simp] theorem putAcl_now : (s.putAcl x).now = s.now := rfl
@[simp] theorem putAcl_free : (s.putAcl x).free = s.free := rfl
@[simp] theorem putAcl_regs : (s.putAcl x).regs = s.regs := rfl
@[simp] theorem putAcl_beat : (s.putAcl x).beat = s.beat := rfl
@[simp] theorem putAcl_slotStop : (s.putAcl x).slotStop = s.slotStop := rfl
@[simp] theorem putAcl_host : (s.putAcl x).host = s.host := rfl
@[simp] theorem putAcl_hbm : (s.putAcl x).hbm = s.hbm := rfl
@[simp] theorem putAcl_hbmErr : (s.putAcl x).hbmErr = s.hbmErr := rfl
@[simp] theorem putAcl_stacks : (s.putAcl x).stackParts = s.stackParts := rfl
@[simp] theorem putAcl_sram : (s.putAcl x).sram = s.sram := rfl
@[simp] theorem putAcl_sramBad : (s.putAcl x).sramBad = s.sramBad := rfl
@[simp] theorem putAcl_parts : (s.putAcl x).parts = s.parts := rfl
@[simp] theorem putAcl_tiles : (s.putAcl x).tiles = s.tiles := rfl
@[simp] theorem putAcl_energy : (s.putAcl x).energy = s.energy := rfl
@[simp] theorem putAcl_cores : (s.putAcl x).cores = s.cores := rfl
@[simp] theorem putAcl_queues : (s.putAcl x).queues = s.queues := rfl
@[simp] theorem putAcl_jugs : (s.putAcl x).jugs = s.jugs := rfl
@[simp] theorem putAcl_fab : (s.putAcl x).fab = s.fab := rfl
@[simp] theorem putAcl_ibu : (s.putAcl x).ibu = s.ibu := rfl
@[simp] theorem putAcl_tests : (s.putAcl x).tests = s.tests := rfl
@[simp] theorem putAcl_testLog : (s.putAcl x).testLog = s.testLog := rfl
@[simp] theorem putAcl_failLog : (s.putAcl x).failLog = s.failLog := rfl
@[simp] theorem putAcl_scanIr : (s.putAcl x).scanIr = s.scanIr := rfl
@[simp] theorem putAcl_keep : (s.putAcl x).keep = s.keep := rfl
@[simp] theorem putAcl_fw : (s.putAcl x).fw = s.fw := rfl
@[simp] theorem putAcl_power : (s.putAcl x).power = s.power := rfl
@[simp] theorem putAcl_therm : (s.putAcl x).therm = s.therm := rfl
@[simp] theorem putAcl_cool : (s.putAcl x).cool = s.cool := rfl
@[simp] theorem putAcl_safety : (s.putAcl x).safety = s.safety := rfl
@[simp] theorem putAcl_age : (s.putAcl x).age = s.age := rfl
@[simp] theorem putAcl_tw : (s.putAcl x).tw = s.tw := rfl
@[simp] theorem putAcl_recorder : (s.putAcl x).recorder = s.recorder := rfl
@[simp] theorem putAcl_acl : (s.putAcl x).acl = x := rfl
@[simp] theorem putAcl_aclStart : (s.putAcl x).aclStart = s.aclStart := rfl
@[simp] theorem putAcl_latches : (s.putAcl x).latches = s.latches := rfl
@[simp] theorem putAcl_outbox : (s.putAcl x).outbox = s.outbox := rfl
end acl

section aclStart
variable (x : Assoc (Option Nat))
@[simp] theorem putAclStart_pending : (s.putAclStart x).pending = s.pending := rfl
@[simp] theorem putAclStart_now : (s.putAclStart x).now = s.now := rfl
@[simp] theorem putAclStart_free : (s.putAclStart x).free = s.free := rfl
@[simp] theorem putAclStart_regs : (s.putAclStart x).regs = s.regs := rfl
@[simp] theorem putAclStart_beat : (s.putAclStart x).beat = s.beat := rfl
@[simp] theorem putAclStart_slotStop : (s.putAclStart x).slotStop = s.slotStop := rfl
@[simp] theorem putAclStart_host : (s.putAclStart x).host = s.host := rfl
@[simp] theorem putAclStart_hbm : (s.putAclStart x).hbm = s.hbm := rfl
@[simp] theorem putAclStart_hbmErr : (s.putAclStart x).hbmErr = s.hbmErr := rfl
@[simp] theorem putAclStart_stacks : (s.putAclStart x).stackParts = s.stackParts := rfl
@[simp] theorem putAclStart_sram : (s.putAclStart x).sram = s.sram := rfl
@[simp] theorem putAclStart_sramBad : (s.putAclStart x).sramBad = s.sramBad := rfl
@[simp] theorem putAclStart_parts : (s.putAclStart x).parts = s.parts := rfl
@[simp] theorem putAclStart_tiles : (s.putAclStart x).tiles = s.tiles := rfl
@[simp] theorem putAclStart_energy : (s.putAclStart x).energy = s.energy := rfl
@[simp] theorem putAclStart_cores : (s.putAclStart x).cores = s.cores := rfl
@[simp] theorem putAclStart_queues : (s.putAclStart x).queues = s.queues := rfl
@[simp] theorem putAclStart_jugs : (s.putAclStart x).jugs = s.jugs := rfl
@[simp] theorem putAclStart_fab : (s.putAclStart x).fab = s.fab := rfl
@[simp] theorem putAclStart_ibu : (s.putAclStart x).ibu = s.ibu := rfl
@[simp] theorem putAclStart_tests : (s.putAclStart x).tests = s.tests := rfl
@[simp] theorem putAclStart_testLog : (s.putAclStart x).testLog = s.testLog := rfl
@[simp] theorem putAclStart_failLog : (s.putAclStart x).failLog = s.failLog := rfl
@[simp] theorem putAclStart_scanIr : (s.putAclStart x).scanIr = s.scanIr := rfl
@[simp] theorem putAclStart_keep : (s.putAclStart x).keep = s.keep := rfl
@[simp] theorem putAclStart_fw : (s.putAclStart x).fw = s.fw := rfl
@[simp] theorem putAclStart_power : (s.putAclStart x).power = s.power := rfl
@[simp] theorem putAclStart_therm : (s.putAclStart x).therm = s.therm := rfl
@[simp] theorem putAclStart_cool : (s.putAclStart x).cool = s.cool := rfl
@[simp] theorem putAclStart_safety : (s.putAclStart x).safety = s.safety := rfl
@[simp] theorem putAclStart_age : (s.putAclStart x).age = s.age := rfl
@[simp] theorem putAclStart_tw : (s.putAclStart x).tw = s.tw := rfl
@[simp] theorem putAclStart_recorder : (s.putAclStart x).recorder = s.recorder := rfl
@[simp] theorem putAclStart_acl : (s.putAclStart x).acl = s.acl := rfl
@[simp] theorem putAclStart_aclStart : (s.putAclStart x).aclStart = x := rfl
@[simp] theorem putAclStart_latches : (s.putAclStart x).latches = s.latches := rfl
@[simp] theorem putAclStart_outbox : (s.putAclStart x).outbox = s.outbox := rfl
end aclStart

section latches
variable (x : Assoc Nat)
@[simp] theorem putLatches_pending : (s.putLatches x).pending = s.pending := rfl
@[simp] theorem putLatches_now : (s.putLatches x).now = s.now := rfl
@[simp] theorem putLatches_free : (s.putLatches x).free = s.free := rfl
@[simp] theorem putLatches_regs : (s.putLatches x).regs = s.regs := rfl
@[simp] theorem putLatches_beat : (s.putLatches x).beat = s.beat := rfl
@[simp] theorem putLatches_slotStop : (s.putLatches x).slotStop = s.slotStop := rfl
@[simp] theorem putLatches_host : (s.putLatches x).host = s.host := rfl
@[simp] theorem putLatches_hbm : (s.putLatches x).hbm = s.hbm := rfl
@[simp] theorem putLatches_hbmErr : (s.putLatches x).hbmErr = s.hbmErr := rfl
@[simp] theorem putLatches_stacks : (s.putLatches x).stackParts = s.stackParts := rfl
@[simp] theorem putLatches_sram : (s.putLatches x).sram = s.sram := rfl
@[simp] theorem putLatches_sramBad : (s.putLatches x).sramBad = s.sramBad := rfl
@[simp] theorem putLatches_parts : (s.putLatches x).parts = s.parts := rfl
@[simp] theorem putLatches_tiles : (s.putLatches x).tiles = s.tiles := rfl
@[simp] theorem putLatches_energy : (s.putLatches x).energy = s.energy := rfl
@[simp] theorem putLatches_cores : (s.putLatches x).cores = s.cores := rfl
@[simp] theorem putLatches_queues : (s.putLatches x).queues = s.queues := rfl
@[simp] theorem putLatches_jugs : (s.putLatches x).jugs = s.jugs := rfl
@[simp] theorem putLatches_fab : (s.putLatches x).fab = s.fab := rfl
@[simp] theorem putLatches_ibu : (s.putLatches x).ibu = s.ibu := rfl
@[simp] theorem putLatches_tests : (s.putLatches x).tests = s.tests := rfl
@[simp] theorem putLatches_testLog : (s.putLatches x).testLog = s.testLog := rfl
@[simp] theorem putLatches_failLog : (s.putLatches x).failLog = s.failLog := rfl
@[simp] theorem putLatches_scanIr : (s.putLatches x).scanIr = s.scanIr := rfl
@[simp] theorem putLatches_keep : (s.putLatches x).keep = s.keep := rfl
@[simp] theorem putLatches_fw : (s.putLatches x).fw = s.fw := rfl
@[simp] theorem putLatches_power : (s.putLatches x).power = s.power := rfl
@[simp] theorem putLatches_therm : (s.putLatches x).therm = s.therm := rfl
@[simp] theorem putLatches_cool : (s.putLatches x).cool = s.cool := rfl
@[simp] theorem putLatches_safety : (s.putLatches x).safety = s.safety := rfl
@[simp] theorem putLatches_age : (s.putLatches x).age = s.age := rfl
@[simp] theorem putLatches_tw : (s.putLatches x).tw = s.tw := rfl
@[simp] theorem putLatches_recorder : (s.putLatches x).recorder = s.recorder := rfl
@[simp] theorem putLatches_acl : (s.putLatches x).acl = s.acl := rfl
@[simp] theorem putLatches_aclStart : (s.putLatches x).aclStart = s.aclStart := rfl
@[simp] theorem putLatches_latches : (s.putLatches x).latches = x := rfl
@[simp] theorem putLatches_outbox : (s.putLatches x).outbox = s.outbox := rfl
end latches

section outbox
variable (x : List Out)
@[simp] theorem putOutbox_pending : (s.putOutbox x).pending = s.pending := rfl
@[simp] theorem putOutbox_now : (s.putOutbox x).now = s.now := rfl
@[simp] theorem putOutbox_free : (s.putOutbox x).free = s.free := rfl
@[simp] theorem putOutbox_regs : (s.putOutbox x).regs = s.regs := rfl
@[simp] theorem putOutbox_beat : (s.putOutbox x).beat = s.beat := rfl
@[simp] theorem putOutbox_slotStop : (s.putOutbox x).slotStop = s.slotStop := rfl
@[simp] theorem putOutbox_host : (s.putOutbox x).host = s.host := rfl
@[simp] theorem putOutbox_hbm : (s.putOutbox x).hbm = s.hbm := rfl
@[simp] theorem putOutbox_hbmErr : (s.putOutbox x).hbmErr = s.hbmErr := rfl
@[simp] theorem putOutbox_stacks : (s.putOutbox x).stackParts = s.stackParts := rfl
@[simp] theorem putOutbox_sram : (s.putOutbox x).sram = s.sram := rfl
@[simp] theorem putOutbox_sramBad : (s.putOutbox x).sramBad = s.sramBad := rfl
@[simp] theorem putOutbox_parts : (s.putOutbox x).parts = s.parts := rfl
@[simp] theorem putOutbox_tiles : (s.putOutbox x).tiles = s.tiles := rfl
@[simp] theorem putOutbox_energy : (s.putOutbox x).energy = s.energy := rfl
@[simp] theorem putOutbox_cores : (s.putOutbox x).cores = s.cores := rfl
@[simp] theorem putOutbox_queues : (s.putOutbox x).queues = s.queues := rfl
@[simp] theorem putOutbox_jugs : (s.putOutbox x).jugs = s.jugs := rfl
@[simp] theorem putOutbox_fab : (s.putOutbox x).fab = s.fab := rfl
@[simp] theorem putOutbox_ibu : (s.putOutbox x).ibu = s.ibu := rfl
@[simp] theorem putOutbox_tests : (s.putOutbox x).tests = s.tests := rfl
@[simp] theorem putOutbox_testLog : (s.putOutbox x).testLog = s.testLog := rfl
@[simp] theorem putOutbox_failLog : (s.putOutbox x).failLog = s.failLog := rfl
@[simp] theorem putOutbox_scanIr : (s.putOutbox x).scanIr = s.scanIr := rfl
@[simp] theorem putOutbox_keep : (s.putOutbox x).keep = s.keep := rfl
@[simp] theorem putOutbox_fw : (s.putOutbox x).fw = s.fw := rfl
@[simp] theorem putOutbox_power : (s.putOutbox x).power = s.power := rfl
@[simp] theorem putOutbox_therm : (s.putOutbox x).therm = s.therm := rfl
@[simp] theorem putOutbox_cool : (s.putOutbox x).cool = s.cool := rfl
@[simp] theorem putOutbox_safety : (s.putOutbox x).safety = s.safety := rfl
@[simp] theorem putOutbox_age : (s.putOutbox x).age = s.age := rfl
@[simp] theorem putOutbox_tw : (s.putOutbox x).tw = s.tw := rfl
@[simp] theorem putOutbox_recorder : (s.putOutbox x).recorder = s.recorder := rfl
@[simp] theorem putOutbox_acl : (s.putOutbox x).acl = s.acl := rfl
@[simp] theorem putOutbox_aclStart : (s.putOutbox x).aclStart = s.aclStart := rfl
@[simp] theorem putOutbox_latches : (s.putOutbox x).latches = s.latches := rfl
@[simp] theorem putOutbox_outbox : (s.putOutbox x).outbox = x := rfl
end outbox

end Sys2Proof.Machine.State
end

