-- ==== Sys2Proof/Laws/Regs.lean ====
section
/-! SUPPORT. The operations on registers and on the sparse parts: the read after each, and what each leaves as it was. -/

namespace Sys2Proof.Machine

/-! Register fields. -/

@[simp] theorem State.rd_wr (s : State) (f : Fld) (v i j : Nat) : (s.wr f v i j).rd f i j = v % 2 ^ f.w := by
  simp only [State.rd, State.wr, State.putRegs_regs, Assoc.get_put, if_true]

/-- A write of one field leaves a field with another home as it was. -/
theorem State.rd_wr_ne (s : State) (f g : Fld) (v i j i' j' : Nat) (h : g.key i' j' ≠ f.key i j) : (s.wr f v i j).rd g i' j' = s.rd g i' j' := by
  simp only [State.rd, State.wr, State.putRegs_regs, Assoc.get_put_ne _ _ _ _ _ _ h]

@[simp] theorem State.rd_clr (s : State) (f : Fld) (i j : Nat) : (s.clr f i j).rd f i j = f.rst i j := by
  simp only [State.rd, State.clr, State.putRegs_regs, Assoc.get_del, if_true]

/-- A counter saturates at its width. -/
theorem State.rd_add (s : State) (f : Fld) (n i j : Nat) : (s.add f n i j).rd f i j = min (s.rd f i j + n) (2 ^ f.w - 1) := by
  have : 0 < 2 ^ f.w := Nat.pow_pos (by decide)
  rw [State.add, State.rd_wr, Nat.mod_eq_of_lt]
  omega

/-! Sparse parts. -/

theorem State.part_setPart (s : State) (n m : Nat) (x : PartState) : (s.setPart n x).part m = if m = n then x else s.part m := by
  simp only [State.part, State.setPart, State.putParts_parts, Assoc.get_put]

theorem State.tile_setTile (s : State) (n m : Nat) (x : TileState) : (s.setTile n x).tile m = if m = n then x else s.tile m := by
  simp only [State.tile, State.setTile, State.putTiles_tiles, Assoc.get_put]

theorem State.core_setCore (s : State) (n m : Nat) (x : CoreState) : (s.setCore n x).core m = if m = n then x else s.core m := by
  simp only [State.core, State.setCore, State.putCores_cores, Assoc.get_put]

theorem State.queue_setQueue (s : State) (n m : Nat) (x : Queue) : (s.setQueue n x).queue m = if m = n then x else s.queue m := by
  simp only [State.queue, State.setQueue, State.putQueues_queues, Assoc.get_put]

theorem State.jug_setJug (s : State) (n m : Nat) (x : JugTile) : (s.setJug n x).jug m = if m = n then x else s.jug m := by
  simp only [State.jug, State.setJug, State.putJugs_jugs, Assoc.get_put]

theorem State.stk_setStk (s : State) (n m : Nat) (x : StackState) : (s.setStk n x).stk m = if m = n then x else s.stk m := by
  simp only [State.stk, State.setStk, State.putStacks_stacks, Assoc.get_put]

/-! Fields that an operation leaves as they were. -/

@[simp] theorem State.wr_pending (s : State) (f : Fld) (v i j : Nat) : (s.wr f v i j).pending = s.pending := rfl
@[simp] theorem State.wr_now (s : State) (f : Fld) (v i j : Nat) : (s.wr f v i j).now = s.now := rfl
@[simp] theorem State.wr_free (s : State) (f : Fld) (v i j : Nat) : (s.wr f v i j).free = s.free := rfl
@[simp] theorem State.wr_beat (s : State) (f : Fld) (v i j : Nat) : (s.wr f v i j).beat = s.beat := rfl
@[simp] theorem State.wr_slotStop (s : State) (f : Fld) (v i j : Nat) : (s.wr f v i j).slotStop = s.slotStop := rfl
@[simp] theorem State.wr_host (s : State) (f : Fld) (v i j : Nat) : (s.wr f v i j).host = s.host := rfl
@[simp] theorem State.wr_hbm (s : State) (f : Fld) (v i j : Nat) : (s.wr f v i j).hbm = s.hbm := rfl
@[simp] theorem State.wr_hbmErr (s : State) (f : Fld) (v i j : Nat) : (s.wr f v i j).hbmErr = s.hbmErr := rfl
@[simp] theorem State.wr_stacks (s : State) (f : Fld) (v i j : Nat) : (s.wr f v i j).stackParts = s.stackParts := rfl
@[simp] theorem State.wr_sram (s : State) (f : Fld) (v i j : Nat) : (s.wr f v i j).sram = s.sram := rfl
@[simp] theorem State.wr_sramBad (s : State) (f : Fld) (v i j : Nat) : (s.wr f v i j).sramBad = s.sramBad := rfl
@[simp] theorem State.wr_parts (s : State) (f : Fld) (v i j : Nat) : (s.wr f v i j).parts = s.parts := rfl
@[simp] theorem State.wr_tiles (s : State) (f : Fld) (v i j : Nat) : (s.wr f v i j).tiles = s.tiles := rfl
@[simp] theorem State.wr_energy (s : State) (f : Fld) (v i j : Nat) : (s.wr f v i j).energy = s.energy := rfl
@[simp] theorem State.wr_cores (s : State) (f : Fld) (v i j : Nat) : (s.wr f v i j).cores = s.cores := rfl
@[simp] theorem State.wr_queues (s : State) (f : Fld) (v i j : Nat) : (s.wr f v i j).queues = s.queues := rfl
@[simp] theorem State.wr_jugs (s : State) (f : Fld) (v i j : Nat) : (s.wr f v i j).jugs = s.jugs := rfl
@[simp] theorem State.wr_fab (s : State) (f : Fld) (v i j : Nat) : (s.wr f v i j).fab = s.fab := rfl
@[simp] theorem State.wr_ibu (s : State) (f : Fld) (v i j : Nat) : (s.wr f v i j).ibu = s.ibu := rfl
@[simp] theorem State.wr_tests (s : State) (f : Fld) (v i j : Nat) : (s.wr f v i j).tests = s.tests := rfl
@[simp] theorem State.wr_testLog (s : State) (f : Fld) (v i j : Nat) : (s.wr f v i j).testLog = s.testLog := rfl
@[simp] theorem State.wr_failLog (s : State) (f : Fld) (v i j : Nat) : (s.wr f v i j).failLog = s.failLog := rfl
@[simp] theorem State.wr_scanIr (s : State) (f : Fld) (v i j : Nat) : (s.wr f v i j).scanIr = s.scanIr := rfl
@[simp] theorem State.wr_keep (s : State) (f : Fld) (v i j : Nat) : (s.wr f v i j).keep = s.keep := rfl
@[simp] theorem State.wr_fw (s : State) (f : Fld) (v i j : Nat) : (s.wr f v i j).fw = s.fw := rfl
@[simp] theorem State.wr_power (s : State) (f : Fld) (v i j : Nat) : (s.wr f v i j).power = s.power := rfl
@[simp] theorem State.wr_therm (s : State) (f : Fld) (v i j : Nat) : (s.wr f v i j).therm = s.therm := rfl
@[simp] theorem State.wr_cool (s : State) (f : Fld) (v i j : Nat) : (s.wr f v i j).cool = s.cool := rfl
@[simp] theorem State.wr_safety (s : State) (f : Fld) (v i j : Nat) : (s.wr f v i j).safety = s.safety := rfl
@[simp] theorem State.wr_age (s : State) (f : Fld) (v i j : Nat) : (s.wr f v i j).age = s.age := rfl
@[simp] theorem State.wr_tw (s : State) (f : Fld) (v i j : Nat) : (s.wr f v i j).tw = s.tw := rfl
@[simp] theorem State.wr_recorder (s : State) (f : Fld) (v i j : Nat) : (s.wr f v i j).recorder = s.recorder := rfl
@[simp] theorem State.wr_acl (s : State) (f : Fld) (v i j : Nat) : (s.wr f v i j).acl = s.acl := rfl
@[simp] theorem State.wr_aclStart (s : State) (f : Fld) (v i j : Nat) : (s.wr f v i j).aclStart = s.aclStart := rfl
@[simp] theorem State.wr_latches (s : State) (f : Fld) (v i j : Nat) : (s.wr f v i j).latches = s.latches := rfl
@[simp] theorem State.wr_outbox (s : State) (f : Fld) (v i j : Nat) : (s.wr f v i j).outbox = s.outbox := rfl
@[simp] theorem State.add_pending (s : State) (f : Fld) (v i j : Nat) : (s.add f v i j).pending = s.pending := rfl
@[simp] theorem State.add_now (s : State) (f : Fld) (v i j : Nat) : (s.add f v i j).now = s.now := rfl
@[simp] theorem State.add_free (s : State) (f : Fld) (v i j : Nat) : (s.add f v i j).free = s.free := rfl
@[simp] theorem State.add_beat (s : State) (f : Fld) (v i j : Nat) : (s.add f v i j).beat = s.beat := rfl
@[simp] theorem State.add_slotStop (s : State) (f : Fld) (v i j : Nat) : (s.add f v i j).slotStop = s.slotStop := rfl
@[simp] theorem State.add_host (s : State) (f : Fld) (v i j : Nat) : (s.add f v i j).host = s.host := rfl
@[simp] theorem State.add_hbm (s : State) (f : Fld) (v i j : Nat) : (s.add f v i j).hbm = s.hbm := rfl
@[simp] theorem State.add_hbmErr (s : State) (f : Fld) (v i j : Nat) : (s.add f v i j).hbmErr = s.hbmErr := rfl
@[simp] theorem State.add_stacks (s : State) (f : Fld) (v i j : Nat) : (s.add f v i j).stackParts = s.stackParts := rfl
@[simp] theorem State.add_sram (s : State) (f : Fld) (v i j : Nat) : (s.add f v i j).sram = s.sram := rfl
@[simp] theorem State.add_sramBad (s : State) (f : Fld) (v i j : Nat) : (s.add f v i j).sramBad = s.sramBad := rfl
@[simp] theorem State.add_parts (s : State) (f : Fld) (v i j : Nat) : (s.add f v i j).parts = s.parts := rfl
@[simp] theorem State.add_tiles (s : State) (f : Fld) (v i j : Nat) : (s.add f v i j).tiles = s.tiles := rfl
@[simp] theorem State.add_energy (s : State) (f : Fld) (v i j : Nat) : (s.add f v i j).energy = s.energy := rfl
@[simp] theorem State.add_cores (s : State) (f : Fld) (v i j : Nat) : (s.add f v i j).cores = s.cores := rfl
@[simp] theorem State.add_queues (s : State) (f : Fld) (v i j : Nat) : (s.add f v i j).queues = s.queues := rfl
@[simp] theorem State.add_jugs (s : State) (f : Fld) (v i j : Nat) : (s.add f v i j).jugs = s.jugs := rfl
@[simp] theorem State.add_fab (s : State) (f : Fld) (v i j : Nat) : (s.add f v i j).fab = s.fab := rfl
@[simp] theorem State.add_ibu (s : State) (f : Fld) (v i j : Nat) : (s.add f v i j).ibu = s.ibu := rfl
@[simp] theorem State.add_tests (s : State) (f : Fld) (v i j : Nat) : (s.add f v i j).tests = s.tests := rfl
@[simp] theorem State.add_testLog (s : State) (f : Fld) (v i j : Nat) : (s.add f v i j).testLog = s.testLog := rfl
@[simp] theorem State.add_failLog (s : State) (f : Fld) (v i j : Nat) : (s.add f v i j).failLog = s.failLog := rfl
@[simp] theorem State.add_scanIr (s : State) (f : Fld) (v i j : Nat) : (s.add f v i j).scanIr = s.scanIr := rfl
@[simp] theorem State.add_keep (s : State) (f : Fld) (v i j : Nat) : (s.add f v i j).keep = s.keep := rfl
@[simp] theorem State.add_fw (s : State) (f : Fld) (v i j : Nat) : (s.add f v i j).fw = s.fw := rfl
@[simp] theorem State.add_power (s : State) (f : Fld) (v i j : Nat) : (s.add f v i j).power = s.power := rfl
@[simp] theorem State.add_therm (s : State) (f : Fld) (v i j : Nat) : (s.add f v i j).therm = s.therm := rfl
@[simp] theorem State.add_cool (s : State) (f : Fld) (v i j : Nat) : (s.add f v i j).cool = s.cool := rfl
@[simp] theorem State.add_safety (s : State) (f : Fld) (v i j : Nat) : (s.add f v i j).safety = s.safety := rfl
@[simp] theorem State.add_age (s : State) (f : Fld) (v i j : Nat) : (s.add f v i j).age = s.age := rfl
@[simp] theorem State.add_tw (s : State) (f : Fld) (v i j : Nat) : (s.add f v i j).tw = s.tw := rfl
@[simp] theorem State.add_recorder (s : State) (f : Fld) (v i j : Nat) : (s.add f v i j).recorder = s.recorder := rfl
@[simp] theorem State.add_acl (s : State) (f : Fld) (v i j : Nat) : (s.add f v i j).acl = s.acl := rfl
@[simp] theorem State.add_aclStart (s : State) (f : Fld) (v i j : Nat) : (s.add f v i j).aclStart = s.aclStart := rfl
@[simp] theorem State.add_latches (s : State) (f : Fld) (v i j : Nat) : (s.add f v i j).latches = s.latches := rfl
@[simp] theorem State.add_outbox (s : State) (f : Fld) (v i j : Nat) : (s.add f v i j).outbox = s.outbox := rfl
@[simp] theorem State.clr_pending (s : State) (f : Fld) (i j : Nat) : (s.clr f i j).pending = s.pending := rfl
@[simp] theorem State.clr_now (s : State) (f : Fld) (i j : Nat) : (s.clr f i j).now = s.now := rfl
@[simp] theorem State.clr_free (s : State) (f : Fld) (i j : Nat) : (s.clr f i j).free = s.free := rfl
@[simp] theorem State.clr_beat (s : State) (f : Fld) (i j : Nat) : (s.clr f i j).beat = s.beat := rfl
@[simp] theorem State.clr_slotStop (s : State) (f : Fld) (i j : Nat) : (s.clr f i j).slotStop = s.slotStop := rfl
@[simp] theorem State.clr_host (s : State) (f : Fld) (i j : Nat) : (s.clr f i j).host = s.host := rfl
@[simp] theorem State.clr_hbm (s : State) (f : Fld) (i j : Nat) : (s.clr f i j).hbm = s.hbm := rfl
@[simp] theorem State.clr_hbmErr (s : State) (f : Fld) (i j : Nat) : (s.clr f i j).hbmErr = s.hbmErr := rfl
@[simp] theorem State.clr_stacks (s : State) (f : Fld) (i j : Nat) : (s.clr f i j).stackParts = s.stackParts := rfl
@[simp] theorem State.clr_sram (s : State) (f : Fld) (i j : Nat) : (s.clr f i j).sram = s.sram := rfl
@[simp] theorem State.clr_sramBad (s : State) (f : Fld) (i j : Nat) : (s.clr f i j).sramBad = s.sramBad := rfl
@[simp] theorem State.clr_parts (s : State) (f : Fld) (i j : Nat) : (s.clr f i j).parts = s.parts := rfl
@[simp] theorem State.clr_tiles (s : State) (f : Fld) (i j : Nat) : (s.clr f i j).tiles = s.tiles := rfl
@[simp] theorem State.clr_energy (s : State) (f : Fld) (i j : Nat) : (s.clr f i j).energy = s.energy := rfl
@[simp] theorem State.clr_cores (s : State) (f : Fld) (i j : Nat) : (s.clr f i j).cores = s.cores := rfl
@[simp] theorem State.clr_queues (s : State) (f : Fld) (i j : Nat) : (s.clr f i j).queues = s.queues := rfl
@[simp] theorem State.clr_jugs (s : State) (f : Fld) (i j : Nat) : (s.clr f i j).jugs = s.jugs := rfl
@[simp] theorem State.clr_fab (s : State) (f : Fld) (i j : Nat) : (s.clr f i j).fab = s.fab := rfl
@[simp] theorem State.clr_ibu (s : State) (f : Fld) (i j : Nat) : (s.clr f i j).ibu = s.ibu := rfl
@[simp] theorem State.clr_tests (s : State) (f : Fld) (i j : Nat) : (s.clr f i j).tests = s.tests := rfl
@[simp] theorem State.clr_testLog (s : State) (f : Fld) (i j : Nat) : (s.clr f i j).testLog = s.testLog := rfl
@[simp] theorem State.clr_failLog (s : State) (f : Fld) (i j : Nat) : (s.clr f i j).failLog = s.failLog := rfl
@[simp] theorem State.clr_scanIr (s : State) (f : Fld) (i j : Nat) : (s.clr f i j).scanIr = s.scanIr := rfl
@[simp] theorem State.clr_keep (s : State) (f : Fld) (i j : Nat) : (s.clr f i j).keep = s.keep := rfl
@[simp] theorem State.clr_fw (s : State) (f : Fld) (i j : Nat) : (s.clr f i j).fw = s.fw := rfl
@[simp] theorem State.clr_power (s : State) (f : Fld) (i j : Nat) : (s.clr f i j).power = s.power := rfl
@[simp] theorem State.clr_therm (s : State) (f : Fld) (i j : Nat) : (s.clr f i j).therm = s.therm := rfl
@[simp] theorem State.clr_cool (s : State) (f : Fld) (i j : Nat) : (s.clr f i j).cool = s.cool := rfl
@[simp] theorem State.clr_safety (s : State) (f : Fld) (i j : Nat) : (s.clr f i j).safety = s.safety := rfl
@[simp] theorem State.clr_age (s : State) (f : Fld) (i j : Nat) : (s.clr f i j).age = s.age := rfl
@[simp] theorem State.clr_tw (s : State) (f : Fld) (i j : Nat) : (s.clr f i j).tw = s.tw := rfl
@[simp] theorem State.clr_recorder (s : State) (f : Fld) (i j : Nat) : (s.clr f i j).recorder = s.recorder := rfl
@[simp] theorem State.clr_acl (s : State) (f : Fld) (i j : Nat) : (s.clr f i j).acl = s.acl := rfl
@[simp] theorem State.clr_aclStart (s : State) (f : Fld) (i j : Nat) : (s.clr f i j).aclStart = s.aclStart := rfl
@[simp] theorem State.clr_latches (s : State) (f : Fld) (i j : Nat) : (s.clr f i j).latches = s.latches := rfl
@[simp] theorem State.clr_outbox (s : State) (f : Fld) (i j : Nat) : (s.clr f i j).outbox = s.outbox := rfl
@[simp] theorem State.setBit_pending (s : State) (f : Fld) (b : Nat) (v : Bool) (i j : Nat) : (s.setBit f b v i j).pending = s.pending := rfl
@[simp] theorem State.setBit_now (s : State) (f : Fld) (b : Nat) (v : Bool) (i j : Nat) : (s.setBit f b v i j).now = s.now := rfl
@[simp] theorem State.setBit_free (s : State) (f : Fld) (b : Nat) (v : Bool) (i j : Nat) : (s.setBit f b v i j).free = s.free := rfl
@[simp] theorem State.setBit_beat (s : State) (f : Fld) (b : Nat) (v : Bool) (i j : Nat) : (s.setBit f b v i j).beat = s.beat := rfl
@[simp] theorem State.setBit_slotStop (s : State) (f : Fld) (b : Nat) (v : Bool) (i j : Nat) : (s.setBit f b v i j).slotStop = s.slotStop := rfl
@[simp] theorem State.setBit_host (s : State) (f : Fld) (b : Nat) (v : Bool) (i j : Nat) : (s.setBit f b v i j).host = s.host := rfl
@[simp] theorem State.setBit_hbm (s : State) (f : Fld) (b : Nat) (v : Bool) (i j : Nat) : (s.setBit f b v i j).hbm = s.hbm := rfl
@[simp] theorem State.setBit_hbmErr (s : State) (f : Fld) (b : Nat) (v : Bool) (i j : Nat) : (s.setBit f b v i j).hbmErr = s.hbmErr := rfl
@[simp] theorem State.setBit_stacks (s : State) (f : Fld) (b : Nat) (v : Bool) (i j : Nat) : (s.setBit f b v i j).stackParts = s.stackParts := rfl
@[simp] theorem State.setBit_sram (s : State) (f : Fld) (b : Nat) (v : Bool) (i j : Nat) : (s.setBit f b v i j).sram = s.sram := rfl
@[simp] theorem State.setBit_sramBad (s : State) (f : Fld) (b : Nat) (v : Bool) (i j : Nat) : (s.setBit f b v i j).sramBad = s.sramBad := rfl
@[simp] theorem State.setBit_parts (s : State) (f : Fld) (b : Nat) (v : Bool) (i j : Nat) : (s.setBit f b v i j).parts = s.parts := rfl
@[simp] theorem State.setBit_tiles (s : State) (f : Fld) (b : Nat) (v : Bool) (i j : Nat) : (s.setBit f b v i j).tiles = s.tiles := rfl
@[simp] theorem State.setBit_energy (s : State) (f : Fld) (b : Nat) (v : Bool) (i j : Nat) : (s.setBit f b v i j).energy = s.energy := rfl
@[simp] theorem State.setBit_cores (s : State) (f : Fld) (b : Nat) (v : Bool) (i j : Nat) : (s.setBit f b v i j).cores = s.cores := rfl
@[simp] theorem State.setBit_queues (s : State) (f : Fld) (b : Nat) (v : Bool) (i j : Nat) : (s.setBit f b v i j).queues = s.queues := rfl
@[simp] theorem State.setBit_jugs (s : State) (f : Fld) (b : Nat) (v : Bool) (i j : Nat) : (s.setBit f b v i j).jugs = s.jugs := rfl
@[simp] theorem State.setBit_fab (s : State) (f : Fld) (b : Nat) (v : Bool) (i j : Nat) : (s.setBit f b v i j).fab = s.fab := rfl
@[simp] theorem State.setBit_ibu (s : State) (f : Fld) (b : Nat) (v : Bool) (i j : Nat) : (s.setBit f b v i j).ibu = s.ibu := rfl
@[simp] theorem State.setBit_tests (s : State) (f : Fld) (b : Nat) (v : Bool) (i j : Nat) : (s.setBit f b v i j).tests = s.tests := rfl
@[simp] theorem State.setBit_testLog (s : State) (f : Fld) (b : Nat) (v : Bool) (i j : Nat) : (s.setBit f b v i j).testLog = s.testLog := rfl
@[simp] theorem State.setBit_failLog (s : State) (f : Fld) (b : Nat) (v : Bool) (i j : Nat) : (s.setBit f b v i j).failLog = s.failLog := rfl
@[simp] theorem State.setBit_scanIr (s : State) (f : Fld) (b : Nat) (v : Bool) (i j : Nat) : (s.setBit f b v i j).scanIr = s.scanIr := rfl
@[simp] theorem State.setBit_keep (s : State) (f : Fld) (b : Nat) (v : Bool) (i j : Nat) : (s.setBit f b v i j).keep = s.keep := rfl
@[simp] theorem State.setBit_fw (s : State) (f : Fld) (b : Nat) (v : Bool) (i j : Nat) : (s.setBit f b v i j).fw = s.fw := rfl
@[simp] theorem State.setBit_power (s : State) (f : Fld) (b : Nat) (v : Bool) (i j : Nat) : (s.setBit f b v i j).power = s.power := rfl
@[simp] theorem State.setBit_therm (s : State) (f : Fld) (b : Nat) (v : Bool) (i j : Nat) : (s.setBit f b v i j).therm = s.therm := rfl
@[simp] theorem State.setBit_cool (s : State) (f : Fld) (b : Nat) (v : Bool) (i j : Nat) : (s.setBit f b v i j).cool = s.cool := rfl
@[simp] theorem State.setBit_safety (s : State) (f : Fld) (b : Nat) (v : Bool) (i j : Nat) : (s.setBit f b v i j).safety = s.safety := rfl
@[simp] theorem State.setBit_age (s : State) (f : Fld) (b : Nat) (v : Bool) (i j : Nat) : (s.setBit f b v i j).age = s.age := rfl
@[simp] theorem State.setBit_tw (s : State) (f : Fld) (b : Nat) (v : Bool) (i j : Nat) : (s.setBit f b v i j).tw = s.tw := rfl
@[simp] theorem State.setBit_recorder (s : State) (f : Fld) (b : Nat) (v : Bool) (i j : Nat) : (s.setBit f b v i j).recorder = s.recorder := rfl
@[simp] theorem State.setBit_acl (s : State) (f : Fld) (b : Nat) (v : Bool) (i j : Nat) : (s.setBit f b v i j).acl = s.acl := rfl
@[simp] theorem State.setBit_aclStart (s : State) (f : Fld) (b : Nat) (v : Bool) (i j : Nat) : (s.setBit f b v i j).aclStart = s.aclStart := rfl
@[simp] theorem State.setBit_latches (s : State) (f : Fld) (b : Nat) (v : Bool) (i j : Nat) : (s.setBit f b v i j).latches = s.latches := rfl
@[simp] theorem State.setBit_outbox (s : State) (f : Fld) (b : Nat) (v : Bool) (i j : Nat) : (s.setBit f b v i j).outbox = s.outbox := rfl
@[simp] theorem State.setPart_pending (s : State) (n : Nat) (x : PartState) : (s.setPart n x).pending = s.pending := rfl
@[simp] theorem State.setPart_now (s : State) (n : Nat) (x : PartState) : (s.setPart n x).now = s.now := rfl
@[simp] theorem State.setPart_free (s : State) (n : Nat) (x : PartState) : (s.setPart n x).free = s.free := rfl
@[simp] theorem State.setPart_regs (s : State) (n : Nat) (x : PartState) : (s.setPart n x).regs = s.regs := rfl
@[simp] theorem State.setPart_beat (s : State) (n : Nat) (x : PartState) : (s.setPart n x).beat = s.beat := rfl
@[simp] theorem State.setPart_slotStop (s : State) (n : Nat) (x : PartState) : (s.setPart n x).slotStop = s.slotStop := rfl
@[simp] theorem State.setPart_host (s : State) (n : Nat) (x : PartState) : (s.setPart n x).host = s.host := rfl
@[simp] theorem State.setPart_hbm (s : State) (n : Nat) (x : PartState) : (s.setPart n x).hbm = s.hbm := rfl
@[simp] theorem State.setPart_hbmErr (s : State) (n : Nat) (x : PartState) : (s.setPart n x).hbmErr = s.hbmErr := rfl
@[simp] theorem State.setPart_stacks (s : State) (n : Nat) (x : PartState) : (s.setPart n x).stackParts = s.stackParts := rfl
@[simp] theorem State.setPart_sram (s : State) (n : Nat) (x : PartState) : (s.setPart n x).sram = s.sram := rfl
@[simp] theorem State.setPart_sramBad (s : State) (n : Nat) (x : PartState) : (s.setPart n x).sramBad = s.sramBad := rfl
@[simp] theorem State.setPart_tiles (s : State) (n : Nat) (x : PartState) : (s.setPart n x).tiles = s.tiles := rfl
@[simp] theorem State.setPart_energy (s : State) (n : Nat) (x : PartState) : (s.setPart n x).energy = s.energy := rfl
@[simp] theorem State.setPart_cores (s : State) (n : Nat) (x : PartState) : (s.setPart n x).cores = s.cores := rfl
@[simp] theorem State.setPart_queues (s : State) (n : Nat) (x : PartState) : (s.setPart n x).queues = s.queues := rfl
@[simp] theorem State.setPart_jugs (s : State) (n : Nat) (x : PartState) : (s.setPart n x).jugs = s.jugs := rfl
@[simp] theorem State.setPart_fab (s : State) (n : Nat) (x : PartState) : (s.setPart n x).fab = s.fab := rfl
@[simp] theorem State.setPart_ibu (s : State) (n : Nat) (x : PartState) : (s.setPart n x).ibu = s.ibu := rfl
@[simp] theorem State.setPart_tests (s : State) (n : Nat) (x : PartState) : (s.setPart n x).tests = s.tests := rfl
@[simp] theorem State.setPart_testLog (s : State) (n : Nat) (x : PartState) : (s.setPart n x).testLog = s.testLog := rfl
@[simp] theorem State.setPart_failLog (s : State) (n : Nat) (x : PartState) : (s.setPart n x).failLog = s.failLog := rfl
@[simp] theorem State.setPart_scanIr (s : State) (n : Nat) (x : PartState) : (s.setPart n x).scanIr = s.scanIr := rfl
@[simp] theorem State.setPart_keep (s : State) (n : Nat) (x : PartState) : (s.setPart n x).keep = s.keep := rfl
@[simp] theorem State.setPart_fw (s : State) (n : Nat) (x : PartState) : (s.setPart n x).fw = s.fw := rfl
@[simp] theorem State.setPart_power (s : State) (n : Nat) (x : PartState) : (s.setPart n x).power = s.power := rfl
@[simp] theorem State.setPart_therm (s : State) (n : Nat) (x : PartState) : (s.setPart n x).therm = s.therm := rfl
@[simp] theorem State.setPart_cool (s : State) (n : Nat) (x : PartState) : (s.setPart n x).cool = s.cool := rfl
@[simp] theorem State.setPart_safety (s : State) (n : Nat) (x : PartState) : (s.setPart n x).safety = s.safety := rfl
@[simp] theorem State.setPart_age (s : State) (n : Nat) (x : PartState) : (s.setPart n x).age = s.age := rfl
@[simp] theorem State.setPart_tw (s : State) (n : Nat) (x : PartState) : (s.setPart n x).tw = s.tw := rfl
@[simp] theorem State.setPart_recorder (s : State) (n : Nat) (x : PartState) : (s.setPart n x).recorder = s.recorder := rfl
@[simp] theorem State.setPart_acl (s : State) (n : Nat) (x : PartState) : (s.setPart n x).acl = s.acl := rfl
@[simp] theorem State.setPart_aclStart (s : State) (n : Nat) (x : PartState) : (s.setPart n x).aclStart = s.aclStart := rfl
@[simp] theorem State.setPart_latches (s : State) (n : Nat) (x : PartState) : (s.setPart n x).latches = s.latches := rfl
@[simp] theorem State.setPart_outbox (s : State) (n : Nat) (x : PartState) : (s.setPart n x).outbox = s.outbox := rfl
@[simp] theorem State.setTile_pending (s : State) (n : Nat) (x : TileState) : (s.setTile n x).pending = s.pending := rfl
@[simp] theorem State.setTile_now (s : State) (n : Nat) (x : TileState) : (s.setTile n x).now = s.now := rfl
@[simp] theorem State.setTile_free (s : State) (n : Nat) (x : TileState) : (s.setTile n x).free = s.free := rfl
@[simp] theorem State.setTile_regs (s : State) (n : Nat) (x : TileState) : (s.setTile n x).regs = s.regs := rfl
@[simp] theorem State.setTile_beat (s : State) (n : Nat) (x : TileState) : (s.setTile n x).beat = s.beat := rfl
@[simp] theorem State.setTile_slotStop (s : State) (n : Nat) (x : TileState) : (s.setTile n x).slotStop = s.slotStop := rfl
@[simp] theorem State.setTile_host (s : State) (n : Nat) (x : TileState) : (s.setTile n x).host = s.host := rfl
@[simp] theorem State.setTile_hbm (s : State) (n : Nat) (x : TileState) : (s.setTile n x).hbm = s.hbm := rfl
@[simp] theorem State.setTile_hbmErr (s : State) (n : Nat) (x : TileState) : (s.setTile n x).hbmErr = s.hbmErr := rfl
@[simp] theorem State.setTile_stacks (s : State) (n : Nat) (x : TileState) : (s.setTile n x).stackParts = s.stackParts := rfl
@[simp] theorem State.setTile_sram (s : State) (n : Nat) (x : TileState) : (s.setTile n x).sram = s.sram := rfl
@[simp] theorem State.setTile_sramBad (s : State) (n : Nat) (x : TileState) : (s.setTile n x).sramBad = s.sramBad := rfl
@[simp] theorem State.setTile_parts (s : State) (n : Nat) (x : TileState) : (s.setTile n x).parts = s.parts := rfl
@[simp] theorem State.setTile_energy (s : State) (n : Nat) (x : TileState) : (s.setTile n x).energy = s.energy := rfl
@[simp] theorem State.setTile_cores (s : State) (n : Nat) (x : TileState) : (s.setTile n x).cores = s.cores := rfl
@[simp] theorem State.setTile_queues (s : State) (n : Nat) (x : TileState) : (s.setTile n x).queues = s.queues := rfl
@[simp] theorem State.setTile_jugs (s : State) (n : Nat) (x : TileState) : (s.setTile n x).jugs = s.jugs := rfl
@[simp] theorem State.setTile_fab (s : State) (n : Nat) (x : TileState) : (s.setTile n x).fab = s.fab := rfl
@[simp] theorem State.setTile_ibu (s : State) (n : Nat) (x : TileState) : (s.setTile n x).ibu = s.ibu := rfl
@[simp] theorem State.setTile_tests (s : State) (n : Nat) (x : TileState) : (s.setTile n x).tests = s.tests := rfl
@[simp] theorem State.setTile_testLog (s : State) (n : Nat) (x : TileState) : (s.setTile n x).testLog = s.testLog := rfl
@[simp] theorem State.setTile_failLog (s : State) (n : Nat) (x : TileState) : (s.setTile n x).failLog = s.failLog := rfl
@[simp] theorem State.setTile_scanIr (s : State) (n : Nat) (x : TileState) : (s.setTile n x).scanIr = s.scanIr := rfl
@[simp] theorem State.setTile_keep (s : State) (n : Nat) (x : TileState) : (s.setTile n x).keep = s.keep := rfl
@[simp] theorem State.setTile_fw (s : State) (n : Nat) (x : TileState) : (s.setTile n x).fw = s.fw := rfl
@[simp] theorem State.setTile_power (s : State) (n : Nat) (x : TileState) : (s.setTile n x).power = s.power := rfl
@[simp] theorem State.setTile_therm (s : State) (n : Nat) (x : TileState) : (s.setTile n x).therm = s.therm := rfl
@[simp] theorem State.setTile_cool (s : State) (n : Nat) (x : TileState) : (s.setTile n x).cool = s.cool := rfl
@[simp] theorem State.setTile_safety (s : State) (n : Nat) (x : TileState) : (s.setTile n x).safety = s.safety := rfl
@[simp] theorem State.setTile_age (s : State) (n : Nat) (x : TileState) : (s.setTile n x).age = s.age := rfl
@[simp] theorem State.setTile_tw (s : State) (n : Nat) (x : TileState) : (s.setTile n x).tw = s.tw := rfl
@[simp] theorem State.setTile_recorder (s : State) (n : Nat) (x : TileState) : (s.setTile n x).recorder = s.recorder := rfl
@[simp] theorem State.setTile_acl (s : State) (n : Nat) (x : TileState) : (s.setTile n x).acl = s.acl := rfl
@[simp] theorem State.setTile_aclStart (s : State) (n : Nat) (x : TileState) : (s.setTile n x).aclStart = s.aclStart := rfl
@[simp] theorem State.setTile_latches (s : State) (n : Nat) (x : TileState) : (s.setTile n x).latches = s.latches := rfl
@[simp] theorem State.setTile_outbox (s : State) (n : Nat) (x : TileState) : (s.setTile n x).outbox = s.outbox := rfl
@[simp] theorem State.setCore_pending (s : State) (n : Nat) (x : CoreState) : (s.setCore n x).pending = s.pending := rfl
@[simp] theorem State.setCore_now (s : State) (n : Nat) (x : CoreState) : (s.setCore n x).now = s.now := rfl
@[simp] theorem State.setCore_free (s : State) (n : Nat) (x : CoreState) : (s.setCore n x).free = s.free := rfl
@[simp] theorem State.setCore_regs (s : State) (n : Nat) (x : CoreState) : (s.setCore n x).regs = s.regs := rfl
@[simp] theorem State.setCore_beat (s : State) (n : Nat) (x : CoreState) : (s.setCore n x).beat = s.beat := rfl
@[simp] theorem State.setCore_slotStop (s : State) (n : Nat) (x : CoreState) : (s.setCore n x).slotStop = s.slotStop := rfl
@[simp] theorem State.setCore_host (s : State) (n : Nat) (x : CoreState) : (s.setCore n x).host = s.host := rfl
@[simp] theorem State.setCore_hbm (s : State) (n : Nat) (x : CoreState) : (s.setCore n x).hbm = s.hbm := rfl
@[simp] theorem State.setCore_hbmErr (s : State) (n : Nat) (x : CoreState) : (s.setCore n x).hbmErr = s.hbmErr := rfl
@[simp] theorem State.setCore_stacks (s : State) (n : Nat) (x : CoreState) : (s.setCore n x).stackParts = s.stackParts := rfl
@[simp] theorem State.setCore_sram (s : State) (n : Nat) (x : CoreState) : (s.setCore n x).sram = s.sram := rfl
@[simp] theorem State.setCore_sramBad (s : State) (n : Nat) (x : CoreState) : (s.setCore n x).sramBad = s.sramBad := rfl
@[simp] theorem State.setCore_parts (s : State) (n : Nat) (x : CoreState) : (s.setCore n x).parts = s.parts := rfl
@[simp] theorem State.setCore_tiles (s : State) (n : Nat) (x : CoreState) : (s.setCore n x).tiles = s.tiles := rfl
@[simp] theorem State.setCore_energy (s : State) (n : Nat) (x : CoreState) : (s.setCore n x).energy = s.energy := rfl
@[simp] theorem State.setCore_queues (s : State) (n : Nat) (x : CoreState) : (s.setCore n x).queues = s.queues := rfl
@[simp] theorem State.setCore_jugs (s : State) (n : Nat) (x : CoreState) : (s.setCore n x).jugs = s.jugs := rfl
@[simp] theorem State.setCore_fab (s : State) (n : Nat) (x : CoreState) : (s.setCore n x).fab = s.fab := rfl
@[simp] theorem State.setCore_ibu (s : State) (n : Nat) (x : CoreState) : (s.setCore n x).ibu = s.ibu := rfl
@[simp] theorem State.setCore_tests (s : State) (n : Nat) (x : CoreState) : (s.setCore n x).tests = s.tests := rfl
@[simp] theorem State.setCore_testLog (s : State) (n : Nat) (x : CoreState) : (s.setCore n x).testLog = s.testLog := rfl
@[simp] theorem State.setCore_failLog (s : State) (n : Nat) (x : CoreState) : (s.setCore n x).failLog = s.failLog := rfl
@[simp] theorem State.setCore_scanIr (s : State) (n : Nat) (x : CoreState) : (s.setCore n x).scanIr = s.scanIr := rfl
@[simp] theorem State.setCore_keep (s : State) (n : Nat) (x : CoreState) : (s.setCore n x).keep = s.keep := rfl
@[simp] theorem State.setCore_fw (s : State) (n : Nat) (x : CoreState) : (s.setCore n x).fw = s.fw := rfl
@[simp] theorem State.setCore_power (s : State) (n : Nat) (x : CoreState) : (s.setCore n x).power = s.power := rfl
@[simp] theorem State.setCore_therm (s : State) (n : Nat) (x : CoreState) : (s.setCore n x).therm = s.therm := rfl
@[simp] theorem State.setCore_cool (s : State) (n : Nat) (x : CoreState) : (s.setCore n x).cool = s.cool := rfl
@[simp] theorem State.setCore_safety (s : State) (n : Nat) (x : CoreState) : (s.setCore n x).safety = s.safety := rfl
@[simp] theorem State.setCore_age (s : State) (n : Nat) (x : CoreState) : (s.setCore n x).age = s.age := rfl
@[simp] theorem State.setCore_tw (s : State) (n : Nat) (x : CoreState) : (s.setCore n x).tw = s.tw := rfl
@[simp] theorem State.setCore_recorder (s : State) (n : Nat) (x : CoreState) : (s.setCore n x).recorder = s.recorder := rfl
@[simp] theorem State.setCore_acl (s : State) (n : Nat) (x : CoreState) : (s.setCore n x).acl = s.acl := rfl
@[simp] theorem State.setCore_aclStart (s : State) (n : Nat) (x : CoreState) : (s.setCore n x).aclStart = s.aclStart := rfl
@[simp] theorem State.setCore_latches (s : State) (n : Nat) (x : CoreState) : (s.setCore n x).latches = s.latches := rfl
@[simp] theorem State.setCore_outbox (s : State) (n : Nat) (x : CoreState) : (s.setCore n x).outbox = s.outbox := rfl
@[simp] theorem State.setQueue_pending (s : State) (n : Nat) (x : Queue) : (s.setQueue n x).pending = s.pending := rfl
@[simp] theorem State.setQueue_now (s : State) (n : Nat) (x : Queue) : (s.setQueue n x).now = s.now := rfl
@[simp] theorem State.setQueue_free (s : State) (n : Nat) (x : Queue) : (s.setQueue n x).free = s.free := rfl
@[simp] theorem State.setQueue_regs (s : State) (n : Nat) (x : Queue) : (s.setQueue n x).regs = s.regs := rfl
@[simp] theorem State.setQueue_beat (s : State) (n : Nat) (x : Queue) : (s.setQueue n x).beat = s.beat := rfl
@[simp] theorem State.setQueue_slotStop (s : State) (n : Nat) (x : Queue) : (s.setQueue n x).slotStop = s.slotStop := rfl
@[simp] theorem State.setQueue_host (s : State) (n : Nat) (x : Queue) : (s.setQueue n x).host = s.host := rfl
@[simp] theorem State.setQueue_hbm (s : State) (n : Nat) (x : Queue) : (s.setQueue n x).hbm = s.hbm := rfl
@[simp] theorem State.setQueue_hbmErr (s : State) (n : Nat) (x : Queue) : (s.setQueue n x).hbmErr = s.hbmErr := rfl
@[simp] theorem State.setQueue_stacks (s : State) (n : Nat) (x : Queue) : (s.setQueue n x).stackParts = s.stackParts := rfl
@[simp] theorem State.setQueue_sram (s : State) (n : Nat) (x : Queue) : (s.setQueue n x).sram = s.sram := rfl
@[simp] theorem State.setQueue_sramBad (s : State) (n : Nat) (x : Queue) : (s.setQueue n x).sramBad = s.sramBad := rfl
@[simp] theorem State.setQueue_parts (s : State) (n : Nat) (x : Queue) : (s.setQueue n x).parts = s.parts := rfl
@[simp] theorem State.setQueue_tiles (s : State) (n : Nat) (x : Queue) : (s.setQueue n x).tiles = s.tiles := rfl
@[simp] theorem State.setQueue_energy (s : State) (n : Nat) (x : Queue) : (s.setQueue n x).energy = s.energy := rfl
@[simp] theorem State.setQueue_cores (s : State) (n : Nat) (x : Queue) : (s.setQueue n x).cores = s.cores := rfl
@[simp] theorem State.setQueue_jugs (s : State) (n : Nat) (x : Queue) : (s.setQueue n x).jugs = s.jugs := rfl
@[simp] theorem State.setQueue_fab (s : State) (n : Nat) (x : Queue) : (s.setQueue n x).fab = s.fab := rfl
@[simp] theorem State.setQueue_ibu (s : State) (n : Nat) (x : Queue) : (s.setQueue n x).ibu = s.ibu := rfl
@[simp] theorem State.setQueue_tests (s : State) (n : Nat) (x : Queue) : (s.setQueue n x).tests = s.tests := rfl
@[simp] theorem State.setQueue_testLog (s : State) (n : Nat) (x : Queue) : (s.setQueue n x).testLog = s.testLog := rfl
@[simp] theorem State.setQueue_failLog (s : State) (n : Nat) (x : Queue) : (s.setQueue n x).failLog = s.failLog := rfl
@[simp] theorem State.setQueue_scanIr (s : State) (n : Nat) (x : Queue) : (s.setQueue n x).scanIr = s.scanIr := rfl
@[simp] theorem State.setQueue_keep (s : State) (n : Nat) (x : Queue) : (s.setQueue n x).keep = s.keep := rfl
@[simp] theorem State.setQueue_fw (s : State) (n : Nat) (x : Queue) : (s.setQueue n x).fw = s.fw := rfl
@[simp] theorem State.setQueue_power (s : State) (n : Nat) (x : Queue) : (s.setQueue n x).power = s.power := rfl
@[simp] theorem State.setQueue_therm (s : State) (n : Nat) (x : Queue) : (s.setQueue n x).therm = s.therm := rfl
@[simp] theorem State.setQueue_cool (s : State) (n : Nat) (x : Queue) : (s.setQueue n x).cool = s.cool := rfl
@[simp] theorem State.setQueue_safety (s : State) (n : Nat) (x : Queue) : (s.setQueue n x).safety = s.safety := rfl
@[simp] theorem State.setQueue_age (s : State) (n : Nat) (x : Queue) : (s.setQueue n x).age = s.age := rfl
@[simp] theorem State.setQueue_tw (s : State) (n : Nat) (x : Queue) : (s.setQueue n x).tw = s.tw := rfl
@[simp] theorem State.setQueue_recorder (s : State) (n : Nat) (x : Queue) : (s.setQueue n x).recorder = s.recorder := rfl
@[simp] theorem State.setQueue_acl (s : State) (n : Nat) (x : Queue) : (s.setQueue n x).acl = s.acl := rfl
@[simp] theorem State.setQueue_aclStart (s : State) (n : Nat) (x : Queue) : (s.setQueue n x).aclStart = s.aclStart := rfl
@[simp] theorem State.setQueue_latches (s : State) (n : Nat) (x : Queue) : (s.setQueue n x).latches = s.latches := rfl
@[simp] theorem State.setQueue_outbox (s : State) (n : Nat) (x : Queue) : (s.setQueue n x).outbox = s.outbox := rfl
@[simp] theorem State.setJug_pending (s : State) (n : Nat) (x : JugTile) : (s.setJug n x).pending = s.pending := rfl
@[simp] theorem State.setJug_now (s : State) (n : Nat) (x : JugTile) : (s.setJug n x).now = s.now := rfl
@[simp] theorem State.setJug_free (s : State) (n : Nat) (x : JugTile) : (s.setJug n x).free = s.free := rfl
@[simp] theorem State.setJug_regs (s : State) (n : Nat) (x : JugTile) : (s.setJug n x).regs = s.regs := rfl
@[simp] theorem State.setJug_beat (s : State) (n : Nat) (x : JugTile) : (s.setJug n x).beat = s.beat := rfl
@[simp] theorem State.setJug_slotStop (s : State) (n : Nat) (x : JugTile) : (s.setJug n x).slotStop = s.slotStop := rfl
@[simp] theorem State.setJug_host (s : State) (n : Nat) (x : JugTile) : (s.setJug n x).host = s.host := rfl
@[simp] theorem State.setJug_hbm (s : State) (n : Nat) (x : JugTile) : (s.setJug n x).hbm = s.hbm := rfl
@[simp] theorem State.setJug_hbmErr (s : State) (n : Nat) (x : JugTile) : (s.setJug n x).hbmErr = s.hbmErr := rfl
@[simp] theorem State.setJug_stacks (s : State) (n : Nat) (x : JugTile) : (s.setJug n x).stackParts = s.stackParts := rfl
@[simp] theorem State.setJug_sram (s : State) (n : Nat) (x : JugTile) : (s.setJug n x).sram = s.sram := rfl
@[simp] theorem State.setJug_sramBad (s : State) (n : Nat) (x : JugTile) : (s.setJug n x).sramBad = s.sramBad := rfl
@[simp] theorem State.setJug_parts (s : State) (n : Nat) (x : JugTile) : (s.setJug n x).parts = s.parts := rfl
@[simp] theorem State.setJug_tiles (s : State) (n : Nat) (x : JugTile) : (s.setJug n x).tiles = s.tiles := rfl
@[simp] theorem State.setJug_energy (s : State) (n : Nat) (x : JugTile) : (s.setJug n x).energy = s.energy := rfl
@[simp] theorem State.setJug_cores (s : State) (n : Nat) (x : JugTile) : (s.setJug n x).cores = s.cores := rfl
@[simp] theorem State.setJug_queues (s : State) (n : Nat) (x : JugTile) : (s.setJug n x).queues = s.queues := rfl
@[simp] theorem State.setJug_fab (s : State) (n : Nat) (x : JugTile) : (s.setJug n x).fab = s.fab := rfl
@[simp] theorem State.setJug_ibu (s : State) (n : Nat) (x : JugTile) : (s.setJug n x).ibu = s.ibu := rfl
@[simp] theorem State.setJug_tests (s : State) (n : Nat) (x : JugTile) : (s.setJug n x).tests = s.tests := rfl
@[simp] theorem State.setJug_testLog (s : State) (n : Nat) (x : JugTile) : (s.setJug n x).testLog = s.testLog := rfl
@[simp] theorem State.setJug_failLog (s : State) (n : Nat) (x : JugTile) : (s.setJug n x).failLog = s.failLog := rfl
@[simp] theorem State.setJug_scanIr (s : State) (n : Nat) (x : JugTile) : (s.setJug n x).scanIr = s.scanIr := rfl
@[simp] theorem State.setJug_keep (s : State) (n : Nat) (x : JugTile) : (s.setJug n x).keep = s.keep := rfl
@[simp] theorem State.setJug_fw (s : State) (n : Nat) (x : JugTile) : (s.setJug n x).fw = s.fw := rfl
@[simp] theorem State.setJug_power (s : State) (n : Nat) (x : JugTile) : (s.setJug n x).power = s.power := rfl
@[simp] theorem State.setJug_therm (s : State) (n : Nat) (x : JugTile) : (s.setJug n x).therm = s.therm := rfl
@[simp] theorem State.setJug_cool (s : State) (n : Nat) (x : JugTile) : (s.setJug n x).cool = s.cool := rfl
@[simp] theorem State.setJug_safety (s : State) (n : Nat) (x : JugTile) : (s.setJug n x).safety = s.safety := rfl
@[simp] theorem State.setJug_age (s : State) (n : Nat) (x : JugTile) : (s.setJug n x).age = s.age := rfl
@[simp] theorem State.setJug_tw (s : State) (n : Nat) (x : JugTile) : (s.setJug n x).tw = s.tw := rfl
@[simp] theorem State.setJug_recorder (s : State) (n : Nat) (x : JugTile) : (s.setJug n x).recorder = s.recorder := rfl
@[simp] theorem State.setJug_acl (s : State) (n : Nat) (x : JugTile) : (s.setJug n x).acl = s.acl := rfl
@[simp] theorem State.setJug_aclStart (s : State) (n : Nat) (x : JugTile) : (s.setJug n x).aclStart = s.aclStart := rfl
@[simp] theorem State.setJug_latches (s : State) (n : Nat) (x : JugTile) : (s.setJug n x).latches = s.latches := rfl
@[simp] theorem State.setJug_outbox (s : State) (n : Nat) (x : JugTile) : (s.setJug n x).outbox = s.outbox := rfl
@[simp] theorem State.setStk_pending (s : State) (n : Nat) (x : StackState) : (s.setStk n x).pending = s.pending := rfl
@[simp] theorem State.setStk_now (s : State) (n : Nat) (x : StackState) : (s.setStk n x).now = s.now := rfl
@[simp] theorem State.setStk_free (s : State) (n : Nat) (x : StackState) : (s.setStk n x).free = s.free := rfl
@[simp] theorem State.setStk_regs (s : State) (n : Nat) (x : StackState) : (s.setStk n x).regs = s.regs := rfl
@[simp] theorem State.setStk_beat (s : State) (n : Nat) (x : StackState) : (s.setStk n x).beat = s.beat := rfl
@[simp] theorem State.setStk_slotStop (s : State) (n : Nat) (x : StackState) : (s.setStk n x).slotStop = s.slotStop := rfl
@[simp] theorem State.setStk_host (s : State) (n : Nat) (x : StackState) : (s.setStk n x).host = s.host := rfl
@[simp] theorem State.setStk_hbm (s : State) (n : Nat) (x : StackState) : (s.setStk n x).hbm = s.hbm := rfl
@[simp] theorem State.setStk_hbmErr (s : State) (n : Nat) (x : StackState) : (s.setStk n x).hbmErr = s.hbmErr := rfl
@[simp] theorem State.setStk_sram (s : State) (n : Nat) (x : StackState) : (s.setStk n x).sram = s.sram := rfl
@[simp] theorem State.setStk_sramBad (s : State) (n : Nat) (x : StackState) : (s.setStk n x).sramBad = s.sramBad := rfl
@[simp] theorem State.setStk_parts (s : State) (n : Nat) (x : StackState) : (s.setStk n x).parts = s.parts := rfl
@[simp] theorem State.setStk_tiles (s : State) (n : Nat) (x : StackState) : (s.setStk n x).tiles = s.tiles := rfl
@[simp] theorem State.setStk_energy (s : State) (n : Nat) (x : StackState) : (s.setStk n x).energy = s.energy := rfl
@[simp] theorem State.setStk_cores (s : State) (n : Nat) (x : StackState) : (s.setStk n x).cores = s.cores := rfl
@[simp] theorem State.setStk_queues (s : State) (n : Nat) (x : StackState) : (s.setStk n x).queues = s.queues := rfl
@[simp] theorem State.setStk_jugs (s : State) (n : Nat) (x : StackState) : (s.setStk n x).jugs = s.jugs := rfl
@[simp] theorem State.setStk_fab (s : State) (n : Nat) (x : StackState) : (s.setStk n x).fab = s.fab := rfl
@[simp] theorem State.setStk_ibu (s : State) (n : Nat) (x : StackState) : (s.setStk n x).ibu = s.ibu := rfl
@[simp] theorem State.setStk_tests (s : State) (n : Nat) (x : StackState) : (s.setStk n x).tests = s.tests := rfl
@[simp] theorem State.setStk_testLog (s : State) (n : Nat) (x : StackState) : (s.setStk n x).testLog = s.testLog := rfl
@[simp] theorem State.setStk_failLog (s : State) (n : Nat) (x : StackState) : (s.setStk n x).failLog = s.failLog := rfl
@[simp] theorem State.setStk_scanIr (s : State) (n : Nat) (x : StackState) : (s.setStk n x).scanIr = s.scanIr := rfl
@[simp] theorem State.setStk_keep (s : State) (n : Nat) (x : StackState) : (s.setStk n x).keep = s.keep := rfl
@[simp] theorem State.setStk_fw (s : State) (n : Nat) (x : StackState) : (s.setStk n x).fw = s.fw := rfl
@[simp] theorem State.setStk_power (s : State) (n : Nat) (x : StackState) : (s.setStk n x).power = s.power := rfl
@[simp] theorem State.setStk_therm (s : State) (n : Nat) (x : StackState) : (s.setStk n x).therm = s.therm := rfl
@[simp] theorem State.setStk_cool (s : State) (n : Nat) (x : StackState) : (s.setStk n x).cool = s.cool := rfl
@[simp] theorem State.setStk_safety (s : State) (n : Nat) (x : StackState) : (s.setStk n x).safety = s.safety := rfl
@[simp] theorem State.setStk_age (s : State) (n : Nat) (x : StackState) : (s.setStk n x).age = s.age := rfl
@[simp] theorem State.setStk_tw (s : State) (n : Nat) (x : StackState) : (s.setStk n x).tw = s.tw := rfl
@[simp] theorem State.setStk_recorder (s : State) (n : Nat) (x : StackState) : (s.setStk n x).recorder = s.recorder := rfl
@[simp] theorem State.setStk_acl (s : State) (n : Nat) (x : StackState) : (s.setStk n x).acl = s.acl := rfl
@[simp] theorem State.setStk_aclStart (s : State) (n : Nat) (x : StackState) : (s.setStk n x).aclStart = s.aclStart := rfl
@[simp] theorem State.setStk_latches (s : State) (n : Nat) (x : StackState) : (s.setStk n x).latches = s.latches := rfl
@[simp] theorem State.setStk_outbox (s : State) (n : Nat) (x : StackState) : (s.setStk n x).outbox = s.outbox := rfl

/-! A read of one kind is unaffected by a write of another. -/

@[simp] theorem State.putPending_rd_read (s : State) (x : List Instr) (f : Fld) (i j : Nat) : (s.putPending x).rd f i j = s.rd f i j := rfl
@[simp] theorem State.putNow_rd_read (s : State) (x : Nat) (f : Fld) (i j : Nat) : (s.putNow x).rd f i j = s.rd f i j := rfl
@[simp] theorem State.putFree_rd_read (s : State) (x : Nat) (f : Fld) (i j : Nat) : (s.putFree x).rd f i j = s.rd f i j := rfl
@[simp] theorem State.putBeat_rd_read (s : State) (x : BeatState) (f : Fld) (i j : Nat) : (s.putBeat x).rd f i j = s.rd f i j := rfl
@[simp] theorem State.putSlotStop_rd_read (s : State) (x : Nat) (f : Fld) (i j : Nat) : (s.putSlotStop x).rd f i j = s.rd f i j := rfl
@[simp] theorem State.putHost_rd_read (s : State) (x : HostState) (f : Fld) (i j : Nat) : (s.putHost x).rd f i j = s.rd f i j := rfl
@[simp] theorem State.putHbm_rd_read (s : State) (x : List Host.Cell) (f : Fld) (i j : Nat) : (s.putHbm x).rd f i j = s.rd f i j := rfl
@[simp] theorem State.putHbmErr_rd_read (s : State) (x : Assoc Nat) (f : Fld) (i j : Nat) : (s.putHbmErr x).rd f i j = s.rd f i j := rfl
@[simp] theorem State.putStacks_rd_read (s : State) (x : Assoc StackState) (f : Fld) (i j : Nat) : (s.putStacks x).rd f i j = s.rd f i j := rfl
@[simp] theorem State.putSram_rd_read (s : State) (x : List Host.Cell) (f : Fld) (i j : Nat) : (s.putSram x).rd f i j = s.rd f i j := rfl
@[simp] theorem State.putSramBad_rd_read (s : State) (x : Assoc Nat) (f : Fld) (i j : Nat) : (s.putSramBad x).rd f i j = s.rd f i j := rfl
@[simp] theorem State.putParts_rd_read (s : State) (x : Assoc PartState) (f : Fld) (i j : Nat) : (s.putParts x).rd f i j = s.rd f i j := rfl
@[simp] theorem State.putTiles_rd_read (s : State) (x : Assoc TileState) (f : Fld) (i j : Nat) : (s.putTiles x).rd f i j = s.rd f i j := rfl
@[simp] theorem State.putEnergy_rd_read (s : State) (x : Assoc Nat) (f : Fld) (i j : Nat) : (s.putEnergy x).rd f i j = s.rd f i j := rfl
@[simp] theorem State.putCores_rd_read (s : State) (x : Assoc CoreState) (f : Fld) (i j : Nat) : (s.putCores x).rd f i j = s.rd f i j := rfl
@[simp] theorem State.putQueues_rd_read (s : State) (x : Assoc Queue) (f : Fld) (i j : Nat) : (s.putQueues x).rd f i j = s.rd f i j := rfl
@[simp] theorem State.putJugs_rd_read (s : State) (x : Assoc JugTile) (f : Fld) (i j : Nat) : (s.putJugs x).rd f i j = s.rd f i j := rfl
@[simp] theorem State.putFab_rd_read (s : State) (x : FabState) (f : Fld) (i j : Nat) : (s.putFab x).rd f i j = s.rd f i j := rfl
@[simp] theorem State.putIbu_rd_read (s : State) (x : IbuState) (f : Fld) (i j : Nat) : (s.putIbu x).rd f i j = s.rd f i j := rfl
@[simp] theorem State.putTests_rd_read (s : State) (x : List TestRun) (f : Fld) (i j : Nat) : (s.putTests x).rd f i j = s.rd f i j := rfl
@[simp] theorem State.putTestLog_rd_read (s : State) (x : List TestLog) (f : Fld) (i j : Nat) : (s.putTestLog x).rd f i j = s.rd f i j := rfl
@[simp] theorem State.putFailLog_rd_read (s : State) (x : List (Nat × Nat × Nat × Nat)) (f : Fld) (i j : Nat) : (s.putFailLog x).rd f i j = s.rd f i j := rfl
@[simp] theorem State.putScanIr_rd_read (s : State) (x : Nat) (f : Fld) (i j : Nat) : (s.putScanIr x).rd f i j = s.rd f i j := rfl
@[simp] theorem State.putKeep_rd_read (s : State) (x : KeepState) (f : Fld) (i j : Nat) : (s.putKeep x).rd f i j = s.rd f i j := rfl
@[simp] theorem State.putFw_rd_read (s : State) (x : FwState) (f : Fld) (i j : Nat) : (s.putFw x).rd f i j = s.rd f i j := rfl
@[simp] theorem State.putPower_rd_read (s : State) (x : PowerState) (f : Fld) (i j : Nat) : (s.putPower x).rd f i j = s.rd f i j := rfl
@[simp] theorem State.putTherm_rd_read (s : State) (x : ThermState) (f : Fld) (i j : Nat) : (s.putTherm x).rd f i j = s.rd f i j := rfl
@[simp] theorem State.putCool_rd_read (s : State) (x : CoolState) (f : Fld) (i j : Nat) : (s.putCool x).rd f i j = s.rd f i j := rfl
@[simp] theorem State.putSafety_rd_read (s : State) (x : SafetyState) (f : Fld) (i j : Nat) : (s.putSafety x).rd f i j = s.rd f i j := rfl
@[simp] theorem State.putAge_rd_read (s : State) (x : AgeState) (f : Fld) (i j : Nat) : (s.putAge x).rd f i j = s.rd f i j := rfl
@[simp] theorem State.putTw_rd_read (s : State) (x : TwState) (f : Fld) (i j : Nat) : (s.putTw x).rd f i j = s.rd f i j := rfl
@[simp] theorem State.putRecorder_rd_read (s : State) (x : RecState) (f : Fld) (i j : Nat) : (s.putRecorder x).rd f i j = s.rd f i j := rfl
@[simp] theorem State.putAcl_rd_read (s : State) (x : Assoc (Option Nat)) (f : Fld) (i j : Nat) : (s.putAcl x).rd f i j = s.rd f i j := rfl
@[simp] theorem State.putAclStart_rd_read (s : State) (x : Assoc (Option Nat)) (f : Fld) (i j : Nat) : (s.putAclStart x).rd f i j = s.rd f i j := rfl
@[simp] theorem State.putLatches_rd_read (s : State) (x : Assoc Nat) (f : Fld) (i j : Nat) : (s.putLatches x).rd f i j = s.rd f i j := rfl
@[simp] theorem State.putOutbox_rd_read (s : State) (x : List Out) (f : Fld) (i j : Nat) : (s.putOutbox x).rd f i j = s.rd f i j := rfl
@[simp] theorem State.putPending_part_read (s : State) (x : List Instr) (n : Nat) : (s.putPending x).part n = s.part n := rfl
@[simp] theorem State.putNow_part_read (s : State) (x : Nat) (n : Nat) : (s.putNow x).part n = s.part n := rfl
@[simp] theorem State.putFree_part_read (s : State) (x : Nat) (n : Nat) : (s.putFree x).part n = s.part n := rfl
@[simp] theorem State.putRegs_part_read (s : State) (x : Assoc Nat) (n : Nat) : (s.putRegs x).part n = s.part n := rfl
@[simp] theorem State.putBeat_part_read (s : State) (x : BeatState) (n : Nat) : (s.putBeat x).part n = s.part n := rfl
@[simp] theorem State.putSlotStop_part_read (s : State) (x : Nat) (n : Nat) : (s.putSlotStop x).part n = s.part n := rfl
@[simp] theorem State.putHost_part_read (s : State) (x : HostState) (n : Nat) : (s.putHost x).part n = s.part n := rfl
@[simp] theorem State.putHbm_part_read (s : State) (x : List Host.Cell) (n : Nat) : (s.putHbm x).part n = s.part n := rfl
@[simp] theorem State.putHbmErr_part_read (s : State) (x : Assoc Nat) (n : Nat) : (s.putHbmErr x).part n = s.part n := rfl
@[simp] theorem State.putStacks_part_read (s : State) (x : Assoc StackState) (n : Nat) : (s.putStacks x).part n = s.part n := rfl
@[simp] theorem State.putSram_part_read (s : State) (x : List Host.Cell) (n : Nat) : (s.putSram x).part n = s.part n := rfl
@[simp] theorem State.putSramBad_part_read (s : State) (x : Assoc Nat) (n : Nat) : (s.putSramBad x).part n = s.part n := rfl
@[simp] theorem State.putTiles_part_read (s : State) (x : Assoc TileState) (n : Nat) : (s.putTiles x).part n = s.part n := rfl
@[simp] theorem State.putEnergy_part_read (s : State) (x : Assoc Nat) (n : Nat) : (s.putEnergy x).part n = s.part n := rfl
@[simp] theorem State.putCores_part_read (s : State) (x : Assoc CoreState) (n : Nat) : (s.putCores x).part n = s.part n := rfl
@[simp] theorem State.putQueues_part_read (s : State) (x : Assoc Queue) (n : Nat) : (s.putQueues x).part n = s.part n := rfl
@[simp] theorem State.putJugs_part_read (s : State) (x : Assoc JugTile) (n : Nat) : (s.putJugs x).part n = s.part n := rfl
@[simp] theorem State.putFab_part_read (s : State) (x : FabState) (n : Nat) : (s.putFab x).part n = s.part n := rfl
@[simp] theorem State.putIbu_part_read (s : State) (x : IbuState) (n : Nat) : (s.putIbu x).part n = s.part n := rfl
@[simp] theorem State.putTests_part_read (s : State) (x : List TestRun) (n : Nat) : (s.putTests x).part n = s.part n := rfl
@[simp] theorem State.putTestLog_part_read (s : State) (x : List TestLog) (n : Nat) : (s.putTestLog x).part n = s.part n := rfl
@[simp] theorem State.putFailLog_part_read (s : State) (x : List (Nat × Nat × Nat × Nat)) (n : Nat) : (s.putFailLog x).part n = s.part n := rfl
@[simp] theorem State.putScanIr_part_read (s : State) (x : Nat) (n : Nat) : (s.putScanIr x).part n = s.part n := rfl
@[simp] theorem State.putKeep_part_read (s : State) (x : KeepState) (n : Nat) : (s.putKeep x).part n = s.part n := rfl
@[simp] theorem State.putFw_part_read (s : State) (x : FwState) (n : Nat) : (s.putFw x).part n = s.part n := rfl
@[simp] theorem State.putPower_part_read (s : State) (x : PowerState) (n : Nat) : (s.putPower x).part n = s.part n := rfl
@[simp] theorem State.putTherm_part_read (s : State) (x : ThermState) (n : Nat) : (s.putTherm x).part n = s.part n := rfl
@[simp] theorem State.putCool_part_read (s : State) (x : CoolState) (n : Nat) : (s.putCool x).part n = s.part n := rfl
@[simp] theorem State.putSafety_part_read (s : State) (x : SafetyState) (n : Nat) : (s.putSafety x).part n = s.part n := rfl
@[simp] theorem State.putAge_part_read (s : State) (x : AgeState) (n : Nat) : (s.putAge x).part n = s.part n := rfl
@[simp] theorem State.putTw_part_read (s : State) (x : TwState) (n : Nat) : (s.putTw x).part n = s.part n := rfl
@[simp] theorem State.putRecorder_part_read (s : State) (x : RecState) (n : Nat) : (s.putRecorder x).part n = s.part n := rfl
@[simp] theorem State.putAcl_part_read (s : State) (x : Assoc (Option Nat)) (n : Nat) : (s.putAcl x).part n = s.part n := rfl
@[simp] theorem State.putAclStart_part_read (s : State) (x : Assoc (Option Nat)) (n : Nat) : (s.putAclStart x).part n = s.part n := rfl
@[simp] theorem State.putLatches_part_read (s : State) (x : Assoc Nat) (n : Nat) : (s.putLatches x).part n = s.part n := rfl
@[simp] theorem State.putOutbox_part_read (s : State) (x : List Out) (n : Nat) : (s.putOutbox x).part n = s.part n := rfl
@[simp] theorem State.putPending_core_read (s : State) (x : List Instr) (n : Nat) : (s.putPending x).core n = s.core n := rfl
@[simp] theorem State.putNow_core_read (s : State) (x : Nat) (n : Nat) : (s.putNow x).core n = s.core n := rfl
@[simp] theorem State.putFree_core_read (s : State) (x : Nat) (n : Nat) : (s.putFree x).core n = s.core n := rfl
@[simp] theorem State.putRegs_core_read (s : State) (x : Assoc Nat) (n : Nat) : (s.putRegs x).core n = s.core n := rfl
@[simp] theorem State.putBeat_core_read (s : State) (x : BeatState) (n : Nat) : (s.putBeat x).core n = s.core n := rfl
@[simp] theorem State.putSlotStop_core_read (s : State) (x : Nat) (n : Nat) : (s.putSlotStop x).core n = s.core n := rfl
@[simp] theorem State.putHost_core_read (s : State) (x : HostState) (n : Nat) : (s.putHost x).core n = s.core n := rfl
@[simp] theorem State.putHbm_core_read (s : State) (x : List Host.Cell) (n : Nat) : (s.putHbm x).core n = s.core n := rfl
@[simp] theorem State.putHbmErr_core_read (s : State) (x : Assoc Nat) (n : Nat) : (s.putHbmErr x).core n = s.core n := rfl
@[simp] theorem State.putStacks_core_read (s : State) (x : Assoc StackState) (n : Nat) : (s.putStacks x).core n = s.core n := rfl
@[simp] theorem State.putSram_core_read (s : State) (x : List Host.Cell) (n : Nat) : (s.putSram x).core n = s.core n := rfl
@[simp] theorem State.putSramBad_core_read (s : State) (x : Assoc Nat) (n : Nat) : (s.putSramBad x).core n = s.core n := rfl
@[simp] theorem State.putParts_core_read (s : State) (x : Assoc PartState) (n : Nat) : (s.putParts x).core n = s.core n := rfl
@[simp] theorem State.putTiles_core_read (s : State) (x : Assoc TileState) (n : Nat) : (s.putTiles x).core n = s.core n := rfl
@[simp] theorem State.putEnergy_core_read (s : State) (x : Assoc Nat) (n : Nat) : (s.putEnergy x).core n = s.core n := rfl
@[simp] theorem State.putQueues_core_read (s : State) (x : Assoc Queue) (n : Nat) : (s.putQueues x).core n = s.core n := rfl
@[simp] theorem State.putJugs_core_read (s : State) (x : Assoc JugTile) (n : Nat) : (s.putJugs x).core n = s.core n := rfl
@[simp] theorem State.putFab_core_read (s : State) (x : FabState) (n : Nat) : (s.putFab x).core n = s.core n := rfl
@[simp] theorem State.putIbu_core_read (s : State) (x : IbuState) (n : Nat) : (s.putIbu x).core n = s.core n := rfl
@[simp] theorem State.putTests_core_read (s : State) (x : List TestRun) (n : Nat) : (s.putTests x).core n = s.core n := rfl
@[simp] theorem State.putTestLog_core_read (s : State) (x : List TestLog) (n : Nat) : (s.putTestLog x).core n = s.core n := rfl
@[simp] theorem State.putFailLog_core_read (s : State) (x : List (Nat × Nat × Nat × Nat)) (n : Nat) : (s.putFailLog x).core n = s.core n := rfl
@[simp] theorem State.putScanIr_core_read (s : State) (x : Nat) (n : Nat) : (s.putScanIr x).core n = s.core n := rfl
@[simp] theorem State.putKeep_core_read (s : State) (x : KeepState) (n : Nat) : (s.putKeep x).core n = s.core n := rfl
@[simp] theorem State.putFw_core_read (s : State) (x : FwState) (n : Nat) : (s.putFw x).core n = s.core n := rfl
@[simp] theorem State.putPower_core_read (s : State) (x : PowerState) (n : Nat) : (s.putPower x).core n = s.core n := rfl
@[simp] theorem State.putTherm_core_read (s : State) (x : ThermState) (n : Nat) : (s.putTherm x).core n = s.core n := rfl
@[simp] theorem State.putCool_core_read (s : State) (x : CoolState) (n : Nat) : (s.putCool x).core n = s.core n := rfl
@[simp] theorem State.putSafety_core_read (s : State) (x : SafetyState) (n : Nat) : (s.putSafety x).core n = s.core n := rfl
@[simp] theorem State.putAge_core_read (s : State) (x : AgeState) (n : Nat) : (s.putAge x).core n = s.core n := rfl
@[simp] theorem State.putTw_core_read (s : State) (x : TwState) (n : Nat) : (s.putTw x).core n = s.core n := rfl
@[simp] theorem State.putRecorder_core_read (s : State) (x : RecState) (n : Nat) : (s.putRecorder x).core n = s.core n := rfl
@[simp] theorem State.putAcl_core_read (s : State) (x : Assoc (Option Nat)) (n : Nat) : (s.putAcl x).core n = s.core n := rfl
@[simp] theorem State.putAclStart_core_read (s : State) (x : Assoc (Option Nat)) (n : Nat) : (s.putAclStart x).core n = s.core n := rfl
@[simp] theorem State.putLatches_core_read (s : State) (x : Assoc Nat) (n : Nat) : (s.putLatches x).core n = s.core n := rfl
@[simp] theorem State.putOutbox_core_read (s : State) (x : List Out) (n : Nat) : (s.putOutbox x).core n = s.core n := rfl
@[simp] theorem State.putPending_stk_read (s : State) (x : List Instr) (n : Nat) : (s.putPending x).stk n = s.stk n := rfl
@[simp] theorem State.putNow_stk_read (s : State) (x : Nat) (n : Nat) : (s.putNow x).stk n = s.stk n := rfl
@[simp] theorem State.putFree_stk_read (s : State) (x : Nat) (n : Nat) : (s.putFree x).stk n = s.stk n := rfl
@[simp] theorem State.putRegs_stk_read (s : State) (x : Assoc Nat) (n : Nat) : (s.putRegs x).stk n = s.stk n := rfl
@[simp] theorem State.putBeat_stk_read (s : State) (x : BeatState) (n : Nat) : (s.putBeat x).stk n = s.stk n := rfl
@[simp] theorem State.putSlotStop_stk_read (s : State) (x : Nat) (n : Nat) : (s.putSlotStop x).stk n = s.stk n := rfl
@[simp] theorem State.putHost_stk_read (s : State) (x : HostState) (n : Nat) : (s.putHost x).stk n = s.stk n := rfl
@[simp] theorem State.putHbm_stk_read (s : State) (x : List Host.Cell) (n : Nat) : (s.putHbm x).stk n = s.stk n := rfl
@[simp] theorem State.putHbmErr_stk_read (s : State) (x : Assoc Nat) (n : Nat) : (s.putHbmErr x).stk n = s.stk n := rfl
@[simp] theorem State.putSram_stk_read (s : State) (x : List Host.Cell) (n : Nat) : (s.putSram x).stk n = s.stk n := rfl
@[simp] theorem State.putSramBad_stk_read (s : State) (x : Assoc Nat) (n : Nat) : (s.putSramBad x).stk n = s.stk n := rfl
@[simp] theorem State.putParts_stk_read (s : State) (x : Assoc PartState) (n : Nat) : (s.putParts x).stk n = s.stk n := rfl
@[simp] theorem State.putTiles_stk_read (s : State) (x : Assoc TileState) (n : Nat) : (s.putTiles x).stk n = s.stk n := rfl
@[simp] theorem State.putEnergy_stk_read (s : State) (x : Assoc Nat) (n : Nat) : (s.putEnergy x).stk n = s.stk n := rfl
@[simp] theorem State.putCores_stk_read (s : State) (x : Assoc CoreState) (n : Nat) : (s.putCores x).stk n = s.stk n := rfl
@[simp] theorem State.putQueues_stk_read (s : State) (x : Assoc Queue) (n : Nat) : (s.putQueues x).stk n = s.stk n := rfl
@[simp] theorem State.putJugs_stk_read (s : State) (x : Assoc JugTile) (n : Nat) : (s.putJugs x).stk n = s.stk n := rfl
@[simp] theorem State.putFab_stk_read (s : State) (x : FabState) (n : Nat) : (s.putFab x).stk n = s.stk n := rfl
@[simp] theorem State.putIbu_stk_read (s : State) (x : IbuState) (n : Nat) : (s.putIbu x).stk n = s.stk n := rfl
@[simp] theorem State.putTests_stk_read (s : State) (x : List TestRun) (n : Nat) : (s.putTests x).stk n = s.stk n := rfl
@[simp] theorem State.putTestLog_stk_read (s : State) (x : List TestLog) (n : Nat) : (s.putTestLog x).stk n = s.stk n := rfl
@[simp] theorem State.putFailLog_stk_read (s : State) (x : List (Nat × Nat × Nat × Nat)) (n : Nat) : (s.putFailLog x).stk n = s.stk n := rfl
@[simp] theorem State.putScanIr_stk_read (s : State) (x : Nat) (n : Nat) : (s.putScanIr x).stk n = s.stk n := rfl
@[simp] theorem State.putKeep_stk_read (s : State) (x : KeepState) (n : Nat) : (s.putKeep x).stk n = s.stk n := rfl
@[simp] theorem State.putFw_stk_read (s : State) (x : FwState) (n : Nat) : (s.putFw x).stk n = s.stk n := rfl
@[simp] theorem State.putPower_stk_read (s : State) (x : PowerState) (n : Nat) : (s.putPower x).stk n = s.stk n := rfl
@[simp] theorem State.putTherm_stk_read (s : State) (x : ThermState) (n : Nat) : (s.putTherm x).stk n = s.stk n := rfl
@[simp] theorem State.putCool_stk_read (s : State) (x : CoolState) (n : Nat) : (s.putCool x).stk n = s.stk n := rfl
@[simp] theorem State.putSafety_stk_read (s : State) (x : SafetyState) (n : Nat) : (s.putSafety x).stk n = s.stk n := rfl
@[simp] theorem State.putAge_stk_read (s : State) (x : AgeState) (n : Nat) : (s.putAge x).stk n = s.stk n := rfl
@[simp] theorem State.putTw_stk_read (s : State) (x : TwState) (n : Nat) : (s.putTw x).stk n = s.stk n := rfl
@[simp] theorem State.putRecorder_stk_read (s : State) (x : RecState) (n : Nat) : (s.putRecorder x).stk n = s.stk n := rfl
@[simp] theorem State.putAcl_stk_read (s : State) (x : Assoc (Option Nat)) (n : Nat) : (s.putAcl x).stk n = s.stk n := rfl
@[simp] theorem State.putAclStart_stk_read (s : State) (x : Assoc (Option Nat)) (n : Nat) : (s.putAclStart x).stk n = s.stk n := rfl
@[simp] theorem State.putLatches_stk_read (s : State) (x : Assoc Nat) (n : Nat) : (s.putLatches x).stk n = s.stk n := rfl
@[simp] theorem State.putOutbox_stk_read (s : State) (x : List Out) (n : Nat) : (s.putOutbox x).stk n = s.stk n := rfl
@[simp] theorem State.putPending_queue_read (s : State) (x : List Instr) (n : Nat) : (s.putPending x).queue n = s.queue n := rfl
@[simp] theorem State.putNow_queue_read (s : State) (x : Nat) (n : Nat) : (s.putNow x).queue n = s.queue n := rfl
@[simp] theorem State.putFree_queue_read (s : State) (x : Nat) (n : Nat) : (s.putFree x).queue n = s.queue n := rfl
@[simp] theorem State.putRegs_queue_read (s : State) (x : Assoc Nat) (n : Nat) : (s.putRegs x).queue n = s.queue n := rfl
@[simp] theorem State.putBeat_queue_read (s : State) (x : BeatState) (n : Nat) : (s.putBeat x).queue n = s.queue n := rfl
@[simp] theorem State.putSlotStop_queue_read (s : State) (x : Nat) (n : Nat) : (s.putSlotStop x).queue n = s.queue n := rfl
@[simp] theorem State.putHost_queue_read (s : State) (x : HostState) (n : Nat) : (s.putHost x).queue n = s.queue n := rfl
@[simp] theorem State.putHbm_queue_read (s : State) (x : List Host.Cell) (n : Nat) : (s.putHbm x).queue n = s.queue n := rfl
@[simp] theorem State.putHbmErr_queue_read (s : State) (x : Assoc Nat) (n : Nat) : (s.putHbmErr x).queue n = s.queue n := rfl
@[simp] theorem State.putStacks_queue_read (s : State) (x : Assoc StackState) (n : Nat) : (s.putStacks x).queue n = s.queue n := rfl
@[simp] theorem State.putSram_queue_read (s : State) (x : List Host.Cell) (n : Nat) : (s.putSram x).queue n = s.queue n := rfl
@[simp] theorem State.putSramBad_queue_read (s : State) (x : Assoc Nat) (n : Nat) : (s.putSramBad x).queue n = s.queue n := rfl
@[simp] theorem State.putParts_queue_read (s : State) (x : Assoc PartState) (n : Nat) : (s.putParts x).queue n = s.queue n := rfl
@[simp] theorem State.putTiles_queue_read (s : State) (x : Assoc TileState) (n : Nat) : (s.putTiles x).queue n = s.queue n := rfl
@[simp] theorem State.putEnergy_queue_read (s : State) (x : Assoc Nat) (n : Nat) : (s.putEnergy x).queue n = s.queue n := rfl
@[simp] theorem State.putCores_queue_read (s : State) (x : Assoc CoreState) (n : Nat) : (s.putCores x).queue n = s.queue n := rfl
@[simp] theorem State.putJugs_queue_read (s : State) (x : Assoc JugTile) (n : Nat) : (s.putJugs x).queue n = s.queue n := rfl
@[simp] theorem State.putFab_queue_read (s : State) (x : FabState) (n : Nat) : (s.putFab x).queue n = s.queue n := rfl
@[simp] theorem State.putIbu_queue_read (s : State) (x : IbuState) (n : Nat) : (s.putIbu x).queue n = s.queue n := rfl
@[simp] theorem State.putTests_queue_read (s : State) (x : List TestRun) (n : Nat) : (s.putTests x).queue n = s.queue n := rfl
@[simp] theorem State.putTestLog_queue_read (s : State) (x : List TestLog) (n : Nat) : (s.putTestLog x).queue n = s.queue n := rfl
@[simp] theorem State.putFailLog_queue_read (s : State) (x : List (Nat × Nat × Nat × Nat)) (n : Nat) : (s.putFailLog x).queue n = s.queue n := rfl
@[simp] theorem State.putScanIr_queue_read (s : State) (x : Nat) (n : Nat) : (s.putScanIr x).queue n = s.queue n := rfl
@[simp] theorem State.putKeep_queue_read (s : State) (x : KeepState) (n : Nat) : (s.putKeep x).queue n = s.queue n := rfl
@[simp] theorem State.putFw_queue_read (s : State) (x : FwState) (n : Nat) : (s.putFw x).queue n = s.queue n := rfl
@[simp] theorem State.putPower_queue_read (s : State) (x : PowerState) (n : Nat) : (s.putPower x).queue n = s.queue n := rfl
@[simp] theorem State.putTherm_queue_read (s : State) (x : ThermState) (n : Nat) : (s.putTherm x).queue n = s.queue n := rfl
@[simp] theorem State.putCool_queue_read (s : State) (x : CoolState) (n : Nat) : (s.putCool x).queue n = s.queue n := rfl
@[simp] theorem State.putSafety_queue_read (s : State) (x : SafetyState) (n : Nat) : (s.putSafety x).queue n = s.queue n := rfl
@[simp] theorem State.putAge_queue_read (s : State) (x : AgeState) (n : Nat) : (s.putAge x).queue n = s.queue n := rfl
@[simp] theorem State.putTw_queue_read (s : State) (x : TwState) (n : Nat) : (s.putTw x).queue n = s.queue n := rfl
@[simp] theorem State.putRecorder_queue_read (s : State) (x : RecState) (n : Nat) : (s.putRecorder x).queue n = s.queue n := rfl
@[simp] theorem State.putAcl_queue_read (s : State) (x : Assoc (Option Nat)) (n : Nat) : (s.putAcl x).queue n = s.queue n := rfl
@[simp] theorem State.putAclStart_queue_read (s : State) (x : Assoc (Option Nat)) (n : Nat) : (s.putAclStart x).queue n = s.queue n := rfl
@[simp] theorem State.putLatches_queue_read (s : State) (x : Assoc Nat) (n : Nat) : (s.putLatches x).queue n = s.queue n := rfl
@[simp] theorem State.putOutbox_queue_read (s : State) (x : List Out) (n : Nat) : (s.putOutbox x).queue n = s.queue n := rfl

end Sys2Proof.Machine
end

