-- ==== Sys2Proof/Laws/Memory.lean ====
section
/-! SUPPORT. The memories keep their canonical form under every memory operation, and a read after a write. -/

namespace Sys2Proof.Machine

/-- What an address reads as does not depend on the bytes listed. -/
@[simp] theorem State.unlisted_hbmSet (s : State) (k key : Nat) (b : Byte) : (s.hbmSet k b).unlisted key = s.unlisted key := rfl
@[simp] theorem State.unlisted_sramSet (s : State) (k key : Nat) (b : Byte) : (s.sramSet k b).unlisted key = s.unlisted key := rfl

theorem Memory.wf_iff (s : State) : Memory.wf s = true ↔
    Rising s.hbm ∧ (∀ c ∈ s.hbm, c.2 ≠ s.unlisted c.1) ∧ Rising s.sram ∧ (∀ c ∈ s.sram, c.2 ≠ 0) := by
  simp only [Memory.wf, Bool.and_eq_true, List.all_eq_true, bne_iff_ne, and_assoc]

/-- A stack byte reads back as it was written; every other location reads as before. -/
theorem State.hbmByte_hbmSet (s : State) (k key : Nat) (b : Byte) : (s.hbmSet k b).hbmByte key = if key = k then b else s.hbmByte key := by
  simp only [State.hbmByte, State.unlisted_hbmSet]
  by_cases h : key = k
  · subst h; simp [State.hbmSet, Assoc.get_put]
  · simp only [State.hbmSet, State.putHbm_hbm, Assoc.get_put_ne _ _ _ _ _ _ h, if_neg h]

theorem State.sramByte_sramSet (s : State) (k key : Nat) (b : Byte) : (s.sramSet k b).sramByte key = if key = k then b else s.sramByte key := by
  simp only [State.sramByte, State.sramSet, State.putSram_sram, Assoc.get_put]

theorem Memory.wf_hbmSet (s : State) (k : Nat) (b : Byte) (h : Memory.wf s = true) : Memory.wf (s.hbmSet k b) = true := by
  obtain ⟨h1, h2, h3, h4⟩ := (Memory.wf_iff s).mp h
  refine (Memory.wf_iff _).mpr ⟨Assoc.rising_put _ _ _ _ h1, fun c hc => ?_, h3, h4⟩
  rcases Assoc.put_lists _ _ _ _ _ hc with ⟨rfl, hb⟩ | hc
  · exact hb
  · exact h2 c hc

theorem Memory.wf_hbmSetList (s : State) (k : Nat) (bs : List Byte) (h : Memory.wf s = true) : Memory.wf (s.hbmSetList k bs) = true := by
  induction bs generalizing s k with
  | nil => exact h
  | cons b bs ih => exact ih _ _ (Memory.wf_hbmSet s k b h)

theorem Memory.wf_sramSet (s : State) (k : Nat) (b : Byte) (h : Memory.wf s = true) : Memory.wf (s.sramSet k b) = true := by
  obtain ⟨h1, h2, h3, h4⟩ := (Memory.wf_iff s).mp h
  refine (Memory.wf_iff _).mpr ⟨h1, h2, Assoc.rising_put _ _ _ _ h3, fun c hc => ?_⟩
  rcases Assoc.put_lists _ _ _ _ _ hc with ⟨rfl, hb⟩ | hc
  · exact hb
  · exact h4 c hc

theorem Memory.wf_sramSetList (s : State) (k : Nat) (bs : List Byte) (h : Memory.wf s = true) : Memory.wf (s.sramSetList k bs) = true := by
  induction bs generalizing s k with
  | nil => exact h
  | cons b bs ih => exact ih _ _ (Memory.wf_sramSet s k b h)

/-- What an address reads as does not depend on the granules a remap carried over. -/
theorem State.stk_setCarried (s : State) (k i : Nat) (l : List Nat) :
    (s.setStk k { s.stk k with carried := l }).stk i = { s.stk i with carried := ((s.setStk k { s.stk k with carried := l }).stk i).carried } := by
  rw [State.stk_setStk]
  split
  · next e => subst e; rfl
  · rfl
theorem Memory.wf_setCarried (s : State) (k : Nat) (l : List Nat) (h : Memory.wf s = true) :
    Memory.wf (s.setStk k { s.stk k with carried := l }) = true := by
  obtain ⟨h1, h2, h3, h4⟩ := (Memory.wf_iff s).mp h
  refine (Memory.wf_iff _).mpr ⟨h1, fun c hc => ?_, h3, h4⟩
  have e : (s.setStk k { s.stk k with carried := l }).unlisted c.1 = s.unlisted c.1 := by
    simp only [State.unlisted]
    rw [State.stk_setCarried]
  rw [e]
  exact h2 c hc

/-- Writing a granule of a stack. -/
theorem Memory.wf_writeGran (s : State) (k off : Nat) (data : List Byte) (h : Memory.wf s = true) : Memory.wf (s.writeGran k off data) = true := by
  simp only [State.writeGran]
  split
  · exact Memory.wf_setCarried _ _ _ (Memory.wf_hbmSetList s _ _ h)
  · exact Memory.wf_hbmSetList s _ _ h

/-- The contents of a stack become undefined. -/
theorem Memory.wf_loseStack (s : State) (k : Nat) (h : Memory.wf s = true) : Memory.wf (s.loseStack k) = true := by
  obtain ⟨h1, h2, h3, h4⟩ := (Memory.wf_iff s).mp h
  refine (Memory.wf_iff _).mpr ⟨Assoc.rising_filter _ _ h1, fun c hc => ?_, h3, h4⟩
  obtain ⟨hc, hk⟩ := List.mem_filter.mp hc
  have hk : c.1 / 2 ^ 37 ≠ k := by simpa using hk
  have : (s.loseStack k).unlisted c.1 = s.unlisted c.1 := by
    simp [State.unlisted, State.loseStack, State.stk_setStk, -Nat.reducePow, hk]
  rw [this]
  exact h2 c hc

/-- The SRAM of a tile is initialised. -/
theorem Memory.wf_sramInit (s : State) (t : Nat) (h : Memory.wf s = true) : Memory.wf (s.sramInit t) = true := by
  obtain ⟨h1, h2, h3, h4⟩ := (Memory.wf_iff s).mp h
  exact (Memory.wf_iff _).mpr ⟨h1, h2, Assoc.rising_filter _ _ h3, fun c hc => h4 c (List.mem_filter.mp hc).1⟩

/-- After reset nothing is listed. -/
theorem Memory.wf_reset : Memory.wf State.reset = true := rfl

end Sys2Proof.Machine
end

