-- ==== Sys2Proof/Laws/Events.lean ====
section
/-! SUPPORT. What an event changes (R329, R536 to R539), said once: register fields of the status and of the event ring, the ring in memory,
interrupts; nothing else. -/

namespace Sys2Proof.Machine

/-- Everything but register fields, stack memory (which keeps its canonical form), the host side, the recorder's event counts and what has been sent
out is as before. -/
structure Quiet (s t : State) : Prop where
  pending : t.pending = s.pending
  now : t.now = s.now
  free : t.free = s.free
  beat : t.beat = s.beat
  slotStop : t.slotStop = s.slotStop
  sram : t.sram = s.sram
  sramBad : t.sramBad = s.sramBad
  parts : t.parts = s.parts
  tiles : t.tiles = s.tiles
  energy : t.energy = s.energy
  cores : t.cores = s.cores
  queues : t.queues = s.queues
  jugs : t.jugs = s.jugs
  fab : t.fab = s.fab
  ibu : t.ibu = s.ibu
  tests : t.tests = s.tests
  testLog : t.testLog = s.testLog
  failLog : t.failLog = s.failLog
  scanIr : t.scanIr = s.scanIr
  keep : t.keep = s.keep
  fw : t.fw = s.fw
  power : t.power = s.power
  therm : t.therm = s.therm
  cool : t.cool = s.cool
  safety : t.safety = s.safety
  age : t.age = s.age
  tw : t.tw = s.tw
  acl : t.acl = s.acl
  aclStart : t.aclStart = s.aclStart
  latches : t.latches = s.latches
  /-- A granule written is no longer one that a remap carried over uncorrectable. -/
  stk : ∀ i, t.stk i = { s.stk i with carried := (t.stk i).carried }
  wf : Memory.wf s = true → Memory.wf t = true

theorem Quiet.refl (s : State) : Quiet s s := ⟨rfl, rfl, rfl, rfl, rfl, rfl, rfl, rfl, rfl, rfl, rfl, rfl, rfl, rfl, rfl, rfl, rfl, rfl, rfl, rfl, rfl, rfl, rfl, rfl, rfl, rfl, rfl, rfl, rfl, rfl, fun _ => rfl, fun h => h⟩
theorem Quiet.trans {s t u : State} (h : Quiet s t) (k : Quiet t u) : Quiet s u :=
  ⟨k.pending.trans h.pending, k.now.trans h.now, k.free.trans h.free, k.beat.trans h.beat, k.slotStop.trans h.slotStop, k.sram.trans h.sram, k.sramBad.trans h.sramBad, k.parts.trans h.parts, k.tiles.trans h.tiles, k.energy.trans h.energy, k.cores.trans h.cores, k.queues.trans h.queues, k.jugs.trans h.jugs, k.fab.trans h.fab, k.ibu.trans h.ibu, k.tests.trans h.tests, k.testLog.trans h.testLog, k.failLog.trans h.failLog, k.scanIr.trans h.scanIr, k.keep.trans h.keep, k.fw.trans h.fw, k.power.trans h.power, k.therm.trans h.therm, k.cool.trans h.cool, k.safety.trans h.safety, k.age.trans h.age, k.tw.trans h.tw, k.acl.trans h.acl, k.aclStart.trans h.aclStart, k.latches.trans h.latches, fun i => by rw [k.stk i, h.stk i], fun x => k.wf (h.wf x)⟩
theorem Quiet.wr {s t : State} (h : Quiet s t) (f : Fld) (v i j : Nat) : Quiet s (t.wr f v i j) := h.trans ⟨rfl, rfl, rfl, rfl, rfl, rfl, rfl, rfl, rfl, rfl, rfl, rfl, rfl, rfl, rfl, rfl, rfl, rfl, rfl, rfl, rfl, rfl, rfl, rfl, rfl, rfl, rfl, rfl, rfl, rfl, fun _ => rfl, fun h => h⟩
theorem Quiet.add {s t : State} (h : Quiet s t) (f : Fld) (v i j : Nat) : Quiet s (t.add f v i j) := h.trans ⟨rfl, rfl, rfl, rfl, rfl, rfl, rfl, rfl, rfl, rfl, rfl, rfl, rfl, rfl, rfl, rfl, rfl, rfl, rfl, rfl, rfl, rfl, rfl, rfl, rfl, rfl, rfl, rfl, rfl, rfl, fun _ => rfl, fun h => h⟩
theorem Quiet.hbmSet {s t : State} (h : Quiet s t) (k : Nat) (b : Byte) : Quiet s (t.hbmSet k b) := h.trans ⟨rfl, rfl, rfl, rfl, rfl, rfl, rfl, rfl, rfl, rfl, rfl, rfl, rfl, rfl, rfl, rfl, rfl, rfl, rfl, rfl, rfl, rfl, rfl, rfl, rfl, rfl, rfl, rfl, rfl, rfl, fun _ => rfl, Memory.wf_hbmSet t k b⟩
theorem Quiet.setCarried {s t : State} (h : Quiet s t) (k : Nat) (l : List Nat) : Quiet s (t.setStk k { t.stk k with carried := l }) := h.trans ⟨rfl, rfl, rfl, rfl, rfl, rfl, rfl, rfl, rfl, rfl, rfl, rfl, rfl, rfl, rfl, rfl, rfl, rfl, rfl, rfl, rfl, rfl, rfl, rfl, rfl, rfl, rfl, rfl, rfl, rfl, fun i => State.stk_setCarried t k i l, Memory.wf_setCarried t k l⟩
theorem Quiet.putHost {s t : State} (h : Quiet s t) (x : HostState) : Quiet s (t.putHost x) := h.trans ⟨rfl, rfl, rfl, rfl, rfl, rfl, rfl, rfl, rfl, rfl, rfl, rfl, rfl, rfl, rfl, rfl, rfl, rfl, rfl, rfl, rfl, rfl, rfl, rfl, rfl, rfl, rfl, rfl, rfl, rfl, fun _ => rfl, fun h => h⟩
theorem Quiet.putOutbox {s t : State} (h : Quiet s t) (x : List Out) : Quiet s (t.putOutbox x) := h.trans ⟨rfl, rfl, rfl, rfl, rfl, rfl, rfl, rfl, rfl, rfl, rfl, rfl, rfl, rfl, rfl, rfl, rfl, rfl, rfl, rfl, rfl, rfl, rfl, rfl, rfl, rfl, rfl, rfl, rfl, rfl, fun _ => rfl, fun h => h⟩
theorem Quiet.putRecorder {s t : State} (h : Quiet s t) (x : RecState) : Quiet s (t.putRecorder x) := h.trans ⟨rfl, rfl, rfl, rfl, rfl, rfl, rfl, rfl, rfl, rfl, rfl, rfl, rfl, rfl, rfl, rfl, rfl, rfl, rfl, rfl, rfl, rfl, rfl, rfl, rfl, rfl, rfl, rfl, rfl, rfl, fun _ => rfl, fun h => h⟩
theorem Quiet.putHbmErr {s t : State} (h : Quiet s t) (x : Assoc Nat) : Quiet s (t.putHbmErr x) := h.trans ⟨rfl, rfl, rfl, rfl, rfl, rfl, rfl, rfl, rfl, rfl, rfl, rfl, rfl, rfl, rfl, rfl, rfl, rfl, rfl, rfl, rfl, rfl, rfl, rfl, rfl, rfl, rfl, rfl, rfl, rfl, fun _ => rfl, fun h => h⟩
theorem Quiet.ite {s t u : State} (p : Prop) [Decidable p] (h : Quiet s t) (k : Quiet s u) : Quiet s (if p then t else u) := by
  split
  · exact h
  · exact k

theorem Quiet.hbmSetList {s t : State} (h : Quiet s t) (k : Nat) (bs : List Byte) : Quiet s (t.hbmSetList k bs) := by
  induction bs generalizing t k with
  | nil => exact h
  | cons b bs ih => exact ih (h.hbmSet k b) _

theorem Quiet.writeGran {s t : State} (h : Quiet s t) (k off : Nat) (bs : List Byte) : Quiet s (t.writeGran k off bs) :=
  Quiet.ite _ (((h.hbmSetList _ _).putHbmErr _).setCarried _ _) ((h.hbmSetList _ _).putHbmErr _)

theorem Quiet.ringPut {s t : State} (h : Quiet s t) (off : Nat) (bs : List Byte) : Quiet s (t.ringPut off bs) := by
  simp only [State.ringPut]
  refine Quiet.add ?_ _ _ _ _
  generalize List.range (bs.length / 32) = l
  induction l generalizing t with
  | nil => exact h
  | cons i l ih => exact ih (h.writeGran _ _ _)

theorem Quiet.sendMsix {s t : State} (h : Quiet s t) (v : Nat) : Quiet s (t.sendMsix v) :=
  Quiet.ite _ (h.putHost _) (h.putOutbox _)

theorem Quiet.evtCount {s t : State} (h : Quiet s t) : Quiet s t.evtCount := h.putHost _

theorem Quiet.evtWrite {s t : State} (h : Quiet s t) (e : EvtRec) : Quiet s (t.evtWrite e) :=
  Quiet.ite _ (((((h.ringPut _ _).putRecorder _).wr _ _ _ _).putHost _).sendMsix _) ((((h.ringPut _ _).putRecorder _).wr _ _ _ _).putHost _)

theorem Quiet.evtDrop {s t : State} (h : Quiet s t) (b : Bool) : Quiet s (t.evtDrop b) :=
  Quiet.ite _ ((h.add _ _ _ _).evtCount.putHost _) (h.add _ _ _ _).evtCount

theorem quiet_setEvtBit (s : State) (pg : Page) (i b : Nat) : Quiet s (s.setEvtBit pg i b).2 := by
  simp only [State.setEvtBit]
  split
  · exact Quiet.refl s
  · split
    · exact Quiet.ite _ ((((Quiet.refl s).wr _ _ _ _).sendMsix _).putOutbox _) (((Quiet.refl s).wr _ _ _ _).sendMsix _)
    · exact Quiet.ite _ (((Quiet.refl s).wr _ _ _ _).putOutbox _) ((Quiet.refl s).wr _ _ _ _)

theorem Quiet.evtPost {s t : State} (h : Quiet s t) (e : EvtRec) : Quiet s (t.evtPost e) := by
  have put : ∀ u, Quiet s u → Quiet s (if u.evtFull then u.evtDrop true else (u.evtWrite e).evtCount) :=
    fun u hu => Quiet.ite _ (hu.evtDrop _) (hu.evtWrite _).evtCount
  simp only [State.evtPost]
  split
  · exact h.evtDrop _
  · split
    · exact h.evtDrop _
    · apply put
      split
      · exact h
      · exact ((h.trans (quiet_setEvtBit t .HOSTQ 0 1)).evtWrite _).evtCount.putHost _

theorem Quiet.post {s t : State} (h : Quiet s t) (c p b : Nat) (ps : List Nat) (q : Option Nat) : Quiet s (t.post c p b ps q) :=
  Quiet.ite _ (h.evtPost _) (h.putHost _)

/-- An event leaves everything as it was but register fields, the event ring and what it sends. -/
theorem Quiet.raise {s t : State} (h : Quiet s t) (e : Ev) (i : Nat) (ps : List Nat) (q : Option Nat) : Quiet s (t.raise e i ps q) :=
  Quiet.ite _ ((h.trans (quiet_setEvtBit _ _ _ _)).post _ _ _ _ _) (h.trans (quiet_setEvtBit _ _ _ _))

theorem quiet_raise (s : State) (e : Ev) (i : Nat) (ps : List Nat) (q : Option Nat) : Quiet s (s.raise e i ps q) := (Quiet.refl s).raise e i ps q
theorem quiet_postBare (s : State) (c : Nat) (ps : List Nat) (q : Option Nat) : Quiet s (s.postBare c ps q) := (Quiet.refl s).post _ _ _ _ _

@[simp] theorem State.raise_pending (s : State) (e : Ev) (i : Nat) (ps : List Nat) (q : Option Nat) : (s.raise e i ps q).pending = s.pending :=
  (quiet_raise s e i ps q).pending
@[simp] theorem State.postBare_pending (s : State) (c : Nat) (ps : List Nat) (q : Option Nat) : (s.postBare c ps q).pending = s.pending :=
  (quiet_postBare s c ps q).pending
@[simp] theorem State.raise_now (s : State) (e : Ev) (i : Nat) (ps : List Nat) (q : Option Nat) : (s.raise e i ps q).now = s.now :=
  (quiet_raise s e i ps q).now
@[simp] theorem State.postBare_now (s : State) (c : Nat) (ps : List Nat) (q : Option Nat) : (s.postBare c ps q).now = s.now :=
  (quiet_postBare s c ps q).now
@[simp] theorem State.raise_free (s : State) (e : Ev) (i : Nat) (ps : List Nat) (q : Option Nat) : (s.raise e i ps q).free = s.free :=
  (quiet_raise s e i ps q).free
@[simp] theorem State.postBare_free (s : State) (c : Nat) (ps : List Nat) (q : Option Nat) : (s.postBare c ps q).free = s.free :=
  (quiet_postBare s c ps q).free
@[simp] theorem State.raise_beat (s : State) (e : Ev) (i : Nat) (ps : List Nat) (q : Option Nat) : (s.raise e i ps q).beat = s.beat :=
  (quiet_raise s e i ps q).beat
@[simp] theorem State.postBare_beat (s : State) (c : Nat) (ps : List Nat) (q : Option Nat) : (s.postBare c ps q).beat = s.beat :=
  (quiet_postBare s c ps q).beat
@[simp] theorem State.raise_slotStop (s : State) (e : Ev) (i : Nat) (ps : List Nat) (q : Option Nat) : (s.raise e i ps q).slotStop = s.slotStop :=
  (quiet_raise s e i ps q).slotStop
@[simp] theorem State.postBare_slotStop (s : State) (c : Nat) (ps : List Nat) (q : Option Nat) : (s.postBare c ps q).slotStop = s.slotStop :=
  (quiet_postBare s c ps q).slotStop
theorem State.stk_raise (s : State) (e : Ev) (i : Nat) (ps : List Nat) (q : Option Nat) (k : Nat) :
    (s.raise e i ps q).stk k = { s.stk k with carried := ((s.raise e i ps q).stk k).carried } := (quiet_raise s e i ps q).stk k
@[simp] theorem State.raise_sram (s : State) (e : Ev) (i : Nat) (ps : List Nat) (q : Option Nat) : (s.raise e i ps q).sram = s.sram :=
  (quiet_raise s e i ps q).sram
@[simp] theorem State.postBare_sram (s : State) (c : Nat) (ps : List Nat) (q : Option Nat) : (s.postBare c ps q).sram = s.sram :=
  (quiet_postBare s c ps q).sram
@[simp] theorem State.raise_sramBad (s : State) (e : Ev) (i : Nat) (ps : List Nat) (q : Option Nat) : (s.raise e i ps q).sramBad = s.sramBad :=
  (quiet_raise s e i ps q).sramBad
@[simp] theorem State.postBare_sramBad (s : State) (c : Nat) (ps : List Nat) (q : Option Nat) : (s.postBare c ps q).sramBad = s.sramBad :=
  (quiet_postBare s c ps q).sramBad
@[simp] theorem State.raise_parts (s : State) (e : Ev) (i : Nat) (ps : List Nat) (q : Option Nat) : (s.raise e i ps q).parts = s.parts :=
  (quiet_raise s e i ps q).parts
@[simp] theorem State.postBare_parts (s : State) (c : Nat) (ps : List Nat) (q : Option Nat) : (s.postBare c ps q).parts = s.parts :=
  (quiet_postBare s c ps q).parts
@[simp] theorem State.raise_tiles (s : State) (e : Ev) (i : Nat) (ps : List Nat) (q : Option Nat) : (s.raise e i ps q).tiles = s.tiles :=
  (quiet_raise s e i ps q).tiles
@[simp] theorem State.postBare_tiles (s : State) (c : Nat) (ps : List Nat) (q : Option Nat) : (s.postBare c ps q).tiles = s.tiles :=
  (quiet_postBare s c ps q).tiles
@[simp] theorem State.raise_energy (s : State) (e : Ev) (i : Nat) (ps : List Nat) (q : Option Nat) : (s.raise e i ps q).energy = s.energy :=
  (quiet_raise s e i ps q).energy
@[simp] theorem State.postBare_energy (s : State) (c : Nat) (ps : List Nat) (q : Option Nat) : (s.postBare c ps q).energy = s.energy :=
  (quiet_postBare s c ps q).energy
@[simp] theorem State.raise_cores (s : State) (e : Ev) (i : Nat) (ps : List Nat) (q : Option Nat) : (s.raise e i ps q).cores = s.cores :=
  (quiet_raise s e i ps q).cores
@[simp] theorem State.postBare_cores (s : State) (c : Nat) (ps : List Nat) (q : Option Nat) : (s.postBare c ps q).cores = s.cores :=
  (quiet_postBare s c ps q).cores
@[simp] theorem State.raise_queues (s : State) (e : Ev) (i : Nat) (ps : List Nat) (q : Option Nat) : (s.raise e i ps q).queues = s.queues :=
  (quiet_raise s e i ps q).queues
@[simp] theorem State.postBare_queues (s : State) (c : Nat) (ps : List Nat) (q : Option Nat) : (s.postBare c ps q).queues = s.queues :=
  (quiet_postBare s c ps q).queues
@[simp] theorem State.raise_jugs (s : State) (e : Ev) (i : Nat) (ps : List Nat) (q : Option Nat) : (s.raise e i ps q).jugs = s.jugs :=
  (quiet_raise s e i ps q).jugs
@[simp] theorem State.postBare_jugs (s : State) (c : Nat) (ps : List Nat) (q : Option Nat) : (s.postBare c ps q).jugs = s.jugs :=
  (quiet_postBare s c ps q).jugs
@[simp] theorem State.raise_fab (s : State) (e : Ev) (i : Nat) (ps : List Nat) (q : Option Nat) : (s.raise e i ps q).fab = s.fab :=
  (quiet_raise s e i ps q).fab
@[simp] theorem State.postBare_fab (s : State) (c : Nat) (ps : List Nat) (q : Option Nat) : (s.postBare c ps q).fab = s.fab :=
  (quiet_postBare s c ps q).fab
@[simp] theorem State.raise_ibu (s : State) (e : Ev) (i : Nat) (ps : List Nat) (q : Option Nat) : (s.raise e i ps q).ibu = s.ibu :=
  (quiet_raise s e i ps q).ibu
@[simp] theorem State.postBare_ibu (s : State) (c : Nat) (ps : List Nat) (q : Option Nat) : (s.postBare c ps q).ibu = s.ibu :=
  (quiet_postBare s c ps q).ibu
@[simp] theorem State.raise_tests (s : State) (e : Ev) (i : Nat) (ps : List Nat) (q : Option Nat) : (s.raise e i ps q).tests = s.tests :=
  (quiet_raise s e i ps q).tests
@[simp] theorem State.postBare_tests (s : State) (c : Nat) (ps : List Nat) (q : Option Nat) : (s.postBare c ps q).tests = s.tests :=
  (quiet_postBare s c ps q).tests
@[simp] theorem State.raise_testLog (s : State) (e : Ev) (i : Nat) (ps : List Nat) (q : Option Nat) : (s.raise e i ps q).testLog = s.testLog :=
  (quiet_raise s e i ps q).testLog
@[simp] theorem State.postBare_testLog (s : State) (c : Nat) (ps : List Nat) (q : Option Nat) : (s.postBare c ps q).testLog = s.testLog :=
  (quiet_postBare s c ps q).testLog
@[simp] theorem State.raise_failLog (s : State) (e : Ev) (i : Nat) (ps : List Nat) (q : Option Nat) : (s.raise e i ps q).failLog = s.failLog :=
  (quiet_raise s e i ps q).failLog
@[simp] theorem State.postBare_failLog (s : State) (c : Nat) (ps : List Nat) (q : Option Nat) : (s.postBare c ps q).failLog = s.failLog :=
  (quiet_postBare s c ps q).failLog
@[simp] theorem State.raise_scanIr (s : State) (e : Ev) (i : Nat) (ps : List Nat) (q : Option Nat) : (s.raise e i ps q).scanIr = s.scanIr :=
  (quiet_raise s e i ps q).scanIr
@[simp] theorem State.postBare_scanIr (s : State) (c : Nat) (ps : List Nat) (q : Option Nat) : (s.postBare c ps q).scanIr = s.scanIr :=
  (quiet_postBare s c ps q).scanIr
@[simp] theorem State.raise_keep (s : State) (e : Ev) (i : Nat) (ps : List Nat) (q : Option Nat) : (s.raise e i ps q).keep = s.keep :=
  (quiet_raise s e i ps q).keep
@[simp] theorem State.postBare_keep (s : State) (c : Nat) (ps : List Nat) (q : Option Nat) : (s.postBare c ps q).keep = s.keep :=
  (quiet_postBare s c ps q).keep
@[simp] theorem State.raise_fw (s : State) (e : Ev) (i : Nat) (ps : List Nat) (q : Option Nat) : (s.raise e i ps q).fw = s.fw :=
  (quiet_raise s e i ps q).fw
@[simp] theorem State.postBare_fw (s : State) (c : Nat) (ps : List Nat) (q : Option Nat) : (s.postBare c ps q).fw = s.fw :=
  (quiet_postBare s c ps q).fw
@[simp] theorem State.raise_power (s : State) (e : Ev) (i : Nat) (ps : List Nat) (q : Option Nat) : (s.raise e i ps q).power = s.power :=
  (quiet_raise s e i ps q).power
@[simp] theorem State.postBare_power (s : State) (c : Nat) (ps : List Nat) (q : Option Nat) : (s.postBare c ps q).power = s.power :=
  (quiet_postBare s c ps q).power
@[simp] theorem State.raise_therm (s : State) (e : Ev) (i : Nat) (ps : List Nat) (q : Option Nat) : (s.raise e i ps q).therm = s.therm :=
  (quiet_raise s e i ps q).therm
@[simp] theorem State.postBare_therm (s : State) (c : Nat) (ps : List Nat) (q : Option Nat) : (s.postBare c ps q).therm = s.therm :=
  (quiet_postBare s c ps q).therm
@[simp] theorem State.raise_cool (s : State) (e : Ev) (i : Nat) (ps : List Nat) (q : Option Nat) : (s.raise e i ps q).cool = s.cool :=
  (quiet_raise s e i ps q).cool
@[simp] theorem State.postBare_cool (s : State) (c : Nat) (ps : List Nat) (q : Option Nat) : (s.postBare c ps q).cool = s.cool :=
  (quiet_postBare s c ps q).cool
@[simp] theorem State.raise_safety (s : State) (e : Ev) (i : Nat) (ps : List Nat) (q : Option Nat) : (s.raise e i ps q).safety = s.safety :=
  (quiet_raise s e i ps q).safety
@[simp] theorem State.postBare_safety (s : State) (c : Nat) (ps : List Nat) (q : Option Nat) : (s.postBare c ps q).safety = s.safety :=
  (quiet_postBare s c ps q).safety
@[simp] theorem State.raise_age (s : State) (e : Ev) (i : Nat) (ps : List Nat) (q : Option Nat) : (s.raise e i ps q).age = s.age :=
  (quiet_raise s e i ps q).age
@[simp] theorem State.postBare_age (s : State) (c : Nat) (ps : List Nat) (q : Option Nat) : (s.postBare c ps q).age = s.age :=
  (quiet_postBare s c ps q).age
@[simp] theorem State.raise_tw (s : State) (e : Ev) (i : Nat) (ps : List Nat) (q : Option Nat) : (s.raise e i ps q).tw = s.tw :=
  (quiet_raise s e i ps q).tw
@[simp] theorem State.postBare_tw (s : State) (c : Nat) (ps : List Nat) (q : Option Nat) : (s.postBare c ps q).tw = s.tw :=
  (quiet_postBare s c ps q).tw
@[simp] theorem State.raise_acl (s : State) (e : Ev) (i : Nat) (ps : List Nat) (q : Option Nat) : (s.raise e i ps q).acl = s.acl :=
  (quiet_raise s e i ps q).acl
@[simp] theorem State.postBare_acl (s : State) (c : Nat) (ps : List Nat) (q : Option Nat) : (s.postBare c ps q).acl = s.acl :=
  (quiet_postBare s c ps q).acl
@[simp] theorem State.raise_aclStart (s : State) (e : Ev) (i : Nat) (ps : List Nat) (q : Option Nat) : (s.raise e i ps q).aclStart = s.aclStart :=
  (quiet_raise s e i ps q).aclStart
@[simp] theorem State.postBare_aclStart (s : State) (c : Nat) (ps : List Nat) (q : Option Nat) : (s.postBare c ps q).aclStart = s.aclStart :=
  (quiet_postBare s c ps q).aclStart
@[simp] theorem State.raise_latches (s : State) (e : Ev) (i : Nat) (ps : List Nat) (q : Option Nat) : (s.raise e i ps q).latches = s.latches :=
  (quiet_raise s e i ps q).latches
@[simp] theorem State.postBare_latches (s : State) (c : Nat) (ps : List Nat) (q : Option Nat) : (s.postBare c ps q).latches = s.latches :=
  (quiet_postBare s c ps q).latches

/-! Which register fields an event can change. -/

/-- Fields outside a list of homes read as before. -/
def Same (ks : List Nat) (s t : State) : Prop := ∀ (f : Fld) (i j : Nat), f.key i j ∉ ks → t.rd f i j = s.rd f i j

theorem Same.refl (ks : List Nat) (s : State) : Same ks s s := fun _ _ _ _ => rfl
theorem Same.trans {ks : List Nat} {s t u : State} (h : Same ks s t) (k : Same ks t u) : Same ks s u :=
  fun f i j hf => (k f i j hf).trans (h f i j hf)
theorem Same.wr {ks : List Nat} {s t : State} (h : Same ks s t) (f : Fld) (v i j : Nat) (hk : f.key i j ∈ ks) : Same ks s (t.wr f v i j) :=
  fun g i' j' hg => by
    have e : g.key i' j' ≠ f.key i j := by
      intro e
      rw [e] at hg
      exact hg hk
    rw [State.rd_wr_ne t f g v i j i' j' e]
    exact h g i' j' hg
theorem Same.of_regs {ks : List Nat} {s t u : State} (h : Same ks s t) (e : u.regs = t.regs) : Same ks s u :=
  fun f i j hf => by rw [← h f i j hf]; simp only [State.rd, e]
theorem Same.ite {ks : List Nat} {s t u : State} (p : Prop) [Decidable p] (h : Same ks s t) (k : Same ks s u) : Same ks s (if p then t else u) := by
  split
  · exact h
  · exact k

theorem Same.putHost {ks : List Nat} {s t : State} (h : Same ks s t) (x : HostState) : Same ks s (t.putHost x) := h.of_regs rfl
theorem Same.evtCount {ks : List Nat} {s t : State} (h : Same ks s t) : Same ks s t.evtCount := h.putHost _

theorem State.hbmSetList_regs (s : State) (k : Nat) (bs : List Byte) : (s.hbmSetList k bs).regs = s.regs := by
  induction bs generalizing s k with
  | nil => rfl
  | cons b bs ih => exact ih _ _
theorem State.writeGran_regs (s : State) (k off : Nat) (bs : List Byte) : (s.writeGran k off bs).regs = s.regs := by
  simp only [State.writeGran]
  split <;> exact State.hbmSetList_regs _ _ _
theorem Same.ringPut {ks : List Nat} {s t : State} (h : Same ks s t) (hk : HS.WRITE.bytes.key 0 0 ∈ ks) (off : Nat) (bs : List Byte) :
    Same ks s (t.ringPut off bs) := by
  simp only [State.ringPut]
  refine Same.wr ?_ HS.WRITE.bytes _ 0 0 hk
  generalize List.range (bs.length / 32) = l
  induction l generalizing t with
  | nil => exact h
  | cons i l ih => exact ih (h.of_regs (State.writeGran_regs _ _ _ _))
theorem State.sendMsix_regs (s : State) (v : Nat) : (s.sendMsix v).regs = s.regs := by
  simp only [State.sendMsix]
  split <;> rfl

/-- The homes that the event ring itself can change. -/
def ringHomes : List Nat := [(hdrStatus .HOSTQ).key 0 0, HOSTQ.EVT_TAIL.tail.key 0 0, HOSTQ.EVT_DROPPED.count.key 0 0, HS.WRITE.bytes.key 0 0]

theorem Same.evtWrite {ks : List Nat} {s t : State} (h : Same ks s t) (hk : ∀ k ∈ ringHomes, k ∈ ks) (e : EvtRec) : Same ks s (t.evtWrite e) := by
  have base : ∀ (r : RecState) (x v : Nat) (a : List Byte) (g : HostState),
      Same ks s ((((t.ringPut x a).putRecorder r).wr HOSTQ.EVT_TAIL.tail v).putHost g) := by
    intro r x v a g
    have put := h.ringPut (hk _ (by simp [ringHomes])) x a
    exact (Same.wr (put.of_regs (u := (t.ringPut x a).putRecorder r) rfl) HOSTQ.EVT_TAIL.tail v 0 0 (hk _ (by simp [ringHomes]))).of_regs rfl
  exact Same.ite _ ((base _ _ _ _ _).of_regs (State.sendMsix_regs _ _)) (base _ _ _ _ _)

theorem Same.evtDrop {ks : List Nat} {s t : State} (h : Same ks s t) (hk : ∀ k ∈ ringHomes, k ∈ ks) (b : Bool) : Same ks s (t.evtDrop b) :=
  have base : Same ks s (t.add HOSTQ.EVT_DROPPED.count 1).evtCount :=
    Same.of_regs (Same.wr h HOSTQ.EVT_DROPPED.count _ 0 0 (hk _ (by simp [ringHomes]))) rfl
  Same.ite _ (base.of_regs rfl) base

theorem Same.setEvtBit {ks : List Nat} {s t : State} (h : Same ks s t) (pg : Page) (i b : Nat) (hk : (hdrStatus pg).key i 0 ∈ ks) :
    Same ks s (t.setEvtBit pg i b).2 := by
  simp only [State.setEvtBit]
  split
  · exact h
  · have base : Same ks s (t.wr (hdrStatus pg) (t.rd (hdrStatus pg) i ||| 2 ^ b) i) := h.wr _ _ _ _ hk
    split
    · exact Same.ite _ ((base.of_regs (State.sendMsix_regs _ _)).of_regs rfl) (base.of_regs (State.sendMsix_regs _ _))
    · exact Same.ite _ (base.of_regs rfl) base

theorem Same.evtPost {ks : List Nat} {s t : State} (h : Same ks s t) (hk : ∀ k ∈ ringHomes, k ∈ ks) (e : EvtRec) : Same ks s (t.evtPost e) := by
  have put : ∀ u, Same ks s u → Same ks s (if u.evtFull then u.evtDrop true else (u.evtWrite e).evtCount) :=
    fun u hu => Same.ite _ (hu.evtDrop hk _) (hu.evtWrite hk _).evtCount
  simp only [State.evtPost]
  split
  · exact h.evtDrop hk _
  · split
    · exact h.evtDrop hk _
    · apply put
      split
      · exact h
      · have bit : Same ks s (t.setEvtBit .HOSTQ 0 1).2 := h.setEvtBit .HOSTQ 0 1 (hk _ (by simp [ringHomes]))
        exact (bit.evtWrite hk _).evtCount.putHost _

theorem Same.post {ks : List Nat} {s t : State} (h : Same ks s t) (hk : ∀ k ∈ ringHomes, k ∈ ks) (c p b : Nat) (ps : List Nat) (q : Option Nat) :
    Same ks s (t.post c p b ps q) := by
  simp only [State.post]
  split
  · exact h.evtPost hk _
  · exact h.of_regs rfl

theorem Same.raise {ks : List Nat} {s t : State} (h : Same ks s t) (hk : ∀ k ∈ ringHomes, k ∈ ks) (e : Ev) (i : Nat) (ps : List Nat)
    (q : Option Nat) (he : (hdrStatus e.pg).key i 0 ∈ ks) : Same ks s (t.raise e i ps q) := by
  simp only [State.raise]
  split
  · exact (h.setEvtBit e.pg i e.bit he).post hk _ _ _ _ _
  · exact h.setEvtBit e.pg i e.bit he

/-- An event changes its page's status and what the event ring counts, and no other register field. -/
theorem State.rd_raise (s : State) (e : Ev) (i : Nat) (ps : List Nat) (q : Option Nat) (f : Fld) (i' j' : Nat)
    (hf : f.key i' j' ∉ (hdrStatus e.pg).key i 0 :: ringHomes) : (s.raise e i ps q).rd f i' j' = s.rd f i' j' :=
  (Same.refl ((hdrStatus e.pg).key i 0 :: ringHomes) s).raise (fun _ h => List.mem_cons_of_mem _ h) e i ps q (List.mem_cons_self ..) f i' j' hf

/-- The status bit of an event is set. -/
theorem State.raise_bit (s : State) (e : Ev) (i : Nat) (ps : List Nat) (q : Option Nat) (hb : e.bit < 32)
    (hr : (hdrStatus e.pg).key i 0 ∉ ringHomes) : ((s.raise e i ps q).rd (hdrStatus e.pg) i).testBit e.bit = true := by
  have post : ∀ (t : State) (a b c : Nat) (l : List Nat), (t.post a b c l q).rd (hdrStatus e.pg) i = t.rd (hdrStatus e.pg) i :=
    fun t a b c l => (Same.refl ringHomes t).post (fun _ h => h) a b c l q _ i 0 hr
  have set : ∀ u : State, u.regs = (s.wr (hdrStatus e.pg) (s.rd (hdrStatus e.pg) i ||| 2 ^ e.bit) i).regs →
      (u.rd (hdrStatus e.pg) i).testBit e.bit = true := by
    intro u hu
    have : u.rd (hdrStatus e.pg) i = (s.rd (hdrStatus e.pg) i ||| 2 ^ e.bit) % 2 ^ (hdrStatus e.pg).w := by
      rw [← State.rd_wr s (hdrStatus e.pg) _ i 0]
      simp only [State.rd, hu]
    rw [this, show (hdrStatus e.pg).w = 32 from rfl, Nat.testBit_mod_two_pow, Nat.testBit_or, Nat.testBit_two_pow_self]
    simp [hb]
  simp only [State.raise]
  by_cases old : (s.rd (hdrStatus e.pg) i).testBit e.bit = true
  · have : s.setEvtBit e.pg i e.bit = (false, s) := by simp only [State.setEvtBit, old, if_true]
    rw [this]
    exact old
  · have bit : ((s.setEvtBit e.pg i e.bit).2.rd (hdrStatus e.pg) i).testBit e.bit = true := by
      apply set
      simp only [State.setEvtBit, if_neg old]
      split <;> split <;> simp [State.sendMsix_regs]
    split
    · rw [post]; exact bit
    · exact bit

theorem State.rd_postBare (s : State) (c : Nat) (ps : List Nat) (q : Option Nat) (f : Fld) (i' j' : Nat) (hf : f.key i' j' ∉ ringHomes) :
    (s.postBare c ps q).rd f i' j' = s.rd f i' j' :=
  (Same.refl ringHomes s).post (fun _ h => h) c 0 0 ps q f i' j' hf


end Sys2Proof.Machine
end

