-- ==== Sys2Proof/Laws/Sram.lean ====
section
/-! SUPPORT. Reads and writes of the SRAM windows keep the memories' canonical form. -/

namespace Sys2Proof.Machine

/-- The corrected words of a range are counted; nothing else changes. -/
theorem Quiet.sramSee {s t : State} (h : Quiet s t) (r : Option Nat) (k n : Nat) : Quiet s (t.sramSee r k n) := by
  simp only [State.sramSee]
  generalize t.wordsOf 2 k n = l
  induction l generalizing t with
  | nil => exact h
  | cons w l ih => exact ih ((h.add _ _ _ _).raise _ _ _ _)

/-- Writing words of an SRAM window. -/
theorem Memory.wf_sramWrite (s : State) (n k : Nat) (data : List Byte) (h : Memory.wf s = true) : Memory.wf (s.sramWrite n k data).2 = true := by
  induction n generalizing s k data with
  | zero => exact h
  | succ n ih =>
    simp only [State.sramWrite]
    split
    · exact h
    · split
      · exact h
      · refine ih _ _ _ ((Memory.wf_sramSetList _ _ _ ?_ : Memory.wf (State.sramSetList _ _ _) = true))
        split
        · exact ((Quiet.refl s).sramSee none k _).wf h
        · exact h

theorem Memory.wf_corePut (s : State) (c off : Nat) (data : List Byte) (h : Memory.wf s = true) : Memory.wf (s.corePut c off data).2 = true :=
  Memory.wf_sramWrite s _ _ data h

end Sys2Proof.Machine
end

