-- ==== Sys2Proof/Tests/Slice0.lean ====
section
/-! SUPPORT. The model's own tests: well-formedness, one step of a few commands with the values the spec gives, and for every statement
concrete states and operands that meet the hypotheses of its clauses. -/

namespace Sys2Proof.Tests

open Sys2Proof.Machine

set_option Elab.async false

/-- Write a list of register fields: field, page instance, repetition, value. -/
def put (s : State) (l : List (Fld × Nat × Nat × Nat)) : State := l.foldl (fun s x => s.wr x.1 x.2.2.2 x.2.1 x.2.2.1) s

/-- The register fields of a running module: rails on, tiles and stacks in service, the firmware runs, the count runs. -/
def upFields : List (Fld × Nat × Nat × Nat) :=
  (List.range 52).map (fun n => (RAIL.STATUS.state, n / 8, n % 8, 2)) ++ (List.range 16).map (fun k => (HS.STATUS.state, k, 0, 2)) ++
  [(PWR.STATUS.state, 0, 0, 2), (FW.STATUS.stage, 0, 0, 6), (FW.COMPONENTS.running, 0, 0, 1023), (BEAT.STATUS.state, 0, 0, 2),
   (FW.STATUS.master, 0, 0, 1)]

/-- A running module on which nothing else has happened. -/
def up : State := put { State.reset with fw := { FwState.reset with cold := false }, safety := { SafetyState.reset with aliveA := true, aliveB := true } } upFields

/-- The same with partition 0 on half 0, RUNNING, in a step, and streams 0 to 3 of core 0 ready. -/
def job : State :=
  (put up [(TILE.HALVES.valid0, 0, 0, 1), (TILE.HALVES.owner0, 0, 0, 0), (MOD.PART_STATE.state, 0, 0, 2), (CORE.CTRL.stream_en, 0, 0, 15),
    (CORE.STREAM_STATE.sn_state, 0, 0, 0x1111)]).setPart 0 { PartState.reset with inStep := true }

/-- A slot of partition 0 with an action, armed for beat 1000. -/
def slotted (s : State) (n action kind owner p0 : Nat) : State :=
  put s [(SCHED.SLOT_CTL.arm, 0, n, 1), (SCHED.SLOT_CTL.action, 0, n, action), (SCHED.SLOT_CTL.owner_kind, 0, n, kind), (SCHED.SLOT_CTL.owner, 0, n, owner),
    (SCHED.SLOT_PARAM0.param0, 0, n, p0), (SCHED.SLOT_TARGET.target, 0, n, 1000)]

/-- The count at a beat. -/
def at_ (s : State) (beat : Nat) : State := s.putBeat { s.beat with count := beat }

/-- Core 0's store holds these bytes at an address. -/
def stored (s : State) (core off : Nat) (bs : List Byte) : State := s.sramSetList (coreKey core off) bs

/-- A running module whose count is aligned. -/
def aligned : State := at_ (put up [(BEAT.STATUS.state, 0, 0, 3), (BEAT.STATUS.ref_present, 0, 0, 1), (BEAT.STATUS.mark_present, 0, 0, 1)]) 2000 |>.putNow 5000000

/-- Words of a descriptor or a command: value at bit `lo` of word `w`. -/
def pk (l : List (Nat × Nat × Nat)) : Nat := l.foldl (fun a x => a + x.2.2 * 2 ^ (32 * x.1 + x.2.1)) 0

/-- A descriptor of stream 0 whose phase and words are these. -/
def desc (words phase : Nat) : Desc := ⟨0, 0, words, phase, false, [], []⟩

/-- Core 0 has this descriptor of stream 0. -/
def withDesc (s : State) (d : Desc) : State := s.setCore 0 { s.core 0 with descs := [d] }

/-- Core 0 has this engine command. -/
def withCmd (s : State) (k : EngCmd) : State := s.setCore 0 { s.core 0 with cmds := [k] }

/-- `job` with a fabric: module 3, job tag 9 of partition 0, port 0 of tile 0 UP4, and the flow of class 1 from tile 77 begun. -/
def edpen : State :=
  let s := put job [(MIDWAY.MODULE_ID.module, 0, 0, 3), (MIDWAY.MODULE_ID.valid, 0, 0, 1), (MIDWAY.CTRL.edpen_en, 0, 0, 1), (MIDWAY.JOB_TAG.tag, 0, 0, 9), (MIDWAY.JOB_TAG.valid, 0, 0, 1),
    (EDPEN.STATUS.state, 0, 0, pUP4), (EDPEN.STATUS.lanes_up, 0, 0, 15)]
  (s.setFlow ((0 * 2 ^ 18 + 77) * 8 + 1) ⟨4, [], [], [], 0⟩).setFlow ((0 * 2 ^ 18 + 77) * 8 + 3) ⟨4, [], [], [], 0⟩

/-! Well-formedness: an ill-formed command for each check. -/

theorem test_wf_coldStart : (Instr.coldStart 0 0 0 [3, 3] 0).wf = false := by decide
theorem test_wf_mcEvent : (Instr.mcEvent 0 0 (List.replicate 9 0) []).wf = false ∧ (Instr.mcEvent 0 0 [] (List.replicate 5 0)).wf = false := by decide
/-- A header of a packet, and 4,097 bytes. -/
def anyHead : Head := ⟨0, 0, 0, 0⟩
def anyRx : Rx := ⟨0, 0, 0, 0, 0, 0, 0⟩
def tooLong : List Byte := List.replicate 4097 0
theorem test_wf_payload : (Instr.put 0 anyRx anyHead 0 0 tooLong).wf = false ∧ (Instr.getRsp 0 anyRx 0 0 tooLong).wf = false ∧ (Instr.atomicReq 0 anyRx anyHead 0 0 0 false tooLong).wf = false ∧
    (Instr.enq 0 anyRx anyHead 0 0 true true tooLong).wf = false ∧ (Instr.enq 0 anyRx anyHead 0 0 true true []).wf = false ∧ (Instr.coll 0 anyRx anyHead 0 0 0 0 tooLong).wf = false ∧
    (Instr.fleetAccess 0 anyRx 0 0 0 tooLong).wf = false := by decide +kernel
theorem test_wf_bar2 : (Instr.bar2Read 0 0).wf = false ∧ (Instr.bar2Read (BitVec.ofNat 30 (2 ^ 30 - 1)) 2).wf = false ∧ (Instr.bar2Write 0 []).wf = false ∧
    (Instr.bar2Write (BitVec.ofNat 30 (2 ^ 30 - 1)) [0, 0]).wf = false := by decide +kernel
theorem test_wf_lists : (Instr.railGroupGood [(.tile 1, true), (.tile 1, false)]).wf = false ∧ (Instr.powerTick [5, 5] []).wf = false ∧ (Instr.powerTick [] [6, 6]).wf = false := by decide
theorem test_wf_good : (Instr.bar2Read (BitVec.ofNat 30 (2 ^ 30 - 1)) 1).wf = true ∧ (Instr.coldStart 0 0 0 [3, 4] 0).wf = true := by decide +kernel

/-! Witnesses: chapters 2 and 3. -/

/-- The beat block waits for a mark with the reference locked at 5. -/
def acquiring (now : Nat) : State := (put State.reset [(BEAT.STATUS.state, 0, 0, 1), (BEAT.CTRL.source, 0, 0, 1)]).putBeat { BeatState.reset with lockedAt := some 5 } |>.putNow now

theorem witness_CountStartsAtZero : (acquiring 2097157).rd BEAT.STATUS.state = 1 ∧ (acquiring 2097157).rd BEAT.CTRL.source = 1 ∧
    (acquiring 2097157).beat.lockedAt = some 5 ∧ 5 + 2097152 ≤ (acquiring 2097157).now ∧
    (let s := put (acquiring 6) [(BEAT.CTRL.source, 0, 0, 0)]; s.rd BEAT.STATUS.state = 1 ∧ s.beat.lockedAt = some 5) := by decide +kernel


theorem witness_SourceLosses :
    (aligned.rd BEAT.STATUS.ref_present = 1 ∧ aligned.rd BEAT.STATUS.state = 3) ∧
    (let s := put aligned [(BEAT.STATUS.fabric_present, 0, 0, 1)];
      s.rd BEAT.STATUS.state ≥ 2 ∧ s.rd BEAT.STATUS.mark_present = 1 ∧ s.rd BEAT.STATUS.fabric_present = 1 ∧ s.beat.count % 2 ^ 20 ≥ 1000 ∧
      s.beat.lastSeen + s.beat.count % 2 ^ 20 + 8 < s.now ∧ s.beat.lastExchange + 4 * 1048576 ≤ s.now) ∧
    (aligned.rd BEAT.STATUS.fabric_present = 0 ∧ aligned.beat.count % 2 ^ 20 ≥ 1000 ∧ aligned.beat.lastSeen + aligned.beat.count % 2 ^ 20 + 8 < aligned.now) ∧
    (let s := put aligned [(BEAT.STATUS.fabric_present, 0, 0, 1), (BEAT.STATUS.mark_present, 0, 0, 0), (BEAT.STATUS.ref_present, 0, 0, 0), (BEAT.STATUS.state, 0, 0, 4)];
      s.rd BEAT.STATUS.mark_present = 0 ∧ s.rd BEAT.STATUS.fabric_present = 1 ∧ s.rd BEAT.STATUS.ref_present = 0 ∧ s.rd BEAT.STATUS.state = 4 ∧
      s.beat.lastExchange + 4 * 1048576 ≤ s.now) := by decide +kernel

theorem witness_EpochIsLoaded :
    (let s := put up [(BEAT.CTRL.role, 0, 0, 1), (BEAT.SET.set, 0, 0, 2 ^ 20)];
      Admits s 0 .BEAT 0 0x068 ∧ s.rd BEAT.CTRL.role = 1 ∧ s.rd BEAT.STATUS.state = 2 ∧ s.rd BEAT.SET.set % 2 ^ 20 = 0) ∧
    (let s := (put up [(BEAT.STATUS.mark_present, 0, 0, 1)]).putBeat { BeatState.reset with epoch := some (2 ^ 20), lastMark := 0 };
      s.beat.epoch = some (2 ^ 20) ∧ s.rd BEAT.STATUS.state = 2 ∧ s.rd BEAT.STATUS.mark_present = 1 ∧ s.beat.lastMark = s.now) := by
  unfold Admits; decide +kernel

theorem witness_AlignmentStates :
    (let s := (put aligned [(BEAT.STATUS.state, 0, 0, 4)]).putBeat { BeatState.reset with relockMarks := 10 };
      s.rd BEAT.STATUS.state = 4 ∧ s.rd BEAT.STATUS.mark_present = 1 ∧ s.rd BEAT.STATUS.ref_present = 1 ∧ s.beat.relockMarks ≥ 10) ∧
    (let s := (put aligned [(BEAT.STATUS.state, 0, 0, 4), (BEAT.STATUS.mark_present, 0, 0, 0), (BEAT.STATUS.ref_present, 0, 0, 0)]).putNow 10485760;
      s.rd BEAT.STATUS.state = 4 ∧ s.rd BEAT.STATUS.mark_present = 0 ∧ s.beat.refLostAt + 10 * 2 ^ 20 ≤ s.now) ∧
    (let s := slotted ((put job [(BEAT.STATUS.state, 0, 0, 5)]).putBeat { BeatState.reset with freeRunBound := 21 }) 3 1 2 0 256;
      s.rd BEAT.STATUS.state = 5 ∧ s.errBound > 20 ∧ s.beat.unaligned = false ∧ s.running 0 = true ∧ s.spans 0 = true) ∧
    (let s := (put up [(BEAT.STATUS.state, 0, 0, 5)]).putBeat { BeatState.reset with freeRunBound := 20 }; s.rd BEAT.STATUS.state = 5 ∧ s.errBound ≤ 20) ∧
    (let s := put up [(TILE.STATUS.state, 0, 0, 1), (MIDWAY.BEAT_PARENT.valid, 1, 0, 1), (MIDWAY.BEAT_PARENT.tile, 1, 0, 77)];
      s.mgmtTile = 1 ∧ s.rd BEAT.STATUS.state = 2 ∧ s.rd BEAT.CTRL.role = 0 ∧ s.rd MIDWAY.BEAT_PARENT.valid s.mgmtTile = 1 ∧
      s.rd MIDWAY.BEAT_PARENT.tile s.mgmtTile = (77 : BitVec 18).toNat) ∧
    (let s := put up [(MIDWAY.BEAT_PARENT.valid, 0, 0, 1), (MIDWAY.BEAT_PARENT.tile, 0, 0, 78)];
      s.rd MIDWAY.BEAT_PARENT.tile s.mgmtTile ≠ (77 : BitVec 18).toNat) ∧ up.rd MIDWAY.BEAT_PARENT.valid up.mgmtTile = 0 := by decide +kernel

/-- The CTL word of a STEP_BOUNDARY of partition 0. -/
def ctlWord : Word := 0x00010021

theorem witness_SlotWrites :
    (let s := put up [(SCHED.SLOT_TARGET.target, 0, 95, 1000)];
      Admits s 0 .SCHED 0 (0x40C + 0x20 * 95) ∧ s.armed 95 = false ∧ s.armOwnerOk 0 95 (bits ctlWord.toNat 5 4) (bits ctlWord.toNat 15 8) (bits ctlWord.toNat 23 16) = true ∧
      s.armFormatOk 95 (bits ctlWord.toNat 5 4) (bits ctlWord.toNat 15 8) (bits ctlWord.toNat 23 16) = true ∧ s.beat.count + s.rd SCHED.MIN_LEAD.lead ≤ s.slotTarget 95) ∧
    (Admits up 17 .SCHED 0 0x40C ∧ up.armed 0 = false ∧ up.slotWritable 17 0 = true ∧
      up.armOwnerOk 17 0 (bits ctlWord.toNat 5 4) (bits ctlWord.toNat 15 8) (bits ctlWord.toNat 23 16) = false ∧
      ctlOwnerOk 17 (bits ctlWord.toNat 5 4) (bits ctlWord.toNat 15 8) (bits ctlWord.toNat 23 16) = false) ∧
    (let s := slotted up 0 1 2 0 0;
      Admits s 16 .SCHED 0 0x40C ∧ s.slotWritable 16 0 = true ∧ ctlOwnerOk 16 (bits ctlWord.toNat 5 4) (bits ctlWord.toNat 15 8) (bits ctlWord.toNat 23 16) = true ∧
      s.slotWritable 17 0 = false ∧ s.armed 0 = true ∧ s.rd SCHED.SLOT_CTL.owner_kind 0 0 = bits ctlWord.toNat 5 4 ∧
      s.slotOwner 0 = bits ctlWord.toNat 15 8 ∧ s.slotAction 0 = bits ctlWord.toNat 23 16 ∧ s.beat.count < s.slotTarget 0 ∧ s.slotStop.testBit 0 = false) ∧
    (let s := put (at_ (slotted up 0 1 2 0 0) 1000) [(SCHED.SLOT_PERIOD.period, 0, 0, 1000)];
      s.slotTarget 0 ≤ s.beat.count ∧ s.counting = true ∧ s.rd SCHED.SLOT_PERIOD.period 0 0 ≠ 0 ∧ s.armed 0 = true) ∧
    (Admits up 0 .SCHED 0 0x400 ∧ up.slotWritable 0 0 = true ∧ up.armed 0 = false ∧
      ctlOwnerOk 0 (bits ctlWord.toNat 5 4) (bits ctlWord.toNat 15 8) (bits ctlWord.toNat 23 16) = true) := by unfold Admits; decide +kernel

theorem witness_ArmedSlotsAreFixed : let s := slotted up 0 1 2 0 0;
    s.armed 0 = true ∧ s.slotWritable 0 0 = true ∧ Admits s 0 .SCHED 0 0x400 ∧ Admits s 0 .SCHED 0 0x40C ∧ s.slotOwner 0 ≠ bits (0x00010121 : Word).toNat 15 8 ∧
    ctlOwnerOk 0 (bits (0x00010121 : Word).toNat 5 4) (bits (0x00010121 : Word).toNat 15 8) (bits (0x00010121 : Word).toNat 23 16) = true := by
  unfold Admits; decide +kernel

theorem witness_SlotFiring : (let s := put (slotted up 4 1 2 0 0) [(SCHED.SLOT_PERIOD.period, 0, 4, 1000)];
    s.rd SCHED.SLOT_PERIOD.period 0 4 ≠ 0 ∧ s.slotStop.testBit 4 = false) ∧ (slotted up 4 1 2 0 0).rd SCHED.SLOT_PERIOD.period 0 4 = 0 := by decide +kernel

theorem witness_SlotActions :
    (let s := at_ (slotted up 0 0x0B 0 0 7) 1000; s.slotDue 0 0x0B = true ∧ s.slotTurn 0 = true) ∧
    (let s := at_ (slotted up 0 6 0 0 2000) 1000; s.slotDue 0 6 = true ∧ s.slotTurn 0 = true) ∧
    (let s := at_ (slotted up 0 8 0 0 0) 1000; s.slotDue 0 8 = true ∧ s.slotTurn 0 = true) ∧
    (let s := at_ (slotted up 0 5 1 7 7) 1000; s.slotDue 0 5 = true ∧ s.slotTurn 0 = true) ∧
    (let s := put (at_ (slotted up 0 2 2 15 0) 1000) [(MOD.PART_STATE.state, 0, 15, 3), (MOD.PART_STATE.causes, 0, 15, 256)];
      s.slotDue 0 2 = true ∧ s.slotTurn 0 = true ∧ s.partState (s.slotOwner 0) = 3 ∧ s.rd MOD.PART_STATE.causes 0 (s.slotOwner 0) ≠ 0) ∧
    (let s := at_ (slotted up 0 4 0 0 1) 1000; s.slotDue 0 4 = true ∧ s.slotTurn 0 = true ∧ s.fw.prep = none) ∧
    (let s := at_ (slotted (slotted job 0 6 0 0 0) 1 1 2 0 0) 1000; s.slotTurn 0 = false ∧ s.armed 1 = true ∧ s.slotTarget 1 = s.slotTarget 0 ∧
      actionOrder (s.slotAction 1) < actionOrder (s.slotAction 0)) := by decide +kernel

theorem witness_PartitionStarts :
    (let s := put (at_ (slotted up 0 2 2 15 0) 1000) [(MOD.PART_STATE.state, 0, 15, 1)];
      s.slotDue 0 2 = true ∧ s.slotTurn 0 = true ∧ s.slotOwner 0 < 16 ∧ s.partState (s.slotOwner 0) = 1) ∧
    (let s := put (at_ (slotted up 0 2 2 15 0) 1000) [(MOD.PART_STATE.state, 0, 15, 3)];
      s.partState (s.slotOwner 0) = 3 ∧ s.rd MOD.PART_STATE.causes 0 (s.slotOwner 0) = 0) := by decide +kernel

/-- Slot 0 bounds the steps of partition 0, which has halves of none: its streams are done. -/
def bounded (p0 : Nat) : State :=
  put (at_ (slotted ((put up [(MOD.PART_STATE.state, 0, 0, 2)]).setPart 0 { PartState.reset with inStep := true }) 0 1 2 0 p0) 1000) [(SCHED.SLOT_PERIOD.period, 0, 0, 1000)]

theorem witness_BoundaryDecidesStep :
    ((bounded 0).slotOwner 0 = 0 ∧ (bounded 0).running 0 = true ∧ ((bounded 0).part 0).inStep = true ∧ ((bounded 0).part 0).owed = none ∧
      ((bounded 0).slotParam0 0).testBit 8 = false ∧ ((bounded 0).part 0).fault = none ∧ (bounded 0).streamsDone 0 = true) ∧
    (let s := slotted job 0 1 2 0 255;
      s.slotOwner 0 = 0 ∧ s.running 0 = true ∧ (s.part 0).inStep = true ∧ (s.part 0).owed = none ∧ (s.slotParam0 0).testBit 8 = false ∧ (s.part 0).fault = none ∧
      s.streamsDone 0 = false ∧ (s.part 0).stretches < s.slotParam0 0 % 256) ∧
    (let s := slotted job 0 1 2 0 0; s.streamsDone 0 = false ∧ s.slotParam0 0 % 256 ≤ (s.part 0).stretches) ∧
    (let s := (bounded 0).setPart 0 { PartState.reset with inStep := true, fault := some (0x20, 5) }; (s.part 0).fault = some (0x20, 5) ∧ (s.part 0).inStep = true) := by decide +kernel

theorem witness_BoundaryCommitsAndStarts : let s := bounded 0;
    s.slotOwner 0 = 0 ∧ s.rd SCHED.SLOT_CTL.owner_kind 0 0 = 2 ∧ s.slotDue 0 1 = true ∧ (∀ k, k < 96 → k ≠ 0 → s.armed k = true → s.slotTarget k ≠ s.slotTarget 0) ∧
    s.running 0 = true ∧ (s.part 0).inStep = true ∧ (s.part 0).owed = none ∧ (s.part 0).fault = none ∧ (s.part 0).parkNext = false ∧ s.rd MOD.PART_STATE.paired 0 0 = 0 ∧
    (s.slotParam0 0).testBit 8 = false ∧ s.streamsDone 0 = true ∧ s.rd SCHED.SLOT_PERIOD.period 0 0 ≠ 0 ∧ s.slotStop.testBit 0 = false := by decide +kernel

theorem witness_PartitionStops :
    (let s := at_ (slotted job 0 3 2 0 1) 1000;
      s.slotOwner 0 = 0 ∧ s.slotDue 0 3 = true ∧ s.slotTurn 0 = true ∧ s.running 0 = true ∧ s.power.rackAt = none ∧ (s.slotParam0 0).testBit 0 = true) ∧
    (let s := at_ (slotted job 0 3 2 0 0) 1000;
      s.slotDue 0 3 = true ∧ s.slotTurn 0 = true ∧ (s.slotParam0 0).testBit 0 = false ∧ (s.part 0).inStep = true ∧ (s.part 0).fault = none) := by decide +kernel


theorem witness_RegisterInstructions : job.canIssue 0 0 = true ∧ aluValue .add (job.g 0 0 1) (job.g 0 0 2) = some 0 ∧
    aluValue .add (job.g 0 0 1) (toPat 64 (sext 16 (0xFFFF : BitVec 16).toNat)) = some (2 ^ 64 - 1) ∧ aluValue .shl 1 64 = none ∧ job.counting = true ∧
    (put job [(BEAT.STATUS.state, 0, 0, 1)]).counting = false ∧ job.partOfCore 0 = some 0 := by decide +kernel

/-- A descriptor has written core 0's word 0 and is not complete. -/
def raced : State := job.setCore 0 { job.core 0 with racing := [(0, coreKey 0 0 / 8, List.replicate 8 1)] }

theorem witness_LoadsAndStores :
    (let s := job.setG 0 0 1 (2 ^ 22 - 8);
      s.canIssue 0 0 = true ∧ s.ceAddr 0 0 1 (0 : BitVec 16).toNat + 2 ^ (3 : Fin 4).val ≤ 2 ^ 22 ∧ s.coreRead 0 (s.ceAddr 0 0 1 0) 8 = some (List.replicate 8 0) ∧
      (s.core 0).racing = [] ∧ s.sramBad = [] ∧ s.wordsOf 2 (coreKey 0 (s.ceAddr 0 0 1 0)) 8 = [] ∧ s.sramGood (coreKey 0 (s.ceAddr 0 0 1 0)) 8 = true) ∧
    (raced.canIssue 0 0 = true ∧ (raced.core 0).racing = [(0, coreKey 0 (raced.ceAddr 0 0 1 0) / 8, List.replicate 8 1)] ∧ raced.ceAddr 0 0 1 0 % 8 = 0 ∧
      raced.ceAddr 0 0 1 0 + 8 ≤ 2 ^ 22 ∧ raced.sramBad = []) ∧
    (let s := job.putSramBad [(coreKey 0 8 / 8, 1)];
      s.canIssue 0 0 = true ∧ s.ceAddr 0 0 1 (12 : BitVec 16).toNat % 8 + 2 ^ (2 : Fin 4).val ≤ 8 ∧ s.wordBad (coreKey 0 (s.ceAddr 0 0 1 12) / 8) = true) ∧
    (let s := job.setG 0 0 1 (2 ^ 22 - 1); s.canIssue 0 0 = true ∧ 2 ^ 22 < s.ceAddr 0 0 1 (0 : BitVec 16).toNat + 2 ^ (1 : Fin 4).val) := by decide +kernel

theorem witness_ControlInstructions : job.canIssue 0 0 = true ∧ job.flag 0 255 + (255 : Fin 256).val ≤ 255 ∧
    (let s := put job [(CORE.FLAG.value, 0, 7, 255)]; s.canIssue 0 0 = true ∧ 255 < s.flag 0 7 + (1 : Fin 256).val) ∧ (0x18 ≤ (0x1F : Fin 64).val ∧ (0x1F : Fin 64).val < 0x20) := by
  decide +kernel

theorem witness_StreamWaits :
    (let s := put job [(CORE.FLAG.value, 0, 7, 1)]; s.canIssue 0 0 = true ∧ (s.issued 0 0).mayTake 0 (10 + (0 : StreamId)) [(7, 1)] = true) ∧
    ((job.issued 0 0).mayTake 0 (10 + (0 : StreamId)) [(7, 1)] = false) ∧
    (let s := ((put job [(CORE.FLAG.value, 0, 7, 1)]).setStrm 0 0 { Stream.reset with flag := 7, count := 1, consume := true }).setSn 0 0 2;
      s.sn 0 0 = 2 ∧ s.mayTake 0 (10 + (0 : StreamId)) [((s.strm 0 0).flag, (s.strm 0 0).count)] = true ∧ (s.strm 0 0).consume = true) ∧
    (job.openOf 0 0 = none) ∧
    (let s := (job.setStrm 0 0 { Stream.reset with fence := some (1, 0, true) }).setSn 0 0 4;
      (s.strm 0 0).fence = some (1, 0, true) ∧ s.sn 0 0 = 4 ∧ s.fenceMet 0 0 1 0 = true) ∧
    (let s := at_ (job.setG 0 0 1 500) 499; s.canIssue 0 0 = true ∧ s.counting = true ∧ s.beat.count < s.g 0 0 1 ∧ s.g 0 0 2 ≤ s.beat.count) ∧
    (let s := at_ ((job.setStrm 0 0 { Stream.reset with deadline := 500 }).setSn 0 0 5) 500; s.sn 0 0 = 5 ∧ s.counting = true ∧ (s.strm 0 0).deadline ≤ s.beat.count) ∧
    (let s := put job [(BEAT.STATUS.state, 0, 0, 1)]; s.canIssue 0 0 = true ∧ s.counting = false ∧ s.g 0 0 1 = 0 ∧ 0 < (s.setG 0 0 1 1).g 0 0 1) := by decide +kernel

/-- Eight commands wait for engine 0. -/
def crowded : State := job.setCore 0 { CoreState.reset with cmds := (List.range 8).map fun i => EngCmd.mk i 0 0 0 0 false 0 }

theorem witness_WorkIsPosted : (job.canIssue 0 0 = true ∧ (job.core 0).racing = [] ∧ job.g 0 0 1 % 2 ^ 22 + 64 ≤ 2 ^ 22 ∧ job.coreRead 0 (job.g 0 0 1 % 2 ^ 22) 32 = some (List.replicate 32 0) ∧
    job.coreRead 0 (job.g 0 0 1 % 2 ^ 22) 64 = some (List.replicate 64 0) ∧ ((job.core 0).cmds.filter (fun k => k.engine == 0 && k.stream == 0 && k.phase == 0)).length < 8 ∧
    job.aeOut 0 0 < 64) ∧
    (crowded.canIssue 0 0 = true ∧ 8 ≤ ((crowded.core 0).cmds.filter (fun k => k.engine == 0 && k.stream == 0 && k.phase == 0)).length) ∧
    (let s := job.setCore 0 { CoreState.reset with descs := (List.range 64).map fun i => Desc.mk i 0 0 0 false [] [] }; s.canIssue 0 0 = true ∧ 64 ≤ s.aeOut 0 0) := by decide +kernel

/-- Spare 64 of tile 0 is being filled with core 5, which no partition holds. -/
def filling : State :=
  (put up [(SPARE.STATUS.copy_active, 0, 0, 1), (SPARE.STATUS.copy_logical, 0, 0, 5), (SPARE.CTRL.auto, 0, 0, 0), (SPARE.PSTATE.state, 0, 64, 2)]).setCore 5
    { CoreState.reset with spare := some 64 }

theorem witness_CoreRepair : up.corePresent 511 = true ∧
    (let s := put job [(SPARE.STATUS.copy_active, 0, 0, 1), (SPARE.STATUS.copy_logical, 0, 0, 5), (SPARE.CTRL.auto, 0, 0, 0)];
      s.rd SPARE.STATUS.copy_active 0 = 1 ∧ s.rd SPARE.STATUS.copy_logical 0 < 64 ∧ s.partOfCore (64 * 0 + s.rd SPARE.STATUS.copy_logical 0) = some 0 ∧ s.rd SPARE.CTRL.auto 0 = 0) ∧
    (filling.rd SPARE.STATUS.copy_active 0 = 1 ∧ filling.rd SPARE.STATUS.copy_logical 0 = 5 ∧ filling.partOfCore 5 = none ∧ filling.rd SPARE.CTRL.auto 0 = 0 ∧
      filling.rd SPARE.CTRL.hold 0 = 0 ∧ (filling.core 5).spare = some 64 ∧ filling.rd SPARE.MAP.phys 0 5 < 68 ∧ filling.rd SPARE.MAP.phys 0 5 ≠ 64) ∧
    (Admits up 0 .SPARE 7 0x188 ∧ up.corePresent 511 = true ∧ (up.core 511).spare = none) ∧
    (let s := put up [(SPARE.PSTATE.state, 7, 67, 1)]; Admits s 0 .SPARE 7 0x18C ∧ s.rd SPARE.PSTATE.state 7 67 = 1 ∧ s.testBusy btCore (68 * 7 + 67) = false) := by
  unfold Admits; decide +kernel
/-! Witnesses: the access engine. -/

/-- AFFINE: two runs of 8 bytes, from the store of core 1 to offset 64; `extra` are further fields. -/
def affineW (extra : List (Nat × Nat × Nat)) : Nat :=
  pk ([(1, 0, 64), (2, 0, coreAddr 1 128), (4, 0, 8), (4, 16, 2), (5, 0, 1), (5, 16, 1), (6, 0, 1), (6, 16, 1), (7, 0, 256)] ++ extra)

theorem witness_DescriptorsStart :
    (let d := desc (affineW [(0, 5, 1), (0, 8, 7), (0, 24, 3)]) 0; let s := put (withDesc job d) [(CORE.FLAG.value, 0, 7, 3)];
      s.nextDesc 0 0 = some d ∧ s.mayTake 0 0 (descWaits d.words) = true ∧ malformed d.words = false ∧ (∀ a ∈ localAreas d.words, a.1 + a.2 ≤ 2 ^ 22)) ∧
    (let d := desc (affineW [(0, 5, 1)]) 0; let s := withDesc job d;
      s.nextDesc 0 0 = some d ∧ s.mayTake 0 0 (descWaits d.words) = true ∧ malformed d.words = true) ∧
    (let d := desc (affineW [(1, 0, 2 ^ 22 - 79)]) 0; let s := withDesc job d;
      s.nextDesc 0 0 = some d ∧ s.mayTake 0 0 (descWaits d.words) = true ∧ malformed d.words = false ∧ (∃ a ∈ localAreas d.words, 2 ^ 22 < a.1 + a.2)) := by decide +kernel

theorem witness_AffineAddresses : let w := affineW [];
    let cnt := fun i => bits (w / 2 ^ 128) (16 * i + 15) (16 * i);
    1 < cnt 1 ∧ 0 < cnt 2 ∧ 0 < cnt 3 ∧ 0 < cnt 4 ∧ 0 < cnt 5 ∧ (affineAddrs w)[1]? = some (coreAddr 1 384) := by decide +kernel

/-- GATHER (1) and SCATTER (2): two rows of 8 bytes; indices at 1024. -/
def rowsW (kind : Nat) : Nat := pk [(0, 0, kind), (1, 0, 64), (2, 0, coreAddr 1 128), (4, 0, 1024), (5, 0, 2), (6, 0, 8), (7, 0, 16)]

/-- Partition 0 also has half 0 of tile 1, to which a message of tile 0 is on its way. -/
def behind : State := (put job [(TILE.HALVES.valid0, 1, 0, 1), (TILE.HALVES.owner0, 1, 0, 0)]).midSend 0 0 ⟨8, 0, 0, 1, 0, 0, 0, 0, 0, [], 0⟩
/-- The field that moves a descriptor's base from core 1 to core 64, of tile 1. -/
def toTile1 : Nat × Nat × Nat := (2, 0, coreAddr 64 128 - coreAddr 1 128)

theorem witness_TransfersMovePieces :
    (let d := desc (affineW []) 1; let s := withDesc job d;
      s.descAt 0 0 0 = some d ∧ s.partOfCore 0 = some 0 ∧ descKind d = 0 ∧ s.badPiece 0 0 (affinePieces d.words) = none ∧ dw d.words 0 4 4 = 0 ∧
      ∀ x ∈ affinePieces d.words, s.isRemote 0 x.remote = false) ∧
    (let d := desc (affineW [(0, 4, 1)]) 1; let s := withDesc job d;
      s.descAt 0 0 0 = some d ∧ s.badPiece 0 0 (affinePieces d.words) = none ∧ dw d.words 0 4 4 = 1 ∧
      (∀ x ∈ affinePieces d.words, s.midBehind 0 (x.remote % 2 ^ 46) = false)) ∧
    (let d := desc (affineW [(0, 4, 1), toTile1]) 1; let s := withDesc behind d;
      s.descAt 0 0 0 = some d ∧ s.badPiece 0 0 (affinePieces d.words) = none ∧ dw d.words 0 4 4 = 1 ∧
      (∃ x ∈ affinePieces d.words, s.isRemote 0 x.remote = false ∧ s.midBehind 0 (x.remote % 2 ^ 46) = true)) ∧
    (let d := desc (affineW [(3, 0, 1)]) 1; let s := withDesc job d;
      s.descAt 0 0 0 = some d ∧ (s.badPiece 0 0 (affinePieces d.words)).isSome = true) ∧
    (let d := desc (rowsW 1) 1; let s := withDesc job d;
      s.descAt 0 0 0 = some d ∧ descKind d = 1 ∧ s.coreRead 0 (dw d.words 4 21 0) 8 = some (List.replicate 8 0) ∧ s.badPiece 0 0 (rowPieces d.words (List.replicate 8 0)) = none) ∧
    (let d := desc (rowsW 2) 1; let s := withDesc job d;
      s.descAt 0 0 0 = some d ∧ descKind d = 2 ∧ s.badPiece 0 0 (rowPieces d.words (List.replicate 8 0)) = none ∧
      ∀ x ∈ rowPieces d.words (List.replicate 8 0), s.midBehind 0 (x.remote % 2 ^ 46) = false) ∧
    (let d := desc (rowsW 1 + 2 ^ 96) 1; let s := withDesc job d;
      s.descAt 0 0 0 = some d ∧ (s.badPiece 0 0 (rowPieces d.words (List.replicate 8 0))).isSome = true) ∧
    (let d := desc (affineW []) 1;
      (match job.fetch 0 0 d (coreAddr 1 128) 8 with
        | (.bytes bs, t) => bs.length == 8 && (t.putLocal 0 d.id 64 bs).1
        | _ => false) = true) ∧
    (job.coreRead 0 64 8 = some (List.replicate 8 0) ∧ job.isRemote 0 (coreAddr 1 128) = false ∧
      (match job.memWrite 0 (coreAddr 1 128 % 2 ^ 46) (List.replicate 8 0) with | (.ok _, _) => true | _ => false) = true) := by decide +kernel

/-- CSR_WALK (3) or CSC_WALK (4) of one vertex at 1024; offsets at 128 of core 1, neighbours at 256; room for `room` records; counts to 2048. -/
def walkW (kind room : Nat) : Nat :=
  pk [(0, 0, kind), (1, 0, 64), (2, 0, coreAddr 1 128), (4, 0, 1024), (5, 0, 1), (6, 0, coreAddr 1 256), (11, 0, 2048), (12, 0, room)]
/-- Vertex 0 has two neighbours. -/
def graph (d : Desc) : State := stored (withDesc job d) 1 128 (leBytes 4 0 ++ leBytes 4 2)
def walkOf (kind room : Nat) : Walk := let d := desc (walkW kind room) 1; (Walk.mk (graph d) [] 0 0 false none).vertex (kind == 4) 0 0 d 0

theorem witness_WalksWriteRecords :
    (let d := desc (walkW 3 5) 1; let k := walkOf 3 5;
      (graph d).descAt 0 0 0 = some d ∧ (graph d).partOfCore 0 = some 0 ∧ (graph d).coreRead 0 (dw d.words 4 21 0) 4 = some (List.replicate 4 0) ∧ descKind d = 3 ∧
      k.got.isNone = true ∧ k.recs = 2 ∧ k.used = 1 ∧ (k.s.putLocal 0 d.id (descLocal d) k.out).1 = true ∧
      ((k.s.putLocal 0 d.id (descLocal d) k.out).2.putLocal 0 d.id (dw d.words 11 21 0) (leBytes 4 k.recs ++ leBytes 4 k.used)).1 = true) ∧
    (let k := walkOf 4 5; descKind (desc (walkW 4 5) 1) = 4 ∧ k.got.isNone = true ∧ k.out = leBytes 4 0 ++ leBytes 4 0 ++ leBytes 4 0 ++ leBytes 4 0) ∧
    (let d := desc (walkW 3 2) 1; let k : Walk := { walkOf 3 2 with out := [] };
      k.stop = false ∧ k.got.isNone = true ∧ dw d.words 4 23 23 = 0 ∧ (2 ≤ dw d.words 12 23 0 ∧ dw d.words 12 23 0 < k.recs + 2) ∧ (k.vertex false 0 0 d 0).stop = true) := by decide +kernel

/-- HASH_PROBE of one 8-byte key at 1024 over a table of 2 buckets at 128 of core 1, one probe. -/
def probeW : Nat := pk [(0, 0, 5), (1, 0, 64), (2, 0, coreAddr 1 128), (4, 0, 1024), (4, 22, 1), (5, 0, 1), (6, 0, 1), (6, 8, 1)]
def probed (bucket : List Byte) : State := stored (stored (withDesc job (desc probeW 1)) 0 1024 (leBytes 8 77)) 1 128 (bucket ++ bucket)
def bucketOf (k0 : Nat) : List Byte := leBytes 8 k0 ++ leBytes 8 1 ++ leBytes 8 k0 ++ leBytes 8 2 ++ leBytes 8 k0 ++ leBytes 8 3 ++ leBytes 8 k0 ++ leBytes 8 4

theorem witness_HashProbeAnswers : hashBucket (2 ^ 64 - 1) 8 (2 ^ 32 - 1) 40 < 2 ^ 40 ∧
    (∀ k0 ∈ [77, 2 ^ 64 - 1, 5], let s := probed (bucketOf k0);
      (match s.fetch 0 0 (desc probeW 1) ((descRemote (desc probeW 1) + 64 * 1) % 2 ^ 64) 64 with
        | (.bytes bs, _) => bs == bucketOf k0
        | _ => false) = true) ∧
    ((bucketSlots 8 (bucketOf 77)).find? (fun x => x.1 == 77) = some (77, 1)) ∧
    ((bucketSlots 8 (bucketOf (2 ^ 64 - 1))).find? (fun x => x.1 == 77) = none ∧ (bucketSlots 8 (bucketOf (2 ^ 64 - 1))).any (fun x => x.1 == 2 ^ 64 - 1) = true) ∧
    ((bucketSlots 8 (bucketOf 5)).find? (fun x => x.1 == 77) = none ∧ (bucketSlots 8 (bucketOf 5)).any (fun x => x.1 == 2 ^ 64 - 1) = false) ∧
    (let s := probed (bucketOf 77); let d := desc probeW 1; let k := (Probe.mk s [] none).key 0 0 d 8 77;
      s.descAt 0 0 0 = some d ∧ s.partOfCore 0 = some 0 ∧ descKind d = 5 ∧ s.coreRead 0 1024 8 = some (leBytes 8 77) ∧ k.got.isNone = true ∧
      (k.s.putLocal 0 d.id (descLocal d) k.out).1 = true) := by decide +kernel

def atomicW (op : Nat) : Nat := pk [(0, 0, 7), (1, 0, 64), (2, 0, coreAddr 1 128), (4, 0, op), (5, 0, 1)]

theorem witness_AtomicOperations : atomicOp 0 4 0xFFFFFFFF 1 0 = 0 ∧ atomicOp 7 8 5 9 5 = 9 ∧ atomicOp 7 8 5 9 6 = 5 ∧ aOp (atomicW 0) ≠ 7 ∧ aOp (atomicW 7) = 7 ∧
    (let d := desc (atomicW 0) 1; let s := withDesc job d;
      s.descAt 0 0 0 = some d ∧ s.partOfCore 0 = some 0 ∧ descKind d = 7 ∧ s.badAtomic 0 0 d = none ∧ (∀ a ∈ s.atomicWords 0 d, s.midBehind 0 a = false) ∧
      s.coreRead 0 (descLocal d) 16 = some (List.replicate 16 0) ∧ s.isRemote 0 (descRemote d) = false ∧
      (match s.atomicAt 0 0 (descRemote d % 2 ^ 46) 0 4 0 0 with
        | (.ok old, t) => old == 0 && (t.putLocal 0 d.id (descLocal d + 8) (leBytes 8 old)).1
        | _ => false) = true) ∧
    (let d := desc (atomicW 0 + pk [toTile1]) 1; let s := withDesc behind d;
      s.descAt 0 0 0 = some d ∧ s.badAtomic 0 0 d = none ∧ (∃ a ∈ s.atomicWords 0 d, s.midBehind 0 a = true)) ∧
    (let d := desc (atomicW 0 + 2 ^ 96) 1; let s := withDesc job d; s.descAt 0 0 0 = some d ∧ (s.badAtomic 0 0 d).isSome = true) := by decide +kernel

theorem witness_DescriptorsComplete :
    (let d := desc (affineW [(0, 6, 1), (0, 16, 9)]) 2; let s := withDesc job d;
      s.descAt 0 0 0 = some d ∧ (s.fab.flights.any fun f => f.core == some 0 && f.desc == d.id) = false ∧ d.fault = false ∧ dw d.words 0 6 6 = 1 ∧
      s.flag 0 (dw d.words 0 23 16) < 255) ∧
    (let d := desc (affineW []) 2; let s := withDesc job d; s.descAt 0 0 0 = some d ∧ dw d.words 0 6 6 = 0) ∧
    (let d := desc (affineW []) 1; let s := withDesc job d; s.descAt 0 0 0 = some d ∧ d.phase ≠ 2) := by decide +kernel
/-! Witnesses: the matrix and vector engines and their numbers. -/

def bf16 : Fmt := .flt 8 7 127 .ieee

/-- Core 0 with command k in front of its engine, and the state in which k has started. -/
def vecReady (k : EngCmd) (use : Src1) : Bool :=
  let s := withCmd job k;
  let u := s.cmdStarted 0 k.engine k;
  s.corePresent 0 && (s.core 0).racing.isEmpty && s.pickHead 0 k.engine == some k && !vectorBad (u.repeatableOn 0) use k.words &&
    (match Fmt.ofCode (vIn k.words) with
    | some f => (match u.elems 0 false f (vSrc0 k.words) (vCount k.words) with | .ok _ => true | .error _ => false)
    | none => false)

/-- A vector command of VE0: operation, formats, count, src1, aux. -/
def vec (op fin fout count src1 aux : Nat) : EngCmd :=
  ⟨0, 0, 4, pk [(0, 0, op), (0, 8, fin), (0, 13, fout), (1, 0, 0), (2, 0, src1), (3, 0, 65536), (4, 0, count), (7, 0, aux)], 0, false, 4⟩
/-- The second source, or the old destination, can be read. -/
def readable (k : EngCmd) (f : Fmt) (off : Nat) : Bool :=
  match ((withCmd job k).cmdStarted 0 k.engine k).elems 0 false f off (vCount k.words) with | .ok _ => true | .error _ => false

theorem witness_VectorArithmetic : (∀ op ∈ [0, 1, 2, 4, 5], vecReady (vec op 15 15 3 4096 0) .two = true ∧ readable (vec op 15 15 3 4096 0) fp32 4096 = true) ∧
    (∀ op ∈ [6, 7, 0x10, 0x11, 0x12, 0x13, 0x14, 0x15], vecReady (vec op 15 13 3 0 0) .none = true) ∧
    (vecReady (vec 3 15 15 3 4096 0) .two = true ∧ readable (vec 3 15 15 3 4096 0) fp32 65536 = true) ∧ vecReady (vec 8 15 16 3 0x80000001 5) .value = true ∧
    vecReady (vec 0x0E 15 3 3 0 0) .none = true ∧ vecReady (vec 0x0E 15 9 32 0 32) .none = true ∧
    (let k := vec 0 31 15 3 4096 0; Starts (withCmd job k) 0 4 0 k ∧ vectorBad (((withCmd job k).cmdStarted 0 4 k).repeatableOn 0) .two k.words = true) ∧
    (∀ op ∈ [0x16, 0x72, 255], let k := vec op 15 15 3 4096 0; Starts (withCmd job k) 0 4 op k ∧ knownOp 4 op = false) ∧ (Fmt.ofCode 9).map Fmt.isBlock = some true ∧
    (Fmt.ofCode 3).map Fmt.isBlock = some false := by
  unfold Starts; decide +kernel

theorem witness_VectorMovement : (∀ op ∈ [0x09, 0x0A, 0x0B, 0x0C, 0x0D], vecReady (vec op 3 3 3 4096 0) .two = true ∧ readable (vec op 3 3 3 4096 0) (.int 32) 4096 = true) ∧
    (let k := vec 0x0F 3 3 3 4096 0; vecReady k .two = true ∧ readable k .bool 4096 = true ∧ readable k (.int 32) 65536 = true) ∧
    (let k := vec 0x70 3 3 3 4096 0; vecReady k .two = true ∧ readable k (.int 32) 4096 = true) ∧ vecReady (vec 0x71 3 3 3 0 77) .none = true := by decide +kernel

theorem witness_VectorReductions : (∀ op ∈ [0x30, 0x31, 0x32], vecReady (vec op 3 3 4 0 2) .none = true) ∧
    (∀ op ∈ [0x33, 0x34, 0x35, 0x36, 0x37, 0x40, 0x41, 0x42], vecReady (vec op 3 3 4 0 0) .none = true ∧ vAcc (vec op 3 3 4 0 0).words = false ∧ vExact (vec op 3 3 4 0 0).words = false) ∧
    (∀ op ∈ [0x30, 0x33, 0x40], let k : EngCmd := { vec op 13 15 4 0 2 with words := (vec op 13 15 4 0 2).words + 2 ^ 21 };
      vecReady k .none = true ∧ vExact k.words = true ∧ vAcc k.words = false ∧ (gridOf bf16).isSome = true) ∧
    ((match ((withCmd job (vec 0x36 3 3 4 0 0)).cmdStarted 0 4 (vec 0x36 3 3 4 0 0)).elems 0 false (.int 32) 0 4 with | .ok xs => xs == [0, 0, 0, 0] | _ => false) = true ∧
      ∀ q, q < 4 → (((Fmt.int 32).decode 0).tlt ((Fmt.int 32).decode 0)) = false) := by decide +kernel

theorem witness_VectorSorting : vecReady (vec 0x50 3 3 64 0 0) .none = true ∧ vecReady (vec 0x52 3 3 64 0 256) .none = true ∧
    (vecReady (vec 0x51 3 3 64 4096 0) .two = true ∧ readable (vec 0x51 3 3 64 4096 0) (.int 32) 4096 = true) ∧
    (vecReady (vec 0x53 3 3 64 4096 5) .two = true ∧ readable (vec 0x53 3 3 64 4096 5) (.int 32) 4096 = true) ∧
    vecReady (vec 0x60 3 3 4 4096 5) .two = true ∧ vecReady (vec 0x61 3 3 4 4096 0) .two = true := by decide +kernel

theorem witness_NumbersRound : (-(2 ^ (64 - 1)) ≤ (5 : Int) ∧ (5 : Int) ≤ 2 ^ (64 - 1) - 1) ∧ (2 ^ (1 - 1) - 1 < (5 : Int)) ∧ ((-5 : Int) < -(2 ^ (1 - 1))) ∧
    (intNum (-1)).tlt (intNum 0) = true ∧ rawGrid (rawZero 0 + 5) = rawGrid (rawZero 0 + 6) := by decide +kernel

/-- A matrix command of ME0: operation, formats, algebra, exact, K; accumulator 0. -/
def mat (op f alg out : Nat) (exact : Nat) : EngCmd :=
  ⟨0, 0, 0, pk [(0, 0, op), (0, 8, f), (0, 13, f), (0, 18, out), (0, 23, alg), (0, 26, exact), (2, 0, 8192), (3, 0, 65536), (4, 0, 32), (4, 16, 4), (7, 0, 4), (7, 16, 4)], 0, false, 0⟩
def matReady (k : EngCmd) (fa : Fmt) : Bool :=
  let s := withCmd job k;
  let u := s.cmdStarted 0 k.engine k;
  s.corePresent 0 && (s.core 0).racing.isEmpty && s.pickHead 0 0 == some k && !matrixBad (u.repeatableOn 0) k.words && !matrixCross k.words && Fmt.ofCode (mFa k.words) == some fa
/-- The rows of C can be read. -/
def rowsReadable (k : EngCmd) (n : Nat) : Bool :=
  ((List.range 16).mapM fun i => ((withCmd job k).cmdStarted 0 k.engine k).coreRead 0 (cmdField k.words 3 21 0 + 64 * cmdField k.words 7 31 16 * i) n).isSome

theorem witness_MatrixCommands :
    (∀ op ∈ [1, 2, 6], let k := mat op 13 0 15 0; let v := (withCmd job k).cmdStarted 0 k.engine k;
      Starts (withCmd job k) 0 0 op k ∧ matReady k bf16 = true ∧ (v.operandRows 0 bf16 (cmdField k.words 1 21 0) (cmdField k.words 4 31 16) (mK k.words)).isSome = true ∧
      (v.operandRows 0 bf16 (cmdField k.words 2 21 0) (cmdField k.words 7 15 0) (mK k.words)).isSome = true ∧ v.gridBad 0 0 k.words = false) ∧
    matReady (mat 5 13 0 15 0) bf16 = true ∧
    (let k := mat 3 13 0 15 0; matReady k bf16 = true ∧ rowsReadable k (cRow k.words fp32) = true) ∧
    (let k := mat 3 13 0 4 1; matReady k bf16 = true ∧ mExact k.words = true ∧ Fmt.ofCode (mOut k.words) = some (.int 64) ∧ rowsReadable k 256 = true) ∧
    (let k := mat 4 13 0 15 0; let u := (withCmd job k).cmdStarted 0 k.engine k; matReady k bf16 = true ∧ u.gridBad 0 0 k.words = false ∧ (u.storeAcc 0 (k.running 0)).1 = true) ∧
    (∀ op ∈ [1, 4], let k := mat op 13 0 15 1; matReady k bf16 = true ∧ ((withCmd job k).cmdStarted 0 0 k).gridBad 0 0 k.words = true) ∧
    (∀ op ∈ [1, 2, 3, 4, 5, 6], let k := mat op 31 0 15 0; Starts (withCmd job k) 0 0 op k ∧ matrixBad (((withCmd job k).cmdStarted 0 0 k).repeatableOn 0) k.words = true) ∧
    (∀ op ∈ [0, 7, 255], Starts (withCmd job (mat op 13 0 15 0)) 0 0 op (mat op 13 0 15 0)) := by
  unfold Starts; decide +kernel

theorem witness_EngineCommandsComplete : ((job.core 0).cmds.find? (fun k => k.on == (5 : Fin 6).val && k.phase == 1) = none) ∧
    ((withCmd job (mat 1 13 0 15 0)).servedBy 0 0 = some 0) ∧ ((mat 1 13 0 15 0).on < 4) ∧
    (let k : EngCmd := { vec 0 15 15 3 4096 0 with phase := 1 }; ((withCmd job k).core 0).cmds.find? (fun k => k.on == (4 : Fin 6).val && k.phase == 1) = some k) ∧
    (let k : EngCmd := { mat 6 13 0 15 0 with phase := 1 }; ((withCmd job k).core 0).cmds.find? (fun k => k.on == (0 : Fin 6).val && k.phase == 1) = some k ∧ bits k.words 7 0 = 6 ∧ k.fault = false) ∧
    (let k : EngCmd := { mat 6 13 0 15 0 with phase := 2 }; ((withCmd job k).core 0).cmds.find? (fun k => k.on == 0 && k.phase == 2) = some k ∧
      ((withCmd job k).storeAcc 0 k).1 = true) ∧
    (let k : EngCmd := { vec 0 15 15 3 4096 0 with words := (vec 0 15 15 3 4096 0).words + pk [(5, 16, 9), (5, 24, 9), (6, 2, 1), (6, 3, 1)] };
      k.fault = false ∧ cmdSigs k.words = [9, 9] ∧ ∀ f ∈ cmdSigs k.words, job.flag 0 f < 254) := by decide +kernel

/-! Witnesses: the stacks and the in-bank units. -/

/-- Stack 1 in a state of Table 5.7. -/
def stackIn (s : State) (st : Nat) : State := put s [(HS.STATUS.state, 1, 0, st)]

theorem witness_StackRequests : up.stackServes 1 = true ∧ errBytes 0 = [] ∧ errBytes (2 ^ 255) = [31] ∧ errBytes (1 + 2 ^ 280) = [0, 35] ∧
    Assoc.get 0 up.hbmErr ((up.locOf 1 (2 ^ 37 - 1)).granKey 1) = 0 ∧
    (let s := put up [(HS.CTRL.auto_fence, 1, 0, 1)]; s.stackServes 1 = true ∧ s.rd HS.CTRL.auto_fence 1 ≠ 0) ∧ (job.part 0).inStep = true ∧ (job.part 0).fault = none ∧
    (put job [(HS.STATUS.state, 1, 0, hsFENCED)]).stackServes 1 = false := by decide +kernel

theorem witness_PatrolScrubs :
    (let s := put up [(ECC.CTRL.patrol_en, 15, 0, 1), (ECC.STATUS.patrol_active, 15, 0, 1), (ECC.PATROL_POS.granule, 15, 0, 2 ^ 32 - 1)];
      s.stackServes 15 = true ∧ s.rd ECC.CTRL.patrol_en 15 ≠ 0 ∧ s.rd ECC.STATUS.patrol_active 15 ≠ 0 ∧ (s.stk 15).patrolDone = false ∧
      errBytes (Assoc.get 0 s.hbmErr ((s.locOf 15 (s.rd ECC.PATROL_POS.granule 15 * 32)).granKey 15) ^^^ 1) = [0]) ∧
    ((up.setStk 15 { StackState.reset with patrolDone := true }).stk 15).patrolDone = true ∧
    (let s := up.putNow 90000000000000; s.hsState 1 = hsIN_SERVICE ∧ (s.stk 1).windowAt + max 1 (min 168 (s.rd ECC.CTRL.patrol_hours 1)) * 3600000000000 ≤ s.now) ∧
    (put up [(ECC.CTRL.patrol_en, 15, 0, 0)]).rd ECC.CTRL.patrol_en 15 = 0 ∧ (up.stk 15).patrolDone = false := by decide +kernel

theorem witness_BandsMove : ((up.setStk 1 { StackState.reset with bandUp := some 2 }).stk 1).bandUp = some 2 ∧
    (let s := (up.setStk 1 { StackState.reset with dwellAt := some 5, measured := 2 }).putNow 100000005; (s.stk 1).dwellAt = some 5 ∧ 5 + 100000000 ≤ s.now) ∧ (up.stk 1).bandUp = none ∧ (up.stk 1).dwellAt = none := by decide +kernel

theorem witness_FenceTakesStackOut :
    (let s := put up [(HS.CTRL.auto_fence, 1, 0, 1)]; s.stackServes 1 = true ∧ s.rd HS.CTRL.auto_fence 1 ≠ 0) ∧ (Admits up 0 .HS 1 0x040 ∧ up.stackServes 1 = true) ∧
    (let s := (job.setStk 0 { StackState.reset with fencing := some 7 }).putNow 2007;
      (s.stk 0).fencing = some 7 ∧ (s.stk 0).fenceBeat = none ∧ 7 + 2000 ≤ s.now ∧ (s.stk 0).drained = false ∧ s.holds 0 0 = true ∧ (s.part 0).inStep = true ∧ (s.part 0).fault = none ∧ s.running 0 = true) ∧
    (let s := at_ (job.setStk 0 { StackState.reset with fencing := some 7, fenceBeat := some 9 }) 2009;
      (s.stk 0).fencing = some 7 ∧ (s.stk 0).drained = false ∧ (s.stk 0).fenceBeat = some 9 ∧ s.counting = true ∧ 9 + 2000 ≤ s.beat.count) ∧
    (let s := job.setStk 0 { StackState.reset with fencing := some 7, drained := true, hostFence := true };
      (s.stk 0).drained = true ∧ (s.stk 0).fencing = some 7 ∧ (s.stk 0).hostFence = true) := by unfold Admits; decide +kernel

theorem witness_StackCommands :
    (let s := stackIn (up.setStk 1 { StackState.reset with passed := true }) hsFENCED;
      Admits s 0 .HS 1 0x040 ∧ (s.stk 1).fencing = none ∧ s.hsState 1 = hsFENCED ∧ (s.stk 1).passed = true ∧ s.testBusy btStack 1 = false) ∧
    (let s := up.setStk 1 { StackState.reset with fencing := some 7 }; Admits s 0 .HS 1 0x040 ∧ (s.stk 1).fencing = some 7) ∧
    ((up.stk 1).fencing = none ∧ up.hsState 1 ≠ hsFENCED) ∧
    (let s := stackIn (up.setStk 1 { StackState.reset with remaps := [(1, 2, 3)] }) hsREPAIRING; Admits s 0 .HS 1 0x040 ∧ s.hsState 1 = hsREPAIRING) ∧
    (let s := stackIn up hsTRAINING; let lanes : BitVec 64 := 0xAAAAAAAAAAAAAAAA
      Admits s 0 .HS 1 0x040 ∧ s.hsState 1 = hsTRAINING ∧ (∀ c, c < 32 → Assoc.get 0 (s.stk 1).lanes c + lanes.toNat / 4 ^ c % 4 ≤ 2)) ∧
    (let s := stackIn (up.setStk 1 { StackState.reset with lanes := [(31, 1)] }) hsTRAINING; let lanes : BitVec 64 := 0x8000000000000000
      ∃ c, c < 32 ∧ 2 < Assoc.get 0 (s.stk 1).lanes c + lanes.toNat / 4 ^ c % 4) ∧
    (let s := put (stackIn up hsFENCED) [(HS.FENCE_INFO.cause, 1, 0, 1)]; (s.stk 1).fencing = none ∧ s.hsState 1 = hsFENCED ∧ s.rd HS.FENCE_INFO.cause 1 = 1 ∧ (s.stk 1).touched = false) ∧
    (let s := up.setStk 1 { StackState.reset with copying := [(1, 2, 3)] }; Admits s 0 .HS 1 0x040 ∧ (s.stk 1).copying = (1, 2, 3) :: []) := by unfold Admits; decide +kernel

theorem witness_RegionModes :
    (let s := stackIn up hsFENCED; Admits s 0 .HS 1 0x010 ∧ s.hsState 1 ≠ hsIN_SERVICE) ∧
    (let s := put up [(TILE.HALVES.valid1, 0, 0, 1), (TILE.HALVES.owner1, 0, 0, 3), (MOD.PART_STATE.state, 0, 3, 2)];
      Admits s 0 .HS 1 0x010 ∧ s.hsState 1 = hsIN_SERVICE ∧ s.holder 1 = some 3 ∧ s.partState 3 ≠ 1 ∧ s.rd HS.CTRL.region_mode 1 < 256 ∧ (255 : Word).toNat % 256 ≠ s.rd HS.CTRL.region_mode 1) := by
  unfold Admits; decide +kernel

/-- IBU_LIST: n entries at offset 64 for stack 0, token to 4096. -/
def listW (n : Nat) : Nat := pk [(0, 0, 6), (1, 0, 64), (4, 0, 0), (5, 0, n), (6, 0, 4096)]
/-- A list of stack 0 from core 0. -/
def list (entries : List IbuEntry) (failed : List (Nat × Nat × Nat)) : IbuList := ⟨0, 0, 0, 0, 0, 0, true, [], 1, entries, 0, failed, [], 0, 0, 0, 0, 0, 0⟩
def listed (s : State) (x : IbuList) : State := s.putIbu { s.ibu with lists := [x] }
/-- The same, and entry `idx` of the list stands first in the queues of these units of stack 0. -/
def queued (s : State) (x : IbuList) (idx : Nat) (us : List Nat) : State := us.foldl (fun s u => s.setUnitQueue 0 u [(x.id, idx)]) (listed s x)
/-- A PAYLOAD to units 1022 and 1023, offset 32. -/
def payloadE : IbuEntry := ⟨0, pk [(0, 0, 15), (0, 8, 1022), (1, 0, 1023), (2, 0, 32), (4, 0, 1)], List.replicate 32 7, 2, 0, [1022, 1023], false, false⟩

theorem witness_ListsReachUnits :
    (let d := desc (listW 2) 1; let s := put (withDesc job d) [(IBU.CTRL.dispatch_en, 0, 0, 1)];
      s.descAt 0 0 0 = some d ∧ s.partOfCore 0 = some 0 ∧ d.phase = 1 ∧ descKind d = 6 ∧ (s.ibu.lists.any fun l => l.core == 0 && l.desc == d.id) = false ∧ dw d.words 6 5 0 = 0 ∧
      ((s.core 0).descs.any fun e => e.stream == 0 && e.id < d.id && e.phase == 1 && descKind e == 6 && dw e.words 4 3 0 == 0 &&
        !(s.ibu.lists.any fun l => l.core == 0 && l.desc == e.id)) = false ∧
      s.holds 0 (dw d.words 4 3 0) = true ∧ s.stackServes 0 = true ∧ dw d.words 5 15 0 ≠ 0 ∧ s.rd IBU.CTRL.dispatch_en (dw d.words 4 3 0) ≠ 0 ∧ (s.listsOf (dw d.words 4 3 0)).length < 64 ∧
      s.coreRead 0 (descLocal d) (32 * dw d.words 5 15 0) = some (List.replicate 64 0) ∧
      (put s [(HS.STATUS.state, 0, 0, hsFENCED)]).stackServes 0 = false ∧
      64 ≤ ((s.putIbu { s.ibu with lists := List.replicate 64 { list [] [] with core := 1 } }).listsOf 0).length) ∧
    (let x := { list [] [] with arrived := false }; let s := listed job x; (s.listsOf 0)[0]? = some x ∧ x.arrived = false ∧ s.stackServes 0 = true ∧
      (∀ m ∈ s.listsOf 0, m.core = x.core → m.stream = x.stream → m.id < x.id → m.arrived = true) ∧ (stackIn s hsFENCED).stackServes 1 = false) ∧
    (let x := { list [] [] with id := 1, arrived := false }; let s := job.putIbu { job.ibu with lists := [{ list [] [] with arrived := false }, x] };
      (s.listsOf 0)[1]? = some x ∧ ∃ m ∈ s.listsOf 0, m.arrived = false ∧ m.core = x.core ∧ m.stream = x.stream ∧ m.id < x.id) ∧
    (let x := list [payloadE] []; let s := queued job x 0 [1022, 1023];
      (s.listsOf 0)[0]? = some x ∧ x.entries.find? (fun e => e.idx == (0 : BitVec 16).toNat) = some payloadE ∧ dw payloadE.words 0 7 0 = 0x0F ∧ s.stackServes 0 = true ∧
      (∀ y ∈ s.ibu.lists, ∀ e ∈ y.entries, e.rest.Nodup) ∧ (s.unitQueue 0 1022).length ≤ 16 ∧
      s.ibu.lists.find? (·.id == x.id) = some x ∧ s.unitNext 0 1022 x = some payloadE ∧ s.unitRefuses 0 1022 = false ∧ s.unitNext 0 1023 x = some payloadE ∧
      dw payloadE.words 2 13 0 + payloadE.data.length ≤ 16384) := by decide +kernel

/-- An entry of unit 1023 of this operation. -/
def entry (op : Nat) : IbuEntry :=
  ⟨0, pk ([(0, 0, op), (0, 8, 1023), (0, 18, if op = 7 ∨ op = 8 ∨ op = 9 then 0 else 3), (4, 0, 1)] ++
    (if op = 1 then [(0, 18, 14 - 3), (5, 0, 1), (6, 0, 32)] else if op = 2 then [(5, 0, 32), (6, 0, 128)] else [])), [], 1, 0, [1023], false, false⟩

theorem witness_EntriesRun : (∀ op ∈ [1, 2, 3, 4, 5, 6, 7, 8, 9], dw (entry op).words 0 7 0 = op ∧ ibuMalformed (entry op).words = false ∧
      (queued job (list [entry op] []) 0 [1023]).unitNext 0 1023 (list [entry op] []) = some (entry op)) ∧
    (let x := list [entry 7] []; let s := queued job x 0 [1023]; (s.listsOf 0)[0]? = some x ∧ s.stackServes 0 = true ∧ (s.unit 0 1023).bad = false ∧ (s.unit 0 1023).state = 0 ∧
      x ∈ s.ibu.lists ∧ (entry 7).rest = [1023] ∧ (∀ g ∈ x.failed, g.1 ≠ (entry 7).idx)) ∧
    (let s := (queued job (list [entry 7] []) 0 [1023]).setUnit 0 1023 ⟨2, true, false⟩; (s.unit 0 1023).state ≠ 0 ∧ (s.servedUnits 0).contains 1023 = false ∧
      s.unitNext 0 1023 (list [entry 7] []) = some (entry 7) ∧ ((s.putIbu { s.ibu with served := [(0, [1023])] }).servedUnits 0).contains 1023 = true) ∧
    (let s := (queued job (list [entry 7] []) 0 [1023]).setUnit 0 1023 ⟨2, true, true⟩; (s.unit 0 1023).bad = true) ∧
    (let e := { entry 7 with words := 7 }; ibuMalformed e.words = true ∧ dw e.words 0 7 0 = 7) := by decide +kernel

theorem witness_FillWritesItsRange : let w := (entry 7).words;
    dw w 0 7 0 = 7 ∧ ibuMalformed w = false ∧ (URun.mk (put job [(HS.CTRL.region_mode, 0, 0, 1)]) 0 1023 0 0 none).inReach (iLa w 0) (32 * iN w) = true ∧
    (URun.mk job 0 1023 0 0 none).inReach (iLa w 0) (32 * iN w) = false := by decide +kernel

theorem witness_TokensAreWritten : (∀ failed ∈ [[], [(5, 3, 77)]], let x := list [] failed; let d := desc (listW 2) 1; let s := listed (withDesc job d) x;
      (s.listsOf 0)[0]? = some x ∧ x.arrived = true ∧ x.entries = [] ∧ (s.core x.core).descs.find? (fun d => d.id == x.desc) = some d ∧
      s.sramGood (coreKey x.core (dw d.words 6 21 0)) 64 = true ∧ s.partOfCore 0 = some 0 ∧ (s.part 0).inStep = true ∧ (s.part 0).fault = none) := by decide +kernel

theorem witness_UnitsLeaveService : (up.unit 0 1023).state = 0 ∧ (up.servedUnits 0).length < 16 ∧ (Admits up 0 .IBU 0 0x040 ∧ (up.outUnits 0).length < 16) ∧
    (let s := up.putIbu { up.ibu with units := (List.range 16).map fun u => (u, ⟨1, false, false⟩) };
      Admits s 0 .IBU 0 0x040 ∧ (s.unit 0 1023).state = 0 ∧ 16 ≤ (s.outUnits 0).length ∧ (s.unit 0 15).state = 1 ∧ (s.unit 0 15).needPass = false ∧
      s.testBusy btUnit (1024 * 0 + 15) = false) ∧
    (let s := up.setUnit 0 5 ⟨2, true, false⟩; Admits s 0 .IBU 0 0x040 ∧ (s.unit 0 5).state ≠ 1 ∧ (s.unit 0 5).state = 2) ∧
    (let s := up.setUnit 0 5 ⟨3, true, false⟩; Admits s 0 .IBU 0 0x040 ∧ (s.unit 0 5).state = 3) := by unfold Admits; decide +kernel

/-! Witnesses: the Jugglers and Edpen. -/

/-- Queue 5 of tile 0, enabled, remote, owned by partition 0 (Table 7.1), with these packets; `w2` and `w3` are descriptor words. -/
def withQueue (s : State) (pkts : List QPkt) (w3 : Nat) : State := s.setQueue 5 { Queue.reset with desc := 0x15 + w3 * 2 ^ 96, pkts := pkts }
/-- A closed packet of these bytes. -/
def pkt (bs : List Byte) : QPkt := ⟨0, bs, 0, [0], none, true, true, false, none, false, some 0, false⟩
/-- Stream 0 of core 0 enqueues 64 bytes at 128 to queue 5. -/
def enq (s : State) : State := ((s.setG 0 0 1 128).setG 0 0 2 5).setG 0 0 3 64
/-- Stream `n` of core 0 waits on queue 5. -/
def waiting (s : State) (n : Nat) (deq stalled : Bool) : State :=
  (s.setStrm 0 n { Stream.reset with jug := some ⟨deq, 5, 3, 128, 64, 0, 0, 0, n, stalled, 0⟩ }).setSn 0 n snJUG

theorem witness_Enqueue :
    (let s := (enq (withQueue job [] 0)).setJug 0 { JugTile.reset with next := 1 };
      s.canIssue 0 0 = true ∧ JenqForm (s.g 0 0 1 % 2 ^ 22) (s.g 0 0 3 % 2 ^ 16) 0 ∧ s.jugRefuses 0 5 false = none ∧ s.openOf 0 0 = none ∧
      (s.issued 0 0).midBusy 0 0 = false ∧ s.coreRead 0 128 64 = some (List.replicate 64 0) ∧ (s.issued 0 0).firstProducer 5 = none ∧ s.rd JUG.CTRL.enable 0 ≠ 0 ∧ (s.queue 5).maxCells = 0 ∧ 64 ≤ s.generalFree 0 ∧
      s.generalFree 0 < 2 ^ 17 ∧ ∀ p ∈ (s.queue 5).pkts, p.id < (s.jug 0).next) ∧
    (let s := waiting (enq (withQueue job [] 0)) 1 false true; JenqForm 128 64 4 ∧ JenqForm 128 16384 1 ∧ s.canIssue 0 0 = true ∧ s.jugRefuses 0 5 false = none ∧ s.openOf 0 0 = none ∧
      (s.issued 0 0).firstProducer 5 ≠ none ∧ (s.issued 0 0).midBusy 0 0 = false ∧ s.coreRead 0 128 64 = some (List.replicate 64 0)) ∧
    (let p : QPkt := { pkt [] with stamps := [], openBy := some 0, closed := false, avail := false }; let s := waiting (withQueue job [p] 0) 0 false true;
      ∃ w, (s.strm 0 0).jug = some w ∧ w.deq = false ∧ s.sn 0 0 = snJUG ∧ w.stalled = true ∧ s.nextProducer (w.queue / 4096) = some w.queue ∧
      s.firstProducer w.queue = some 0 ∧ s.jenqRest 0 w = some (List.replicate 64 0) ∧ s.openOf 0 0 = some (5, p) ∧
      (s.fillCells w.queue p.id 66 (List.replicate 64 0)).1 = [] ∧ w.reg < 32) ∧
    (let s := waiting (withQueue job [] 0) 1 false true; (s.strm 0 1).jug.isSome = true ∧ s.sn 0 1 = snJUG ∧ s.firstProducer 5 ≠ some 0) := by
  unfold JenqForm; refine ⟨by decide +kernel, by decide +kernel, ⟨⟨false, 5, 3, 128, 64, 0, 0, 0, 0, true, 0⟩, by decide +kernel⟩, by decide +kernel⟩

/-- The wait of a JDEQ of stream 0 with room for 64 bytes. -/
def deqWait (s : State) (flags : Nat) : JugWait := ⟨true, 5, 3, 128, 64, flags, 0, s.now, s.now * 2048, false, 0⟩

/-- A JDEQ of capacity 0. -/
def enq0 (s : State) : State := (enq s).setG 0 0 3 0

theorem witness_Dequeue :
    (let s := enq (withQueue job [pkt [1, 2, 3]] 0); let w := deqWait s 0;
      s.canIssue 0 0 = true ∧ (s.g 0 0 2).testBit 15 = false ∧ s.g 0 0 3 % 2 ^ 16 ≠ 0 ∧ s.jugRefuses 0 5 true = none ∧ s.claimOf 0 0 = none ∧ s.rd JUG.CTRL.enable 0 ≠ 0 ∧
      (s.issued 0 0).jdeqTurn 0 0 w = true ∧ s.jdeqPlan 0 0 w = some (pkt [1, 2, 3], 3) ∧ s.onChip 5 (pkt [1, 2, 3]) 3 = true ∧ s.sramGood (coreKey 0 128) 3 = true) ∧
    (let s := enq (withQueue job [] 0); s.canIssue 0 0 = true ∧ s.jugRefuses 0 5 true = none ∧ s.jdeqPlan 0 0 (deqWait s 1) = none ∧ s.jdeqPlan 0 0 (deqWait s 0) = none ∧
      (s.issued 0 0).jdeqTurn 0 0 (deqWait s 0) = true) ∧
    (let q := { pkt [1, 2, 3] with claim := some 0 }; let s := enq (withQueue job [q] 0); (s.claimOf 0 0).map (·.1) = some 5 ∧ s.jdeqPlan 0 0 (deqWait s 2) = some (q, 3) ∧
      (let s0 := enq0 (withQueue job [q] 0); let w : JugWait := { deqWait s0 2 with len := 0 }; s0.g 0 0 3 % 2 ^ 16 = 0 ∧ s0.jugRefuses 0 5 true = none ∧ (s0.issued 0 0).jdeqTurn 0 0 w = true ∧
        s0.jdeqPlan 0 0 w = some (q, 0) ∧ s0.onChip 5 q 0 = true)) ∧
    (let w : JugWait := ⟨true, 5, 3, 128, 64, 0, 0, 0, 0, false, 0⟩; let s := waiting (withQueue job [pkt [1, 2, 3]] 0) 0 true false;
      (s.strm 0 0).jug = some w ∧ s.sn 0 0 = snJUG ∧ s.jdeqTurn 0 0 w = true ∧ s.jdeqPlan 0 0 w = some (pkt [1, 2, 3], 3) ∧ s.onChip 5 (pkt [1, 2, 3]) 3 = true ∧ (s.queue 5).error = false ∧
      ((s.setQueue 5 { s.queue 5 with error := true }).queue 5).error = true) := by decide +kernel

theorem witness_QueuesMoveAlone :
    (let s := ((withQueue job [pkt [1]] 1000).setQueue 5 { (withQueue job [pkt [1]] 1000).queue 5 with timer := some 5 }).putNow 1005;
      (s.queue 5).timer = some 5 ∧ (s.queue 5).f 0 4 4 = 1 ∧ (s.queue 5).f 3 31 0 = 1000 ∧ (s.queue 5).hasContent = true ∧ 5 + 1000 ≤ s.now) ∧
    (let g : Seg := ⟨0, 5, [(0, 0)], [(0, 0)]⟩; let s := (withQueue job [pkt [1]] 0).setJug 0 { JugTile.reset with run := some g };
      (s.jug 0).run = some g ∧ g.cells ≠ [] ∧ ∀ x ∈ g.cells, x ∈ (s.queue g.queue).cells) ∧
    (let g : Seg := ⟨0, 5, [(0, 0)], [(0, 0)]⟩; let s := (withQueue job [pkt [1]] 0).setJug 0 { JugTile.reset with segs := [g], refill := some 0 };
      (s.jug 0).refill = some g.num ∧ (s.jug 0).segs.find? (fun h => h.num == g.num) = some g ∧
      (((s.setJug 0 { s.jug 0 with refill := none }).wr JUG.STATUS.refilling 0 0).readStack 130 (s.segAt 0 g.num).1 (s.segAt 0 g.num).2 (256 * g.base.length) .tile none).1.isOk = true) ∧ (job.jug 0).run = none ∧ (job.jug 0).refill = none := by decide +kernel

theorem witness_QueueCommands :
    (let s := put (withQueue job [] 0) [(JUG.QSEL.queue, 0, 0, 5), (JUG.QDESC.word, 0, 0, 1)]; Admits s 0 .JUG 0 0x054 ∧ s.selQueue 0 = 5 ∧ s.configResult 0 0 5 1 = 2) ∧
    (let s := put job [(JUG.QSEL.queue, 0, 0, 4095)]; Admits s 0 .JUG 0 0x054 ∧ s.configResult 0 0 4095 0 ≠ 2) ∧
    (let s := (put job [(JUG.QSEL.queue, 0, 0, 5)]).setQueue 5 { Queue.reset with desc := 0x101, error := true, pkts := [pkt [1]] };
      Admits s 0 .JUG 0 0x054 ∧ (s.queue 5).error = true ∧ (s.queue 5).owner ≠ 0) ∧
    (let s := (put job [(JUG.QSEL.queue, 0, 0, 5)]).setQueue 5 { Queue.reset with desc := 0x101 }; Admits s 16 .JUG 0 0x054 ∧ (s.queue (s.selQueue 0)).owner ≠ 0) := by
  unfold Admits; decide +kernel

def head77 (job seq : Nat) : Head := ⟨77, BitVec.ofNat 16 job, BitVec.ofNat 16 seq, 1⟩
/-- The state after the count of the packet. -/
def got (s : State) (n : Nat) : State := s.rxCount 0 anyRx n
def a0 : Nat := coreAddr 0 128

theorem witness_RequestsArrive :
    (Arrives edpen (got edpen 8) 0 anyRx 8 ∧ Unpaired (got edpen 8)) ∧
    (let u := got edpen 8; let p := reqPacket u 0 1 1 anyRx (head77 9 4) a0 8 0 (List.replicate 8 5); u.flow (flowHome 0 p) = some ⟨4, [], [], [], 0⟩ ∧ NextOf ⟨4, [], [], [], 0⟩ p ∧
      (match u.checkAddr 0 a0 8 9 false with | .ok n => n == 0 | _ => false) = true ∧ (u.arrWrite a0 (List.replicate 8 5)).1 = true ∧
      (match u.checkAddr 0 a0 8 8 false with | .error r => r == 1 | _ => false) = true ∧ (⟨4, [], [], [], 0⟩ : RxFlow).isOld 3 = true ∧
      (u.arrRead a0 8).1 = some (List.replicate 8 0)) ∧
    (let u := got edpen 8; let p := reqPacket u 0 1 1 anyRx (head77 9 3) a0 8 0 (List.replicate 8 5); (⟨4, [], [], [(3, p)], 0⟩ : RxFlow).isOld p.seq = true ∧ u.answerHeld 0 p = false) ∧
    (let u := got edpen 16; let p := reqPacket u 0 4 1 anyRx (head77 9 4) a0 16 8 (List.replicate 16 5); u.flow (flowHome 0 p) = some ⟨4, [], [], [], 0⟩ ∧ NextOf ⟨4, [], [], [], 0⟩ p ∧
      (match u.checkAddr 0 a0 8 9 false with | .ok n => n == 0 | _ => false) = true ∧ (u.arrRead a0 8).1 = some (List.replicate 8 0) ∧
      ((u.arrRead a0 8).2.arrWrite a0 (leBytes 8 (atomicOp 0 8 0 5 0))).1 = true ∧
      (let p := reqPacket u 0 4 1 anyRx (head77 9 6) a0 16 8 []; (⟨4, [], [], [], 0⟩ : RxFlow).isOld p.seq = false ∧ p.seq ≠ 4)) ∧
    (let s := edpen.setQueue 5 { Queue.reset with desc := 5 }; let u := got s 3; let p := reqPacket u 0 6 1 anyRx (head77 9 4) 5 3 3 [1, 2, 3]; let x := u.newPkt 5 (some (flowWho p)) none;
      u.flow (flowHome 0 p) = some ⟨4, [], [], [], 0⟩ ∧ NextOf ⟨4, [], [], [], 0⟩ p ∧ (u.queue 5).enabled = true ∧ (u.queue 5).error = false ∧ (u.queue 5).remoteEn = true ∧
      u.rd MIDWAY.JOB_TAG.valid 0 (u.queue 5).owner ≠ 0 ∧ u.jobTag 0 (u.queue 5).owner = 9 ∧ u.running (u.queue 5).owner = true ∧ u.mayEnqueue 5 (flowWho p) = true ∧
      (x.2.fillCells 5 x.1 20 [1, 2, 3]).1 = []) ∧
    (let s := (put edpen [(JUG.STATUS.general_free, 0, 0, 0)]).setQueue 5 { Queue.reset with desc := 5 }; let u := got s 3; let p := reqPacket u 0 6 1 anyRx (head77 9 4) 5 3 3 [1, 2, 3];
      let x := u.newPkt 5 (some (flowWho p)) none; (x.2.fillCells 5 x.1 20 [1, 2, 3]).1 = [1, 2, 3]) ∧
    (up.portReceives 0 anyRx = false ∧ (put up [(EDPEN.STATUS.state, 0, 0, pUP4), (EDPEN.STATUS.lanes_up, 0, 0, 15)]).portReceives 0 anyRx = true ∧
      ((put up [(EDPEN.STATUS.state, 0, 0, pUP4), (EDPEN.STATUS.lanes_up, 0, 0, 15)]).rxCount 0 anyRx 0).edpenOn 0 = false) := by
  unfold Arrives Unpaired NextOf; decide +kernel

/-- A packet of tile 0 in flight to tile 77. -/
def flight (type port : Nat) (core : Option Nat) : Flight := ⟨0, port, ⟨type, 1, 24, 77, 9, 5, 8, 4, 6, [], 0⟩, 0, 0, some 0, core, 0, 0, 0, none, false⟩
def flying (f : Flight) : State := let s := withDesc edpen (desc 7 1); s.putFab { s.fab with flights := [f] }

theorem witness_AnswersArrive :
    (let u := got edpen 0; let p := reqPacket u 0 2 1 anyRx (head77 9 4) a0 8 6 [];
      Arrives edpen u 0 anyRx 0 ∧ Unpaired u ∧ u.flow (flowHome 0 p) = some ⟨4, [], [], [], 0⟩ ∧ NextOf ⟨4, [], [], [], 0⟩ p ∧
      (match u.checkAddr 0 a0 8 9 false with | .ok n => n == 0 | _ => false) = true ∧ (u.arrRead a0 8).1 = some (List.replicate 8 0)) ∧
    (let f := flight 1 0 none; let u := got (flying f) 0; Arrives (flying f) u 0 anyRx 0 ∧
      u.fab.flights.find? (fun f => f.tile == 0 && f.pkt.dst == 77 && f.pkt.tc == 1 && f.pkt.seq == 4) = some f ∧ f.held = none) ∧
    (let f := flight 2 0 (some 0); let u := got (flying f) 8; Arrives (flying f) u 0 anyRx 8 ∧
      u.fab.flights.find? (fun f => f.tile == 0 && f.pkt.type == 2 && f.pkt.dst == 77 && f.pkt.aux == 6) = some f ∧ (u.flightDesc f).isSome = true) ∧
    (let f := flight 4 0 (some 0); let u := got (flying f) 8; Arrives (flying f) u 0 anyRx 8 ∧
      u.fab.flights.find? (fun f => f.tile == 0 && f.pkt.type == 4 && f.pkt.dst == 77 && f.pkt.seq == 4) = some f ∧ (u.flightDesc f).isSome = true ∧
      u.sramGood (coreKey 0 (0 + 16 * f.tag + 8)) 8 = true ∧ u.wordsOf 2 (coreKey 0 (0 + 16 * f.tag + 8)) 8 = []) ∧
    (let f := { flight 1 0 none with held := some (2, (flight 1 0 none).pkt) }; ((got (flying f) 0).fab.flights.head?.map (·.held)) = some f.held) ∧ (got edpen 8).fab.flights = [] := by unfold Arrives Unpaired NextOf; decide +kernel

theorem witness_TimeoutsResend :
    (let f := flight 1 0 none; let s := (flying f).putNow 20000; s.fab.flights[0]? = some f ∧ f.tile < 8 ∧ s.timedOut f = true ∧ f.port < 8 ∧ f.resends < 3) ∧
    (let f := { flight 1 7 none with resends := 3 }; let s := (flying f).putNow 20000; s.fab.flights[0]? = some f ∧ s.timedOut f = true ∧ 3 ≤ f.resends) ∧
    (let f := flight 1 8 none; let s := (flying f).putNow 20000; s.fab.flights[0]? = some f ∧ s.timedOut f = true ∧ s.flightDesc f = none ∧ f.held = none ∧ f.part = some 0 ∧
      (s.part 0).inStep = true ∧ (s.part 0).fault = none) ∧
    (let f := { flight 1 0 none with copy := true }; (flying f).fab.flights[0]? = some f ∧ f.copy = true) ∧ ((flying (flight 1 0 none)).timedOut (flight 1 0 none) = false) ∧
    (let f := flight 1 8 none; ((flying f).putNow 20000).midLost f = true) ∧
    (let f : Flight := { flight 1 0 none with pkt := { (flight 1 0 none).pkt with tc := 2 } }; let u := got (flying f) 0;
      Arrives (flying f) u 0 anyRx 0 ∧ u.fab.flights.find? (fun f => f.tile == 0 && f.pkt.dst == 77 && f.pkt.tc == (2 : Fin 8).val && f.pkt.seq == 4) = some f) := by
  unfold Arrives; decide +kernel

/-- A message of 1 byte to queue 3 of tile 24, and the states after it has left its send queue. -/
def message : List Byte := leBytes 4 24 ++ leBytes 2 3 ++ List.replicate 26 0 ++ [7]
def sending (bs : List Byte) : State := edpen.setQueue 4068 { Queue.reset with desc := 1, pkts := [pkt bs] }

theorem witness_SendQueuesServe :
    (let s := sending [1]; (s.queue 4068).pkts.find? (fun p => !p.gone) = some (pkt [1]) ∧ (pkt [1]).avail = true ∧ (pkt [1]).closed = true ∧ s.tileUp 0 = true ∧ (pkt [1]).part = some 0) ∧
    (let p := pkt message; let s := sending message; let v := (s.freePkt 4068 (p.cells.map fun i => (p.id, i))).dropPkt 4068 p.id;
      let u := v.setQueue 4068 { v.queue 4068 with lastDeq := 0, timer := some s.now };
      32 < p.data.length ∧ p.data.length ≤ 32 + 4096 ∧ leNat (p.data.take 4) < 2 ^ 18 ∧ leNat ((p.data.drop 4).take 2) < 2 ^ 12 ∧ leNat ((p.data.drop 6).take 26) = 0 ∧
      (u.sendFlow 0 ⟨p.part, none, 0, 0, 0, false⟩ 6 4 24 3 1 3 (p.data.drop 32) true).isSome = true) ∧
    (let s := edpen.setQueue 5 { Queue.reset with desc := 5 }; let u := got s 32;
      s.portReceives 0 anyRx = true ∧ (u.queue 5).enabled = true ∧ (u.queue 5).error = false ∧ (u.queue 5).remoteEn = true ∧ u.running (u.queue 5).owner = true ∧
      (u.putWhole 5 (2 ^ 25) (leBytes 32 0)).isSome = true ∧ (∀ o ∈ (u.queue 5).outside, o.who ≠ 2 ^ 25) ∧
      ((u.stallOutside 5 (2 ^ 25) [7]).queue 5).outside.any (fun o => o.who == 2 ^ 25) = true) ∧
    (let p := { pkt [1] with avail := false }; let s := edpen.setQueue 4068 { Queue.reset with desc := 1, pkts := [p] }; (s.queue 4068).pkts.find? (fun p => !p.gone) = some p ∧ p.avail = false) := by decide +kernel

/-- Port 0 in a state, with these lanes. -/
def port (st lanes : Nat) : State := put up [(EDPEN.STATUS.state, 0, 0, st), (EDPEN.STATUS.lanes_up, 0, 0, lanes)]

theorem witness_PortStates : (((port pUP4 15).rd EDPEN.STATUS.lanes_up 0).testBit (3 : Fin 4) = true ∧ (port pUP4 15).rd EDPEN.STATUS.lanes_up 0 < 16 ∧ (port pUP4 15).pState 0 = pUP4) ∧
    (((port pUP3 7).rd EDPEN.STATUS.lanes_up 0).testBit (0 : Fin 4) = true ∧ (port pUP3 7).pState 0 = pUP3) ∧
    ((port pDOWN 0).pState 0 = pDOWN ∧ (port pDOWN 0).rd EDPEN.CTRL.enable 0 ≠ 0 ∧ (port pDOWN 0).tileUp 0 = true ∧ ((port pDOWN 0).portSt 0).attemptAt = none) ∧
    ((port pTRAINING 0).pState 0 = pTRAINING ∧ (port pTRAINING 0).rd EDPEN.CTRL.lane_en 0 = 15) ∧
    (Admits (port pUP4 15) 0 .EDPEN 0 0x040 ∧ (port pUP4 15).pState 0 ≠ pFENCED) ∧ (Admits (port pDOWN 0) 0 .EDPEN 0 0x040) ∧
    (Admits (port pFENCED 0) 0 .EDPEN 0 0x040 ∧ (port pFENCED 0).pState 0 = pFENCED ∧ ((port pFENCED 0).portSt 0).tested = false ∧ (port pFENCED 0).testBusy btPort 0 = false) := by
  unfold Admits; decide +kernel

theorem witness_MidwayAndRoutes :
    (let s := put up [(MIDWAY.STATUS.link_up, 7, 0, 7)]; s.linkUp 7 2 = true) ∧
    (let s := (up.putFab { up.fab with links := [(linkKey 0 0, some ⟨0, 2⟩)] }).putNow 3000000000; Assoc.get none s.fab.links (linkKey 0 0) = some ⟨0, 2⟩ ∧ 0 + (2 + 1) * 1000000000 ≤ s.now ∧
      s.tileLost 0 = false ∧ s.tileLost 1 = false) ∧
    (let m : MidMsg := ⟨0, 3, 0, 0, (flight 1 8 none).pkt⟩; let s := (put up [(MIDWAY.STATUS.link_up, 0, 0, 7), (MIDWAY.STATUS.link_up, 1, 0, 7)]).putFab { up.fab with midway := [m] };
      s.fab.midway.find? (fun m => m.src == 0 && m.dst == 3 && m.cls == 0) = some m ∧ m.at_ ≠ 3 ∧ s.nextLink m.at_ 3 = some 0 ∧ s.nextLink m.at_ 3 ≠ some 1 ∧ m.at_ ^^^ 2 ^ 0 ≠ 3 ∧
      s.nextLink 1 3 = some 1 ∧ 1 ^^^ 2 ^ 1 = 3 ∧ s.tileUp 3 = true ∧ ∀ m ∈ s.fab.midway, ¬(m.src = 1 ∧ m.dst = 0 ∧ m.cls = 0)) ∧
    (Admits up 0 .MIDWAY 0 0x040 ∧ (∀ p, p < 16 → up.running p = true → up.holdsTile p 0 = false)) ∧ (Admits job 0 .MIDWAY 0 0x040 ∧ job.running 0 = true ∧ job.holdsTile 0 0 = true) ∧
    (Admits up 6 .MIDWAY 0 0x050 ∨ Admits up 1 .MIDWAY 0 0x050) ∧ (Admits up 1 .MIDWAY 0 0x05C ∧ bits (BitVec.ofNat 32 (2 ^ 31 + 32768 * 32768)).toNat 30 15 = 32768 ∧
      (BitVec.ofNat 32 (2 ^ 31 + 32768 * 32768)).toNat.testBit 31 = true ∧ up.rd MIDWAY.STATUS.route_loading 0 = 0) ∧
    (Assoc.get none (up.putFab { up.fab with loads := [(7, some (0, 1))] }).fab.loads 7 = some (0, 1)) := by unfold Admits; decide +kernel

/-- A collective of core 0 that has just begun: a context of zeros, complete or not. -/
def coll (complete : Bool) : Coll := ⟨0, 0, 0, pk [(0, 0, 0)], [24], 5, 0, 0, 0, 0, [], false, [], (if complete then some 7 else none), 0, 0, complete, [], []⟩
def collecting (c : Coll) : State := edpen.putFab { edpen.fab with colls := [c] }

theorem witness_CollectivesRun :
    (let s := at_ (slotted up 0 7 2 3 0) 1000; s.dueAlone 0 7 = true ∧ s.running (s.slotOwner 0) = false) ∧
    (let u := got edpen 8; Arrives edpen u 0 anyRx 8 ∧ (List.range 16).find? (fun n => u.holdsTile n 0 && u.is MIDWAY.JOB_TAG.valid 0 n && u.jobTag 0 n == 9) = some 0 ∧ u.running 0 = true ∧
      u.fab.held = [] ∧ u.leading 0 = false ∧ u.collFits 0 anyRx.port (reqPacket u 0 9 1 anyRx (head77 9 4) 0 8 5 (List.replicate 8 1)) = true ∧
      (put u [(MOD.PART_STATE.state, 0, 0, 3)]).running 0 = false) ∧ (up.dueAlone 0 7 = false) ∧
    ((coll false).complete = false ∧ [CollMsg.mk 0 0 5 0 0 1 [] 77 0].any ((collecting (coll false)).collStray (coll false)) = true) ∧ (coll false).tile < 8 ∧
    (edpen.portReceives 0 anyRx = true ∧ up.portReceives 0 anyRx = false) ∧
    (let s := at_ (collecting (coll false)) 100000000000; s.fab.colls[0]? = some (coll false) ∧ s.counting = true ∧ 0 + cDeadline (coll false).ctx ≤ s.beat.count) ∧
    ((collecting (coll true)).fab.colls[0]? = some (coll true) ∧ (coll true).bc = some 7 ∧ (collecting (coll true)).sramGood (coreKey 0 (cResult (coll true).ctx)) 16 = true) ∧
    ((collecting (coll false)).portReceives 0 anyRx = true ∧ (coll false).list.contains (24 : BitVec 18).toNat = true) ∧
    ((got edpen 24).runs 6 = true ∧ (BitVec.ofNat 128 (2 ^ 28)).toNat.testBit 28 = true) := by unfold Arrives; decide +kernel

/-! Witnesses: partitions, tiles and the host. -/

/-- Partition 15 in a state, on half 15. -/
def part15 (st : Nat) : State := put up [(TILE.HALVES.valid1, 7, 0, 1), (TILE.HALVES.owner1, 7, 0, 15), (MOD.PART_STATE.state, 0, 15, st), (MOD.PART_CFG.halves, 0, 15, 2 ^ 15)]

theorem witness_PartitionCommands :
    (let s := put up [(MOD.PART_CFG.halves, 0, 15, 2 ^ 15 + 2)]; Admits s 0 .MOD 0 (0x404 + 0x40 * 15) ∧ s.configCheck 15 = 2) ∧
    (Admits (part15 2) 0 .MOD 0 (0x404 + 0x40 * 15) ∧ (part15 2).configCheck 15 ≠ 2 ∧ (part15 2).partState 15 ≠ 1 ∧ (part15 2).partState 15 ≠ 3 ∧ (part15 2).running 15 = true) ∧
    (Admits (part15 1) 0 .MOD 0 (0x404 + 0x40 * 15) ∧ (part15 1).partState 15 = 1 ∧ (part15 1).running 15 = false) ∧ (part15 3).partState 15 = 3 := by unfold Admits; decide +kernel

/-- Partition 0 runs in a pair as its primary, with these own outcomes. -/
def paired (own : List (Nat × Bool × Nat)) : State :=
  (put job [(MOD.PART_STATE.paired, 0, 0, 1), (MOD.PART_STATE.primary, 0, 0, 1), (MOD.PAIR_CFG.timeout_beats, 0, 0, 1000)]).setPart 0 { PartState.reset with ownOutcomes := own } |>.putNow 1000

theorem witness_PairMode : ((paired []).rd MOD.PART_STATE.paired 0 0 ≠ 0 ∧ (∀ x ∈ ((paired []).part 0).ownOutcomes, x.1 ≠ 7)) ∧
    (∀ own ∈ [true, false], (paired [(7, own, 0)]).rd MOD.PART_STATE.paired 0 0 ≠ 0 ∧ (7, own, 0) ∈ ((paired [(7, own, 0)]).part 0).ownOutcomes ∧
      ((paired [(7, own, 0)]).part 0).ownOutcomes.all (fun x => x.1 == 7 && x.2.1 == own) = true ∧
      ((paired [(7, own, 0)]).part 0).ownOutcomes.any (fun o => o.2.2 + (paired [(7, own, 0)]).rd MOD.PAIR_CFG.timeout_beats 0 0 ≤ (paired [(7, own, 0)]).now) = true) ∧
    ((paired []).running 0 = true ∧ ((paired []).part 0).keptAt + 250 ≤ (paired []).now ∧
      ((paired []).part 0).heardAt + (paired []).rd MOD.PAIR_CFG.timeout_beats 0 0 ≤ (paired []).now) ∧
    (((paired []).setPart 0 { PartState.reset with keptAt := 751 }).now < (((paired []).setPart 0 { PartState.reset with keptAt := 751 }).part 0).keptAt + 250) ∧
    job.rd MOD.PART_STATE.paired 0 0 = 0 := by decide +kernel

/-- Tile 7 FENCED by a command. -/
def tileOut : State := put up [(TILE.STATUS.state, 7, 0, 1), (TILE.STATUS.cause, 7, 0, 1)]

theorem witness_TileCommands :
    (Admits up 0 .TILE 7 0x040 ∧ up.rd TILE.STATUS.state 7 = 0 ∧ (up.tile 7).resetAt = none ∧ (∀ p, p < 16 → up.holdsTile p 7 = true → up.running p = false) ∧
      up.railGood (4 * 7) = true ∧ up.railGood (4 * 7 + 1) = true) ∧
    (Admits tileOut 0 .TILE 7 0x040 ∧ tileOut.rd TILE.STATUS.state 7 = 1 ∧ tileOut.rd TILE.STATUS.cause 7 = 1 ∧ (tileOut.tile 7).touched = false ∧ (tileOut.tile 7).resetAt = none ∧
      tileOut.railCutBit (4 * 7) = false ∧ tileOut.railCutBit (4 * 7 + 1) = false ∧ tileOut.railCutBit (4 * 7 + 3) = false ∧ tileOut.testBusy btTile 7 = false) ∧
    (let s := tileOut.setTile 7 { TileState.reset with wasReset := true, passed := true, touched := true }; (s.tile 7).wasReset = true ∧ (s.tile 7).passed = true) ∧
    (let s := (tileOut.setTile 7 { TileState.reset with resetAt := some 5 }).putNow 2000005; (s.tile 7).resetAt = some 5 ∧ 5 + 2000000 ≤ s.now ∧ s.rd TILE.STATUS.state 7 = 1) ∧
    (job.rd TILE.STATUS.state 0 = 0 ∧ job.railGood 0 = true ∧ job.railGood 1 = true ∧ job.holdsTile 0 0 = true ∧ job.running 0 = true ∧ (job.part 0).inStep = true ∧ (job.part 0).fault = none) := by
  unfold Admits; decide +kernel

/-- Ring 63 of 16 entries at page 0, its completion ring at page 1, both enabled; partition 0 owns it. -/
def ringed : State :=
  put job [(HOSTQ.RCTRL.enable, 7, 7, 1), (HOSTQ.CMD_SIZE.log2, 7, 7, 4), (HOSTQ.CMP_SIZE.log2, 7, 7, 4), (HOSTQ.CMP_BASE.base, 7, 7, 1), (HOSTQ.CMD_TAIL.tail, 7, 7, 1)]
/-- With a command of ring 63 that has been read. -/
def commanded (c : HostCmd) : State := ringed.putHost { ringed.host with cmds := [c] }
def cmd (op : Nat) (entry : Nat) : HostCmd := ⟨63, op, 0, 0, none, 0, none, none, false, BitVec.ofNat 512 (op + entry)⟩

theorem witness_RingsAreKept :
    (Admits ringed 0 .HOSTQ 7 (0x050 + 0x40 * 7) ∧ ringed.cmdSize 63 = 16 ∧ ringed.ring HOSTQ.RCTRL.enable 63 = 1 ∧ (15 : BitVec 16).toNat < ringed.cmdSize 63 ∧
      ringed.cmdSize 63 ≤ (16 : BitVec 16).toNat) ∧
    (Admits ringed 0 .HOSTQ 7 (0x040 + 0x40 * 7) ∧ ringed.is MOD.STATUS.rings_lost = false ∧ ringValid (ringed.ring HOSTQ.CMD_BASE.base 63) (ringed.ring HOSTQ.CMD_SIZE.log2 63) = true ∧
      ringValid (ringed.ring HOSTQ.CMP_BASE.base 63) (ringed.ring HOSTQ.CMP_SIZE.log2 63) = true ∧ ringed.ring HOSTQ.CMD_TAIL.tail 63 < ringed.cmdSize 63 ∧
      ringed.ring HOSTQ.OUTSTANDING.count 63 = 0) ∧
    (let s := put ringed [(HOSTQ.CMD_SIZE.log2, 7, 7, 17)]; Admits s 0 .HOSTQ 7 (0x040 + 0x40 * 7) ∧ ringValid (s.ring HOSTQ.CMD_BASE.base 63) (s.ring HOSTQ.CMD_SIZE.log2 63) = false) ∧
    (let s := (put ringed [(HOSTQ.CMP_TAIL.tail, 7, 7, 1)]).putHost { ringed.host with irq := [(63, ⟨0, true, true⟩)] };
      (Assoc.get RingIrq.reset s.host.irq 63).owed = true ∧ 0 + s.ring HOSTQ.RCTRL.coalesce_us 63 * 1000 ≤ s.now ∧ s.unconsumed 63 ≠ 0) ∧
    (let s := (put ringed [(HOSTQ.EVT_TAIL.tail, 0, 0, 1)]).putHost { ringed.host with evtIrq := ⟨0, true, true⟩ };
      s.host.evtIrq.owed = true ∧ 0 + s.rd HOSTQ.EVT_CTRL.coalesce_us * 1000 ≤ s.now ∧ s.rd HOSTQ.EVT_TAIL.tail ≠ s.rd HOSTQ.EVT_HEAD.head) := by unfold Admits; decide +kernel

/-- A LOAD or READBACK of 4 bytes at staging offset 0, module address 64 of stack 0; the staging area is one page. -/
def copying (op : Nat) (running : Bool) : HostCmd := { cmd op (64 * 2 ^ 192 + 4 * 2 ^ 256) with copy := if running then some (0, 64, 4) else none }

theorem witness_HostCommandsRun :
    (ringed.takesCmds = true ∧ ringed.ringsUp = true ∧ ringed.nextRing = some 63 ∧ errBytes (Assoc.get 0 ringed.hbmErr ((ringed.locOf 0 ringBase).granKey 0) ^^^ 0) = [] ∧
      errBytes (Assoc.get 0 ringed.hbmErr ((ringed.locOf 0 ringBase).granKey 0) ^^^ (2 ^ 255 + 1)) = [0, 31]) ∧
    ((put ringed [(FW.COMPONENTS.running, 0, 0, 0)]).takesCmds = false) ∧
    (∀ held ∈ [true, false], let c := { cmd 1 0 with held := held }; let s := (commanded c).setQueue 4080 { Queue.reset with desc := 1 };
      s.checked 63 1 held = some c ∧ s.stateRefusal c.part 1 = 0 ∧ s.masterCore c.part = some 0 ∧ s.is MOD.PART_STATE.paired 0 c.part = false ∧ (s.queue 4080).enabled = true ∧
      ((put s [(JUG.STATUS.general_free, 0, 0, 0)]).putWhole 4080 (2 ^ 24 + 63) (leBytes 64 0)) = none ∧
      (put s [(MOD.PART_STATE.state, 0, 0, 0)]).stateRefusal c.part 1 ≠ 0 ∧ ((put s [(MOD.PART_STATE.state, 0, 0, 0)]).checked 63 1 held = some c) ∧
      (s.putWhole 4080 (2 ^ 24 + 63) (leBytes 64 (c.entry.toNat - entryBits c.entry 8 31 0 * 2 ^ 64 + s.applyStep c % 2 ^ 32 * 2 ^ 64))).isSome = true) ∧
    ((commanded (cmd 4 0)).checked 63 4 false = some (cmd 4 0) ∧ (commanded (cmd 4 0)).stateRefusal (cmd 4 0).part 4 = 0 ∧ (commanded (cmd 4 0)).checked 63 1 false = none) ∧
    (∀ op ∈ [2, 3], let s := put (commanded (copying op false)) [(MOD.PART_STATE.state, 0, 0, 1)];
      s.checked 63 op false = some (copying op false) ∧ s.stateRefusal 0 op = 0) ∧
    ((commanded (copying 2 true)).copyOk 0 4095 64 4 = false) ∧
    (∀ op ∈ [2, 3], let c := copying op true; let s := put (commanded c) [(HOSTQ.STAGE_SIZE.pages, 0, 0, 1)];
      s.ringsUp = true ∧ s.host.cmds.find? (fun d => d.ring == (63 : RingId).val && d.copy.isSome && d.result.isNone) = some c ∧ s.copyOk c.part 0 64 4 = true ∧
      (match s.ringRead ringBase 4 with | (.ok bs, u) => bs == [0, 0, 0, 0] && (match u.memWrite 0 64 bs with | (.ok (), _) => true | _ => false) | _ => false) = true ∧
      (match s.memRead 0 64 4 .tile with | (.ok bs, u) => bs == [0, 0, 0, 0] && (u.ringStore ringBase bs).1.isNone | _ => false) = true) ∧
    (∀ op ∈ [2, 3], let c := copying op true; let s := put (commanded c) [(HOSTQ.STAGE_SIZE.pages, 0, 0, 1)];
      let s := s.putHbmErr (Assoc.put 0 (Assoc.put 0 [] ((s.locOf 0 64).granKey 0) (2 ^ 255 + 1)) ((s.locOf 0 ringBase).granKey 0) (2 ^ 255 + 1));
      s.ringsUp = true ∧ s.host.cmds.find? (fun d => d.ring == (63 : RingId).val && d.copy.isSome && d.result.isNone) = some c ∧ s.copyOk c.part 0 64 4 = true ∧
        (match s.ringRead ringBase 4 with | (.error _, _) => true | _ => false) = true ∧ (match s.memRead 0 64 4 .tile with | (.error _, _) => true | _ => false) = true) ∧
    (let c := { cmd 4 0 with result := some (0, 0, 0, 0) }; let s := commanded c;
      s.runs 5 = true ∧ s.ringsUp = true ∧ s.host.cmds.find? (fun d => d.ring == (63 : RingId).val && d.result.isSome) = some c) := by decide +kernel

theorem witness_EndpointAnswers : ¬(((8 : Fin 4097).val = 4 ∨ (8 : Fin 4097).val = 8) ∧ (4 : BitVec 26).toNat % 8 = 0) ∧ (put up [(MOD.STATUS.rings_lost, 0, 0, 1)]).ringsUp = false ∧
    (up.ringsUp = true ∧ (BitVec.ofNat 30 (2 ^ 30 - 2)).toNat + 2 ≤ 2 ^ 30 ∧
      ∀ i, i < 2 → errBytes (Assoc.get 0 up.hbmErr ((up.locOf 0 (ringBase + (2 ^ 30 - 2) + i)).granKey 0)) = []) ∧
    (let s := up.putHbmErr [((up.locOf 0 ringBase).granKey 0, 2 ^ 255 + 1)]; s.ringsUp = true ∧
      errBytes (Assoc.get 0 s.hbmErr ((s.locOf 0 (ringBase + (0 : BitVec 30).toNat / 32 * 32)).granKey 0)) = [0, 31]) := by decide +kernel

/-- The driver attached (1) or lost (2), partition 0 running with parking on loss. -/
def driven (st : Nat) : State := (put job [(MOD.STATUS.driver, 0, 0, st), (MOD.CTRL.park_on_loss, 0, 0, 1), (MOD.CTRL.reclaim_en, 0, 0, 1), (MOD.PART_STATE.causes, 0, 0, 4)]).putNow 700000000000

theorem witness_DriverLives : (Admits (driven 2) 0 .MOD 0 0x048 ∧ (driven 2).driver ≠ 1) ∧ Admits (driven 1) 0 .MOD 0 0x050 ∧
    ((driven 1).driver = 1 ∧ Admits (driven 1) 0 .MOD 0 0x048 ∧ (driven 1).host.hbAt + 1000000000 ≤ (driven 1).now ∧ (driven 1).host.pausedAt = none ∧ (driven 1).running 0 = true ∧
      (driven 1).is MOD.CTRL.park_on_loss = true) ∧
    ((driven 2).driver = 2 ∧ (driven 2).is MOD.CTRL.reclaim_en = true ∧ (driven 2).host.lostAt + 600000000000 ≤ (driven 2).now ∧ (driven 2).host.pausedAt = none ∧
      ((driven 2).rd MOD.PART_STATE.causes 0 0).testBit 2 = true) ∧
    ((driven 0).host.pausedAt = none ∧ (driven 0).driver ≠ 1 ∧ (driven 0).driver ≠ 2) := by unfold Admits; decide +kernel

/-! Witnesses: firmware. Whether an image's hash and signature are good is for `Config.shake256` and `Config.xmssValid` to say, which nothing decides; where
a clause needs a good image, the witness is conditional on their answers. -/

theorem updFree_of (s : State) (h : s.runs 7 = true ∧ s.fw.op = none ∧ s.fw.prep = none) : UpdFree s := ⟨h.1, h.2.1, fun p hp => by simp [h.2.2] at hp⟩

/-- The header of an image of a type (Table 11.4): no payload, both steppings' bits, settings version 1, microcode 0 to 9. -/
def header (type : Nat) : List Byte :=
  leBytes 4 0x5358494D ++ leBytes 1 1 ++ leBytes 1 type ++ leBytes 1 7 ++ leBytes 1 0 ++ leBytes 4 2 ++ leBytes 4 3 ++ leBytes 4 0 ++
    (if type = 2 then leBytes 2 1 ++ leBytes 2 1 ++ leBytes 4 0 ++ leBytes 4 0 ++ leBytes 4 9 else leBytes 16 0) ++ leBytes 220 0
/-- Bytes as cells from an address. -/
def cellsAt : Nat → List Byte → List Host.Cell
  | _, [] => []
  | off, b :: bs => (off, b) :: cellsAt (off + 1) bs
theorem get_cellsAt (d : Byte) (bs : List Byte) (off k : Nat) (ys : List Host.Cell) :
    Assoc.get d (cellsAt off bs ++ ys) k = if off ≤ k ∧ k < off + bs.length then bs.getD (k - off) 0 else Assoc.get d ys k := by
  induction bs generalizing off with
  | nil => simp [cellsAt, show ¬(off ≤ k ∧ k < off) by omega]
  | cons b bs ih =>
    simp only [cellsAt, List.cons_append, Assoc.get, ih, List.length_cons]
    by_cases h : k = off
    · subst h; simp
    · by_cases h2 : off ≤ k ∧ k < off + (bs.length + 1)
      · rw [if_pos h2, if_neg (by omega), if_pos (by omega), show k - off = k - (off + 1) + 1 by omega]; simp
      · rw [if_neg h2, if_neg (by omega), if_neg (by omega)]
theorem getD_eq (bs : List Byte) (a n : Nat) (h : a + n ≤ bs.length) : (List.range n).map (fun i => bs.getD (a + i) 0) = (bs.drop a).take n := by
  apply List.ext_getElem
  · simp; omega
  · intro i h1 h2; simp at h1 h2 ⊢; rw [List.getElem?_eq_getElem (by omega)]; rfl
/-- Reading them back. -/
theorem read_cellsAt (d : Byte) (bs : List Byte) (off a n : Nat) (h : a + n ≤ bs.length) :
    (List.range n).map (fun i => Assoc.get d (cellsAt off bs) (off + a + i)) = (bs.drop a).take n := by
  rw [← getD_eq bs a n h]
  apply List.map_congr_left
  intro i hi
  have hi := List.mem_range.mp hi
  have h := get_cellsAt d bs off (off + a + i) []
  rw [List.append_nil, if_pos (by omega), show off + a + i - off = a + i by omega] at h
  exact h
/-- A flash part that holds one image of each type, its other bytes erased. -/
def imaged : FlashPart := ⟨true, cellsAt 0 (header 1) ++ (cellsAt 0x100000 (header 2) ++ cellsAt 0x1500000 (header 3))⟩

/-- Slot A in a state, the firmware's flash and stage as given. -/
def slotA (st : Nat) (extra : List (Fld × Nat × Nat × Nat)) : State :=
  let s := put up ([(FW.SLOTS.a_state, 0, 0, st), (FW.STATUS.boot_slot, 0, 0, 1)] ++ extra);
  s.putFw { s.fw with slotA := imaged }

/-- The headers that slot A holds. -/
theorem imaged_header (s : State) (h : s.fw.slotA = imaged) (type : Nat) (ht : type = 1 ∨ type = 2 ∨ type = 3) : s.flashBytes 0 (regionBase type) 256 = header type := by
  have l1 : (header 1).length = 256 := by decide +kernel
  have l2 : (header 2).length = 256 := by decide +kernel
  have l3 : (header 3).length = 256 := by decide +kernel
  have e : ∀ t, (header t).length = 256 → ∀ f : Nat → Byte, (∀ i, i < 256 → f i = (header t).getD (0 + i) 0) → (List.range 256).map f = header t := by
    intro t hl f hf
    have g := getD_eq (header t) 0 256 (by omega)
    rw [List.drop_zero, List.take_of_length_le (by omega)] at g
    rw [← g]
    exact List.map_congr_left fun i hi => hf i (List.mem_range.mp hi)
  have fb : ∀ o, s.flashByte 0 o = Assoc.get 0xFF imaged.bytes o := by intro o; simp [State.flashByte, State.flash, h, FlashPart.unlisted, imaged]
  unfold State.flashBytes
  have c3 : ∀ k, Assoc.get 0xFF (cellsAt 0x1500000 (header 3)) k = if 0x1500000 ≤ k ∧ k < 0x1500000 + 256 then (header 3).getD (k - 0x1500000) 0 else 0xFF := by
    intro k; have := get_cellsAt 0xFF (header 3) 0x1500000 k []; rw [List.append_nil, l3] at this; exact this
  rcases ht with rfl | rfl | rfl
  · refine e 1 l1 _ fun i hi => ?_
    rw [fb, imaged, get_cellsAt, l1, show regionBase 1 = 0 from rfl, if_pos (by omega)]; congr 1
  · refine e 2 l2 _ fun i hi => ?_
    rw [fb, imaged, get_cellsAt, l1, get_cellsAt, l2, show regionBase 2 = 0x100000 from rfl, if_neg (by omega), if_pos (by omega), Nat.add_sub_cancel_left, Nat.zero_add]
  · refine e 3 l3 _ fun i hi => ?_
    rw [fb, imaged, get_cellsAt, l1, get_cellsAt, l2, c3, show regionBase 3 = 0x1500000 from rfl, if_neg (by omega), if_neg (by omega), if_pos (by omega),
      Nat.add_sub_cancel_left, Nat.zero_add]

/-- The checks of a COMMIT in fleet mode look at header and payload only. -/
theorem reason_congr (s : State) (x y : Image) (t : Nat) (hh : x.hdr = y.hdr) (hp : x.payload = y.payload) (hs : x.source = y.source) :
    s.imageReason x t [1, 2, 3, 7, 8] = s.imageReason y t [1, 2, 3, 7, 8] := by
  cases x; cases y; simp only at hh hp hs; subst hh hp hs; rfl
theorem slotA_flash (st : Nat) (extra : List (Fld × Nat × Nat × Nat)) : (slotA st extra).fw.slotA = imaged := by unfold slotA; rfl

theorem imaged_good : (slotA slWRITING [(FW.CTRL.fleet_mode, 0, 0, 1)]).slotRefusal 0 [1, 2, 3, 7, 8] = none := by
  generalize hs : slotA slWRITING [(FW.CTRL.fleet_mode, 0, 0, 1)] = s
  have hf : s.fw.slotA = imaged := hs ▸ slotA_flash _ _
  have good : ∀ t, (t = 1 ∨ t = 2 ∨ t = 3) → s.imageReason ⟨header t, [], [], 0⟩ t [1, 2, 3, 7, 8] = 0 := by subst hs; rintro t (rfl | rfl | rfl) <;> decide +kernel
  have none_ : ∀ t, (t = 1 ∨ t = 2 ∨ t = 3) → leAt (header t) 0x10 4 = 0 := by rintro t (rfl | rfl | rfl) <;> decide +kernel
  have any : ∀ t, (t = 1 ∨ t = 2 ∨ t = 3) → s.imageReason (s.flashImage 0 t) t [1, 2, 3, 7, 8] = 0 := by
    intro t ht
    have fz : ∀ x, s.flashBytes 0 x 0 = [] := fun _ => rfl
    have h1 : (s.flashImage 0 t).hdr = header t := by simp only [State.flashImage, imaged_header s hf t ht]
    have h2 : (s.flashImage 0 t).payload = [] := by
      simp only [State.flashImage, imaged_header s hf t ht, none_ t ht, Nat.zero_min, fz]
    have h3 : (s.flashImage 0 t).source = 0 := by simp only [State.flashImage]
    exact (reason_congr s (s.flashImage 0 t) ⟨header t, [], [], 0⟩ t h1 h2 h3).trans (good t ht)
  simp [State.slotRefusal, any]

theorem witness_FlashSlots :
    (let s := slotA slEMPTY []; Admits s 1 .FW 0 0x080 ∧ UpdFree s ∧ s.slot 0 = slEMPTY ∧ (0 : Fin 2).val ≠ s.bootSlot ∧ s.slot 1 ≠ slTRIAL) ∧
    (let s := slotA slWRITING [(FW.UPD_LEN.bytes, 0, 0, 4), (FW.UPD_DST.offset, 0, 0, 2 ^ 20 - 4)]; Admits s 1 .FW 0 0x080 ∧ UpdFree s ∧ s.slot 0 = slWRITING ∧
      s.rd FW.UPD_DST.offset + s.rd FW.UPD_LEN.bytes ≤ regionSize 1 ∧ (s.readSrc 1 (s.rd FW.UPD_SRC.offset) (s.rd FW.UPD_LEN.bytes)).1 = some [0, 0, 0, 0] ∧
      s.is FW.CTRL.fleet_mode = false) ∧
    (let s := slotA slWRITING [(FW.CTRL.fleet_mode, 0, 0, 1)]; s.is FW.CTRL.fleet_mode = true) ∧
    (let s := (slotA slWRITING []).putFw { up.fw with slotA := ⟨true, []⟩ }; s.slotRefusal 0 [1, 2, 3, 4, 5, 6, 7, 8] = some (1, 1)) ∧
    (let s := slotA slSTAGED []; Admits s 1 .FW 0 0x080 ∧ UpdFree s ∧ s.slot 0 = slSTAGED ∧ s.slot 0 ≠ slWRITING) ∧
    ((up.putFw { up.fw with op := some ⟨0, 1, 2, 0, none⟩ }).fw.op = some ⟨0, 1, 2, 0, none⟩) := by
  refine ⟨⟨?_, updFree_of _ ?_, ?_⟩, ⟨?_, updFree_of _ ?_, ?_⟩, ?_, ?_, ⟨?_, updFree_of _ ?_, ?_⟩, ?_⟩ <;> first | decide +kernel | (unfold Admits; decide +kernel)
theorem witness_FlashSlots_refused :
    (let s := slotA slWRITING []; ¬((s.slot 0 = slEMPTY ∨ s.slot 0 = slINVALID ∨ s.slot 0 = slCONFIRMED) ∧ (0 : Fin 2).val ≠ s.bootSlot ∧ s.slot 0 ≠ slTRIAL ∧ s.slot 1 ≠ slTRIAL) ∧
      s.slot 0 ≠ slSTAGED) ∧
    (let s := slotA slWRITING [(FW.UPD_LEN.bytes, 0, 0, 4), (FW.UPD_DST.offset, 0, 0, 2 ^ 20 - 3)]; regionSize 1 < s.rd FW.UPD_DST.offset + s.rd FW.UPD_LEN.bytes) ∧
    (let s := put up [(FW.COMPONENTS.running, 0, 0, 0x37F)]; s.runs 7 = false ∧ Admits s 1 .FW 0 0x080) ∧
    ((up.putFw { up.fw with prep := some ⟨0, false, none, none, 0⟩ }).fw.prep = some ⟨0, false, none, none, 0⟩ ∧ up.fw.op = none) ∧
    (let s := (put up [(FW.COMPONENTS.running, 0, 0, 0x3FE)]).putFw { up.fw with op := some ⟨0, 1, 2, 0, none⟩ }; s.fw.op = some ⟨0, 1, 2, 0, none⟩ ∧ s.mainRuns = true ∧ s.runs 0 = false) ∧
    up.runs 0 = true := by unfold Admits; decide +kernel

/-- Three images that run. -/
def anImg (type release : Nat) : Img := ⟨type, 2, release, 0, 1, 1, 0, 0, 0, 0, 9, 77, 1⟩
def images (s : State) : State := s.putFw { s.fw with loader := some (anImg 1 3), main := some (anImg 2 3), ucode := some (anImg 3 3), trialNs := 90000000000000 }

theorem witness_TrialsConfirm : let s := images (slotA slTRIAL [(FW.STATUS.trial, 0, 0, 1), (FW.CTRL.auto_confirm, 0, 0, 1)]);
    s.is FW.STATUS.trial = true ∧ s.mainRuns = true ∧ s.runs 7 = true ∧ s.fw.loader = some (anImg 1 3) ∧ s.fw.main = some (anImg 2 3) ∧ s.fw.ucode = some (anImg 3 3) ∧
    Admits s 1 .FW 0 0x080 ∧ UpdFree s ∧ s.is FW.CTRL.auto_confirm = true ∧ 1440 ≤ s.trialMin ∧ (s.keepTouch 0).1 = true ∧
      up.is FW.STATUS.trial = false ∧ Admits up 1 .FW 0 0x080 ∧ UpdFree up := by
  refine ⟨?_, ?_, ?_, ?_, ?_, ?_, ?_, updFree_of _ ?_, ?_, ?_, ?_, ?_, ?_, updFree_of _ ?_⟩ <;> first | decide +kernel | (unfold Admits; decide +kernel)

/-! A configuration area that is valid (R340 to R345). -/

def section_ (id : Nat) (d : List Byte) : List Byte := leBytes 4 id ++ leBytes 4 d.length ++ d
def goodBody : List Byte :=
  section_ 1 (leBytes 8 0 ++ (List.range 52).flatMap fun _ => leBytes 16 0x20) ++ section_ 2 (leBytes 8 2 ++ leBytes 8 1 ++ leBytes 8 2) ++
    section_ 5 (List.replicate 56 0x20) ++ section_ 6 (leBytes 8 0) ++ section_ 8 []
/-- Its header; the CRC-32C is a value worked out outside the model. -/
def goodHead : List Byte :=
  leBytes 4 0x53584346 ++ leBytes 4 (1 + 2 ^ 16) ++ leBytes 4 1 ++ leBytes 4 968 ++ leBytes 4 0 ++ leBytes 40 0 ++ leBytes 4 0xe2941b
/-- What the CRC covers, and the CRC register after each 8 bytes, worked out outside the model. -/
def goodMsg : List Byte := goodHead.take 0x3C ++ leBytes 4 0 ++ goodBody
def crcAt : List Nat :=
  [4294967295, 2292807370, 1095501080, 3625555446, 3964191387, 2142023693, 4222728627, 3802067259, 2983292541, 3300057441, 3212264851, 2347439803] ++
  [3976288337, 3268632966, 1743139131, 2919523181, 1343003041, 1487334047, 2838333181, 816737037, 2681670952, 422412644, 1628658152, 1285570170] ++
  [1383153494, 3192269209, 1750078453, 3248397291, 2449088312, 1009849187, 4084894259, 1095449324, 720563852, 4059796920, 2914844233, 3928998490] ++
  [2236563551, 253631138, 225176982, 4247214141, 3629829353, 656806686, 237355161, 3029904032, 3379624680, 867248973, 2433787160, 3607553978] ++
  [3582818742, 3519394963, 1001696089, 1421283923, 2397060828, 4072729168, 495498341, 1840288465, 843190294, 2540183132, 4173344823, 3309173105] ++
  [723613466, 1667182583, 2133858930, 2236414945, 3637366197, 3895984290, 163264043, 3181723764, 3959293032, 1818230492, 4259260013, 2627905044] ++
  [2657786599, 2814124943, 1598206237, 2682992922, 2630403983, 2784476840, 1752983278, 2646916977, 2175161669, 4061710651, 2762976132, 3439193984] ++
  [3282949537, 379788126, 3076433512, 1891710210, 2692502338, 932507226, 2507259244, 866016754, 1508855440, 3367628131, 3076186555, 3562366477] ++
  [3175724092, 1895288453, 2589231547, 3530620904, 4045700475, 2635664958, 4033502460, 963873223, 295993606, 3207768021, 516625429, 1148753986] ++
  [1401850148, 392879862, 729104719, 1024699331, 3058772624, 1433451979, 1258625657, 4036568503, 3148214335, 3853789129, 3872034938, 4053707631] ++
  [1983668499, 322582390, 1657118299, 2176164666, 3168000750, 2702210880, 2518023678, 1378978735, 3770477907, 4280118244]
theorem crc_steps : ∀ i, i < 129 → ((goodMsg.drop (8 * i)).take 8).foldl crcByte (crcAt.getD i 0) = crcAt.getD (i + 1) 0 := by decide +kernel
theorem crc_upTo (n : Nat) (h : n ≤ 129) : (goodMsg.take (8 * n)).foldl crcByte (crcAt.getD 0 0) = crcAt.getD n 0 := by
  induction n with
  | zero => rfl
  | succ n ih => rw [Nat.mul_succ, List.take_add, List.foldl_append, ih (by omega), crc_steps n (by omega)]
theorem goodMsg_crc : crc32c goodMsg = 0xe2941b := by
  have h := crc_upTo 129 (by omega)
  rw [List.take_of_length_le (show goodMsg.length ≤ _ by decide +kernel)] at h
  rw [show crcAt.getD 0 0 = 0xFFFFFFFF from rfl, show crcAt.getD 129 0 = 4280118244 from rfl] at h
  rw [crc32c, h]; decide
/-- Area 0 holds it. -/
def configured (s : State) : State := s.putKeep { s.keep with bytes := cellsAt (areaBase 0) (goodHead ++ goodBody) }

theorem goodHead_valid : blobReason goodHead goodBody = 0 := by
  have hlen : leAt goodHead 0x0C 2 = 968 := by decide +kernel
  have hm : goodHead.take 0x3C ++ leBytes 4 0 ++ goodBody.take 968 = goodMsg := by
    rw [List.take_of_length_le (show goodBody.length ≤ _ by decide +kernel)]; rfl
  have hc : leAt goodHead 0x3C 4 = 0xe2941b := by decide +kernel
  unfold blobReason
  simp only [hlen, hm, hc, goodMsg_crc]
  decide +kernel

theorem witness_Preparation :
    (let s := slotA slSTAGED []; Admits s 1 .FW 0 0x080 ∧ UpdFree s ∧ s.fw.handover = none ∧ s.slot 0 = slSTAGED ∧ s.fw.prep = none) ∧
    (let s := up.putFw { up.fw with prep := some ⟨0, true, none, none, 0⟩ }; Admits s 1 .FW 0 0x080 ∧ UpdFree s ∧ s.fw.handover = none ∧ s.fw.prep ≠ none) ∧
    (let s := (slotA slSTAGED [(FW.STATUS.mirrored, 0, 0, 1)]).putFw { up.fw with prep := some ⟨0, false, none, none, 0⟩, slotA := ⟨true, []⟩ };
      s.fw.prep = some ⟨0, false, none, none, 0⟩ ∧ s.is FW.STATUS.mirrored = true ∧ s.runs 7 = true ∧ s.imageReason (s.flashImage 0 2) 2 [1, 2, 3, 4, 5, 6, 7, 9, 10] = 1) := by
  refine ⟨⟨?_, updFree_of _ ?_, ?_⟩, ⟨?_, ⟨?_, ?_, ?_⟩, ?_⟩, ?_⟩
  case refine_7 => intro p hp; cases hp; rfl
  all_goals first | decide +kernel | (unfold Admits; decide +kernel)
theorem witness_Preparation_idle : up.fw.prep = none ∧ (up.putFw { up.fw with prep := some ⟨0, true, none, none, 0⟩ }).fw.prep.map (·.done) = some true ∧ up.is FW.STATUS.mirrored = false ∧
    up.slot 0 ≠ slSTAGED := by decide +kernel

/-- The only area of the settings that is valid is area 0, of version 1. -/
theorem settings_chosen (s : State) (h0 : s.areaHeader 0 = goodHead) (b0 : s.areaBody 0 = goodBody) (h1 : s.areaValid 1 = false) :
    s.settingsSelect (anImg 2 3) = (.ok 0, s) := by
  have v0 : s.areaValid 0 = true := by simp only [State.areaValid, h0, b0, goodHead_valid]; rfl
  have n0 : s.areaVersion 0 = 1 := by simp only [State.areaVersion, h0]; decide +kernel
  simp [State.settingsSelect, State.pickArea, v0, h1, n0, anImg]

theorem configured_reads (s : State) : (configured s).areaHeader 0 = goodHead ∧ (configured s).areaBody 0 = goodBody := by
  have lh : goodHead.length = 64 := by decide +kernel
  have lb : goodBody.length = 968 := by decide +kernel
  have r : ∀ a n, a + n ≤ 1032 → (configured s).keepBytes (areaBase 0 + a) n = ((goodHead ++ goodBody).drop a).take n := by
    intro a n h
    exact read_cellsAt 0 (goodHead ++ goodBody) (areaBase 0) a n (by simp [lh, lb]; omega)
  have hh : (configured s).areaHeader 0 = goodHead := by
    have := r 0 64 (by omega)
    rw [List.drop_zero, ← lh, List.take_left] at this; rw [← this, lh]; rfl
  refine ⟨hh, ?_⟩
  have := r 64 968 (by omega)
  rw [← lh, List.drop_left, ← lb, List.take_length] at this
  rw [State.areaBody, hh, show leAt goodHead 0x0C 2 = goodBody.length by decide +kernel, ← lh]
  exact this

theorem witness_settings : (configured up).settingsSelect (anImg 2 3) = (.ok 0, configured up) :=
  settings_chosen _ (configured_reads up).1 (configured_reads up).2 (by decide +kernel)

/-- The image of `header` with no signature passes the checks of a start where the module's hash and signature checks accept it. -/
theorem witness_startReason (h4 : Config.shake256 (((header 2).drop 0x60).take 68) = rootHash)
    (h5 : Config.xmssValid (((header 2).drop 0x60).take 68) ((header 2).take 0x100) [] = true) (h6 : Config.shake256 [] = leAt (header 2) 0x40 32) :
    up.startReason ⟨header 2, [], [], 1⟩ 2 = 0 := by
  have c1 : up.imageCheck ⟨header 2, [], [], 1⟩ 2 1 = true := by decide +kernel
  have c2 : up.imageCheck ⟨header 2, [], [], 1⟩ 2 2 = true := by decide +kernel
  have c3 : up.imageCheck ⟨header 2, [], [], 1⟩ 2 3 = true := by decide +kernel
  have c4 : up.imageCheck ⟨header 2, [], [], 1⟩ 2 4 = true := by simp only [State.imageCheck, h4]; exact beq_self_eq_true _
  have c5 : up.imageCheck ⟨header 2, [], [], 1⟩ 2 5 = true := h5
  have c6 : up.imageCheck ⟨header 2, [], [], 1⟩ 2 6 = true := by simp only [State.imageCheck, h6, Image.img]; exact beq_self_eq_true _
  have c7 : up.imageCheck ⟨header 2, [], [], 1⟩ 2 7 = true := by decide +kernel
  have u : up.fw.ucode = none := rfl
  simp [State.startReason, State.imageReason, startChecks, c1, c2, c3, c4, c5, c6, c7, u]

/-- A module that is ready for Curtain Call with the images of `anImg`. -/
def curtain : State :=
  let s := put (at_ edpen 1000) [(FW.STATUS.mirrored, 0, 0, 1), (BEAT.STATUS.state, 0, 0, 3), (FW.CC_GROUP.group, 0, 0, 9), (FW.CC_COORD.valid, 0, 0, 1), (FW.CC_COORD.tile, 0, 0, 24)];
  slotted (s.putFw { s.fw with prep := some ⟨1, true, some (anImg 2 3), some (anImg 3 3), 255⟩ }) 0 4 0 0 9

theorem witness_CurtainCall :
    (let u := curtain.rxCount 0 anyRx 16;
      curtain.portReceives 0 anyRx = true ∧ u.ccRuns = true ∧ (9 : BitVec 128).toNat % 2 ^ 16 = u.rd FW.CC_GROUP.group ∧ u.is FW.CC_COORD.valid = true ∧ u.rd FW.CC_COORD.tile = u.globalTile 0) ∧
    (curtain.armed 0 = true ∧ curtain.slotAction 0 = 4 ∧ curtain.counting = true ∧ curtain.slotTarget 0 ≤ curtain.beat.count + curtain.rd FW.CC_CLOSE.beats ∧
      curtain.rd FW.CC_COORD.tile / 8 = curtain.ownModule (curtain.rd FW.CC_COORD.tile % 8) ∧ curtain.fw.closed ≠ some (curtain.slotTarget 0)) ∧
    (let s := (up.putFw { up.fw with emergencyAt := some 0 }).putNow 10000000000; s.fw.emergencyAt = some 0 ∧ s.fw.emergency = false ∧ 0 + 10000000000 ≤ s.now) ∧
    (let s := at_ (put edpen [(MIDWAY.BEAT_PARENT.valid, 0, 0, 1), (MIDWAY.BEAT_PARENT.tile, 0, 0, 77)]) (2 ^ 20);
      s.counting = true ∧ s.beat.count / 2 ^ 20 ≠ s.fw.alignAt ∧ s.is MIDWAY.BEAT_PARENT.valid s.mgmtTile = true ∧ s.rd BEAT.CTRL.role = 0 ∧ s.is FW.CC_COORD.valid = false ∧
      s.upPorts s.mgmtTile = [0] ∧ (let u := s.setRoute 0 9 1; u.routeOk u.mgmtTile (u.rd MIDWAY.BEAT_PARENT.tile u.mgmtTile) = true)) ∧
    (let s := put curtain [(SCHED.SLOT_PARAM1.param1, 0, 0, 3)]; s.dueAlone 0 4 = true ∧ s.ready = true ∧ (s.keepTouch 0).1 = true ∧
      s.slotParam0 0 % 2 ^ 16 = s.rd FW.CC_GROUP.group ∧ (anImg 2 3).release = s.slotParam1 0) ∧
    (let s := curtain.putFw { curtain.fw with handover := some (1, 9, 0, 1) }; s.fw.handover = some (1, 9, 0, 1) ∧ s.fw.prep = some ⟨1, true, some (anImg 2 3), some (anImg 3 3), 255⟩ ∧
      s.alive (s.rd SAFE.STATUS.master != 2) = true) ∧
    (let s := curtain.putFw { curtain.fw with handover := some (1, 9, 0, 2) }; s.fw.handover = some (1, 9, 0, 2) ∧ s.rd SAFE.STATUS.supervision ≠ 2) := by decide +kernel
theorem witness_CurtainCall_idle :
    (up.portReceives 0 anyRx = false ∧ (edpen.rxCount 0 anyRx 16).ccRuns = true ∧ (8 : BitVec 128).toNat % 2 ^ 16 ≠ (curtain.rxCount 0 anyRx 16).rd FW.CC_GROUP.group) ∧
    (put up [(FW.COMPONENTS.running, 0, 0, 0)]).ccRuns = false ∧ up.armed 0 = false ∧ up.fw.emergencyAt = none ∧ up.beat.count / 2 ^ 20 = up.fw.alignAt ∧
    (let s := curtain.putFw { curtain.fw with prep := none }; s.dueAlone 0 4 = true ∧ s.fw.prep = none) ∧
    (let s := put curtain [(SCHED.SLOT_PARAM1.param1, 0, 0, 4)]; s.dueAlone 0 4 = true ∧ (anImg 2 3).release ≠ s.slotParam1 0) ∧
    up.dueAlone 0 4 = false ∧ up.fw.handover = none := by decide +kernel

/-- The firmware waits in a stage for an image; a push of 4 bytes is staged. -/
def staged (stage : Nat) : State := put up [(FW.STATUS.stage, 0, 0, stage), (HOSTQ.STAGE_SIZE.pages, 0, 0, 1), (FW.PUSH_LEN.bytes, 0, 0, 4), (FW.CTRL.push_wait, 0, 0, 0)]

theorem witness_ImagesStart : (∀ stage ∈ [4, 5], Admits (staged stage) 1 .FW 0 0x078 ∧ (staged stage).rd FW.STATUS.stage = stage ∧
      ((staged stage).readSrc 0 ((staged stage).rd FW.PUSH_OFFSET.offset) ((staged stage).rd FW.PUSH_LEN.bytes)).1 = some [0, 0, 0, 0] ∧
      (staged stage).startReason (imageOf [0, 0, 0, 0]) (stage - 2) ≠ 0 ∧ (staged stage).is FW.CTRL.push_wait = false) ∧
    (let s := (staged 4).putFw { up.fw with slotA := ⟨true, []⟩ }; (s.startReason (s.flashImage 0 2) 2 ≠ 0)) := by unfold Admits; decide +kernel
theorem witness_ImagesStart_refused : up.rd FW.STATUS.stage ≠ 4 ∧ up.rd FW.STATUS.stage ≠ 5 ∧ Admits up 1 .FW 0 0x078 ∧ (up.now < up.fw.stageAt + 60000000000 ∧ up.is FW.CTRL.push_wait = true) ∧
    (let s := put up [(FW.STATUS.stage, 0, 0, 4)]; Admits s 1 .FW 0 0x078 ∧ s.rd FW.STATUS.stage = 4 ∧ s.updateServes = true ∧
      (s.readSrc 0 (s.rd FW.PUSH_OFFSET.offset) (2 ^ 30)).1 = none) := by unfold Admits; decide +kernel

/-- A blob in the buffer, from its start. -/
def buffered (s : State) (bs : List Byte) : State := s.putFw { s.fw with buffer := cellsAt 0 bs }
theorem buffered_reads (s : State) (bs : List Byte) (a n : Nat) (h : a + n ≤ bs.length) : (buffered s bs).bufRead a n = (bs.drop a).take n := by
  have := read_cellsAt 0 bs 0 a n h
  rw [Nat.zero_add] at this; exact this

theorem witness_SettingsMove :
    (let s := buffered up (goodHead ++ goodBody); Admits s 1 .FW 0 0x0AC ∧ 3 ≤ s.rd FW.STATUS.stage ∧ s.fw.op = none ∧ s.is FW.STATUS.trial = false ∧
      s.rd FW.CFG_OFFSET.offset = 0) ∧
    (let s := put (buffered up goodHead) [(FW.SETTINGS.version, 0, 0, 1)]; leAt goodHead 4 2 = s.rd FW.SETTINGS.version) ∧
    ((up.readSrc 1 (up.rd FW.CFG_OFFSET.offset) 64).1 = some (List.replicate 64 0) ∧ blobReason (List.replicate 64 0) [] ≠ 0) ∧
    (let s := put up [(FW.SETTINGS.area, 0, 0, 1)]; Admits s 1 .FW 0 0x0AC ∧ s.fw.op = none ∧ s.areaInUse = some 1 ∧
      s.rd FW.CFG_OFFSET.offset + (s.areaHeader 1 ++ s.areaBody 1).length ≤ bufferSize) ∧
    (Admits up 1 .FW 0 0x0C4 ∧ up.rd FW.STATUS.stage ≠ 1 ∧ up.fw.op = none) ∧
    (let s := put up [(FW.STATUS.stage, 0, 0, 1), (FW.REC_LEN.bytes, 0, 0, 4)]; Admits s 1 .FW 0 0x0C4 ∧ s.rd FW.STATUS.stage = 1 ∧
      s.imageReason (imageOf (s.bufRead 0 (min (s.rd FW.REC_LEN.bytes) bufferSize))) 1 [1, 2, 3, 4, 5, 6, 7] ≠ 0) ∧
    (∀ o ∈ [(⟨1, 2, 2, 0, none⟩ : FwOp), ⟨2, 1, 2, 0, none⟩], (up.putFw { up.fw with op := some o }).fw.op = some o ∧ up.rd FW.STATUS.stage ≠ 3 ∧ up.rd FW.STATUS.stage ≠ 1 ∧ o.blob = none) := by
  unfold Admits; decide +kernel
theorem witness_SettingsMove_good : ((buffered up (goodHead ++ goodBody)).readSrc 1 0 64).1 = some goodHead ∧
    ((buffered up (goodHead ++ goodBody)).readSrc 1 (0 + 64) (leAt goodHead 0x0C 2)).1 = some goodBody ∧ blobReason goodHead goodBody = 0 := by
  have lh : goodHead.length = 64 := by decide +kernel
  have lb : goodBody.length = 968 := by decide +kernel
  refine ⟨?_, ?_, goodHead_valid⟩
  · have := buffered_reads up (goodHead ++ goodBody) 0 64 (by simp [lh])
    rw [List.drop_zero, ← lh, List.take_left] at this
    rw [← lh]; simp only [State.readSrc, this]; rw [lh]; rfl
  · have := buffered_reads up (goodHead ++ goodBody) 64 968 (by simp [lh, lb])
    rw [← lh, List.drop_left, ← lb, List.take_length] at this
    rw [show leAt goodHead 0x0C 2 = goodBody.length by decide +kernel, Nat.zero_add, ← lh]; simp only [State.readSrc, this]; rw [lh, lb]; rfl
theorem witness_SettingsMove_refused :
    (let s := put up [(FW.STATUS.stage, 0, 0, 2)]; Admits s 1 .FW 0 0x0AC ∧ s.fw.op = none ∧ s.rd FW.STATUS.stage < 3) ∧
    (let s := put up [(FW.STATUS.trial, 0, 0, 1)]; Admits s 1 .FW 0 0x0AC ∧ s.fw.op = none ∧ 3 ≤ s.rd FW.STATUS.stage ∧ s.runs 7 = true ∧ s.is FW.STATUS.trial = true) ∧
    (let s := put up [(FW.STATUS.stage, 0, 0, 3), (FW.COMPONENTS.running, 0, 0, 0)]; Admits s 1 .FW 0 0x0AC ∧ s.fw.op = none ∧ s.areaInUse = none ∧ s.mainRuns = false) ∧
    (let s := put up [(FW.SETTINGS.version, 0, 0, 2)]; s.mainRuns = true ∧ leAt goodHead 4 2 ≠ s.rd FW.SETTINGS.version) ∧
    ((up.putFw { up.fw with op := some ⟨1, 1, 2, 0, some (1, [])⟩ }).fw.op = some ⟨1, 1, 2, 0, some (1, [])⟩) := by unfold Admits; decide +kernel

theorem witness_ComponentsAndQuotes :
    (up.runs 9 = true ∧ (up.fw.faults.filter fun f => f.1 == 9 && up.now < f.2 + 60000000000).length < 2) ∧
    (let s := (up.putFw { up.fw with faults := [(1, 0), (1, 0)] }).putNow 2000000000; s.runs 1 = true ∧ 2 ≤ (s.fw.faults.filter fun f => f.1 == 1 && s.now < f.2 + 60000000000).length ∧
      ((s.fw.faults.filter fun f => f.1 == 1 && s.now < f.2 + 60000000000).any fun f => s.now < f.2 + 1000000000) = false) ∧
    (Admits up 1 .SEC 0 0x0B4 ∧ up.fw.quote = none ∧ up.rd SEC.LEAVES_LEFT.count ≠ 0 ∧ up.fw.quoteAt = none ∧ up.mainRuns = true ∧ up.is SEC.STATUS.zeroized = false) ∧
    (let s := put up [(SEC.LEAVES_LEFT.count, 0, 0, 0)]; Admits s 1 .SEC 0 0x0B4 ∧ s.fw.quote = none ∧ s.rd SEC.LEAVES_LEFT.count = 0) ∧
    (let s := (put up [(SEC.LEAF_RESERVED.leaf, 0, 0, 64)]).putFw { up.fw with quote := some (1, 5, 77) }; s.fw.quote = some (1, 5, 77) ∧ s.runs 9 = true ∧
      5 + ((s.quoteBody 77 (s.rd SEC.LEAF_NEXT.leaf)).length + 2820) ≤ bufferSize ∧ s.rd SEC.LEAF_NEXT.leaf < s.rd SEC.LEAF_RESERVED.leaf) := by unfold Admits; decide +kernel
theorem witness_ComponentsAndQuotes_more :
    (let s := up.putFw { up.fw with op := some ⟨0, 1, 2, 0, none⟩ }; s.runs 7 = true ∧ s.fw.op = some ⟨0, 1, 2, 0, none⟩) ∧ (put up [(FW.COMPONENTS.running, 0, 0, 0x1FF)]).runs 9 = false ∧
    (let s := up.putFw { up.fw with quote := some (1, 5, 77) }; Admits s 1 .SEC 0 0x0B4 ∧ s.fw.quote ≠ none) ∧
    (let s := up.putFw { up.fw with quote := some (1, 5, 77) }; s.rd SEC.LEAF_NEXT.leaf < s.rd SEC.LEAF_RESERVED.leaf + 64 ∧ s.rd SEC.LEAF_RESERVED.leaf + 64 < 2 ^ 21 ∧ (s.keepTouch 0).1 = true) ∧
    (let s := { up with keep := { up.keep with wear := [(0, 1000000)] }, fw := { up.fw with quote := some (1, 5, 77) } }; s.fw.quote = some (1, 5, 77) ∧ s.runs 9 = true ∧
      s.rd SEC.LEAF_RESERVED.leaf ≤ s.rd SEC.LEAF_NEXT.leaf ∧ (s.keepTouch 0).1 = false) := by unfold Admits; decide +kernel

theorem witness_AccessTables :
    (let s := put up [(ACL.PAGE_SEL.page, 0, 0, 0xFFFF)]; Admits s 0 .ACL 0 0x054 ∧ s.aclPage = none) ∧
    (let s := put up [(ACL.CTRL.lock, 0, 0, 1)]; Admits s 0 .ACL 0 0x054 ∧ s.is ACL.CTRL.lock = true) ∧
    (Admits up 0 .ACL 0 0x054 ∧ up.aclPage = some (.MOD, 0) ∧ up.is ACL.CTRL.lock = false ∧ aclRuleBad .MOD (up.aclTable .MOD 0) (up.aclTable .MOD 0) (up.is BIST.SCAN.unlocked) = false ∧
      aclRuleBad .MOD (up.aclTable .MOD 0) (2 ^ 128 - 1) (up.is BIST.SCAN.unlocked) = true ∧ Admits up 0 .ACL 0 0x010) := by unfold Admits; decide +kernel

/-! Witnesses: power and heat. -/

/-- PWR.STATUS.state is `st`; the channel 0 runs, firmware and self-test are good; rack hold as given. -/
def powered (st hold : Nat) : State :=
  let s := put up [(PWR.STATUS.state, 0, 0, st), (PWR.RACK.hold, 0, 0, hold), (COOL.DRIVE.state, 0, 0, 3), (SAFE.STATUS.selftest_ok, 0, 0, 1)];
  { s with fw := { s.fw with area := some 0 } }
/-- A partition runs. -/
def poweredJob : State := put (powered 2 0) [(TILE.HALVES.valid0, 0, 0, 1), (MOD.PART_STATE.state, 0, 0, 2)]

theorem witness_PowerOrders :
    (∀ st ∈ [0, 1, 2, 3, 4, 5], ∀ hold ∈ [0, 1], let s := powered st hold; Admits s 0 .PWR 0 0x068 ∧ Admits s 5 .PWR 0 0x064 ∧ Admits s 3 .PWR 0 0x064 ∧ s.pwr = st) ∧
    ((powered 0 0).pwr = pSTANDBY ∧ (powered 0 0).is PWR.RACK.hold = false ∧ (powered 0 0).mayRaise = true ∧ (powered 0 1).is PWR.RACK.hold = true) ∧
    (poweredJob.pwr = pON ∧ poweredJob.running 0 = true ∧ ∀ p, p < 16 → (powered 2 0).running p = false) ∧
    (5 : MasterId).val = TRAY ∧ (3 : MasterId).val = SAFENET ∧ (0 : MasterId).val ≠ TRAY ∧ (0 : MasterId).val ≠ SAFENET ∧
    (let s := (poweredJob.putPower { poweredJob.power with rackAt := some 7 }).putNow (7 + 60000 * 1000000); s.power.rackAt = some 7 ∧ s.pwr = pON ∧
      7 + s.rd PWR.RACK.grace_ms * 1000000 ≤ s.now ∧ s.running 0 = true) := by unfold Admits; decide +kernel
theorem witness_PowerOrders_more : Admits (powered 0 0) 0 .PWR 0 0x064 ∧ up.power.rackAt = none ∧ (powered 0 0).pwr ≠ pON ∧
    (let s := poweredJob.putPower { poweredJob.power with rackAt := some 7 }; s.power.rackAt = some 7 ∧ s.now < 7 + 60000 * 1000000) ∧
    (let s := (powered 1 0).putPower { up.power with seq := some (true, 3, 5) }; s.pwr = pSEQ_UP ∧ s.power.seq = some (true, 3, 5)) ∧
    (let s := put (powered 2 0) [(MOD.PART_STATE.state, 0, 15, 3)]; s.pwr = pON ∧ s.partState 15 = 3 ∧ ∀ p, p < 16 → s.running p = false) := by unfold Admits; decide +kernel

/-- A sequence runs, 10 ms after its group was taken up. -/
def sequenced (st : Nat) (dir : Bool) (g : Nat) : State :=
  let s := (powered st 0).putNow 100000000;
  s.putPower { s.power with seq := some (dir, g, 90000000) }

theorem witness_RailsSequence :
    (∀ g ∈ [1, 6, 7], let s := sequenced 1 true g; s.power.seq = some (true, g, 90000000) ∧ s.pwr = pSEQ_UP ∧ 90000000 + s.power.gap * 1000 ≤ s.now ∧
      ∀ n, n ∈ s.groupRails g → s.railWanted n = true → s.railGood n = true ∧ (s.rail n).goodAt.getD 0 + s.power.gap * 1000 ≤ s.now) ∧
    (let s := put (sequenced 1 true 1) [(RAIL.STATUS.state, 6, 2, 1), (RAIL.CFG.group, 6, 2, 1)]; s.pwr = pSEQ_UP ∧ s.railRd RAIL.CFG.group 50 = 1 ∧ s.railWanted 50 = true ∧
      s.railGood 50 = false ∧ ((s.rail 50).enabledAt.getD 90000000) + Assoc.get 20 s.power.windows 50 * 100000 ≤ s.now) ∧
    (∀ g ∈ [1, 2, 7], (sequenced 3 false g).power.seq = some (false, g, 90000000) ∧ (sequenced 3 false g).notDown g = []) ∧
    (∀ g ∈ [1, 2], let s := put (sequenced 3 false g) [(RAIL.NOMINAL.mv, 0, 1, 800), (RAIL.CFG.group, 0, 1, g)].reverse;
      let s := s.setRail 1 { RailState.reset with hist := [(100, 800)] };
      1 ∈ s.notDown g ∧ 90000000 + s.power.downT * 100000 ≤ s.now) := by decide +kernel
theorem witness_RailsSequence_idle : up.pwr ≠ pSEQ_UP ∧ (sequenced 1 true 1).power.seq = some (true, 1, 90000000) ∧ (sequenced 1 true 1).railGood 50 = true ∧
    (let s := put (sequenced 1 true 1) [(RAIL.STATUS.state, 6, 2, 1), (RAIL.CFG.group, 6, 2, 1)]; 50 ∈ s.groupRails 1 ∧ s.railWanted 50 = true ∧ s.railGood 50 = false ∧
      (50 : RailId).val < 51 ∧ (let u := s.putNow 90000001; u.now < ((u.rail 50).enabledAt.getD 90000000) + Assoc.get 20 u.power.windows 50 * 100000)) ∧
    (let s := (sequenced 3 false 2).putNow 90000001; s.now < 90000000 + s.power.downT * 100000) := by decide +kernel

theorem witness_RailsAreSampled :
    (let s := put up [(RAIL.LIM_1MS.a10, 6, 3, 1)]; s.railDown 51 = false ∧ s.railCutBit 51 = false ∧ 2 * winSum ((1000000, 750) :: (s.rail 51).hist) 8 > 2400 * s.railRd RAIL.LIM_1MS.a10 51) ∧
    (∀ w : Fin 3, Admits up 3 .RAIL ((51 : RailId).val / 8) (0x040 + 0x40 * ((51 : RailId).val % 8) + 4 * w.val)) := by unfold Admits; decide +kernel

/-- 100 A at 800 mV for a rail's last samples under a cap of 10 W, every tile at its floor. -/
def floorFields : List (Fld × Nat × Nat × Nat) := (PWR.CAP_MODULE.limit_w, 0, 0, 10) :: ((List.range 8).map fun t => (TILE.STATUS.state, t, 0, 2)) ++ ((List.range 16).map fun k => (HS.STATUS.state, k, 0, 0))
def overCap (at_ : Nat) : State :=
  let s := (put up floorFields).setRail 0 { RailState.reset with hist := List.replicate 4000 (100000, 800) };
  (s.putPower { s.power with overAt := some at_, underAt := some 4 }).putNow 10000009

theorem witness_CapsBind :
    Admits up 5 .PWR 0 0x040 ∧ Admits up 0 .PWR 0 0x044 ∧ Admits up 0 .PWR 0 0x040 ∧
    ((overCap 9).moduleMw > (overCap 9).rd PWR.CAP_MODULE.limit_w * 1000 ∧ (overCap 9).allFloor = true ∧ (overCap 9).power.overAt = some 9 ∧ 9 + 10000000 ≤ (overCap 9).now ∧ (overCap 9).is PWR.STATUS.cap_unreachable = false) ∧
    (let s := (put up [(PWR.STATUS.cap_unreachable, 0, 0, 1)]).putNow 100000004; let s := s.putPower { s.power with underAt := some 4 };
      s.moduleMw ≤ s.rd PWR.CAP_MODULE.limit_w * 1000 ∧ s.power.underAt = some 4 ∧ 4 + 100000000 ≤ s.now) := by unfold Admits; decide +kernel
theorem witness_CapsBind_idle : up.moduleMw ≤ up.rd PWR.CAP_MODULE.limit_w * 1000 ∧ up.power.underAt = none ∧
    (let s := (overCap 9).putNow 10000008; s.moduleMw > s.rd PWR.CAP_MODULE.limit_w * 1000 ∧ s.power.overAt = some 9 ∧ s.now < 9 + 10000000) := by decide +kernel

theorem witness_TilesAreLimited :
    (let s := (up.setTpow 7 { TilePower.reset with move := some (7, 3), volt := 7, psPower := 7 }).setRail 28 { RailState.reset with hist := [(0, 620)] };
      (s.tpow 7).move = some (7, 3) ∧ nearTarget (psMv 7) (((s.rail 28).hist.headD (0, 0)).2) = true ∧ s.grant 7 = 7 ∧ (s.tpow 7).volt = 7) ∧
    (let s := (up.setTpow 7 { TilePower.reset with floorAt := some 5 }).putNow 1000005; (s.tpow 7).skipAt + 1000000 ≤ s.now ∧ (s.tpow 7).floorAt = some 5 ∧ 5 + 1000000 ≤ s.now) ∧
    (let s := (up.setTpow 7 { TilePower.reset with budget := 100 }).putNow 1000005; (s.tpow 7).skipAt + 1000000 ≤ s.now ∧ (s.tpow 7).floorAt = none ∧ s.tileMw 7 * 10 < (s.tpow 7).budget * 9 ∧ s.capHeld = false ∧
      (s.wr PWR.STATUS.cap_unreachable 1).capHeld = true) ∧
    (let s := put up [(SPARE.MAP.present, 7, 63, 1), (CORE.STATUS.state, 511, 0, 2), (CORE.STREAM_STATE.sn_state, 511, 0, 0)]; s.corePresent 511 = true ∧ s.coreIdle 511 = true) ∧
    (let s := (up.setTpow 7 { TilePower.reset with episodeAt := some 1, freeAt := some 5 }).putNow 100000005; (s.tpow 7).episodeAt = some 1 ∧ (s.tpow 7).freeAt = some 5 ∧ 5 + 100000000 ≤ s.now) ∧
    (let s := (put up [(PWR.CTRL.tr_en, 0, 0, 0)]).putNow 1000000; s.runs 2 = true ∧ s.pwr = pON ∧ s.power.tickAt + 1000000 ≤ s.now ∧ s.sfActive sfCF = false ∧ s.is PWR.CTRL.tr_en = false) := by decide +kernel
theorem witness_TilesAreLimited_idle : (up.tpow 7).move = none ∧ up.now < (up.tpow 7).skipAt + 1000000 ∧ (up.tpow 7).episodeAt = none ∧ up.now < up.power.tickAt + 1000000 ∧
    (let s := (up.setTpow 7 { TilePower.reset with move := some (7, 3) }).setRail 28 { RailState.reset with hist := [(0, 800)] };
      (s.tpow 7).move = some (7, 3) ∧ nearTarget (psMv 7) (((s.rail 28).hist.headD (0, 0)).2) = false) ∧
    (let s := (up.setTpow 7 { TilePower.reset with episodeAt := some 1, freeAt := some 5 }).putNow 100000004; (s.tpow 7).freeAt = some 5 ∧ s.now < 5 + 100000000) := by decide +kernel

theorem witness_MemoryDomainFails : job.tileLost 0 = false ∧ job.tileLost 7 = false ∧ job.hsState 0 ≠ hsRETIRED ∧ job.holdsTile 0 0 = true ∧ job.running 0 = true ∧
    (put up [(TILE.STATUS.state, 7, 0, 3)]).tileLost 7 = true := by decide +kernel

/-- Sensor 3 failed, and demands of the host. -/
def sensed (d : List (Nat × Nat)) : State := (up.setSens 3 { SensorState.reset with state := ssFAILED }).putTherm { (up.setSens 3 { SensorState.reset with state := ssFAILED }).therm with demands := d }

theorem witness_SensorsAreRead :
    (slotted (at_ up 1000) 3 0x09 0 0 7).dueAlone 3 0x09 = true ∧ up.dueAlone 3 0x09 = false ∧ Admits up 0 .THERM 0 0x050 ∧ (∀ d ∈ up.therm.demands, d.1 ≠ 3) ∧
    ((sensed [(1, 7), (3, 2)]).therm.demands.any fun d => d.1 == 3) = true ∧ (sensed [(1, 7), (2, 2)]).therm.demands.find? (fun x => x.1 == 2) = some (2, 2) ∧ (7 &&& 2) ≠ 0 ∧
    ((sensed [(1, 4)]).therm.demands.any fun d => d.2.testBit 2) = true ∧ up.now < (up.conv 32).idleAt + 25000 ∧
    (∀ src : Fin 4, (sensed [(src.val, 7)]).therm.demands = [(src.val, 7)] ∧ (0, (⟨256, false⟩ : Reading)) ∈ (groupSensors 7).zip [⟨256, false⟩] ∧
      -160 ≤ sext 16 (256 : BitVec 16).toNat ∧ sext 16 (256 : BitVec 16).toNat ≤ 1200 ∧ ((sensed [(src.val, 7)]).conv 0).failed = false) ∧
    (let s := (up.setConv 32 { ConvState.reset with refBad := 1 }).putNow 25000; (∀ d, d ∈ s.therm.demands → d.2.testBit 2 = false) ∧ (s.conv 32).idleAt + 25000 ≤ s.now ∧
      (s.conv 32).refBad = 1 ∧ (s.conv 32).failed = false) ∧
    ((sensed []).sens 3).state = ssFAILED ∧ ((sensed []).sens 99).state ≠ ssFAILED := by unfold Admits; decide +kernel

/-- Site `n` tripped; the latch is released when the last has gone. -/
def tripped (l : List Nat) (released : Nat) : State :=
  let s := put (l.foldl (fun s n => s.setSens n { SensorState.reset with tripped := true }) up) [(THERM.TRIP.latched, 0, 0, 1), (THERM.TRIP.released, 0, 0, released)];
  (s.putTherm { s.therm with releasedAt := 6 }).putNow 10000000006

theorem witness_TripsLatch :
    (up.safety.sites.contains 99 = false ∧ up.is THERM.TRIP.latched = false ∧ up.pwr ≠ pSTANDBY ∧ up.pwr ≠ pCUT) ∧
    (((tripped [3, 99] 0).sens 99).tripped = true ∧ ((tripped [3, 99] 0).sens 3).tripped = true) ∧
    (((tripped [99] 0).sens 99).tripped = true ∧ ∀ k, k < 100 → k ≠ 99 → ((tripped [99] 0).sens k).tripped = false) ∧
    (∀ m : MasterId, m ∈ [0, 3, 5] → Admits (tripped [] 1) m .THERM 0 0x050) ∧
    ((tripped [] 1).is THERM.TRIP.released = true ∧ (tripped [] 1).therm.releasedAt + 10000000000 ≤ (tripped [] 1).now ∧ (tripped [99] 0).is THERM.TRIP.released = false) := by unfold Admits; decide +kernel
theorem witness_TripsLatch_masked : (let s := up.putSafety { up.safety with sites := [99] }; s.safety.sites.contains 99 = true) ∧ (up.sens 99).tripped = false ∧
    (let s := (tripped [] 1).putNow 10000000005; s.is THERM.TRIP.released = true ∧ s.now < s.therm.releasedAt + 10000000000) ∧
    ((tripped [3] 0).safety.sites.contains 99 = false ∧ (tripped [3] 0).is THERM.TRIP.latched = true) := by decide +kernel

/-- The inlet's temperature and the flow are trusted; the cap of the thermal loop and since when it could rise. -/
def warm (inlet flow cur : Nat) (riseAt : Option Nat) : State :=
  let s := put up [(THERM.COOLANT_T.inlet, 0, 0, inlet), (THERM.FLOW.flow, 0, 0, flow), (PWR.CAP_THERMAL.limit_w, 0, 0, cur)];
  let s := (s.setCoolant 0 ⟨true, 0, 10⟩).setCoolant 2 ⟨true, 0, 10⟩;
  (s.putTherm { s.therm with riseAt := riseAt }).putNow 10000000010

theorem witness_ThermalCap :
    (∀ s ∈ [warm 360 20000 4800 none, warm 160 60000 4750 none, warm 160 60000 1500 none, warm 160 60000 1500 (some 10)], s.runs 3 = true ∧ s.therm.capAt + 100000000 ≤ s.now) ∧
    (let n := fun (s : State) => max 1500 (min 4800 (min (cIn (sext 16 (s.rd THERM.COOLANT_T.inlet))) (cFlow (s.rd THERM.FLOW.flow))));
      n (warm 360 20000 4800 none) ≤ 4800 ∧ 1600 ≤ n (warm 160 60000 1500 none) ∧ 4750 < n (warm 160 60000 4750 none) ∧ n (warm 160 60000 4750 none) < 4850) ∧
    (warm 160 60000 1500 (some 10)).therm.riseAt = some 10 ∧ 10 + 10000000000 ≤ (warm 160 60000 1500 (some 10)).now ∧ up.now < up.therm.capAt + 100000000 ∧
    (put up [(FW.COMPONENTS.running, 0, 0, 0)]).runs 3 = false := by decide +kernel

/-- Channel 3 in a state, with an attempt and its record. -/
def channel (st attempt : Nat) (x : ChanState) : State := (put up [(COOL.DRIVE.state, 0, 3, st), (COOL.DRIVE.attempt, 0, 3, attempt), (COOL.CFG.limit_rpm, 0, 3, 1000)]).setChan 3 x |>.putNow 20000000000

theorem witness_ChannelsRun :
    (∀ st, st < 6 → Admits (channel st 1 ChanState.reset) 3 .COOL 0 0x090 ∧ (channel st 1 ChanState.reset).chState 3 = st ∧ ((channel st 1 ChanState.reset).chan 3).stopped = false) ∧
    (let s := channel cFAULT_RUN 1 { ChanState.reset with aboveAt := some 5 }; s.chState 3 = cFAULT_RUN ∧ s.aboveFor 3 0 10000000000 = true) ∧
    (let s := channel cKICK 1 { ChanState.reset with aboveAt := some 5 }; s.rd COOL.CFG.limit_rpm 0 3 ≤ (1000 : BitVec 16).toNat ∧ s.chState 3 = cKICK ∧ (s.chan 3).aboveAt = some 5 ∧
      max 5 (s.chan 3).kickAt + 100000000 ≤ s.now) ∧
    (let s := channel cRUNNING 1 { ChanState.reset with belowAt := some 5 }; (999 : BitVec 16).toNat < s.rd COOL.CFG.limit_rpm 0 3 ∧ s.chState 3 = cRUNNING ∧ (s.chan 3).belowAt = some 5 ∧
      5 + 1000000000 ≤ s.now) ∧
    (∀ a ∈ [2, 3], let s := channel cKICK a ChanState.reset; s.chState 3 = cKICK ∧ (s.chan 3).kickAt + 3000000000 ≤ s.now ∧ s.rd COOL.DRIVE.attempt 0 3 = a) ∧
    (let s := channel cRETRY_WAIT 1 ChanState.reset; s.chState 3 = cRETRY_WAIT ∧ (s.chan 3).kickAt + 5000000000 ≤ s.now) := by unfold Admits; decide +kernel
theorem witness_ChannelsRun_idle : (let s := channel cKICK 1 ChanState.reset; (999 : BitVec 16).toNat < s.rd COOL.CFG.limit_rpm 0 3 ∧ s.chState 3 = cKICK ∧ s.chState 3 ≠ cRUNNING ∧ s.chState 3 ≠ cRETRY_WAIT) ∧
    (let s := (channel cKICK 1 ChanState.reset).putNow 2999999999; s.now < (s.chan 3).kickAt + 3000000000) ∧
    (let s := (channel cRETRY_WAIT 1 ChanState.reset).putNow 4999999999; s.chState 3 ≠ cKICK ∧ s.now < (s.chan 3).kickAt + 5000000000) ∧
    (channel cOFF 1 { ChanState.reset with stopped := true }).chState 3 = cOFF ∧ ((channel cOFF 1 { ChanState.reset with stopped := true }).chan 3).stopped = true ∧
    (channel cFAULT_RUN 1 ChanState.reset).aboveFor 3 0 10000000000 = false := by decide +kernel

theorem witness_CoolingControls :
    (let s := (up.setChan 0 { ChanState.reset with setAt := some 5 }).putNow 100000005; s.runs 4 = true ∧ ∀ t0, (s.chan 0).setAt = some t0 → t0 + 100000000 ≤ s.now) ∧
    (let s := put up [(COOL.STATUS.mode, 0, 0, 2)]; s.rd COOL.STATUS.mode = 2 ∧ ∀ c, c < 4 → s.setFresh c = false) ∧
    (let s := put up [(TW.STATUS.state, 5, 0, 1)]; s.twState 5 ≠ twOFF ∧ s.twState 5 ≠ twSTUCK) ∧
    (∀ k, k < 3 → ((up.setCoolant k ⟨true, 2, 0⟩).coolant k).fails = 2) ∧
    (let s := put up [(COOL.STATUS.fault, 0, 0, 3)]; s.sfActive sfCF = false ∧ s.tachFailure = true) ∧
    (let s := (up.putCool { up.cool with hotAt := some 5 }).putNow 500000005; s.sfActive sfCF = false ∧ s.hotFailure = true) := by decide +kernel
theorem witness_CoolingControls_idle : (put up [(FW.COMPONENTS.running, 0, 0, 0)]).runs 4 = false ∧
    (let s := (up.setChan 0 { ChanState.reset with setAt := some 5 }).putNow 100000004; (s.chan 0).setAt = some 5 ∧ s.now < 5 + 100000000) ∧ up.rd COOL.STATUS.mode ≠ 2 ∧
    (let s := (put up [(COOL.STATUS.mode, 0, 0, 2)]).setChan 2 { ChanState.reset with setAt := some 5 }; s.setFresh 2 = true) ∧ (up.tachFailure = false ∧ up.hotFailure = false) ∧
    (put up [(SAFE.STATUS.active, 0, 0, 2 ^ sfCF)]).sfActive sfCF = true := by decide +kernel

/-- The four leak inputs are enabled, input 3 as given. -/
def leaky (x : LeakState) : State :=
  let s := (up.setLeak 3 x).putNow 60000000005;
  s.putSafety { s.safety with leakEn := 15 }
def dryAll : State := [0, 1, 2].foldl (fun s n => s.setLeak n ⟨0, 0, 0, none, false, some 5⟩) (leaky ⟨0, 0, 0, none, false, some 5⟩)

theorem witness_LeaksAct :
    up.safety.paused = false ∧
    (let s := leaky ⟨50, 0, 0, none, false, none⟩; s.leakEnabled 3 = true ∧ 50 ≤ (s.leak 3).wet ∧ (s.rd LEAK.STATUS.wet_seen).testBit 3 = false ∧ s.pwr ≠ pSTANDBY ∧ s.is LEAK.CTRL.pump_stop = true) ∧
    (let s := leaky ⟨0, 0, 0, some 5, false, none⟩; s.leakEnabled 3 = true ∧ (s.leak 3).openAt = some 5 ∧ 5 + 100000000 ≤ s.now ∧ (s.leak 3).openTold = false) ∧
    (∀ m : MasterId, m ∈ [0, 3, 5] → Admits dryAll m .LEAK 0 0x04C) ∧ dryAll.leaksDry = true ∧ (leaky ⟨50, 0, 0, none, false, none⟩).leaksDry = false := by unfold Admits; decide +kernel
theorem witness_LeaksAct_idle : (up.putSafety { up.safety with paused := true }).safety.paused = true ∧ (up.putSafety { up.safety with leakEn := 0 }).leakEnabled 3 = false ∧ ((leaky ⟨49, 0, 0, none, false, none⟩).leak 3).wet < 50 ∧
    (put up [(LEAK.STATUS.wet_seen, 0, 0, 8)]).rd LEAK.STATUS.wet_seen = 8 ∧ ((leaky ⟨0, 0, 0, none, false, none⟩).leak 3).openAt = none ∧
    (let s := (leaky ⟨0, 0, 0, some 5, true, none⟩).putNow 100000004; (s.leak 3).openTold = true ∧ (s.leak 3).openAt = some 5 ∧ s.now < 5 + 100000000) := by decide +kernel

/-! Witnesses: the Safety Net and the two-wire ports. -/

/-- The cooling failure since `t`, cut or not. -/
def cooling (calm : Option Nat) : State :=
  let s := ((put up [(SAFE.STATUS.active, 0, 0, 2 ^ sfCF)]).putCool { up.cool with calmAt := calm }).putNow 65536000000000;
  s.putSafety { s.safety with cfAt := some 0 }
/-- The safe floor is due: no supervision since 0. -/
def unwatched (floor : Nat) : State :=
  let s := (put up [(SAFE.STATUS.supervision, 0, 0, 2), (SAFE.STATUS.safe_floor, 0, 0, floor)]).putNow 30000000000;
  s.putSafety { s.safety with noneAt := some 0 }

theorem witness_SafetyNetActs :
    up.safety.snAt = none ∧ (let s := (up.putSafety { up.safety with snAt := some 0, snCount := 1 }).putNow 5; s.safety.snAt = some 0 ∧ s.now < 0 + 10000000000 ∧ 1 ≤ s.safety.snCount) ∧
    (up.putSafety { up.safety with snRestart := true }).safety.snRestart = true ∧
    ((cooling none).sfActive sfCF = true ∧ (cooling none).safety.cfAt = some 0 ∧ 0 + (cooling none).rd SAFE.PARAM.word 0 0 % 65536 * 1000000000 ≤ (cooling none).now ∧
      (cooling none).safety.cfCut = false ∧ (cooling none).cfEnded = false ∧ (cooling none).pwr = pON) ∧
    ((cooling (some 0)).cfEnded = true ∧ (cooling (some 0)).floorDue = false ∧ (cooling (some 0)).sfActive sfCF = true) ∧
    ((unwatched 0).floorDue = true ∧ (unwatched 0).is SAFE.STATUS.safe_floor = false ∧ ∀ m, ((unwatched 0).tpow 7).move = some m → m.1 ≠ 7) ∧
    ((unwatched 0).safety.noneAt = some 0 ∧ (unwatched 0).safety.restartAt = none ∧ 0 + 1000000000 ≤ (unwatched 0).now ∧
      (unwatched 0).rd SAFE.RESTARTS.attempts < (unwatched 0).rd SAFE.PARAM.word 0 1 % 16 ∧ (unwatched 0).is SAFE.CTRL.restart_en = true ∧ (unwatched 0).railCutBit 51 = false ∧
      (unwatched 0).is BIST.SCAN.unlocked = false) := by decide +kernel
theorem witness_SafetyNetActs_idle : up.safety.snRestart = false ∧ up.floorDue = false ∧ up.sfActive sfCF = false ∧ up.safety.noneAt = none ∧
    ((cooling none).cfEnded = false ∧ (cooling (some 0)).cfEnded = true) ∧ (let s := (cooling none).putNow 5; s.safety.cfAt = some 0 ∧ s.now < 0 + s.rd SAFE.PARAM.word 0 0 % 65536 * 1000000000) ∧
    (let s := (unwatched 0).putNow 999999999; s.safety.noneAt = some 0 ∧ s.safety.restartAt = none ∧ s.now < 0 + 1000000000) ∧
    (let s := (unwatched 1).putSafety { (unwatched 1).safety with restartAt := some 5 }; s.is SAFE.STATUS.safe_floor = true ∧ s.safety.restartAt = some 5 ∧ s.now < 5 + 60000000000 ∧
      (s.putNow 60000000005).safety.restartAt = some 5 ∧ 5 + 60000000000 ≤ (s.putNow 60000000005).now) := by decide +kernel

theorem witness_CutsAreReleased :
    (∀ m : MasterId, m ∈ [0, 1, 3, 5] → Admits up m .SAFE 0 0x064) ∧ (1 : MasterId).val ≠ HOST ∧ (1 : MasterId).val ≠ TRAY ∧ (1 : MasterId).val ≠ SAFENET ∧
    (0 : MasterId).val = HOST ∧ (5 : MasterId).val = TRAY ∧ (3 : MasterId).val = SAFENET ∧ up.railCutBit 51 = false ∧
    (put up [(SAFE.RAIL_CUT1.rails, 0, 0, 2 ^ 19)]).railCutBit 51 = true ∧ (put up [(SAFE.RAIL_CUT0.rails, 0, 0, 1)]).railCutBit 0 = true ∧ up.pwr ≠ pCUT ∧
    (let s := put up [(PWR.STATUS.state, 0, 0, pCUT)]; s.pwr = pCUT ∧ s.is THERM.TRIP.latched = false ∧ s.is LEAK.STATUS.latched = false ∧ s.railCutBit 48 = false ∧ s.railCutBit 49 = false ∧
      s.railCutBit 50 = false ∧ s.safety.cfCut = false ∧ s.safety.snCut = false) ∧
    (put up [(LEAK.STATUS.latched, 0, 0, 1)]).is LEAK.STATUS.latched = true := by unfold Admits; decide +kernel
theorem witness_CutsAreReleased_cooling :
    (let s := put (cooling (some 0)) [(PWR.STATUS.state, 0, 0, pCUT)]; let s := s.putSafety { s.safety with cfCut := true };
      Admits s 5 .SAFE 0 0x064 ∧ s.pwr = pCUT ∧ s.is THERM.TRIP.latched = false ∧ s.is LEAK.STATUS.latched = false ∧ s.railCutBit 48 = false ∧ s.railCutBit 49 = false ∧ s.railCutBit 50 = false ∧
        s.safety.cfCut = true ∧ s.cfEnded = true ∧ s.safety.snCut = false) ∧
    (let s := (cooling none).putSafety { (cooling none).safety with cfCut := true }; s.safety.cfCut = true ∧ s.cfEnded = false) ∧ 52 ≤ (52 : Fin 64).val := by unfold Admits; decide +kernel

/-- Supervision and master; the second core lives or not. -/
def pair (sup master : Nat) (b : Bool) : State := (put up [(SAFE.STATUS.supervision, 0, 0, sup), (SAFE.STATUS.master, 0, 0, master)]).putSafety { up.safety with aliveB := b } |>.putNow 50000000

/-- A command of ring 3 has been read and is not placed. -/
def readCmd : HostCmd := ⟨3, 1, 0, 0, none, 0, none, none, false, 0⟩
def pairReading : State := (put (pair 0 1 true) [(HOSTQ.CMD_SIZE.log2, 0, 3, 4), (HOSTQ.CMD_HEAD.head, 0, 3, 0), (HOSTQ.OUTSTANDING.count, 0, 3, 1)]).putHost { up.host with cmds := [readCmd] }

theorem witness_PairIsSupervised :
    (pairReading.rd SAFE.STATUS.master = coreNo false ∧ pairReading.host.cmds.filter HostCmd.unplaced = [readCmd] ∧ readCmd.ring = (3 : RingId).val) ∧
    (∀ m : MasterId, m ∈ [1, 2, 3] → Admits up m .SAFE 0 0x058) ∧
    ((pair 0 1 true).kickAt false + 50000000 ≤ (pair 0 1 true).now ∧ (pair 0 1 true).alive false = true ∧ (pair 0 1 true).fw.handover = none ∧ (pair 0 1 true).rd SAFE.STATUS.supervision = 0 ∧
      (pair 0 1 true).alive true = true ∧ (pair 0 1 true).rd SAFE.STATUS.master = coreNo false ∧ (pair 0 1 true).rd SAFE.STATUS.master ≠ coreNo true) ∧
    ((pair 1 1 false).rd SAFE.STATUS.supervision = 1 ∧ (pair 1 1 false).rd SAFE.STATUS.master = coreNo false ∧ (pair 1 1 false).alive false = true ∧ (pair 1 1 false).is FW.STATUS.trial = false) ∧
    ((pair 1 1 false).mainRuns = true ∧ (pair 1 1 false).alive true = false ∧ (pair 1 1 false).isOut true = false) ∧
    (let s := (pair 2 0 false).putNow 49999999; s.rd SAFE.STATUS.master = 0 ∧ s.alive true = false ∧ s.alive false = true ∧ s.now < s.kickAt false + 50000000 ∧ s.rd FW.STATUS.stage ≠ 1) ∧
    (let s := (pair 0 1 true).putNow 49999999; s.rd SAFE.STATUS.master = coreNo false ∧ s.alive false = true ∧ s.now < s.kickAt false + 50000000 ∧ s.rd FW.STATUS.stage ≠ 1 ∧
      s.safety.wdogAt + 45000000 ≤ s.now) := by unfold Admits; decide +kernel
theorem witness_PairIsSupervised_idle : (pair 0 1 false).alive true = false ∧ ((pair 0 1 true).putNow 49999999).now < (pair 0 1 true).kickAt false + 50000000 ∧ (1 : Fin 4).val ≠ 0 ∧
    (pair 0 1 false).rd SAFE.STATUS.supervision ≠ 1 ∧ (let s := (pair 2 0 false).putSafety { (pair 2 0 false).safety with aliveA := false }; s.rd SAFE.STATUS.master = 0 ∧ s.alive true = false ∧ s.alive false = false) ∧ (pair 0 1 true).kickAt false + 50000000 ≤ (pair 0 1 true).now ∧ up.now < up.safety.wdogAt + 45000000 := by decide +kernel

theorem witness_BlockStarts :
    up.fw.cold = false ∧ up.pwr ≠ pSTANDBY ∧ State.reset.fw.cold = true ∧
    (let s := { up with fw := { up.fw with restart := true } }; s.fw.restart = true ∧ s.fw.cold = false ∧ s.railGood 51 = true ∧ s.is BIST.SCAN.unlocked = false) ∧ up.fw.restart = false := by decide +kernel

/-- A transaction of rail 51's regulator. -/
def xact (kind : Nat) (page : Option Nat) (pec : Bool) (tries losses : Nat) : Tx := ⟨kind, 51, 0x40, page, [0x79], 2, pec, tries, losses⟩
/-- Port `n` in a state, with what waits and what is on the lines, 2 s after it was freed. -/
def ported (n st : Nat) (queue : List Tx) (active : Option Tx) : State :=
  ((put up [(TW.STATUS.state, n, 0, st)]).setTwp n { TwPort.reset with queue := queue, active := active }).putNow 2000000000

theorem witness_TwoWireTransfers :
    (∀ l ∈ [14, 15], ∀ k ∈ [2, 4], ∀ g ∈ [none, some 3], let x := xact k g true 0 l; let s := ported 5 1 [x] none;
      (5 : TwId).val ≠ 4 ∧ s.twState 5 = twIDLE ∧ (s.twp 5).waitStop = false ∧ (s.twp 5).freeAt + 1000 ≤ s.now ∧ nextTx (s.twp 5).queue = some x ∧ Assoc.get none (s.twp 5).pages x.addr ≠ some 3) ∧
    (let x := xact 0 (some 3) false 0 0; let s := ported 5 1 [x] none; let s := s.setTwp 5 { s.twp 5 with pages := [(0x40, some 3)] };
      x.page = some 3 ∧ Assoc.get none (s.twp 5).pages x.addr = some 3 ∧ nextTx (s.twp 5).queue = some x) ∧
    (∀ t ∈ [1, 2], ∀ k ∈ [0, 3, 4], let x := xact k none true t 0; let s := ported 5 2 [] (some x);
      s.twState 5 = twBUSY ∧ (s.twp 5).active = some x ∧ x.kind ≠ 1 ∧ x.tries = t ∧ x.kind = k ∧ x.pec = true) ∧
    (∀ n : TwId, n.val ≠ 4 → Admits up 0 .TW n 0x060) ∧ Admits up 1 .TW 4 0x060 ∧ (0 : MasterId).val = HOST ∧ (0xA0FF0100 : Word).toNat.testBit 31 = true ∧ up.twState 0 = twOFF ∧
    (let s := ported 1 1 [] none; s.twState 1 ≠ twOFF ∧ s.twState 1 ≠ twSTUCK ∧ bits (0x80030010 : Word).toNat 12 8 + bits (0x80030010 : Word).toNat 20 16 + 1 ≤ 4 ∧ s.xferRuns 1 = false) ∧
    (ported 5 1 [xact 4 none false 0 0] none).xferRuns 5 = true ∧
    (∀ f ∈ [0, 2], let p := up.railRd RAIL.CFG.port 51; let s := ported p 1 [] none; let s := s.putTw { s.tw with pollFails := [(51, f)] };
      s.railRd RAIL.CFG.port 51 = p ∧ s.runs 2 = true ∧ s.twState p ≠ twOFF ∧ s.twState p ≠ twSTUCK ∧ Assoc.get 0 s.tw.pollFails 51 = f ∧ s.phaseTold 51 0x8001 = false ∧ (s.setPosted 51 0x8001).phaseTold 51 0x8001 = true) := by unfold Admits; decide +kernel
theorem witness_TwoWireTransfers_idle : (4 : TwId).val = 4 ∧ up.twState 5 = twOFF ∧ nextTx ((ported 5 1 [] none).twp 5).queue = none ∧
    (let s := ported 5 1 [xact 4 none false 0 0] none; let s := s.setTwp 5 { s.twp 5 with waitStop := true, freeAt := 2000000000 };
      (s.twp 5).waitStop = true ∧ s.now < (s.twp 5).freeAt + 1000 ∧ s.twState 5 = twIDLE) ∧
    ((ported 5 3 [] none).twState 5 ≠ twIDLE ∧ (ported 5 3 [] none).twState 5 ≠ twBUSY) ∧
    (let x := xact 2 none false 0 0; let x := { x with rd := 1 }; let s := ported 5 2 [] (some x); (s.twp 5).active = some x ∧ x.kind = 2 ∧ x.rd = 1 ∧ (31 : Byte).toNat < 32 ∧ 32 ≤ (32 : Byte).toNat ∧
      s.railRd RAIL.CFG.port x.rail ≠ (5 : TwId).val) ∧
    (Admits up 6 .TW 5 0x060 ∧ (6 : MasterId).val ≠ HOST ∧ (6 : MasterId).val ≠ 1 ∧ (6 : MasterId).val ≠ 2 ∧ (0x7FFFFFFF : Word).toNat.testBit 31 = false) ∧
    (4 < bits (0x80030200 : Word).toNat 12 8 + bits (0x80030200 : Word).toNat 20 16 ∧ (1 : TwId).val < 2) ∧
    (put up [(FW.COMPONENTS.running, 0, 0, 0)]).runs 2 = false ∧ up.twState (up.railRd RAIL.CFG.port 51) = twOFF := by unfold Admits; decide +kernel

theorem witness_TwoWireHangs :
    ((ported 5 1 [] none).twState 5 = twIDLE ∧ (5 : TwId).val ≠ 4 ∧ (ported 5 1 [] none).is TW.CTRL.barker_en 5 = true) ∧
    ((ported 5 3 [] none).twState 5 = twSTUCK ∧ ((ported 5 3 [] none).twp 5).cureFailed = false) ∧
    (let s := ported 5 3 [] none; let s := s.setTwp 5 { s.twp 5 with cureFailed := true }; s.twState 5 = twSTUCK ∧ (s.twp 5).cureFailed = true ∧ (s.twp 5).cureAt + 1000000000 ≤ s.now) ∧
    (∀ t ∈ [1, 2], (ported 5 2 [] (some (xact 4 none false t 0))).twState 5 = twBUSY ∧ ((ported 5 2 [] (some (xact 4 none false t 0))).twp 5).active = some (xact 4 none false t 0)) ∧
    (ported 4 2 [] none).twState 4 = twBUSY ∧ 20 ≤ (20 : BitVec 10).toNat ∧ (200 : BitVec 10).toNat ≤ 200 ∧ (19 : BitVec 10).toNat < 20 ∧ 200 < (201 : BitVec 10).toNat ∧
    (∀ r ∈ [0, 14, 15], let s := ported 5 2 [] (some (xact 1 none true 0 0)); let s := s.setTwp 5 { s.twp 5 with reads := r };
      s.twState 5 = twBUSY ∧ (s.twp 5).active = some (xact 1 none true 0 0) ∧ (xact 1 none true 0 0).kind = 1 ∧ (s.twp 5).reads = r) := by decide +kernel
theorem witness_TwoWireHangs_idle : up.twState 5 ≠ twIDLE ∧ up.twState 5 ≠ twBUSY ∧ up.twState 5 ≠ twSTUCK ∧ (put (ported 5 1 [] none) [(TW.CTRL.barker_en, 5, 0, 0)]).is TW.CTRL.barker_en 5 = false ∧
    (let s := (ported 5 3 [] none).putNow 999999999; let s := s.setTwp 5 { s.twp 5 with cureFailed := true }; s.twState 5 = twSTUCK ∧ (s.twp 5).cureFailed = true ∧ s.now < (s.twp 5).cureAt + 1000000000) := by decide +kernel

/-- TW4 in a state, its address 0x40, a write at pointer `p` whose bytes are kept. -/
def target (st : Nat) (wptr : Option Nat) (buf : List (Nat × Byte)) (attnDue : Bool) (attnAt : Option Nat) : State :=
  let s := (put up [(TW.STATUS.state, 4, 0, st), (TW.TGT.address, 4, 0, 0x40), (TW.CTRL.sleep_en, 4, 0, 1), (PWR.STATUS.state, 0, 0, 0)]).putNow 2000000000;
  s.putTw { s.tw with wptr := wptr, buf := buf, attnDue := attnDue, attnAt := attnAt }

theorem witness_TargetAnswers :
    (let s := target 1 none [] false none; s.twState 4 = twIDLE ∧ (0x40 : BitVec 7).toNat = s.rd TW.TGT.address 4 ∧ (0x41 : BitVec 7).toNat ≠ s.rd TW.TGT.address 4 ∧
      ((0x41 : BitVec 7).toNat ≠ 0x0D) ∧ s.is TW.CTRL.sleep_en 4 = true ∧ s.tw.lastAt + 100000000 ≤ s.now ∧ s.pwr = pSTANDBY) ∧
    (let s := target 1 none [] true (some 7); s.twState 4 = twIDLE ∧ (0x0D : BitVec 7).toNat = 0x0D ∧ s.rd TW.TGT.address 4 ≠ 0x0D ∧ s.tw.attnAt = some 7 ∧ s.targetIdle = true ∧ s.tw.attnDue = true ∧
      7 + 100000000 ≤ s.now) ∧
    (let s := target 2 (some 0x13C) (bufPlaces 0x13C (leBytes 4 0xFFFFFFFF)) false none; s.twState 4 = twBUSY ∧ s.tw.wptr = some 0x13C ∧ 0x13C % 4 = 0 ∧ s.tw.buf = bufPlaces 0x13C (leBytes 4 0xFFFFFFFF)) ∧
    (let s := target 2 (some 0xFFFF) (bufPlaces 0xFFFF [7]) false none; s.tw.wptr = some 0xFFFF ∧ s.tw.buf = bufPlaces 0xFFFF [7] ∧ s.twState 4 = twBUSY) ∧
    (let s := target 4 none [] false none; s.twState 4 = twSLEEP ∧ (0x40 : BitVec 7).toNat = s.rd TW.TGT.address 4) := by decide +kernel
theorem witness_TargetAnswers_idle :
    ((target 2 none [] false none).twState 4 = twBUSY ∧ (target 2 none [] false none).tw.wptr = none) ∧ ((target 2 (some 5) [] false none).twState 4 ≠ twIDLE ∧ (target 2 (some 5) [] false none).tw.wptr ≠ none) ∧
    ((target 0 none [] false none).twState 4 ≠ twBUSY ∧ (target 0 none [] false none).twState 4 ≠ twIDLE ∧ (target 0 none [] false none).twState 4 ≠ twSLEEP ∧ (target 0 none [] false none).targetIdle = false) ∧
    ((target 1 none [] false none).tw.attnDue = false ∧ (target 1 none [] false none).tw.attnAt = none ∧ up.pwr ≠ pSTANDBY ∧ up.pwr ≠ pHELD) ∧
    (let s := (target 1 none [] false (some 7)).putNow 100000006; s.tw.attnAt = some 7 ∧ s.now < 7 + 100000000) ∧ (0x40 : BitVec 7).toNat ≠ (put up [(TW.TGT.address, 4, 0, 0x41)]).rd TW.TGT.address 4 := by decide +kernel

/-! Witnesses: tests, the recorder, ageing and the register bus. -/

/-- A test that runs. -/
def run (type inst done result cut : Nat) : TestRun := ⟨type, inst, done, testSlices type, 0, result, cut, 0, 0, false, 0, []⟩
/-- These tests run, a minute after they began. -/
def tested (l : List TestRun) : State := (up.putTests l).putNow 60000000000
/-- A failing bit of an SRAM. -/
def bitFound : Found := ⟨1, 67, 0xFFFFFFFF, 0xFFFF⟩

theorem witness_TestsRun :
    Admits up 0 .BIST 0 0x040 ∧ bistNames 9 0 = false ∧ bistNames btMeter (52 : BitVec 16).toNat = false ∧
    (let s := put up [(RAIL.STATUS.state, 6, 1, 0)]; Admits s 0 .BIST 0 0x040 ∧ bistNames btMeter (49 : BitVec 16).toNat = true ∧ s.bistIdle btMeter 49 = true ∧ s.testBusy btMeter 49 = false) ∧
    (bistNames btMeter (50 : BitVec 16).toNat = true ∧ up.bistIdle btMeter 50 = false ∧ up.testOf btMeter 50 = none) ∧
    ((tested [run btMeter 51 0 0 0]).testOf btMeter (51 : BitVec 16).toNat = some (run btMeter 51 0 0 0) ∧ (run btMeter 51 0 0 0).result = 0) ∧
    (∀ t ∈ [btCore, btTile, btStack, btPort, btConverter, btMeter], ∀ r ∈ [0, 2, 3], ∀ c ∈ [0, 1], (tested [run t 15 1 r c]).testOf t 15 = some (run t 15 1 r c)) ∧
    ((run btTile 7 0 0 0).sliceAt + (tested [run btTile 7 0 0 0]).rd BIST.CTRL.slice_ms * 1000000 ≤ (tested [run btTile 7 0 0 0]).now) ∧
    (let s := (tested [run btTile 7 0 0 0]).putNow 0; s.now < (run btTile 7 0 0 0).sliceAt + s.rd BIST.CTRL.slice_ms * 1000000) ∧
    (bitFound.memory.val < 2 ∧ ((tested [run btTile 7 0 0 0]).keep.repairs.filter fun x => x.1 == (foundBlock bitFound (run btTile 7 0 0 0)).1 && x.2.1 == (foundBlock bitFound (run btTile 7 0 0 0)).2 &&
      x.2.2.1 == bitFound.memory.val && x.2.2.2 / 128 == foundRow bitFound / 128).length < 4) ∧
    (let s := up.setRail 51 { RailState.reset with refBad := true }; (s.rail 51).refBad = true ∧ s.meterFailed 51 = false) ∧ (up.rail 51).refBad = false := by unfold Admits; decide +kernel
theorem witness_TestsRun_more :
    (let s := tested [run btLink (otherEnd 0) 0 0 0]; Admits s 0 .BIST 0 0x040 ∧ bistNames btLink (0 : BitVec 16).toNat = true ∧ s.testBusy btLink (otherEnd 0) = true ∧ otherEnd 0 ≠ 0) ∧
    up.testOf btMeter 51 = none ∧ (run btMeter 51 0 2 0).result ≠ 0 ∧ (run btMeter 51 0 0 1).cut ≠ 0 ∧
    (let s := (tested [run btStack 15 0 2 0]).setUnit 15 1023 { UnitState.reset with state := 2, needPass := true };
      (s.unit 15 1023).state = 2 ∧ (run btStack 15 0 2 0).units.contains 1023 = false ∧ (run btStack 15 0 2 0).inst < 16 ∧ (run btStack 15 0 2 0).result = 2) ∧
    (let s := (up.setRail 51 { RailState.reset with refBad := true }).setMeter 51 true; (s.rail 51).refBad = true ∧ s.meterFailed 51 = true) := by unfold Admits; decide +kernel

theorem witness_ScanOpens :
    (∀ st ∈ [0, 4, 5], (powered st 0).scanAllowed = true ∧ Admits (powered st 0) 0 .BIST 0 0x090 ∧ Admits (powered st 0) 5 .BIST 0 0x090 ∧ Admits (powered st 0) 1 .BIST 0 0x090) ∧
    (powered 2 0).scanAllowed = false ∧ (powered 2 0).pwr = pON ∧ (powered 1 0).pwr = pSEQ_UP ∧ (powered 3 0).pwr = pSEQ_DOWN ∧ (1 : MasterId).val ≠ HOST ∧ (1 : MasterId).val ≠ TRAY := by unfold Admits; decide +kernel

/-- The count runs in its second 3, the RECORDER records, period 3 is of one second and has a slot of quantity 7; its bank that waits. -/
def slot7 : RecSlot := ⟨7, 0, 0, 100, 4, -5, 900, 0, 0, 1000, [1, 1, 1, 1, 0, 0], true⟩
def recorded (closed : Option RecBank) : State :=
  let s := at_ (put up [(RECORD.CTRL.en, 0, 0, 1), (RECORD.PERIOD.s, 0, 3, 1), (RECORD.PERIOD.s, 0, 2, 0)]) 3000000000;
  s.putRecorder { s.recorder with periods := [(3, ⟨⟨[slot7], some 5, false, 0⟩, closed, 2⟩)] }
def bank7 : RecBank := ⟨[slot7], some 0, false, 2000000000⟩

theorem witness_RecorderRecords :
    (∀ x ∈ [(7, 0), (9, 51), (16, 15), (17, 63)], (recorded none).is RECORD.CTRL.en = true ∧ (recorded none).counting = true ∧ x.2 < recInstances x.1 ∧
      ((recorded none).recReading x.1 x.2).isSome = true) ∧
    (slot7 ∈ ((recorded none).recPeriod 3).live.slots ∧ slot7.id = (7 : BitVec 16).toNat ∧ slot7.inst = (0 : BitVec 16).toNat ∧ 0 < slot7.samples ∧ (recorded none).rd RECORD.PERIOD.s 0 3 ≠ 0 ∧
      (recorded none).rd RECORD.PERIOD.s 0 2 = 0) ∧
    recInstances (20 : BitVec 16).toNat ≤ (0 : BitVec 16).toNat ∧ recInstances (9 : BitVec 16).toNat ≤ (52 : BitVec 16).toNat ∧
    (∀ c ∈ [none, some bank7], (recorded c).beat.count / ((recorded c).rd RECORD.PERIOD.s 0 3 * 1000000000) ≠ ((recorded c).recPeriod 3).count ∧ ((recorded c).recPeriod 3).live.slots ≠ [] ∧
      ((recorded c).recPeriod 3).closed = c) ∧
    ((recorded (some bank7)).runs 8 = true ∧ (recorded (some bank7)).recWaiting.head? = some 3 ∧ ((recorded (some bank7)).recPeriod 3).closed = some bank7 ∧
      (bank7.slots.filter (·.saturated)).length ≠ 0 ∧ ∀ x ∈ bank7.slots, x.bins.length = 6) := by decide +kernel
theorem witness_RecorderRecords_idle : up.is RECORD.CTRL.en = true ∧ (recorded none).beat.count / ((recorded none).rd RECORD.PERIOD.s 0 3 * 1000000000) = 3 ∧
    ((recorded none).putRecorder { (recorded none).recorder with periods := [(3, ⟨⟨[slot7], some 5, false, 0⟩, none, 3⟩)] }).recPeriod 3 = ⟨⟨[slot7], some 5, false, 0⟩, none, 3⟩ ∧
    ((recorded none).recPeriod 3).closed = none ∧ (recorded none).recWaiting.head? = none ∧ State.reset.counting = false := by decide +kernel

/-- Slot 95 is a wake of a component, armed for beat 1000; ageing is followed. -/
def waking (component : Nat) : State := put (slotted (at_ up 1000) 95 actMcEvent 2 0 component) [(AGE.CTRL.en, 0, 0, 1)]

theorem witness_AgeingIsFollowed :
    (∀ c ∈ [8, 2], (waking c).dueAlone 95 actMcEvent = true ∧ (waking c).slotParam0 95 % 16 = c ∧ (waking c).runs 8 = true ∧ (waking c).is AGE.CTRL.en = true ∧
      (7 : BitVec 32).toNat ≠ (waking c).rd AGE.DAY.day) ∧ up.dueAlone 95 actMcEvent = false ∧
    ((waking 8).ageOf 39).samples.length < 13 ∧ ((waking 8).ageOf 39).atLimit = false := by decide +kernel

/-- Page MOD has a pending event 3, its vector 5 enabled and unmasked. -/
def evented (en : Nat) : State :=
  let s := put up [(hdrStatus .MOD, 0, 0, 8), (hdrEnable .MOD, 0, 0, en), (hdrMsix .MOD, 0, 0, 1), (hdrVector .MOD, 0, 0, 5)];
  s.putHost { s.host with msix := [(23, 0)] }

theorem witness_EventRegisters :
    pageOf (BitVec.ofNat 14 (Page.number .MOD 0)).toNat = some (.MOD, 0) ∧ (∀ off ∈ [0x018, 0x01C, 0x020], Admits (evented 8) 0 .MOD 0 off) ∧ (∀ off ∈ [0x018, 0x01C, 0x020], Denies (evented 8) 3 .MOD 0 off) ∧
    (evented 8).is (hdrMsix .MOD) 0 = true ∧ ((evented 8).msixWord (4 * (evented 8).rd (hdrVector .MOD) 0 + 3)).testBit 0 = false ∧
    (8 &&& (evented 8).rd (hdrEnable .MOD) 0) ≠ 0 ∧ (8 &&& (evented 0).rd (hdrEnable .MOD) 0) = 0 ∧ ((evented 0).rd (hdrStatus .MOD) 0 &&& (8 : Word).toNat) ≠ 0 ∧
    (∀ b, b < Page.eventBits .MOD → (BitVec.ofNat 32 (2 ^ Page.eventBits .MOD)).toNat.testBit b = false) ∧ (0 < Page.eventBits .MOD ∧ (1 : Word).toNat.testBit 0 = true) := by
  unfold Admits Denies; decide +kernel

theorem witness_RegisterWrites :
    pageOf (0x3FFF : BitVec 14).toNat = none ∧ (∃ pg i, pageOf (BitVec.ofNat 14 (Page.number .CORE 511)).toNat = some (pg, i) ∧ State.reset.offline pg i = true) ∧
    Admits up 0 .RECORD 0 0x044 ∧ Admits up 0 .RECORD 0 0x050 ∧ Admits up 1 .TW 4 0x0A4 ∧ Denies up 3 .RECORD 0 0x044 ∧
    (Admits up 0 .LEAK 0 0x010 ∧ up.worn 0x40 = false ∧ up.mayPersist 0 .LEAK 0 = true ∧ up.rd LEAK.CTRL.en % 2 ^ 4 ≠ (0 : Word).toNat % 2 ^ 4) ∧
    (Admits up 1 .LEAK 0 0x010 ∧ up.mayPersist 1 .LEAK 0 = false) ∧ (let s := { up with keep := { up.keep with wear := [(0x40, 1000000)] } }; s.worn 0x40 = true ∧ Admits s 0 .LEAK 0 0x010) ∧
    (let s := up.putHost { up.host with pba := 2 ^ 63 + 1 }; Admits s 0 .HOSTQ 0 (0x80C + 0x10 * (63 : Fin 64).val) ∧ s.host.pba.testBit (63 : Fin 64) = true ∧ s.host.pba.testBit (5 : Fin 64) = false) ∧
    (Admits up 0 .FW 0 0x010 ∧ up.mayPersist 0 .FW 0 = true) ∧ (Admits up 0 .SEC 0 0x010 ∧ up.mayPersist 0 .SEC 0 = true) := by
  unfold Admits Denies
  refine ⟨by decide +kernel, ⟨.CORE, 511, by decide +kernel⟩, by decide +kernel⟩

theorem witness_RegisterReads : up.mayRead 0 .SAFE 0 = true ∧ up.mayRead 63 .SAFE 0 = false ∧ up.hostServed 0 .BEAT 0 0x040 = true ∧ up.mayRead 0 .BEAT 0 = true ∧
    wordHas 0x3FFF 0 (fun x => x.f.acc == .rc) = false ∧ wordHas 0x028 (4 * 0x1F) (fun x => x.f.acc == .rc) = true ∧ wordHas 0x001 (4 * 0x11) (fun x => latchingPair x.f && x.shift == 0) = false := by decide +kernel

/-! Witnesses: steps and reset. -/

theorem witness_IdlePassesTime : up.pending = [] ∧ up.counting = true ∧ up.beat.slew.natAbs < 4 ∧ State.reset.counting = false := by decide +kernel

theorem witness_RackMasters :
    (0 : MasterId).val ≠ TRAY ∧ (0 : MasterId).val ≠ SAFENET ∧ up.hostServed 0 .PWR 0 0x040 = true ∧ up.hostServed 0 .PWR 0 0x064 = true ∧
    (5 : MasterId).val = TRAY ∧ up.mayWrite 5 .PWR 0 = true ∧ (3 : MasterId).val = SAFENET ∧ (put up []).mayWrite 5 .PWR 0 = true := by decide +kernel

/-- At reset the listed registers, stacks and SRAM are in order. -/
theorem witness_OrderIsKept : Ordered State.reset ∧ Memory.wf State.reset = true ∧ (∃ t, step (State.reset.putPending [.powerTick [] []]) = .next t) := by
  refine ⟨by unfold Ordered; decide +kernel, by decide +kernel, ⟨_, rfl⟩⟩

theorem witness_CommandsTakeNoTime : (match exec (.evtForce 0 0x000 1) up with | .next t => t != up | _ => false) = true := by decide +kernel

/-! Values from the spec's worked examples. -/

/-- The field of a next state. -/
def after (o : Host.Outcome State Fault Refusal) (f : State → α) : Option α := match o with | .next t => some (f t) | _ => none

/-- 04, decoding one FP4 byte: 0xB7 holds 6.0 and −1.5. -/
theorem test_fp4 : (Fmt.flt 2 1 1 .none).decode 7 = .fin false 3 1 ∧ (Fmt.flt 2 1 1 .none).decode 0xB = .fin true 3 (-1) := by decide

/-- 04, rounding 27.3 to FP8 E4M3: nearest, toward zero, and two draws. -/
theorem test_fp8 : let x := fp32.decode 0x41DA6666; let f : Fmt := .flt 4 3 7 .nanOnly;
    f.encode .near x = 0x5E ∧ f.encode .zero x = 0x5D ∧ f.encode (.stoch 0x3C000000) x = 0x5D ∧ f.encode (.stoch 0x70000000) x = 0x5E := by decide +kernel

/-- 04, three products in three groups: the rows of the example; non-exact, then the exact element's raw word, and its two stores. -/
def bf16row (l : List (Nat × Nat)) : List Machine.Num := (List.range 48).map fun k => bf16.decode ((l.lookup k).getD 0)
def rowA : List Machine.Num := bf16row [(0, 0x4700), (16, 0x3F80), (32, 0xC700)]
def rowB : List Machine.Num := bf16row [(0, 0x4700), (16, 0x3F80), (32, 0x4700)]
theorem test_mma_groups : mmaElem 0 bf16 false 0 rowA rowB = 0 := by decide +kernel
theorem test_mma_exact : mmaElem 0 bf16 true (rawZero 1) rowA rowB = 0x1000000000000001 * 2 ^ 64 := by decide +kernel
theorem test_mma_store : encodeRaw bf16 .near (0x1000000000000001 * 2 ^ 64) = 0x3F80 ∧ encodeRaw fp32 .near (0x1000000000000001 * 2 ^ 64) = 0x3F800000 := by decide +kernel

/-- 05, locating one address in both layouts. -/
theorem test_locate : locate false 0x123456780 = ⟨42, 7, 2330, 4, 0⟩ ∧ (locate false 0x123456780).unit = 675 ∧
    locate true 0x123456780 = ⟨18, 7, 2220, 28, 0⟩ ∧ (locate true 0x123456780).unit = 291 := by decide

/-- 14, the prediction of CT4's delay margin lies 180 days ahead for a line at 320 that gains 1 per day. -/
theorem test_predict : (predict 500 90 ((List.range 90).map fun i => (90 - i, 320 - i))).1 = 180 := by decide +kernel

/-- 15, 0.850 V at exponent −12. -/
theorem test_vout : voutWord 850 0x14 = 0x0D9A := by decide

/-- 17, port EP3 of CT5. -/
theorem test_page : Page.number .EDPEN 43 = 0x0607 ∧ pageOf 0x0607 = some (.EDPEN, 43) := by decide

/-- 17, the PWR page's default table, without FLEET's write access. -/
theorem test_acl : aclDefaultTable .PWR 0 % 2 ^ 64 = 0x55555555555528AA ∧ aclDefaultTable .PWR 0 / 2 ^ 64 = 0 ∧ aclEntryOf 0x555518AA 6 = 1 := by decide +kernel

/-- 15, the tray controller's rack order over TW4: a write of WIN, then of RACK_CMD through the window, in STANDBY, then a read of RACK. -/
def tray (wptr : Nat) (bytes : List Byte) (win : Nat) : State :=
  let s := put up [(TW.STATUS.state, 4, 0, 2), (TW.TGT.address, 4, 0, 0x42), (TW.WIN.page, 4, 0, win), (PWR.STATUS.state, 0, 0, 0)];
  s.putTw { s.tw with wptr := some wptr, buf := bufPlaces wptr bytes }
theorem test_tray_win : after (exec (.tw4Commit true) (tray 0x000C [0x10, 0, 0, 0] 0)) (fun t => (t.rd TW.WIN.page 4, t.rd TW.TGT_STATUS.pointer 4, t.twState 4)) = some (0x10, 0x000C, twIDLE) := by decide +kernel
theorem test_tray_off : after (exec (.tw4Commit true) (tray 0x1064 [0x01, 0x00, 0x88, 0x13] 0x10)) (fun t => (t.rd PWR.RACK.hold, t.rd PWR.RACK.grace_ms, t.pwr)) = some (1, 5000, pSTANDBY) := by decide +kernel
theorem test_tray_read :
    let s := put up [(TW.STATUS.state, 4, 0, 1), (TW.TGT.address, 4, 0, 0x42), (TW.WIN.page, 4, 0, 0x10), (TW.TGT_STATUS.pointer, 4, 0, 0x1060), (PWR.RACK.hold, 0, 0, 1), (PWR.RACK.grace_ms, 0, 0, 5000)];
    after (exec (.tw4Access 0x42 none 4) s) (fun t => t.outbox) = some [Out.bytes [0x01, 0x00, 0x88, 0x13]] := by decide +kernel

end Sys2Proof.Tests
end

section
/-! SUPPORT. The homes of an event slot's fields, and what a refusal and a firing change (R53 to R57). -/

namespace Sys2Proof.Machine

/-! A slot's fields stand in 32 bytes of its own (Table 2.6). -/

/-- The field is one of a slot's: it stands in the 32 bytes that page SCHED gives each slot from 0x400 on. -/
abbrev Fld.InSlot (f : Fld) : Prop := f.pg = .SCHED ∧ f.st = 32 ∧ f.off / 32 = 32 ∧ f.lo < 32

/-- The home of a field of slot k lies in block 288 + k of 1,024 homes. -/
theorem Fld.InSlot.key_block {f : Fld} (hf : f.InSlot) (k : Nat) : f.key 0 k / 1024 = 288 + k := by
  obtain ⟨hpg, hst, hoff, hlo⟩ := hf
  simp only [Fld.key, hpg, hst, Page.number]
  omega

theorem Fld.InSlot.key_eq_iff {f g : Fld} (hf : f.InSlot) (hg : g.InSlot) (j k : Nat) :
    f.key 0 j = g.key 0 k ↔ j = k ∧ f.off = g.off ∧ f.lo = g.lo := by
  obtain ⟨hpg, hst, hoff, hlo⟩ := hf
  obtain ⟨hpg', hst', hoff', hlo'⟩ := hg
  simp only [Fld.key, hpg, hst, hpg', hst', Page.number]
  omega

/-- A write of one slot field leaves the other fields of every slot as they were. -/
theorem State.rd_wr_slot_ne (s : State) {f g : Fld} (h : f.InSlot ∧ g.InSlot ∧ (f.off ≠ g.off ∨ f.lo ≠ g.lo)) (v j k : Nat) :
    (s.wr g v 0 j).rd f 0 k = s.rd f 0 k := by
  obtain ⟨hf, hg, h⟩ := h
  refine State.rd_wr_ne s g f v 0 j 0 k fun e => ?_
  obtain ⟨-, hoff, hlo⟩ := (hf.key_eq_iff hg k j).mp e
  exact h.elim (· hoff) (· hlo)

/-- A field of slot j is none of some fields of slot n, where the slots differ or the fields do. -/
theorem Fld.InSlot.key_notMem {f : Fld} (hf : f.InSlot) {fs : List Fld} (hfs : ∀ g ∈ fs, g.InSlot) {j n : Nat}
    (h : j ≠ n ∨ ∀ g ∈ fs, f.off ≠ g.off ∨ f.lo ≠ g.lo) : f.key 0 j ∉ fs.map (·.key 0 n) := by
  intro hmem
  obtain ⟨g, hg, heq⟩ := List.mem_map.mp hmem
  obtain ⟨rfl, hoff, hlo⟩ := (hf.key_eq_iff (hfs g hg) j n).mp heq.symm
  rcases h with h | h
  · exact h rfl
  · exact (h g hg).elim (· hoff) (· hlo)

/-- A home is no slot's: its block comes before that of slot 0 or after that of slot 95. -/
abbrev OffSlots (key : Nat) : Prop := key / 1024 < 288 ∨ 384 ≤ key / 1024

theorem Fld.InSlot.key_ne {f : Fld} (hf : f.InSlot) {k key : Nat} (hk : k < 96) (h : OffSlots key) : f.key 0 k ≠ key := by
  rintro rfl
  rw [OffSlots, hf.key_block] at h
  omega

theorem offSlots_fired {n : Nat} (hn : n < 96) : OffSlots (SCHED.FIRED.fired.key 0 (n / 32)) := by
  simp only [OffSlots, Fld.key, SCHED.FIRED.fired, Page.number]
  omega

/-! A refusal (R54, R55). -/

/-- The homes a refusal of the SCHED page can change: REJECTS, the page's status and the event ring. -/
def rejectHomes : List Nat :=
  [SCHED.REJECTS.count.key 0 0, SCHED.REJECTS.last_slot.key 0 0, SCHED.REJECTS.last_reason.key 0 0] ++ (hdrStatus .SCHED).key 0 0 :: ringHomes

theorem offSlots_of_mem_rejectHomes : ∀ key ∈ rejectHomes, OffSlots key := by decide

theorem State.same_reject (s : State) (slot reason : Nat) : Same rejectHomes s (s.reject slot reason) := by
  have record : Same rejectHomes s (((s.add SCHED.REJECTS.count 1).wr SCHED.REJECTS.last_slot slot).wr SCHED.REJECTS.last_reason reason) :=
    (((Same.refl _ s).wr _ _ _ _ (by decide)).wr _ _ _ _ (by decide)).wr _ _ _ _ (by decide)
  exact record.raise (by decide) _ _ _ _ (by decide)

/-- A refusal leaves every field of every slot as it was. -/
theorem State.rd_reject_slot (s : State) (slot reason : Nat) {f : Fld} (hf : f.InSlot) {k : Nat} (hk : k < 96) :
    (s.reject slot reason).rd f 0 k = s.rd f 0 k :=
  s.same_reject slot reason f 0 k fun h => hf.key_ne hk (offSlots_of_mem_rejectHomes _ h) rfl

/-- The event of a refusal leaves REJECTS as the refusal recorded it. -/
theorem State.rd_reject_record (s : State) (slot reason : Nat) {f : Fld} (hf : f.key 0 0 ∉ (hdrStatus .SCHED).key 0 0 :: ringHomes) :
    (s.reject slot reason).rd f =
      (((s.add SCHED.REJECTS.count 1).wr SCHED.REJECTS.last_slot slot).wr SCHED.REJECTS.last_reason reason).rd f :=
  State.rd_raise _ Ev.SLOT_REFUSED 0 [] none f 0 0 hf

theorem State.rd_reject_last_reason (s : State) (slot reason : Nat) : (s.reject slot reason).rd SCHED.REJECTS.last_reason = reason % 8 := by
  rw [State.rd_reject_record _ _ _ (by decide), State.rd_wr]
  rfl

theorem State.rd_reject_last_slot (s : State) (slot reason : Nat) : (s.reject slot reason).rd SCHED.REJECTS.last_slot = slot % 256 := by
  rw [State.rd_reject_record _ _ _ (by decide), State.rd_wr_ne _ _ _ _ _ _ _ _ (by decide), State.rd_wr]
  rfl

theorem State.rd_reject_count (s : State) (slot reason : Nat) :
    (s.reject slot reason).rd SCHED.REJECTS.count = min (s.rd SCHED.REJECTS.count + 1) 65535 := by
  rw [State.rd_reject_record _ _ _ (by decide), State.rd_wr_ne _ _ _ _ _ _ _ _ (by decide), State.rd_wr_ne _ _ _ _ _ _ _ _ (by decide), State.rd_add]
  rfl

/-! Writes to an armed slot (R55). -/

/-- An admitted write runs its command. -/
theorem State.gate_of_admits {s : State} {m : MasterId} {pg : Page} {i off : Nat} (h : Admits s m pg i off) (act : State → State) :
    s.gate m pg i off act = act s := by
  obtain ⟨hon, hserved, hmay⟩ := h
  simp [State.gate, hon, hserved, hmay]

/-- A refusal on an armed slot does not show in RESULT.state. -/
theorem State.refuseSlot_of_armed {s : State} {n : Nat} (h : s.armed n = true) (reason : Nat) (arm : Bool) :
    s.refuseSlot n reason arm = s.reject n reason := by
  simp [State.refuseSlot, h]

theorem State.slotField_of_armed {s : State} {m n : Nat} (ha : s.armed n = true) (hw : s.slotWritable m n = true) (f v : Nat) :
    s.slotField m n f v = s.reject n 6 := by
  simp [State.slotField, hw, ha, State.refuseSlot_of_armed ha]

theorem State.slotArm_of_armed {s : State} {m n ctl : Nat} (ha : s.armed n = true) (hw : s.slotWritable m n = true)
    (hc : ctlOwnerOk m (bits ctl 5 4) (bits ctl 15 8) (bits ctl 23 16) = true) : s.slotArm m n ctl = s.reject n 6 := by
  simp [State.slotArm, State.armOwnerOk, hw, hc, ha, State.refuseSlot_of_armed ha]

theorem State.slotDisarm_of_changed {s : State} {m n ctl : Nat} (ha : s.armed n = true) (hw : s.slotWritable m n = true)
    (hc : ctlOwnerOk m (bits ctl 5 4) (bits ctl 15 8) (bits ctl 23 16) = true)
    (hne : s.rd SCHED.SLOT_CTL.owner_kind 0 n ≠ bits ctl 5 4 ∨ s.slotOwner n ≠ bits ctl 15 8 ∨ s.slotAction n ≠ bits ctl 23 16) :
    s.slotDisarm m n ctl = s.reject n 6 := by
  have changed : ¬ (s.rd SCHED.SLOT_CTL.owner_kind 0 n = bits ctl 5 4 ∧ s.slotOwner n = bits ctl 15 8 ∧ s.slotAction n = bits ctl 23 16) :=
    fun ⟨kind, owner, action⟩ => hne.elim (· kind) (·.elim (· owner) (· action))
  simp only [State.slotDisarm, hw, hc, ha, changed, State.refuseSlot_of_armed ha]
  rfl

/-- Settles O6: each write goes through the gate to a refusal BUSY, and a refusal changes no home of a slot. -/
theorem armedSlotsAreFixed : Obligations.ArmedSlotsAreFixed := by
  unfold Obligations.ArmedSlotsAreFixed
  intro s m n ha hw
  have kept {f : Fld} (hf : f.InSlot) : (s.reject n 6).rd f 0 n = s.rd f 0 n := s.rd_reject_slot n 6 hf n.isLt
  have armed : (s.reject n 6).armed n = true := (congrArg (· != 0) (kept (by decide))).trans ha
  have slot : (s.reject n 6).rd SCHED.REJECTS.last_slot = n.val :=
    (s.rd_reject_last_slot n 6).trans (Nat.mod_eq_of_lt (by omega))
  refine ⟨fun f v hadm => ?_, fun ctl hadm hne hc => ⟨?_, ?_⟩,
    kept (by decide), kept (by decide), kept (by decide), kept (by decide), kept (by decide), kept (by decide), kept (by decide), armed,
    kept (by decide), s.rd_reject_last_reason n 6, slot, s.rd_reject_count n 6⟩
  · exact congrArg Host.Outcome.next ((State.gate_of_admits hadm _).trans (State.slotField_of_armed ha hw f v.toNat))
  · exact congrArg Host.Outcome.next ((State.gate_of_admits hadm _).trans (State.slotDisarm_of_changed ha hw hc hne))
  · exact congrArg Host.Outcome.next ((State.gate_of_admits hadm _).trans (State.slotArm_of_armed ha hw hc))

/-! A firing (R53, R56, R57): it records, then the slot rearms or is disarmed. -/

/-- What every firing records: the count, the delay, the largest delay and the slot's bit in FIRED. -/
def State.recordFiring (s : State) (n : Nat) : State :=
  let delay := min (s.beat.count - s.slotTarget n) 255
  let s := (s.add SCHED.SLOT_COUNT.count 1 0 n).wr SCHED.SLOT_RESULT.delay_ns delay 0 n
  let s := s.wr SCHED.LATE_MAX.delay_ns (max (s.rd SCHED.LATE_MAX.delay_ns) delay)
  s.setBit SCHED.FIRED.fired (n % 32) true 0 (n / 32)

/-- A periodic slot with no disarm waiting rearms one period after its target. -/
theorem State.slotFire_of_periodic {s : State} {n : Nat} (h : s.rd SCHED.SLOT_PERIOD.period 0 n ≠ 0 ∧ s.slotStop.testBit n = false) :
    s.slotFire n = ((s.recordFiring n).wr SCHED.SLOT_TARGET.target
      ((s.recordFiring n).slotTarget n + s.rd SCHED.SLOT_PERIOD.period 0 n) 0 n).wr SCHED.SLOT_RESULT.state 1 0 n :=
  if_pos h

/-- Any other slot is disarmed, and a disarm that waited is done with. -/
theorem State.slotFire_of_last {s : State} {n : Nat} (h : ¬ (s.rd SCHED.SLOT_PERIOD.period 0 n ≠ 0 ∧ s.slotStop.testBit n = false)) :
    s.slotFire n = (((s.recordFiring n).wr SCHED.SLOT_CTL.arm 0 0 n).wr SCHED.SLOT_RESULT.state 2 0 n).putSlotStop
      (if s.slotStop.testBit n then s.slotStop - 2 ^ n else s.slotStop) :=
  if_neg h

/-- A firing changes register fields and the disarms that wait, and no memory, no partition and nothing of the beat. -/
theorem State.slotFire_rest (s : State) (n : Nat) :
    (s.slotFire n).hbm = s.hbm ∧ (s.slotFire n).sram = s.sram ∧ (s.slotFire n).parts = s.parts ∧ (s.slotFire n).beat = s.beat := by
  by_cases h : s.rd SCHED.SLOT_PERIOD.period 0 n ≠ 0 ∧ s.slotStop.testBit n = false
  · simp [State.slotFire_of_periodic h, State.recordFiring]
  · simp [State.slotFire_of_last h, State.recordFiring]

/-- The fields of the slot that a firing records in. -/
abbrev firingFields : List Fld := [SCHED.SLOT_COUNT.count, SCHED.SLOT_RESULT.delay_ns]

/-- The fields that rearm or disarm the slot that fired. -/
abbrev rearmFields : List Fld := [SCHED.SLOT_TARGET.target, SCHED.SLOT_CTL.arm, SCHED.SLOT_RESULT.state]

theorem inSlot_of_mem_rearmFields : ∀ f ∈ rearmFields, f.InSlot := by decide

/-- The homes of what a firing records. -/
def recordHomes (n : Nat) : List Nat :=
  SCHED.LATE_MAX.delay_ns.key 0 0 :: SCHED.FIRED.fired.key 0 (n / 32) :: firingFields.map (·.key 0 n)

/-- A slot's home is none that a firing records in, where the slots differ or the fields do. -/
theorem Fld.InSlot.key_notMem_recordHomes {f : Fld} (hf : f.InSlot) {j n : Nat} (hj : j < 96) (hn : n < 96)
    (h : j ≠ n ∨ ∀ g ∈ firingFields, f.off ≠ g.off ∨ f.lo ≠ g.lo) : f.key 0 j ∉ recordHomes n :=
  List.not_mem_cons_of_ne_of_not_mem (hf.key_ne hj (by decide))
    (List.not_mem_cons_of_ne_of_not_mem (hf.key_ne hj (offSlots_fired hn)) (hf.key_notMem (by decide) h))

theorem State.same_recordFiring (s : State) (n : Nat) : Same (recordHomes n) s (s.recordFiring n) :=
  have slot := ((Same.refl (recordHomes n) s).wr SCHED.SLOT_COUNT.count _ 0 n (by simp [recordHomes])).wr
    SCHED.SLOT_RESULT.delay_ns _ 0 n (by simp [recordHomes])
  (slot.wr SCHED.LATE_MAX.delay_ns _ 0 0 (by simp [recordHomes])).wr SCHED.FIRED.fired _ 0 (n / 32) (by simp [recordHomes])

/-- The record leaves the fields by which the slot rearms. -/
theorem State.rd_recordFiring_rearm (s : State) {f : Fld} (hf : f ∈ rearmFields) {n : Nat} (hn : n < 96) :
    (s.recordFiring n).rd f 0 n = s.rd f 0 n := by
  have distinct : ∀ f ∈ rearmFields, ∀ g ∈ firingFields, f.off ≠ g.off ∨ f.lo ≠ g.lo := by decide
  exact s.same_recordFiring n f 0 n ((inSlot_of_mem_rearmFields f hf).key_notMem_recordHomes hn hn (.inr (distinct f hf)))

/-- After the record a firing changes nothing but the fields that rearm or disarm the slot. -/
theorem State.same_slotFire (s : State) (n : Nat) : Same (rearmFields.map (·.key 0 n)) (s.recordFiring n) (s.slotFire n) := by
  have base := Same.refl (rearmFields.map (·.key 0 n)) (s.recordFiring n)
  by_cases h : s.rd SCHED.SLOT_PERIOD.period 0 n ≠ 0 ∧ s.slotStop.testBit n = false
  · rw [State.slotFire_of_periodic h]
    exact (base.wr SCHED.SLOT_TARGET.target _ 0 n (by simp)).wr SCHED.SLOT_RESULT.state _ 0 n (by simp)
  · rw [State.slotFire_of_last h]
    exact ((base.wr SCHED.SLOT_CTL.arm 0 0 n (by simp)).wr SCHED.SLOT_RESULT.state 2 0 n (by simp)).of_regs rfl

/-- What a firing leaves of the slots: the other slots, and this one's fields that it neither records in nor rearms by. -/
theorem State.rd_slotFire_slot (s : State) {f : Fld} (hf : f.InSlot) {j n : Nat} (hj : j < 96) (hn : n < 96)
    (h : j ≠ n ∨ ∀ g ∈ firingFields ++ rearmFields, f.off ≠ g.off ∨ f.lo ≠ g.lo) : (s.slotFire n).rd f 0 j = s.rd f 0 j := by
  have hrecord := hf.key_notMem_recordHomes hj hn (h.imp_right fun h g hg => h g (List.mem_append_left _ hg))
  have hrearm := hf.key_notMem inSlot_of_mem_rearmFields (h.imp_right fun h g hg => h g (List.mem_append_right _ hg))
  exact (s.same_slotFire n f 0 j hrearm).trans (s.same_recordFiring n f 0 j hrecord)

/-- R57: COUNT counts the firing and saturates. -/
theorem State.rd_slotFire_count (s : State) {n : Nat} (hn : n < 96) :
    (s.slotFire n).rd SCHED.SLOT_COUNT.count 0 n = min (s.rd SCHED.SLOT_COUNT.count 0 n + 1) (2 ^ 32 - 1) := by
  have hf : SCHED.SLOT_COUNT.count.InSlot := by decide
  rw [s.same_slotFire n _ 0 n (hf.key_notMem inSlot_of_mem_rearmFields (.inr (by decide)))]
  simp only [State.recordFiring, State.setBit]
  rw [State.rd_wr_ne _ _ _ _ _ _ _ _ (hf.key_ne hn (offSlots_fired hn)), State.rd_wr_ne _ _ _ _ _ _ _ _ (hf.key_ne hn (by decide)),
    State.rd_wr_slot_ne _ (by decide), State.rd_add]
  rfl

/-- A bit that is set reads 1. -/
theorem State.testBit_rd_setBit (s : State) (f : Fld) {b : Nat} (hb : b < f.w) (i j : Nat) : ((s.setBit f b true i j).rd f i j).testBit b = true := by
  simp only [State.setBit, if_true, State.rd_wr, Nat.testBit_mod_two_pow, Nat.testBit_or, Nat.testBit_two_pow_self, hb, decide_true,
    Bool.or_true, Bool.and_true]

theorem State.rd_slotFire_fired (s : State) {n : Nat} (hn : n < 96) :
    ((s.slotFire n).rd SCHED.FIRED.fired 0 (n / 32)).testBit (n % 32) = true := by
  have outside : SCHED.FIRED.fired.key 0 (n / 32) ∉ rearmFields.map (·.key 0 n) := by
    intro hmem
    obtain ⟨g, hg, heq⟩ := List.mem_map.mp hmem
    exact (inSlot_of_mem_rearmFields g hg).key_ne hn (offSlots_fired hn) heq
  rw [s.same_slotFire n _ 0 _ outside]
  exact State.testBit_rd_setBit _ _ (Nat.mod_lt _ (by decide)) _ _

/-- R57: a periodic slot stays armed, and its target moves on by its period. -/
theorem State.slotFire_rearms {s : State} {n : Nat} (hn : n < 96) (hp : s.rd SCHED.SLOT_PERIOD.period 0 n ≠ 0)
    (hs : s.slotStop.testBit n = false) :
    (s.slotFire n).armed n = s.armed n ∧
    (s.slotFire n).slotTarget n = (s.slotTarget n + s.rd SCHED.SLOT_PERIOD.period 0 n) % 2 ^ 64 ∧
    (s.slotFire n).rd SCHED.SLOT_RESULT.state 0 n = 1 := by
  have arm : (s.recordFiring n).rd SCHED.SLOT_CTL.arm 0 n = s.rd SCHED.SLOT_CTL.arm 0 n := s.rd_recordFiring_rearm (by simp) hn
  have target : (s.recordFiring n).slotTarget n = s.slotTarget n := s.rd_recordFiring_rearm (by simp) hn
  rw [State.slotFire_of_periodic ⟨hp, hs⟩, target]
  refine ⟨congrArg (· != 0) ?_, ?_, State.rd_wr _ _ _ _ _⟩
  · rw [State.rd_wr_slot_ne _ (by decide), State.rd_wr_slot_ne _ (by decide), arm]
  · rw [State.slotTarget, State.rd_wr_slot_ne _ (by decide)]
    exact State.rd_wr _ _ _ _ _

/-- R56: a slot that does not rearm is disarmed, at its target. -/
theorem State.slotFire_disarms {s : State} {n : Nat} (hn : n < 96)
    (h : ¬ (s.rd SCHED.SLOT_PERIOD.period 0 n ≠ 0 ∧ s.slotStop.testBit n = false)) :
    (s.slotFire n).armed n = false ∧ (s.slotFire n).slotTarget n = s.slotTarget n ∧ (s.slotFire n).rd SCHED.SLOT_RESULT.state 0 n = 2 := by
  have target : (s.recordFiring n).slotTarget n = s.slotTarget n := s.rd_recordFiring_rearm (by simp) hn
  rw [State.slotFire_of_last h]
  refine ⟨congrArg (· != 0) (?_ : _ = 0), ?_, ?_⟩
  · rw [State.putSlotStop_rd_read, State.rd_wr_slot_ne _ (by decide)]
    exact State.rd_wr _ _ _ _ _
  · rw [State.slotTarget, State.putSlotStop_rd_read, State.rd_wr_slot_ne _ (by decide),
      State.rd_wr_slot_ne _ (by decide)]
    exact target
  · rw [State.putSlotStop_rd_read]
    exact State.rd_wr _ _ _ _ _

/-- Settles O7: the record counts the firing, the rearm or the disarm sets the slot's own fields, and no other slot's home is written. -/
theorem slotFiring : Obligations.SlotFiring := by
  unfold Obligations.SlotFiring
  intro s n
  have hn := n.isLt
  have others {f : Fld} (hf : f.InSlot) {k : Nat} (hk : k < 96) (hne : k ≠ n.val) : (s.slotFire n).rd f 0 k = s.rd f 0 k :=
    s.rd_slotFire_slot hf hk hn (.inl hne)
  exact ⟨s.rd_slotFire_count hn, s.rd_slotFire_fired hn, State.slotFire_rearms hn, fun hp => State.slotFire_disarms hn fun h => h.1 hp,
    s.rd_slotFire_slot (by decide) hn hn (.inr (by decide)), s.rd_slotFire_slot (by decide) hn hn (.inr (by decide)),
    fun k hk hne => ⟨congrArg (· != 0) (others (by decide) hk hne), others (by decide) hk hne⟩, s.slotFire_rest n⟩

end Sys2Proof.Machine
end

section
/-! SUPPORT. Which masters the rack's registers take a write from (R393). -/

namespace Sys2Proof.Machine

/-- The power page is always served: it lies in the always-on domain (Table 17.1). -/
@[simp] theorem State.offline_pwr (s : State) : s.offline .PWR 0 = false := rfl

/-- Only the host waits for the main firmware (R336). -/
theorem State.hostServed_of_ne_host (s : State) {m : Nat} (h : m ≠ HOST) (pg : Page) (i off : Nat) : s.hostServed m pg i off = true := by
  simp [State.hostServed, h]

/-- TRAY and SAFE act on the rack's registers. -/
theorem State.rackOnly_of_rack {m : Nat} (h : m = TRAY ∨ m = SAFENET) (s : State) (act : State → State) : s.rackOnly m act = act s :=
  if_pos h

/-- A write of another master to them is counted. -/
theorem State.rackOnly_of_other {m : Nat} (ht : m ≠ TRAY) (hs : m ≠ SAFENET) (s : State) (act : State → State) :
    s.rackOnly m act = s.countDenied m .PWR 0 :=
  if_neg (not_or.mpr ⟨ht, hs⟩)

/-- R393, TRAY and SAFE: a write that the table grants has its effect. -/
theorem State.gate_rackOnly_of_rack {s : State} {m : MasterId} (hm : m.val = TRAY ∨ m.val = SAFENET) (hmay : s.mayWrite m .PWR 0 = true)
    (off : Nat) (act : State → State) : s.gate m .PWR 0 off (·.rackOnly m act) = act s := by
  have notHost : m.val ≠ HOST := by
    rcases hm with h | h <;> rw [h] <;> decide
  rw [State.gate_of_admits ⟨s.offline_pwr, s.hostServed_of_ne_host notHost _ _ _, hmay⟩, State.rackOnly_of_rack hm]

/-- R393, another master: where the table grants the write the register's own rule counts it, and where it does not the table's gate does. -/
theorem State.gate_rackOnly_of_other {s : State} {m : MasterId} (ht : m.val ≠ TRAY) (hs : m.val ≠ SAFENET) {off : Nat}
    (hserved : s.hostServed m .PWR 0 off = true) (act : State → State) :
    s.gate m .PWR 0 off (·.rackOnly m act) = s.countDenied m .PWR 0 := by
  cases hmay : s.mayWrite m .PWR 0 with
  | true => rw [State.gate_of_admits ⟨s.offline_pwr, hserved, hmay⟩, State.rackOnly_of_other ht hs]
  | false => simp [State.gate, hserved, hmay]

/-- R544: the count of denied accesses saturates at its 16 bits. -/
theorem State.rd_countDenied_count (s : State) (m : Nat) (pg : Page) (i : Nat) :
    (s.countDenied m pg i).rd ACL.DENIED.count = min (s.rd ACL.DENIED.count + 1) (2 ^ 16 - 1) := by
  rw [State.countDenied, State.rd_wr_ne _ _ _ _ _ _ _ _ (by decide), State.rd_wr_ne _ _ _ _ _ _ _ _ (by decide), State.rd_add]
  rfl

/-- A release ends the hold; the state it moves HELD to is another register's (Table 12.3). -/
theorem State.rd_rackRelease_hold (s : State) : s.rackRelease.rd PWR.RACK.hold = 0 := by
  simp only [State.rackRelease]
  split
  · rw [State.rd_wr_ne _ _ _ _ _ _ _ _ (by decide), State.rd_wr, Nat.zero_mod]
  · rw [State.rd_wr, Nat.zero_mod]

/-! The three writes (R392, R393, R406): each stands behind the page's gate and then the rule for the rack's masters. -/

theorem exec_capWrite_rack (m : MasterId) (v : BitVec 16) (s : State) :
    exec (.capWrite m true v) s = .next (s.gate m .PWR 0 0x040 (·.rackOnly m (·.setCap PWR.CAP_RACK.limit_w v.toNat))) := rfl

theorem exec_rackOff (m : MasterId) (grace : BitVec 16) (s : State) :
    exec (.rackOff m grace) s = .next (s.gate m .PWR 0 0x064 (·.rackOnly m (·.rackOff grace.toNat))) := rfl

theorem exec_rackRelease (m : MasterId) (s : State) :
    exec (.rackRelease m) s = .next (s.gate m .PWR 0 0x064 (·.rackOnly m State.rackRelease)) := rfl

/-- Settles O5: behind the gate and the rule, another master's write is counted, and one of TRAY or SAFE that the table grants acts. -/
theorem rackMasters : Obligations.RackMasters := by
  unfold Obligations.RackMasters
  intro s m v grace
  rw [exec_capWrite_rack, exec_rackOff, exec_rackRelease]
  constructor
  · intro ht hs hcap hcmd
    simp only [State.gate_rackOnly_of_other ht hs hcap, State.gate_rackOnly_of_other ht hs hcmd, State.rd_countDenied_count, and_self]
  · intro hm hmay
    simp only [State.gate_rackOnly_of_rack hm hmay, State.rd_rackRelease_hold, and_self]

end Sys2Proof.Machine
end
